-- ==== Sys2Proof/Word.lean ====
section
/-! DEFINITION. The word types: bytes and the plainest arithmetic on them. -/

namespace Sys2Proof

/-- One byte of a descriptor, buffer, packet or memory location. -/
abbrev Byte := BitVec 8

/-- A string of bytes, lowest address first (R5). -/
abbrev Bytes := List Byte

end Sys2Proof
end

