-- ==== Sys2Proof/Machine/Inputs.lean ====
section
/-! DEFINITION. Operand types of the commands: what the device observes at an event, as plain data. -/

namespace Sys2Proof

/-- What the device observes of an input at a source frame start (R43, R44, R47, R148); the arrival offset from the window centre is in
ticks, positive meaning late. -/
structure SrcObs where
  signal : Bool
  fmt : Nat
  iface : Nat
  frac : Nat
  link : Nat
  ds : Nat
  samp : Nat
  enc : Nat
  complete : Bool
  offset : Option Int
  skew : Option Int
deriving DecidableEq, Repr

/-- What the DPLL measures of a reference (R59, R66): REF_ID, signal present, mean offset of the window in ppt, and house
time minus reference time in ps. -/
structure RefObs where
  ref : Nat
  present : Bool
  offset : Int
  diff : Int
deriving DecidableEq, Repr

/-- A received training frame and what the receiver measures with it (R271, R272, R276): the control field, whether its CRC
holds, whether the marker came inverted, CDR lock, the FOM, the best CTLE code of the sweep, sweep and LMS complete, the
FFE coefficients and the change wanted of the far end's transmitter (tap and action). -/
structure TrainObs where
  crcOk : Bool
  laneId : Nat
  stage : Nat
  precodeReq : Bool
  precodeOn : Bool
  rxReady : Bool
  reqTap : Nat
  reqAct : Nat
  reqTog : Bool
  stat : Nat
  statTog : Bool
  inverted : Bool
  cdrLocked : Bool
  fom : Nat
  ctle : Nat
  adapted : Bool
  ffe : List Int
  want : Option (Nat × Nat)
deriving DecidableEq, Repr

/-- A received TIMING block (R248): flags TOD_VALID and REFERENCE, and the sender's time in ticks. -/
structure TimingObs where
  todValid : Bool
  reference : Bool
  time : Nat
deriving DecidableEq, Repr

/-- A received PRESENCE block of a gearbox (R250). -/
structure PresObs where
  slots : Nat
  iface : Nat
  part : Nat
  unit : Nat
deriving DecidableEq, Repr

/-- A received Otira segment (R245, R246): from the plane's own link or the sibling's copy, Cairn number, VALID, header CRC
good, a block of it uncorrectable or a switch round inside it; bad control blocks before it, and whether a valid one came. -/
structure SegObs where
  own : Bool
  cairn : Nat
  valid : Nat
  crcOk : Bool
  broken : Bool
  ctlBad : Nat
  ctlOk : Bool
deriving DecidableEq, Repr

/-- The longest runs of passing codes of one byte lane at training (R386): first code and length, read and write. -/
structure EyeObs where
  rdStart : Nat
  rdLen : Nat
  wrStart : Nat
  wrLen : Nat
deriving DecidableEq, Repr

/-- A read of an HBM stack (R392, R393): address, 0 good, 1 corrected or 2 uncorrectable on the host's ECC, on-die
severity 0 none, 1 corrected or 2 uncorrectable, and the reader: 0 scrubber or other control master, 1 the synchroniser of
source `unit`, 2 the layer of destination `unit`, 3 still playback of generator source `unit`, 4 the journal engine or a
checkpoint load, 5 a library block in use by generator source `unit`. -/
structure HbmRead where
  addr : Nat
  res : Nat
  sev : Nat
  reader : Nat
  unit : Nat
deriving DecidableEq, Repr

/-- One layer at one output pixel, after its scaler (R155, R173): the pixel lies in the rectangle, its three signal codes and
the embedded alpha of a still (R157). -/
structure LayPix where
  cover : Bool
  c0 : Nat
  c1 : Nat
  c2 : Nat
  alpha : Nat
deriving DecidableEq, Repr

/-- A source channel's sample at an audio grid instant (R192, R194, R212): plane, channel, the 24-bit sample of house instant
j − 24, V, U, the last complete channel-status block, an asynchronous group, whether a copy arrived by its instant, and
whether its rate lies within an ASRC channel's range (R215). -/
structure SampObs where
  plane : Nat
  ch : Nat
  val : Int
  v : Nat
  u : Nat
  blk : Nat
  async : Bool
  copy : Bool
  inRate : Bool
deriving DecidableEq, Repr

/-- A received Ethernet frame (R294, R295): length, FCS, length-field and symbol errors, destination address, type after any tag,
VLAN (0 untagged) and whether it carries a tag, IPv4 header valid, fragment, addresses, UDP port, PTP message, ARP request for
`dstIp`, IGMP query (general when sent to 224.0.0.1, else of the group it is sent to) with its maximum response time in ticks; of an RTP packet the sequence number, the frame or sample number
it belongs to, and the marker; and the frame's first 2016 bytes as a number. -/
structure EthObs where
  len : Nat
  fcs : Bool
  align : Bool
  symbol : Bool
  dstMac : Nat
  etype : Nat
  tagged : Bool
  vlan : Nat
  ipOk : Bool
  frag : Bool
  srcIp : Nat
  dstIp : Nat
  udpDst : Nat
  ptp : Bool
  arp : Bool
  query : Option Nat
  seq : Nat
  frame : Nat
  marker : Bool
  content : Nat
deriving DecidableEq, Repr

/-- A sample with its V and U bits and the channel-status block of its channel (R201, R229). -/
structure OutSamp where
  val : Int := 0
  v : Nat := 0
  u : Nat := 0
  blk : Nat := 0
deriving DecidableEq, Repr

/-- What a flash directory holds, or what a format finds and writes (R407): factory and grown bad blocks, good blocks and
reserves of the pSLC and TLC pools, house seconds of the last full scrub, equivalent age in hours. -/
structure DirObs where
  factoryBad : Nat
  grownBad : Nat
  goodS : Nat
  goodT : Nat
  initS : Nat
  initT : Nat
  spareS : Nat
  spareT : Nat
  lastScrub : Nat
  age : Nat
deriving DecidableEq, Repr

/-- What a mount of a flash channel finds (R402, R405): targets and LUNs answering, a parameter page with a good CRC, the NAND
within R402, a temperature sensor answering, read-retry levels of the parameter page, the newest valid directory, whether
Ilesen formats the channel and what the format yields (none: too few good blocks), and the last JSN of its journal. -/
structure MountObs where
  targets : Nat
  luns : Nat
  paramOk : Bool
  meets : Bool
  sensor : Bool
  levels : Nat
  dir : Option DirObs
  format : Bool
  scan : Option DirObs
  tail : Nat
deriving DecidableEq, Repr

/-- A flash read (R411): the block, the read-retry levels at which hard decode and soft decode would succeed, the bits that the
decode corrects, and whether an uncorrectable read persists after the rewrite (R412). -/
structure ReadObs where
  tlc : Bool
  block : Nat
  hard : List Nat
  soft : List Nat
  corrected : Nat
  persists : Bool
deriving DecidableEq, Repr

/-- What a survey step measures (R486, R488, R489). -/
inductive SurveyObs where
  /-- Worst replica slack in 0.01 % of the period of plane A, plane B and the control domain, each with its replica, and whether
  the regulator answers the AVS write that follows from it. -/
  | slack (a ua b ub c uc : Nat) (ok : Bool)
  /-- Worst ring-oscillator loss in ppm and its pair. -/
  | ring (loss pair : Nat)
  /-- Eyes of byte lane `lane` of stack `stack`: first passing code and length, read and write. -/
  | eye (stack lane : Nat) (o : EyeObs)
  /-- FOM of lane `lane` (plane 0, 1, or 2 the peer) at the CTLE code below, at and above the one in use, and the FFE found. -/
  | fom (plane lane below here above : Nat)
  /-- Flash channel: best read-retry levels of its pSLC and TLC pools, worst raw bit error ratio in 10^-7, and the block. -/
  | flash (ch levelS levelT ber block : Nat)
  /-- All items of a stack are measured: its budgets are re-planned (R487). -/
  | budget
deriving DecidableEq, Repr

/-- A waiting transaction of the control matrix (R493, R495): master, address, direction, bytes, value written, an instruction
fetch, CCLK cycles it has waited, and the epoch it was issued in, counted in retirements of the master's epoch (R494). -/
structure MtxReq where
  master : Nat
  addr : Nat
  write : Bool
  size : Nat
  value : Nat
  fetch : Bool
  waited : Nat
  epoch : Nat
deriving DecidableEq, Repr

end Sys2Proof
end

