-- ==== Sys2Proof/Machine/Map.lean ====
section
/-! DEFINITION. Sparse maps in one canonical form: keys strictly rising, and no entry equal to the value that an
unlisted key reads as. Equal maps are equal lists. -/

namespace Sys2Proof.Machine

/-- A sparse map from numbers. -/
abbrev SMap (α : Type) := List (Nat × α)

/-- What key `k` reads as; `d` is what an unlisted key reads as. -/
def mget {α : Type} (d : α) : SMap α → Nat → α
  | [], _ => d
  | (j, w) :: r, k => if j = k then w else mget d r k

/-- The map without key `k`. -/
def mdel {α : Type} : SMap α → Nat → SMap α
  | [], _ => []
  | (j, w) :: r, k => if j = k then mdel r k else (j, w) :: mdel r k

/-- Insert a key that is not listed, before the first larger key. -/
def mins {α : Type} (k : Nat) (v : α) : SMap α → SMap α
  | [] => [(k, v)]
  | (j, w) :: r => if k < j then (k, v) :: (j, w) :: r else (j, w) :: mins k v r

/-- Write `v` at key `k`; writing what an unlisted key reads as removes the entry. -/
def mset {α : Type} [DecidableEq α] (d : α) (m : SMap α) (k : Nat) (v : α) : SMap α :=
  if v = d then mdel m k else mins k v (mdel m k)

/-- Keys strictly rising, all above `lo`, no entry equal to the default. -/
def mwfFrom {α : Type} [DecidableEq α] (d : α) : Option Nat → SMap α → Bool
  | _, [] => true
  | lo, (j, w) :: r => (match lo with | none => true | some l => decide (l < j)) && decide (w ≠ d) && mwfFrom d (some j) r

/-- The canonical form. -/
def mwf {α : Type} [DecidableEq α] (d : α) (m : SMap α) : Bool := mwfFrom d none m

end Sys2Proof.Machine
end

