-- ==== Sys2Proof/Machine/CtlState.lean ====
section
/-! DEFINITION. The control state that checkpoints and the journal hold (R358, R360, R363) and the messages of the peer link,
as plain data; the resynchronisation of a Pair carries it from device to device (R376). -/

namespace Sys2Proof.Machine

/-- A route-table entry with the DEST_POLICY parameters of its destination (R74, R79). Reset: no route, FREE, black,
RP 168 line, 8 arm lines. `srcPlane` is the plane of SOURCE, which only Pair can place on the other plane (R32; log 10). -/
structure Route where
  src : Nat := 0x7FF
  srcPlane : Nat := 0
  fbKind : Nat := 0
  fbSrc : Nat := 0x7FF
  owner : Nat := 0
  prot : Nat := 0
  jsn : Nat := 0
  switchLine : Nat := 0
  armLines : Nat := 8
deriving DecidableEq, Repr

/-- The synchroniser configuration of a source (R98) and its fence (R362). -/
structure FsCfg where
  mode : Nat := 0
  resIface : Nat := 7
  prio : Nat := 8
  sheddable : Bool := false
  slipHyst : Nat := 100
  ipHold : Nat := 2000
  jsn : Nat := 0
deriving DecidableEq, Repr

/-- A rope team (R93): member destinations as route keys, policy (0 GROUP_HOLD, 1 MEMBER_ONLY), fence. -/
structure Team where
  members : List Nat := []
  policy : Nat := 0
  jsn : Nat := 0
deriving DecidableEq, Repr

/-- The reference policy (R69), defaults of its Default column. -/
structure RefPol where
  rate : Nat := 6
  prio : List Nat := []
  revertive : Bool := true
  preempt : Bool := false
  wtr : Nat := 10
  bw : Nat := 6
  soft : Nat := 200
  drift : Nat := 50
  hard : Nat := 1000
  history : Nat := 300
  slope : Nat := 100
  offA : Int := 0
  offB : Int := 0
  jsn : Nat := 0
deriving DecidableEq, Repr

/-- The stored configuration of any other commanded mechanism (R362): the operand or buffer bytes last applied, the
fence JSN, and one further number whose meaning is the mechanism's. -/
structure Mech where
  data : Bytes := []
  jsn : Nat := 0
  aux : Nat := 0
deriving DecidableEq, Repr

/-- The decision record of a command (R360). -/
structure Dec where
  status : Nat
  applied : Nat
  detail : Nat
deriving DecidableEq, Repr

/-- A journal record of an accepted command (R322, R358): `consumed` marks a completion that the consumer doorbell has
passed (R331), `marked` one that the last consumed mark of the journal covers (R360), `validated` one whose schedule Ilesen
has loaded. -/
structure JRec where
  jsn : Nat
  hif : Nat
  ring : Nat
  cmdId : Nat
  op : Nat
  flags : Nat
  target : Nat
  desc : Bytes
  buf : Bytes
  dec : Option Dec := none
  validated : Bool := false
  consumed : Bool := false
  marked : Bool := false
deriving DecidableEq, Repr

/-- One item of a pending command (R81): the destination or mechanism it waits on and its outcome so far. -/
structure PItem where
  idx : Nat
  key : Nat
  src : Nat := 0x7FF
  srcPlane : Nat := 0
  flags : Nat := 0
  owner : Nat := 0
  state : Nat := 0
deriving DecidableEq, Repr

/-- A pending command (R81): item state 0 waits, 1 applied, 2 dropped or withdrawn. `reason` is the REASON of R87. -/
structure Pend where
  jsn : Nat
  op : Nat
  frame : Nat
  atFrame : Bool := false
  deferred : Bool := false
  reason : Nat := 0
  items : List PItem := []
  lastFrame : Nat := 0
deriving DecidableEq, Repr

/-- One shed item (R112): compositor or synchroniser key, reason code of R116. -/
structure ShedItem where
  comp : Bool
  key : Nat
  reason : Nat
deriving DecidableEq, Repr

/-- The control state, everything that a checkpoint and the journal hold (R363): it outlives every reset short of COLD. -/
structure Ctl where
  /-- 0 Single, 1 Pair (R1); set by PAIR_SET. -/
  pair : Bool := false
  /-- SERVICE has been entered since COLD (R354, PAIR_SET condition 2). -/
  served : Bool := false
  /-- Route table, keyed by `pkey` (R74). -/
  routes : SMap Route := []
  /-- Synchroniser configuration per source (R98). -/
  fsync : SMap FsCfg := []
  /-- Rope teams (R93). -/
  teams : SMap Team := []
  /-- Reference policy (R69). -/
  ref : RefPol := {}
  /-- The waiting house-rate change (R51): code and first frame at the present rate. -/
  rateWait : Option (Nat × Nat) := none
  /-- Every other commanded mechanism, keyed by `mkey` (R362). -/
  mech : SMap Mech := []
  /-- Audio mixing-table entries, keyed by plane and entry (R197). -/
  taps : SMap Nat := []
  /-- ASRC channel assignments and origins (R203). -/
  asrc : SMap Nat := []
  /-- Shed items with their plane, in shed order, oldest first (R112, R114). -/
  shed : List (Nat × ShedItem) := []
  /-- CRING_LASTID per ring (R326), key 16·hif + ring. -/
  lastId : SMap Nat := []
  /-- Stop cause per ring (R328): 0 running, 1 refused BARRIER, 2 DMA failure. -/
  stop : SMap Nat := []
  /-- Rings adopted by the other HIF (R333), key 16·hif + ring. -/
  adopted : SMap Nat := []
  /-- Pending items (R81). -/
  pend : List Pend := []
  /-- The journal's command records (R358), oldest first. -/
  recs : List JRec := []
  /-- Control epoch (R252, R363). -/
  epoch : Nat := 0
deriving DecidableEq, Repr

/-- A firmware image as the device knows it after verification (R428, R429): VERSION, SEC_VERSION, CFG_SCHEMA, the 64-byte
whole-image digest and code digest as numbers, and BOUND. -/
structure FwImg where
  version : Nat := 0
  secVer : Nat := 0
  schema : Nat := 0
  digest : Nat := 0
  code : Nat := 0
  bound : Bool := false
deriving DecidableEq, Repr

/-- A message of the peer link (R68, R372 to R376). -/
inductive PeerMsg where
  /-- The peer, a standby, forwards a command read from its HIF `hif`, ring `ring`. -/
  | forward (hif ring : Nat) (desc buf : Bytes)
  /-- The active device mirrors a journal record; `hif` counts its own HIFs 0 and 1, and this device's 2 and 3. -/
  | record (r : JRec)
  /-- The active device has scheduled a command; the standby loads it into its own apply queues. -/
  | load (x : Pend)
  /-- The active device has decided a command (R360). -/
  | decision (jsn : Nat) (d : Dec)
  /-- A mirrored event entry (R334). -/
  | event (code entry : Nat)
  /-- A peer heartbeat, with its control epoch and the last JSN it holds. -/
  | heartbeat (epoch head : Nat)
  /-- What the peer holds staged (R434, R436), and the SHAKE256 of its unique ID (R430). -/
  | staged (code version bind : Nat) (held : Bool)
  /-- The peer reverts its trial firmware, and this device with it, at a frame (R438). -/
  | revert (frame cause : Nat)
deriving DecidableEq, Repr


end Sys2Proof.Machine
end

