-- ==== Sys2Proof/Syntax.lean ====
section
/-! DEFINITION. The commands of the device: one constructor per row of spec/opcode_table.json. `t` is the house time of the
event in ticks of 1/54 ns (log entry 1), `p` the plane (0 A, 1 B), `h` the HIF, `l` a link or lane of the plane, `jsn` the journal
sequence number of an accepted host command. Units are counted as the manual counts them. -/

namespace Sys2Proof

/-- A command: what happens to the device from outside, or falls due inside it. -/
inductive Instr where
  /-- REGISTER_WRITE (R6, R9, R317). A write of `size` bytes by requester `m` (R493): a HIF names an offset in its BARs (log entry 122), any other an offset in register space. -/
  | registerWrite (t : Nat) (m : Fin 8) (addr size value : Nat)
  /-- RC_READ (R6). A read of a register, whose read-to-clear fields it clears. -/
  | rcRead (t : Nat) (m : Fin 8) (addr size : Nat)
  /-- LATCHED_READ (R9). A read of a word of a 64-bit or 128-bit register; the lowest word latches the rest. -/
  | latchedRead (t : Nat) (m : Fin 8) (addr size : Nat)
  /-- DPLL_SNAPSHOT_READ (R73). A read of DPLL_HFN: its low half, or all of it. -/
  | dpllSnapshotRead (t : Nat) (m : Fin 8) (whole : Bool)
  /-- HOUSE_TIME_SNAPSHOT (R19). A snapshot of house time reaches the planes and the control domain. -/
  | houseTimeSnapshot (t : Nat)
  /-- CLOCK_MONITOR_WINDOW (R20). A window of the clock monitor on clock `c` counts `count` cycles. -/
  | clockMonitorWindow (t : Nat) (c : Fin 9) (count : Nat)
  /-- HOUSE_FRAME_START (R50). A house frame starts; `obs` is what the DPLL measures of its references. -/
  | houseFrameStart (t : Nat) (obs : List RefObs)
  /-- HOUSE_RATE_CHANGE (R51). The waiting house rate takes effect at a frame start common to both rates. -/
  | houseRateChange (t : Nat)
  /-- SOURCE_FRAME_START (R42, R44). A frame of source `n` starts at plane `p`. -/
  | sourceFrameStart (t : Nat) (p : Fin 2) (n : Fin 1600) (o : SrcObs)
  /-- POWER_BACKSTOP_SAMPLE (R25). The rails' power is read (mW), or regulator `rail` gives no valid reading. -/
  | powerBackstopSample (t : Nat) (reading : Option (Nat × Nat)) (rail : Nat)
  /-- POWER_SHED_STEP (R25). The backstop's shedding step falls due. -/
  | powerShedStep (t : Nat)
  /-- POWER_RESTORE_STEP (R25). The backstop's restoring step falls due; `rise` is the rise in mW that is expected of it. -/
  | powerRestoreStep (t rise : Nat)
  /-- COMMAND_DOORBELL (R318). A producer index for command ring `r` of HIF `h`. -/
  | commandDoorbell (t : Nat) (h : Fin 2) (r : Fin 16) (value : Nat)
  /-- COMMAND_ACCEPT (R325). The next command of the round-robin is read (descriptor and buffer; none when a DMA read fails) and accepted. -/
  | commandAccept (t : Nat) (fetch : Option (Bytes × Bytes)) (peerAck : Bool)
  /-- WRITEBACK_WRITE (R325). The write-back of ring `r` falls due. -/
  | writebackWrite (t : Nat) (h : Fin 2) (r : Fin 16)
  /-- COMPLETION_DOORBELL (R331). A consumer index for completion ring `r` of HIF `h`. -/
  | completionDoorbell (t : Nat) (h : Fin 2) (r : Fin 16) (value : Nat)
  /-- EVENT_DOORBELL (R334). A consumer index for the event ring of HIF `h`. -/
  | eventDoorbell (t : Nat) (h : Fin 2) (value : Nat)
  /-- COALESCE_TIMER (R332). The coalescing timer of completion ring `r` runs out. -/
  | coalesceTimer (t : Nat) (h : Fin 2) (r : Fin 16)
  /-- EVENT_IRQ_TIMER (R334). MIN_US has passed since the last event message. -/
  | eventIrqTimer (t : Nat) (h : Fin 2)
  /-- CRING_ENABLE (R320). CRING_CFG.EN is written from 0 to 1. -/
  | cringEnable (t : Nat) (h : Fin 2) (r : Fin 16)
  /-- CRING_DISABLE (R321). CRING_CFG.EN is written 0. -/
  | cringDisable (t : Nat) (h : Fin 2) (r : Fin 16)
  /-- CRING_RESUME (R328). CRING_CFG.RESUME is written 1. -/
  | cringResume (t : Nat) (h : Fin 2) (r : Fin 16)
  /-- CPL_COALESCE_WRITE (R332). COAL_US and COAL_N are written. -/
  | cplCoalesceWrite (t : Nat) (h : Fin 2) (r : Fin 16) (us n : Nat)
  /-- EVT_RING_ENABLE (R337). HIF_EVT_CFG.EN is written from 0 to 1. -/
  | evtRingEnable (t : Nat) (h : Fin 2)
  /-- HIF_PERST (R315, R319). PERST, hot reset or function-level reset of HIF `h` is asserted or released. -/
  | hifPerst (t : Nat) (h : Fin 2) (asserted : Bool)
  /-- HIF_LINK_CHANGE (R319, R336). Link, Bus Master Enable and power state of HIF `h` as they now stand. -/
  | hifLinkChange (t : Nat) (h : Fin 2) (link bme d0 : Bool) (speed width : Nat)
  /-- NOP (R348). Validation of the accepted command `jsn`. -/
  | nop (t jsn : Nat)
  /-- BARRIER (R347, R348). Validation of the accepted command `jsn`. -/
  | barrier (t jsn : Nat)
  /-- TAKE (R84). Validation of the accepted command `jsn`. -/
  | take (t jsn : Nat)
  /-- SALVO (R85). Validation of the accepted command `jsn`. -/
  | salvo (t jsn : Nat)
  /-- PROTECT (R91). Validation of the accepted command `jsn`. -/
  | protect (t jsn : Nat)
  /-- GROUP_SET (R93). Validation of the accepted command `jsn`. -/
  | groupSet (t jsn : Nat)
  /-- FSYNC_SET (R98). Validation of the accepted command `jsn`. -/
  | fsyncSet (t jsn : Nat)
  /-- DEST_POLICY (R79). Validation of the accepted command `jsn`. -/
  | destPolicy (t jsn : Nat)
  /-- COMP_SET (R153). Validation of the accepted command `jsn`. -/
  | compSet (t jsn : Nat)
  /-- COMP_STATE (R165). Validation of the accepted command `jsn`. -/
  | compState (t jsn : Nat)
  /-- LUT_LOAD (R189). Validation of the accepted command `jsn`. -/
  | lutLoad (t jsn : Nat)
  /-- GEN_SET (R166). Validation of the accepted command `jsn`. -/
  | genSet (t jsn : Nat)
  /-- STILL_LOAD (R168). Validation of the accepted command `jsn`. -/
  | stillLoad (t jsn : Nat)
  /-- AUDIO_MAP (R203). Validation of the accepted command `jsn`. -/
  | audioMap (t jsn : Nat)
  /-- AUDIO_FOLLOW (R209). Validation of the accepted command `jsn`. -/
  | audioFollow (t jsn : Nat)
  /-- TDM_SET (R233). Validation of the accepted command `jsn`. -/
  | tdmSet (t jsn : Nat)
  /-- REF_POLICY (R69). Validation of the accepted command `jsn`. -/
  | refPolicy (t jsn : Nat)
  /-- REF_ALIGN (R67). Validation of the accepted command `jsn`. -/
  | refAlign (t jsn : Nat)
  /-- PTP_SET (R54, R352). Validation of the accepted command `jsn`. -/
  | ptpSet (t jsn : Nat)
  /-- LINK_SET (R261). Validation of the accepted command `jsn`. -/
  | linkSet (t jsn : Nat)
  /-- FLOW_SET (R305, R306). Validation of the accepted command `jsn`. -/
  | flowSet (t jsn : Nat)
  /-- MAC_FILTER (R311). Validation of the accepted command `jsn`. -/
  | macFilter (t jsn : Nat)
  /-- BUDGET_MODE (R110). Validation of the accepted command `jsn`. -/
  | budgetMode (t jsn : Nat)
  /-- STATS_SNAPSHOT (R309). Validation of the accepted command `jsn`. -/
  | statsSnapshot (t jsn : Nat)
  /-- FW_STAGE (R433). Validation of the accepted command `jsn`. -/
  | fwStage (t jsn : Nat)
  /-- FW_SCHEDULE (R435). Validation of the accepted command `jsn`. -/
  | fwSchedule (t jsn : Nat)
  /-- FW_CONFIRM (R437). Validation of the accepted command `jsn`. -/
  | fwConfirm (t jsn : Nat)
  /-- FW_ABORT (R432). Validation of the accepted command `jsn`. -/
  | fwAbort (t jsn : Nat)
  /-- ATTEST (R443). Validation of the accepted command `jsn`. -/
  | attest (t jsn : Nat)
  /-- CHECKPOINT (R363). Validation of the accepted command `jsn`. -/
  | checkpoint (t jsn : Nat)
  /-- PP_SWITCH (R369). Validation of the accepted command `jsn`. -/
  | ppSwitch (t jsn : Nat)
  /-- RING_ADOPT (R333). Validation of the accepted command `jsn`. -/
  | ringAdopt (t jsn : Nat)
  /-- BIVOUAC (R394, R396). Validation of the accepted command `jsn`. -/
  | bivouac (t jsn : Nat)
  /-- MARGIN_SURVEY (R485). Validation of the accepted command `jsn`. -/
  | marginSurvey (t jsn : Nat)
  /-- PAIR_SET (R354, R371). Validation of the accepted command `jsn`. -/
  | pairSet (t jsn : Nat)
  /-- SWITCHING_INSTANT (R82). The switching instant of destination `d`; `ecc` is what the entry's check bits give plane `p` (R75). -/
  | switchingInstant (t : Nat) (p : Fin 2) (d : Fin 1792) (ecc : Fin 3)
  /-- FSYNC_CUTOFF (R100). The reader of source `n` chooses for frame `m`. -/
  | fsyncCutoff (t : Nat) (p : Fin 2) (n : Fin 1536) (m : Nat)
  /-- FSYNC_FRAME_COMPLETE (R100). The synchroniser of source `n` has written frame `frame`. -/
  | fsyncFrameComplete (t : Nat) (p : Fin 2) (n : Fin 1536) (frame : Nat)
  /-- IP_HOLD_EXPIRE (R102). The hold time of an IP frame runs out. -/
  | ipHoldExpire (t : Nat) (p : Fin 2) (n : Fin 1536) (frame : Nat)
  /-- BAND_SENSOR_READ (R108, R111). The hottest sensor of a stack is read, in 1/16 °C. -/
  | bandSensorRead (t : Nat) (p : Fin 2) (temp : Int)
  /-- UNDERRUN (R115). A real-time reader underruns: 0 the synchroniser of source `n`, 1 the layer of destination `n`, 2 still playback of generator source `n`. -/
  | underrun (t : Nat) (p : Fin 2) (kind : Fin 3) (n : Fin 1792)
  /-- PLANE_TRAINING_DONE (R75, R121). Stack and a link of plane `p` are up after TRAINING. -/
  | planeTrainingDone (t : Nat) (p : Fin 2)
  /-- PLANE_STATE_TIMEOUT (R121). TRAINING or SYNCING has lasted too long. -/
  | planeStateTimeout (t : Nat) (p : Fin 2)
  /-- SEGMENT_RECEIVED (R127, R245, R246). A segment of Otira source `n` arrives, by plane `p`'s link or as the sibling's copy. -/
  | segmentReceived (t : Nat) (p : Fin 2) (n : Fin 1152) (o : SegObs)
  /-- MERGE_HISTORY_TIMEOUT (R129). Nothing has been accepted for source `n` for the time after which the merge starts afresh. -/
  | mergeHistoryTimeout (t : Nat) (p : Fin 2) (n : Fin 1536)
  /-- EGRESS_SEGMENT (R123, R130, R247). Segment `k` of frame `n` of Otira destination `d` falls due. -/
  | egressSegment (t : Nat) (p : Fin 2) (d : Fin 1152) (n k : Nat) (missing : Bool) (srcFrame : Nat)
  /-- COMP_PREFETCH (R150). Compositor `c` starts the prefetch of a frame; `px` is what one output pixel holds of each layer. -/
  | compPrefetch (t : Nat) (p : Fin 2) (c : Fin 32) (px : List LayPix)
  /-- LIBRARY_FLASH_COPY (R169, R190). The flash copy of a library slot (0 colour, 1 still) is written. -/
  | libraryFlashCopy (t : Nat) (kind : Fin 2) (idx : Fin 1024)
  /-- AUDIO_GRID_SAMPLE (R200). A grid instant of plane `p`'s audio engine. -/
  | audioGridSample (t : Nat) (p : Fin 2) (obs : List SampObs)
  /-- AUDIO_FLOW_UNTIMED (R213). Audio receive flow `n` runs off the house clock. -/
  | audioFlowUntimed (t : Nat) (p : Fin 2) (n : Fin 2048)
  /-- ASRC_LOCK (R215). The rate converter of a channel has locked. -/
  | asrcLock (t : Nat) (p : Fin 2) (ch : Fin 65536)
  /-- TDM_FRAME (R224, R229). A frame of TDM port `p`: the words received and the send samples that have arrived; `absent` when the clocks are absent. -/
  | tdmFrame (t : Nat) (p : Fin 16) (words : List Nat) (arrived : List (List OutSamp)) (absent : Bool)
  /-- TDM_MASK_WRITE (R231). Both halves of TDM_MASK are written. -/
  | tdmMaskWrite (t : Nat) (p : Fin 16) (tx rx : Nat)
  /-- TDM_STEER_LIMIT (R227). The steered rate is at its limit. -/
  | tdmSteerLimit (t : Nat) (p : Fin 16)
  /-- TDM_RESTART (R235). A grid instant at which port `p` restarts or starts its new format. -/
  | tdmRestart (t : Nat) (p : Fin 16)
  /-- TDM_MCLK_LOSS (R236). The audio master clock stops. -/
  | tdmMclkLoss (t : Nat)
  /-- TDM_MCLK_RETURN (R236). The audio master clock returns. -/
  | tdmMclkReturn (t : Nat)
  /-- TDM_BCLK_CHECK (R236). The bit-clock check of port `p` counts `count` edges. -/
  | tdmBclkCheck (t : Nat) (p : Fin 16) (count : Nat)
  /-- AM_RECEIVED (R243). An alignment marker arrives on lane `k` of link `l`; `skew` where the lane is beyond the skew tolerance. -/
  | amReceived (t : Nat) (p : Fin 2) (l : Fin 18) (k : Fin 4) (period : Nat) (valid skew : Bool)
  /-- RESTRIPE_REQ (R256). A RESTRIPE_REQ arrives. -/
  | restripeReq (t : Nat) (p : Fin 2) (l : Fin 18) (lanes id : Nat)
  /-- SWITCH_ROUND (R256). The switch round of a request of the far end falls due. -/
  | switchRound (t : Nat) (p : Fin 2) (l : Fin 18) (k period : Nat)
  /-- MASK (R256). A switch round with a MASK arrives. -/
  | mask (t : Nat) (p : Fin 2) (l : Fin 18) (lanes id : Nat)
  /-- TIMING (R248). A TIMING block is sent (`rx` none) or received. -/
  | timing (t : Nat) (p : Fin 2) (l : Fin 18) (rx : Option TimingObs)
  /-- DELAY_REQ (R249). A DELAY_REQ arrives. -/
  | delayReq (t : Nat) (p : Fin 2) (l : Fin 18) (seq t1 t2 : Nat)
  /-- DELAY_RESP (R249). A DELAY_RESP arrives. -/
  | delayResp (t : Nat) (p : Fin 2) (l : Fin 18) (seq t1 t2 t3 : Nat)
  /-- DELAY_MEASURE_TIMER (R249). A delay measurement of link `l` falls due. -/
  | delayMeasureTimer (t : Nat) (p : Fin 2) (l : Fin 18)
  /-- PRESENCE (R250). A PRESENCE block arrives. -/
  | presence (t : Nat) (p : Fin 2) (l : Fin 18) (o : PresObs)
  /-- PRESENCE_SEND (R250). A PRESENCE block falls due. -/
  | presenceSend (t : Nat) (p : Fin 2) (l : Fin 18)
  /-- PRESENCE_TIMEOUT (R250). No PRESENCE has arrived for too long. -/
  | presenceTimeout (t : Nat) (p : Fin 2) (l : Fin 18)
  /-- CFG_REPEAT (R251). The configuration items are repeated. -/
  | cfgRepeat (t : Nat) (p : Fin 2) (l : Fin 18)
  /-- LANE_LOSS (R256). Lanes of link `l` are lost. -/
  | laneLoss (t : Nat) (p : Fin 2) (l : Fin 18) (lanes : Fin 16)
  /-- LANE_RETURN (R256). Lane `k` of link `l` is aligned again. -/
  | laneReturn (t : Nat) (p : Fin 2) (l : Fin 18) (k : Fin 4)
  /-- LINK_TRAIN_TIMEOUT (R259). Training of link `l` has lasted too long. -/
  | linkTrainTimeout (t : Nat) (p : Fin 2) (l : Fin 18)
  /-- LINK_IDLE_TIMEOUT (R259). The fast exit of link `l` has lasted too long. -/
  | linkIdleTimeout (t : Nat) (p : Fin 2) (l : Fin 18)
  /-- LANE_SIGNAL_DETECT (R270). Signal is detected on a lane. -/
  | laneSignalDetect (t : Nat) (p : Fin 2) (l : Fin 84)
  /-- TRAINING_FRAME (R271, R272). A training frame arrives on a lane. -/
  | trainingFrame (t : Nat) (p : Fin 2) (l : Fin 84) (o : TrainObs)
  /-- LANE_STAGE_TIMEOUT (R270). A bring-up stage of a lane has lasted too long. -/
  | laneStageTimeout (t : Nat) (p : Fin 2) (l : Fin 84)
  /-- LANE_LOW_FOM (R278, R288). A figure of merit of a lane in UP. -/
  | laneLowFom (t : Nat) (p : Fin 2) (l : Fin 84) (fom : Nat)
  /-- ETH_FRAME_RX (R294). A frame arrives at MAC instance `inst`. -/
  | ethFrameRx (t : Nat) (p : Fin 2) (inst : Fin 8) (o : EthObs)
  /-- ETH_LINK_CHANGE (R291). PCS lock of an instance is gained or lost, or its training times out. -/
  | ethLinkChange (t : Nat) (p : Fin 2) (inst : Fin 8) (new : Fin 3) (timeout : Bool)
  /-- IGMP_REPORT (R299). A membership report falls due. -/
  | igmpReport (t : Nat) (p : Fin 2) (inst : Fin 8) (group : Nat)
  /-- IGMP_QUERY_RESPONSE (R299). The response to a query falls due. -/
  | igmpQueryResponse (t : Nat) (p : Fin 2) (inst : Fin 8)
  /-- MAC_PORTCFG_MODE (R292). MODE of port `q` is written. -/
  | macPortcfgMode (t : Nat) (p q : Fin 2) (mode : Fin 4)
  /-- MAC_PORTCFG_MEDIUM (R292). MEDIUM and AN of port `q` are written. -/
  | macPortcfgMedium (t : Nat) (p q : Fin 2) (medium : Fin 4) (an : Fin 2)
  /-- MAC_CAPQ_RESET (R312). MAC_CAPQ_BASE (`base`) or LOG2_SIZE is written. -/
  | macCapqReset (t : Nat) (p : Fin 2) (base : Bool) (v : Nat)
  /-- CAPTURE_IRQ (R298). The capture queue's message falls due. -/
  | captureIrq (t : Nat) (p : Fin 2)
  /-- PTP_DELAY_REQ_SEND (R308). PTP instance `n` sends a Delay_Req. -/
  | ptpDelayReqSend (t : Nat) (n : Fin 2)
  /-- REF_LOSS_OF_SIGNAL (R52). Reference `r` loses its signal. -/
  | refLossOfSignal (t r : Nat) (obs : List RefObs)
  /-- REF_QUAL_WINDOW (R59 to R61). A qualification window ends. -/
  | refQualWindow (t : Nat) (nco : Int) (obs : List RefObs)
  /-- REF_WTR_EXPIRE (R63). The wait-to-restore time of reference `r` runs out. -/
  | refWtrExpire (t r : Nat) (obs : List RefObs)
  /-- DPLL_LOCKED (R58). The lock criterion has held since `since`. -/
  | dpllLocked (t since : Nat)
  /-- REF_SLEW_COMPLETE (R67). The build-out has been slewed out. -/
  | refSlewComplete (t : Nat)
  /-- PEER_TIMING (R68). The peer's house time and the round trip are measured. -/
  | peerTiming (t peerTime rtt : Nat)
  /-- JOURNAL_FLUSH (R361). The 5 ms flush of the journal falls due. -/
  | journalFlush (t : Nat)
  /-- FLASH_PROGRAM_DONE (R361, R410). The flush's program ends on channel `ch`. -/
  | flashProgramDone (t : Nat) (ch : Fin 2) (block : Nat) (ok : Bool)
  /-- CHECKPOINT_TIMER (R363). A periodic checkpoint falls due. -/
  | checkpointTimer (t : Nat)
  /-- BELAY_HB (R366). Processor `n` writes its heartbeat. -/
  | belayHb (t : Nat) (n : Fin 2)
  /-- BELAY_HB_MISS (R366). A millisecond has passed without a heartbeat. -/
  | belayHbMiss (t : Nat)
  /-- FENCE_DRAIN_DONE (R366, R367). The retired epoch has drained. -/
  | fenceDrainDone (t : Nat)
  /-- TAKEOVER_COMPLETE (R367). The new processor has replayed the journal. -/
  | takeoverComplete (t : Nat)
  /-- PP_BIST_DONE (R367, R368). The self-test of processor `n` ends. -/
  | ppBistDone (t : Nat) (n : Fin 2) (pass : Bool)
  /-- BELAY_OUT_TOGGLE (R371). BELAY_OUT toggles. -/
  | belayOutToggle (t : Nat)
  /-- ACTIVE_SEL_CHANGE (R371). ACTIVE_SEL of this device and of its peer as they now stand. -/
  | activeSelChange (t : Nat) (own peer : Bool)
  /-- PEER_LOST (R375). The peer is lost. -/
  | peerLost (t : Nat)
  /-- PEER_RECORD (R372). A message of the peer link arrives. -/
  | peerRecord (t : Nat) (m : Machine.PeerMsg)
  /-- PAIR_RESYNC_DONE (R376). Resynchronisation ends with the active device's control state. -/
  | pairResyncDone (t : Nat) (image : Machine.Ctl) (head : Nat)
  /-- JOIN_PEER_TIMEOUT (R376). A joining device has waited for its peer. -/
  | joinPeerTimeout (t : Nat)
  /-- REPLAY_DONE (R364, R365). The control state is loaded and the journal replayed. -/
  | replayDone (t : Nat)
  /-- HBM_TRAIN_DONE (R386). Training of a stack ends; `eyes` are its byte lanes. -/
  | hbmTrainDone (t : Nat) (p : Fin 2) (eyes : List EyeObs)
  /-- HBM_EYE_TRACK (R387). The tracker reads the eye of a byte lane. -/
  | hbmEyeTrack (t : Nat) (p : Fin 2) (l : Fin 128) (left right : Nat)
  /-- HBM_REFRESH_INTERVAL (R391). The refresh interval of a bank falls due. -/
  | hbmRefreshInterval (t : Nat) (p : Fin 2) (pc : Fin 32) (b : Fin 48) (idle held : Bool)
  /-- HBM_REQ_PROMOTE (R388). A request of a pseudo-channel nears its deadline. -/
  | hbmReqPromote (t : Nat) (p : Fin 2) (pc : Fin 32) (issued : Nat) (rt : Bool)
  /-- HBM_SCRUB (R392, R393). A read of a stack, by the scrubber or another reader. -/
  | hbmScrub (t : Nat) (p : Fin 2) (o : HbmRead)
  /-- BIVOUAC_SELF_REFRESH_DONE (R394, R397). The stacks have reached self-refresh. -/
  | bivouacSelfRefreshDone (t : Nat) (ok0 ok1 : Bool)
  /-- FLASH_MOUNT (R403, R405). A flash channel is mounted. -/
  | flashMount (t : Nat) (ch : Fin 2) (profile : Bytes) (o : MountObs)
  /-- FLASH_READ_DONE (R411, R412). A flash read ends. -/
  | flashReadDone (t : Nat) (ch : Fin 2) (o : ReadObs)
  /-- FLASH_TARGET_TIMEOUT (R415). A flash target gives no status. -/
  | flashTargetTimeout (t : Nat) (ch : Fin 2) (target : Nat) (flush : Bool)
  /-- FLASH_REBUILD_DONE (R416). A channel has been rebuilt. -/
  | flashRebuildDone (t : Nat) (ch : Fin 2)
  /-- FLASH_DIR_REWRITE (R407). The directory falls due to be rewritten. -/
  | flashDirRewrite (t : Nat) (ch : Fin 2)
  /-- FLASH_WEAR_LEVEL (R413). Wear levelling of a pool falls due. -/
  | flashWearLevel (t : Nat) (ch : Fin 2) (tlc : Bool)
  /-- NAND_TEMP_READ (R414). The NAND temperature is read. -/
  | nandTempRead (t : Nat) (ch : Fin 2) (temp : Option Int)
  /-- FLASH_SCRUB_DONE (R414). A full scrub of a channel ends. -/
  | flashScrubDone (t : Nat) (ch : Fin 2)
  /-- BOOT_SELECT (R424, R459). The boot ROM chooses an image; `good` says which slots verify. -/
  | bootSelect (t : Nat) (good : List Bool)
  /-- FW_WINDOW_EXPIRE (R438). The confirmation window ends. -/
  | fwWindowExpire (t : Nat)
  /-- FW_RESUME_TIMEOUT (R438). Validation has not resumed under new firmware. -/
  | fwResumeTimeout (t : Nat)
  /-- FW_SELFTEST_FAIL (R438). New firmware fails its self-test. -/
  | fwSelftestFail (t : Nat)
  /-- ENTROPY_FAIL (R441). The entropy source fails its health test. -/
  | entropyFail (t : Nat)
  /-- POR (R447, R448). Power-on reset is asserted or released. -/
  | por (t : Nat) (asserted : Bool)
  /-- PWRGOOD (R418, R448). PWRGOOD as it now stands. -/
  | pwrgood (t : Nat) (high : Bool)
  /-- RESET_N (R448). RESET_N as it now stands, after its filter. -/
  | resetN (t : Nat) (low : Bool)
  /-- RST_SW_PULSE (R452, R466). RST_SW is written with OP PULSE. -/
  | rstSwPulse (t : Nat) (key : Fin 256) (reach : Fin 16) (index : Fin 256)
  /-- RST_SW_HOLD (R452, R466). RST_SW is written with OP HOLD. -/
  | rstSwHold (t : Nat) (key : Fin 256) (reach : Fin 16) (index : Fin 256)
  /-- RST_SW_RELEASE (R452, R466). RST_SW is written with OP RELEASE. -/
  | rstSwRelease (t : Nat) (key : Fin 256) (reach : Fin 16) (index : Fin 256)
  /-- WATCHDOG (R449). The watchdog of the active processor runs out. -/
  | watchdog (t : Nat)
  /-- THERMAL_TRIP (R450). The diodes are read, in 1/16 °C. -/
  | thermalTrip (t : Nat) (d : List Int)
  /-- THERMAL_HOLD_END (R450). Every diode has been below the release threshold since `since`. -/
  | thermalHoldEnd (t since : Nat)
  /-- RESET_ENTRY (R453). The asserted sources enter reset. -/
  | resetEntry (t : Nat)
  /-- RESET_CLOCK_FALLBACK (R453). A domain's clock does not run at entry. -/
  | resetClockFallback (t step unit : Nat)
  /-- RESET_CLOCK_RETURN (R453). A domain's clock runs again. -/
  | resetClockReturn (t step unit : Nat)
  /-- RESET_RELEASE_STEP (R454, R458). The next step of the release order is due. -/
  | resetReleaseStep (t : Nat) (ready : Bool) (absent straps : List Nat) (refCount : Nat)
  /-- FUSE_LOAD_DONE (R456). The fuse load ends. -/
  | fuseLoadDone (t : Nat) (good : Bool)
  /-- FUSE_PARITY_CHECK (R448, R456). The parity of the fuse shadow is checked. -/
  | fuseParityCheck (t : Nat) (bad : Bool)
  /-- FAULT_EVENT (R472 to R478). An event on the error line of bit `b`. -/
  | faultEvent (t : Nat) (b : Fin 48) (cause sub : Nat) (region : Bool)
  /-- FLT_STATUS_CLEAR (R479). FLT_STATUS is written. -/
  | fltStatusClear (t ones : Nat)
  /-- FLT_CLEAR_CHECK (R479). A microsecond after a clear, the cause is checked. -/
  | fltClearCheck (t : Nat) (b : Fin 48) (persists : Bool)
  /-- FLT_FIRST_CLEAR (R479). FLT_FIRST.VALID is written 1. -/
  | fltFirstClear (t : Nat)
  /-- FLT_REACT_WRITE (R476, R492). FLT_REACT of bit `b` is written. -/
  | fltReactWrite (t : Nat) (b : Fin 48) (value : Nat)
  /-- FLT_MODE_WINDOW (R474). The HISTORY window advances. -/
  | fltModeWindow (t : Nat)
  /-- FAULT_LOG_WRITE (R481). A buffered fault record goes to flash. -/
  | faultLogWrite (t : Nat)
  /-- MONITOR_SAMPLE (R483). The path replicas are read. -/
  | monitorSample (t : Nat) (slack : List Nat)
  /-- THERMAL_SAMPLE (R484). The diodes are read. -/
  | thermalSample (t : Nat) (d : List Int)
  /-- SURVEY_SCHEDULE (R485). The survey schedule is checked. -/
  | surveySchedule (t : Nat)
  /-- SURVEY_STEP (R486). A step of the margin survey measures an item. -/
  | surveyStep (t : Nat) (o : SurveyObs)
  /-- AGEING_REPORT (R489). The survey ends with its report. -/
  | ageingReport (t : Nat)
  /-- MTX_TRANSACTION (R493 to R499). Transactions wait at the control matrix. -/
  | mtxTransaction (t : Nat) (reqs : List MtxReq)
  /-- MTX_TIMEOUT (R499). A target gives no response within 100 µs. -/
  | mtxTimeout (t : Nat) (r : MtxReq)
  /-- MTX_LOCK_WRITE (R503). MTX_CTRL.LOCK is written by master `m`. -/
  | mtxLockWrite (t : Nat) (m : Fin 8) (v : Fin 2)
  /-- MTX_REMAP_WRITE (R500). The REMAP bit of master `k` is written by master `m`. -/
  | mtxRemapWrite (t : Nat) (m : Fin 8) (k : Fin 4) (v : Fin 2)
  /-- MTX_WIN_WRITE (R503, R508). A window register (8·engine + k) is written by master `m`. -/
  | mtxWinWrite (t : Nat) (m : Fin 8) (win : Fin 24) (lim : Bool) (v : Nat)
  /-- AVS_WRITE (R512). A rail's target is written over AVSBus; `ok` is the response. -/
  | avsWrite (t rail mv : Nat) (ok : Bool)
  /-- AVS_STEP (R512). VDD_CORE's next step toward its recorded target falls due. -/
  | avsStep (t : Nat) (ok : Bool)
  /-- RAIL_OUT_OF_WINDOW (R513). A rail has stood at `level` (0.1 mV) since `since`. -/
  | railOutOfWindow (t : Nat) (rail : Fin 12) (level since : Nat)
  /-- IP_PACKET_SEND (R302 to R304). Packet `k` of frame `n` of a send flow falls due. -/
  | ipPacketSend (t : Nat) (p : Fin 2) (idx n k len : Nat) (missing anc overAllow : Bool)
  /-- PEER_LINK_RETURN (R375 to R377). The peer link is up again. -/
  | peerLinkReturn (t : Nat) (peerActive : Bool)
  /-- UNCORRECTABLE_CODEWORD (R246). A codeword of lane `k` of link `l` is uncorrectable; `corrected` codewords were corrected before it. -/
  | uncorrectableCodeword (t : Nat) (p : Fin 2) (l : Fin 18) (k : Fin 4) (corrected : Nat)
  /-- FLASH_ERASE_DONE (R412). An erase ends. -/
  | flashEraseDone (t : Nat) (ch : Fin 2) (tlc : Bool) (block : Nat) (ok : Bool)
  /-- JTAG_INSTRUCTION (R520). The TAP takes an instruction. -/
  | jtagInstruction (t : Nat) (ins : Fin 6)
deriving DecidableEq, Repr

end Sys2Proof
end

