-- ==== Sys2Proof/Decode.lean ====
section
/-! DEFINITION. The command that a word of the opcode table spells. The table gives no row any bits, so a word spells none. -/

namespace Sys2Proof

/-- The command that the `nbits` bits `w` of a table word spell: none, for every row's bits are left open by the table. -/
def decodeTableWord (_nbits _w : Nat) : Option Instr := none

end Sys2Proof
end

