-- ==== Sys2Proof/Config.lean ====
section
/-! DEFINITION. What an implementation fixes and what the spec leaves open: opaque constants with no body, so that
nothing can be proved about a value that spec/ does not state. -/

namespace Sys2Proof

/-- A free value (log entry 7): applied to the counter `freeCtr` of the state, it stands for a value that the spec does
not state. -/
opaque Config.freeValue : Nat → BitVec 64

/-- SHAKE256 of a byte string, its first 96 bytes, first byte lowest (R3, FIPS 202; log entry 6: no algorithm text in spec/). -/
opaque Config.shake256 : List (BitVec 8) → BitVec 768

/-- SLH-DSA verification of a signature over an image under a public key (R3, R429, FIPS 205; log entry 6). -/
opaque Config.slhdsaVerify : List (BitVec 8) → List (BitVec 8) → List (BitVec 8) → Bool

/-- SLH-DSA key generation from the 96-byte seed of R442: the 64-byte public key (log entry 6). -/
opaque Config.slhdsaPublic : BitVec 768 → BitVec 512

/-- SLH-DSA signature, 49,856 bytes, of a digest with the key of a seed and the hedging bytes (R443; log entry 6). -/
opaque Config.slhdsaSign : BitVec 768 → BitVec 512 → BitVec 256 → BitVec 398848

/-- VENDOR_KEY_HASH (R430), fixed at the factory (log entry 12). -/
opaque Config.vendorKeyHash : BitVec 256

/-- OWNER_KEY_HASH as the factory leaves it, 0 blank (R13, R430; log entry 12). -/
opaque Config.factoryOwner : BitVec 256

/-- DEVICE_SECRET (R430, R442), which no master reads (log entry 12). -/
opaque Config.deviceSecret : BitVec 256

/-- Contents of the boot ROM (R497): byte by offset; spec/ does not give its code. -/
opaque Config.bootRom : Nat → BitVec 8

/-- The baseline of survey item `k` recorded at factory test (R489). -/
opaque Config.ageBaseline : Nat → BitVec 32

/-- The transfer curves, irrational or named but not restated by the manual (R176; log entry 11): curve 0 BT.1886, 1 PQ,
2 HLG (OETF); direction 0 decode, 1 encode; input and result in units of 2⁻²⁰. -/
opaque Config.transfer : Nat → Nat → Int → Int

/-- The factor of the HLG OOTF for a scene luminance, or its inverse (direction 1) for a display luminance, in units of
2⁻²⁰ (R176; log entry 11). -/
opaque Config.hlgGain : Nat → Int → Int

/-- The BT.2087 conversion matrix from BT.709 to BT.2020 (direction 0) and its inverse, entry 0 to 8 in units of 2⁻¹⁴,
which the manual names and does not list (R178; log entry 11). -/
opaque Config.bt2087 : Nat → Nat → Int

/-- Rate in Mbit/s that R106 charges for a format and SAMPLING that R34 lists no interface for, which it does not state (log entry 13). -/
opaque Config.unlistedRate : Nat → Nat → BitVec 32

/-- The contents of the fuse array, which the factory fixes (R456, R469; log entry 12): word index to 32-bit word. -/
opaque Config.fuseWord : Nat → BitVec 32

/-- The 128-bit device unique ID (R11): no two devices share it. -/
opaque Config.uniqueId : BitVec 128

/-- IN_EN, OUT_EN and HOLD_OUT that the device configures for a slot of a plane's link (R251), for which spec/ gives no
value (log entry 16): plane, link, slot. -/
opaque Config.slotEnables : Nat → Nat → Nat → BitVec 3

/-- What BAR4 reads as beside the MSI-X table and the pending-bit array, and for an access of another size (R316; log entry 74): word
index, or byte offset above 1024. -/
opaque Config.bar4Gap : Nat → BitVec 32

/-- First sequence number of a sender (R302, R303), which spec/ does not give: flow index; both networks use the same. -/
opaque Config.seqBase : Nat → BitVec 32

end Sys2Proof
end

