-- ==== Sys2Proof/Machine/Operands.lean ====
section
/-! DEFINITION. Operand forms: bit fields and byte order (R5), descriptor fields (R322, R323), handles (R26 to R32),
formats (R34, R35), house rates (R40, R50), the operand layouts with their reserved bits (R351 to R353), status codes
(R341), the legality table (R346) and the generic detail word (R344). -/

namespace Sys2Proof.Machine

/-! Bits and bytes. -/

/-- `w` bits of `n` from bit `lo`. -/
def bits (n lo w : Nat) : Nat := n / 2 ^ lo % 2 ^ w

/-- One bit as a truth value. -/
def bit (n lo : Nat) : Bool := n / 2 ^ lo % 2 == 1

/-- A truth value as a bit. -/
def b2n (b : Bool) : Nat := if b then 1 else 0

/-- `n` with `w` bits from `lo` replaced by `v`. -/
def putBits (n lo w v : Nat) : Nat := n - bits n lo w * 2 ^ lo + v % 2 ^ w * 2 ^ lo

/-- The least-significant-byte-first value of a byte string (R5). -/
def leVal : Bytes → Nat
  | [] => 0
  | b :: r => b.toNat + 256 * leVal r

/-- Field of `len` bytes at byte `off` (R5); bytes beyond the end read 0. -/
def le (b : Bytes) (off len : Nat) : Nat := leVal ((b.drop off).take len)

/-- A byte string of `len` bytes, least significant first. -/
def leBytes : Nat → Nat → Bytes
  | 0, _ => []
  | k + 1, v => BitVec.ofNat 8 v :: leBytes k (v / 256)

/-- A `w`-bit field read as two's complement. -/
def sgn (w v : Nat) : Int := if v % 2 ^ w < 2 ^ (w - 1) then ((v % 2 ^ w : Nat) : Int) else ((v % 2 ^ w : Nat) : Int) - (2 ^ w : Nat)

/-- A signed number as a `w`-bit field. -/
def usgn (w : Nat) (v : Int) : Nat := (v % (2 ^ w : Nat)).toNat

/-- Signed value clamped to ±`m`. -/
def clampI (m v : Int) : Int := if v < -m then -m else if m < v then m else v

/-! Descriptors (R322, R323). -/

/-- OPCODE, bytes 0 to 1. -/
def dOp (d : Bytes) : Nat := le d 0 2
/-- Flags byte: BARRIER 0, AT_FRAME 1, STRICT 2, IRQ 3, WAIT_DURABLE 4. -/
def dFlags (d : Bytes) : Nat := le d 2 1
/-- TAG. -/
def dTag (d : Bytes) : Nat := le d 4 4
/-- CMD_ID. -/
def dCmdId (d : Bytes) : Nat := le d 8 8
/-- TARGET. -/
def dTarget (d : Bytes) : Nat := le d 16 8
/-- BUF_ADDR of an opcode with a host buffer. -/
def dBufAddr (d : Bytes) : Nat := le d 24 8
/-- BUF_LEN of an opcode with a host buffer. -/
def dBufLen (d : Bytes) : Nat := le d 32 4

/-! Opcodes (R354). -/

/-- Opcode codes of R354, in the table's order. -/
def opcodes : List Nat :=
  [0x00, 0x01, 0x10, 0x11, 0x12, 0x13, 0x14, 0x15, 0x20, 0x21, 0x22, 0x23, 0x24, 0x30, 0x31, 0x32, 0x40, 0x41, 0x42,
   0x50, 0x51, 0x52, 0x60, 0x61, 0x70, 0x71, 0x72, 0x73, 0x74, 0x80, 0x81, 0x82, 0x83, 0x84, 0x90]

/-- Opcodes that take a host buffer (R351, R352). -/
def hasBuf (op : Nat) : Bool := [0x11, 0x20, 0x22, 0x24, 0x30, 0x50, 0x51, 0x70, 0x74].contains op

/-- BUF_LEN cap (R323). -/
def bufCap (op : Nat) : Nat := if op = 0x24 ∨ op = 0x70 then 67108864 else 1048576

/-- Untimed opcodes (R349). -/
def untimed (op : Nat) : Bool := [0x24, 0x70, 0x72, 0x73, 0x74, 0x80, 0x81, 0x82, 0x83, 0x84, 0x90].contains op

/-- Operand fields of an opcode as (byte, lowest bit, width) (R351, R352); every other bit of bytes 24 to 63 is reserved. -/
def opFields (op : Nat) : List (Nat × Nat × Nat) :=
  let buf := [(24, 0, 64), (32, 0, 32)]
  match op with
  | 0x10 => [(24, 0, 16), (26, 0, 16), (28, 0, 2), (30, 0, 16)]
  | 0x11 => buf ++ [(36, 0, 16), (38, 0, 16)]
  | 0x12 => [(24, 0, 16), (26, 0, 2), (28, 0, 16)]
  | 0x13 => [(24, 0, 8), (25, 0, 1), (26, 0, 8), (28, 0, 256)]
  | 0x14 => [(24, 0, 16), (26, 0, 3), (27, 0, 8), (28, 0, 10), (30, 0, 14)]
  | 0x15 => [(24, 0, 16), (26, 0, 11), (28, 0, 7), (29, 0, 2), (30, 0, 16), (32, 0, 16)]
  | 0x20 => buf ++ [(36, 0, 16)]
  | 0x21 => [(24, 0, 16), (26, 0, 1)]
  | 0x22 => buf
  | 0x23 => [(24, 0, 16), (26, 0, 8), (27, 0, 8), (28, 0, 10), (30, 0, 10), (32, 0, 10), (34, 0, 10)]
  | 0x24 => buf ++ [(36, 0, 10)]
  | 0x30 => buf
  | 0x31 => [(24, 0, 3), (25, 0, 6), (26, 0, 16), (28, 0, 16), (30, 0, 16)]
  | 0x32 => [(24, 0, 8), (25, 0, 7), (26, 0, 6), (27, 0, 6), (28, 0, 5), (30, 0, 11), (32, 0, 32), (36, 0, 32),
      (40, 0, 16), (42, 0, 16)]
  | 0x40 => [(24, 0, 4), (25, 0, 2), (26, 0, 12), (28, 0, 5), (30, 0, 13), (32, 0, 10), (34, 0, 14), (36, 0, 10),
      (38, 0, 14), (40, 0, 64), (48, 0, 32), (52, 0, 32)]
  | 0x41 => [(24, 0, 1)]
  | 0x42 => [(24, 0, 1), (25, 0, 3), (25, 7, 1), (26, 0, 7), (27, 0, 2), (28, 0, 32)]
  | 0x50 => buf ++ [(36, 0, 6), (37, 0, 2), (38, 0, 5)]
  | 0x51 => buf
  | 0x52 => [(24, 0, 8), (25, 0, 4), (26, 0, 6), (28, 0, 12), (32, 0, 48), (40, 0, 32)]
  | 0x60 => [(24, 0, 2)]
  | 0x61 => [(24, 0, 2)]
  | 0x70 => buf
  | 0x71 => [(24, 0, 16)]
  | 0x74 => buf ++ [(40, 0, 192)]
  | 0x81 => [(24, 0, 1)]
  | 0x82 => [(24, 0, 2), (26, 0, 16)]
  | 0x83 => [(24, 0, 1)]
  | 0x84 => [(24, 0, 1)]
  | 0x90 => [(24, 0, 2)]
  | _ => []

/-- The number `v` with the listed fields set to 0, where byte `base` is bits 7 to 0. -/
def clearFields (base : Nat) : List (Nat × Nat × Nat) → Nat → Nat
  | [], v => v
  | (b, lo, w) :: r, v => clearFields base r (putBits v (8 * (b - base) + lo) w 0)

/-- Index of the lowest non-zero byte among `k`, counted from `i`. -/
def firstByte : Nat → Nat → Nat → Option Nat
  | 0, _, _ => none
  | k + 1, i, v => if v % 256 ≠ 0 then some i else firstByte k (i + 1) (v / 256)

/-- Byte offset of the first non-zero reserved bit of a descriptor (R322, R342 step 3). -/
def reservedAt (d : Bytes) : Option Nat :=
  if 32 ≤ dFlags d then some 2 else if le d 3 1 ≠ 0 then some 3
  else firstByte 40 24 (clearFields 24 (opFields (dOp d)) (le d 24 40))

/-! Status codes (R341). -/

/-- DONE. -/
@[reducible] def stDone : Nat := 0x0000
/-- DUPLICATE. -/
@[reducible] def stDup : Nat := 0x0001
/-- DONE_DEFERRED. -/
@[reducible] def stDeferred : Nat := 0x0002
/-- DONE_ONE_PATH. -/
@[reducible] def stOnePath : Nat := 0x0003
/-- INVALID. -/
@[reducible] def stInvalid : Nat := 0x0100
/-- UNKNOWN_OPCODE. -/
@[reducible] def stUnknown : Nat := 0x0101
/-- RANGE. -/
@[reducible] def stRange : Nat := 0x0102
/-- STATE_CONFLICT. -/
@[reducible] def stConflict : Nat := 0x0200
/-- LOCKED. -/
@[reducible] def stLocked : Nat := 0x0201
/-- LATE. -/
@[reducible] def stLate : Nat := 0x0202
/-- BUSY. -/
@[reducible] def stBusy : Nat := 0x0203
/-- BUDGET. -/
@[reducible] def stBudget : Nat := 0x0300
/-- AUTH. -/
@[reducible] def stAuth : Nat := 0x0400
/-- ROLLBACK. -/
@[reducible] def stRollback : Nat := 0x0401
/-- MISMATCH. -/
@[reducible] def stMismatch : Nat := 0x0402
/-- CANCELLED. -/
@[reducible] def stCancelled : Nat := 0x0500

/-- The generic detail word (R344). -/
def genDetail (off : Nat) (inBuf : Bool) (cond : Nat) : Nat := off % 2 ^ 20 + b2n inBuf * 2 ^ 20 + cond % 256 * 2 ^ 24

/-- A refusal: status and detail. -/
abbrev Refuse := Nat × Nat

/-- The first check that fails decides (R342): each entry is (failed, status, detail). -/
def firstFail : List (Bool × Nat × Nat) → Option Refuse
  | [] => none
  | (f, st, d) :: r => if f then some (st, d) else firstFail r

/-! Device states (R470). -/

/-- BOOT. -/
@[reducible] def dvBoot : Nat := 0
/-- BASE_CAMP. -/
@[reducible] def dvCamp : Nat := 1
/-- LOADING. -/
@[reducible] def dvLoading : Nat := 2
/-- SYNCING. -/
@[reducible] def dvSyncing : Nat := 3
/-- SERVICE. -/
@[reducible] def dvService : Nat := 4
/-- BIVOUAC. -/
@[reducible] def dvBivouac : Nat := 5
/-- FAULT_HALT. -/
@[reducible] def dvHalt : Nat := 6

/-- The legality table (R346): device states in which an opcode is legal. `enter` is BIVOUAC's ENTER bit. -/
def legalIn (op : Nat) (enter : Bool) : List Nat :=
  if op = 0x00 ∨ op = 0x01 ∨ op = 0x70 ∨ op = 0x73 ∨ op = 0x74 then [1, 2, 3, 4, 5]
  else if op = 0x71 then [1, 4]
  else if op = 0x72 ∨ op = 0x81 ∨ op = 0x84 then [4]
  else if op = 0x82 ∨ op = 0x40 then [2, 3, 4, 5]
  else if op = 0x90 then [2]
  else if op = 0x42 ∨ op = 0x50 ∨ op = 0x52 ∨ op = 0x60 then [2, 3, 4]
  else if op = 0x80 then [3, 4, 5]
  else if op = 0x83 then (if enter then [4] else [5])
  else if opcodes.contains op then [3, 4]
  else []

/-! Handles (R26, R27, R31, R32). -/

/-- Numbers within a kind (R26). -/
def kindCount (pair : Bool) (k : Nat) : Nat :=
  let n := if k = 0 then 1152 else if k = 1 then 384 else if k = 4 then 256 else 32
  if pair then 2 * n else n

/-- A source handle as plane and local source index (R27, R29, R31): the refusal status, or the index. -/
def srcOf (pair : Bool) (h : Nat) : Except Nat (Nat × Nat) :=
  let k := h / 4096 % 16
  let n := h % 4096
  if 5 ≤ k then .error stInvalid
  else if k = 4 ∨ kindCount pair k ≤ n then .error stRange
  else
    let c := kindCount false k
    .ok (n / c, (if k = 0 then 0 else if k = 1 then 1152 else if k = 2 then 1536 else 1568) + n % c)

/-- A destination handle as plane and local destination index (R27, R29, R32). -/
def dstOf (pair : Bool) (h : Nat) : Except Nat (Nat × Nat) :=
  let k := h / 4096 % 16
  let n := h % 4096
  if 5 ≤ k then .error stInvalid
  else if k = 2 ∨ k = 3 ∨ kindCount pair k ≤ n then .error stRange
  else
    let c := kindCount false k
    .ok (n / c, (if k = 0 then 0 else if k = 1 then 1152 else 1536) + n % c)

/-- Status of a handle that does not decode; 0 when it does. -/
def hStatus (r : Except Nat (Nat × Nat)) : Nat := match r with | .error st => st | .ok _ => 0

/-- Plane and index of a handle that decodes; (0, 0x7FF) otherwise. -/
def hVal (r : Except Nat (Nat × Nat)) : Nat × Nat := match r with | .error _ => (0, 0x7FF) | .ok v => v

/-- Kind of a local destination index: 0 Otira, 1 IP video, 2 layer input (R32). -/
def dstKind (d : Nat) : Nat := if d < 1152 then 0 else if d < 1536 then 1 else 2

/-- Kind of a local source index: 0 Otira, 1 IP video, 2 compositor, 3 generator (R31). -/
def srcKindOf (n : Nat) : Nat := if n < 1152 then 0 else if n < 1536 then 1 else if n < 1568 then 2 else 3

/-! Rates and formats (R34, R35, R40, R50). -/

/-- Ticks of 1/54 ns in a second: every frame, line and sample period is a whole number of ticks (log entry 1). -/
@[reducible] def tickSec : Nat := 54000000000

/-- Ceiling of a quotient. -/
def cdiv (a b : Nat) : Nat := if b = 0 then 0 else (a + b - 1) / b

/-- Frame period in ticks of a rate code 1 to 8 (R35, R50); 0 otherwise. -/
def framePeriod (c : Nat) : Nat :=
  match c with
  | 1 => 2252250000 | 2 => 2250000000 | 3 => 2160000000 | 4 => 1801800000
  | 5 => 1800000000 | 6 => 1080000000 | 7 => 900900000 | 8 => 900000000 | _ => 0

/-- Period of the 48 kHz grid in ticks (R50). -/
@[reducible] def samplePeriod : Nat := 1125000

/-- Total lines of a raster code (R77). -/
def totalLines (f : Nat) : Nat :=
  match f / 16 with | 1 => 525 | 2 => 625 | 3 => 750 | 4 => 1125 | 5 => 1125 | 6 => 1125 | 7 => 2250 | _ => 1125

/-- RP 168 switching line of a raster code (R77). -/
def rpLine (f : Nat) : Nat := match f / 16 with | 1 => 10 | 2 => 6 | _ => 7

/-- A format pair that R34 lists (R35). -/
def fmtListed (f : Nat) : Bool :=
  let r := f % 16
  match f / 16 with
  | 1 => r == 4
  | 2 => r == 3
  | 3 => decide (1 ≤ r ∧ r ≤ 8)
  | 4 => decide (3 ≤ r ∧ r ≤ 5)
  | 5 => decide (1 ≤ r ∧ r ≤ 5)
  | 6 => decide (1 ≤ r ∧ r ≤ 8)
  | 7 => decide (1 ≤ r ∧ r ≤ 8)
  | _ => false

/-- In the house family (R40): rate code `r` against house rate code `h`. -/
def inFamily (h r : Nat) : Bool :=
  if h = 3 ∨ h = 6 then r == 3 || r == 6
  else if h = 4 ∨ h = 7 then r == 4 || r == 7
  else if h = 5 ∨ h = 8 then r == 5 || r == 8
  else r == h && (h == 1 || h == 2)

/-- The source runs at half the house rate (R41). -/
def halfRate (h r : Nat) : Bool := inFamily h r && decide (framePeriod r = 2 * framePeriod h)

/-- The R34 interface that carries a format: IFACE code of R47, with 4:4:4 or RGB `wide`; 0 where R34 lists none. -/
def fmtIface (f : Nat) (wide : Bool) : Nat :=
  let r := f % 16
  if !fmtListed f then 0
  else if wide then (if f / 16 = 6 ∧ r ≤ 5 then 3 else 0)
  else if f / 16 = 1 ∨ f / 16 = 2 then 1
  else if f / 16 = 7 then (if r ≤ 5 then 6 else 7)
  else if f / 16 = 6 ∧ 6 ≤ r then 3
  else 2

/-- Nominal line rate of an interface code in kbit/s (R34). -/
def ifaceRate (i : Nat) : Nat :=
  match i with | 1 => 270000 | 2 => 1485000 | 3 => 2970000 | 4 => 2970000 | 5 => 2970000 | 6 => 5940000 | 7 => 11880000 | _ => 0

/-- Half-width of the timing window in ticks (R43): 64,512 bits at the line rate (kbit/s), frac ÷ 1.001. -/
def windowTicks (rateK : Nat) (frac : Bool) : Nat :=
  if rateK = 0 then 0
  else if frac then 64512 * 54 * 1000000 * 1001 / (rateK * 1000) else 64512 * 54 * 1000000 / rateK

/-- The house rates that share a frame family with `h`: 0 for 25/50, 1 for 29.97/59.94 and 30/60, 2 for 23.98 and 24 (R97). -/
def familyCol (h : Nat) : Nat := if h = 3 ∨ h = 6 then 0 else if h = 1 ∨ h = 2 then 2 else 1

/-- Pages per buffer of a reserved interface (R97); 0 where the table has none. -/
def ifacePages (i h : Nat) : Nat :=
  match i, familyCol h with
  | 1, 0 => 1 | 1, 1 => 1 | 1, _ => 0
  | 2, 1 => 3 | 2, _ => 4
  | 3, 1 => 6 | 3, _ => 8
  | 4, 1 => 6 | 4, _ => 8
  | 5, 1 => 6 | 5, _ => 8
  | 6, 1 => 12 | 6, _ => 15
  | 7, 0 => 15 | 7, 1 => 12 | 7, _ => 0
  | _, _ => 0

/-- Frames per second as nominal numerator (23.98 counts as 24, and so on) of a rate code. -/
def nominalRate (r : Nat) : Nat :=
  match r with | 1 => 24 | 2 => 24 | 3 => 25 | 4 => 30 | 5 => 30 | 6 => 50 | 7 => 60 | 8 => 60 | _ => 1

/-- Pages of one frame buffer for a charged rate in Mbit/s (R97): ceil(R ÷ F ÷ 8 ÷ 2 MiB). -/
def framePages (mbit r : Nat) : Nat :=
  let d := nominalRate r * 8 * 2097152
  (mbit * 1000000 + d - 1) / d

end Sys2Proof.Machine
end

