-- ==== Sys2Proof/Machine/RegMap.lean ====
section
/-! DEFINITION. The register map: every register and field that the register tables of spec/ give, with its
block, offset, array shape, access type (R6), reset value (R8) and whether a WARM reset keeps it (R8).
A field is named BLOCK_REG_FIELD after the manual's BLOCK_REG.FIELD. -/

namespace Sys2Proof.Machine

/-- Access types of a register field (R6). -/
inductive Acc where
  | rw | ro | wo | w1c | rc
deriving DecidableEq, Repr

/-- One register field. `code` packs block, register, lowest bit and the kept-on-WARM flag into one number, so that
two fields of the map never share a code; `width` is in bits; `reset` is the Reset column. -/
structure Fld where
  code : Nat
  width : Nat
  acc : Acc
  reset : Nat
deriving DecidableEq, Repr

/-- The field with lowest bit `lo` of register `r` of block `b`; `kept` is 1 when the table says 'Kept on WARM'. -/
@[reducible] def mkFld (b r lo width : Nat) (acc : Acc) (reset kept : Nat) : Fld :=
  { code := ((b * 32 + r) * 128 + lo) * 2 + kept, width := width, acc := acc, reset := reset }

/-- Lowest bit of a field in its register. -/
def Fld.lo (f : Fld) : Nat := f.code / 2 % 128

/-- Block number of a field code. -/
def codeBlk (c : Nat) : Nat := c / 8192

/-- Register number inside its block of a field code. -/
def codeReg (c : Nat) : Nat := c / 256 % 32

/-- True when a WARM reset keeps the field (R8). -/
def codeKept (c : Nat) : Bool := c % 2 == 1

/-- One register (or array of registers): block, offset of its first element, up to two array dimensions (count and
byte stride), width in bits and fields. -/
structure RegDef where
  name : String
  blk : Nat
  off : Nat
  n1 : Nat
  s1 : Nat
  n2 : Nat
  s2 : Nat
  width : Nat
  flds : List Fld
deriving DecidableEq, Repr

/-- Block number of SYS. -/
@[reducible] def blkSys : Nat := 0
/-- Block number of RST. -/
@[reducible] def blkRst : Nat := 1
/-- Block number of FLT. -/
@[reducible] def blkFlt : Nat := 2
/-- Block number of BELAY. -/
@[reducible] def blkBelay : Nat := 3
/-- Block number of HIF. -/
@[reducible] def blkHif : Nat := 4
/-- Block number of JRN. -/
@[reducible] def blkJrn : Nat := 5
/-- Block number of SEC. -/
@[reducible] def blkSec : Nat := 6
/-- Block number of FLS. -/
@[reducible] def blkFls : Nat := 7
/-- Block number of DPLL. -/
@[reducible] def blkDpll : Nat := 8
/-- Block number of TDM. -/
@[reducible] def blkTdm : Nat := 9
/-- Block number of PEER. -/
@[reducible] def blkPeer : Nat := 10
/-- Block number of MTX. -/
@[reducible] def blkMtx : Nat := 11
/-- Block number of AGE. -/
@[reducible] def blkAge : Nat := 12
/-- Block number of FUSE. -/
@[reducible] def blkFuse : Nat := 13
/-- Block number of PLN. -/
@[reducible] def blkPln : Nat := 14
/-- Block number of TILE. -/
@[reducible] def blkTile : Nat := 15
/-- Block number of HBM. -/
@[reducible] def blkHbm : Nat := 16
/-- Block number of AUD. -/
@[reducible] def blkAud : Nat := 17
/-- Block number of CMP. -/
@[reducible] def blkCmp : Nat := 18
/-- Block number of MAC. -/
@[reducible] def blkMac : Nat := 19
/-- Block number of LANE. -/
@[reducible] def blkLane : Nat := 20

namespace F

/-- SYS_ID.PART (R10). -/
@[reducible] def SYS_ID_PART : Fld := mkFld 0 0 16 16 .ro 4434 0
/-- SYS_ID.FAMILY (R10). -/
@[reducible] def SYS_ID_FAMILY : Fld := mkFld 0 0 8 8 .ro 81 0
/-- SYS_REV.STEP (R10). -/
@[reducible] def SYS_REV_STEP : Fld := mkFld 0 1 8 8 .ro 66 0
/-- SYS_REV.METAL (R10). -/
@[reducible] def SYS_REV_METAL : Fld := mkFld 0 1 0 8 .ro 1 0
/-- SYS_UID.UID (R11). -/
@[reducible] def SYS_UID_UID : Fld := mkFld 0 2 0 32 .ro 0 1
/-- SYS_STATE.DEGRADED (R470). -/
@[reducible] def SYS_STATE_DEGRADED : Fld := mkFld 0 3 4 1 .ro 0 0
/-- SYS_STATE.STATE (R470). -/
@[reducible] def SYS_STATE_STATE : Fld := mkFld 0 3 0 4 .ro 0 0
/-- RST_CAUSE.LAST_REACH (R465). -/
@[reducible] def RST_CAUSE_LAST_REACH : Fld := mkFld 1 0 16 4 .ro 8 1
/-- RST_CAUSE.THERMAL (R465). -/
@[reducible] def RST_CAUSE_THERMAL : Fld := mkFld 1 0 9 1 .w1c 0 1
/-- RST_CAUSE.FUSE_PARITY (R465). -/
@[reducible] def RST_CAUSE_FUSE_PARITY : Fld := mkFld 1 0 8 1 .w1c 0 1
/-- RST_CAUSE.FLT_COLD (R465). -/
@[reducible] def RST_CAUSE_FLT_COLD : Fld := mkFld 1 0 7 1 .w1c 0 1
/-- RST_CAUSE.FLT_WARM (R465). -/
@[reducible] def RST_CAUSE_FLT_WARM : Fld := mkFld 1 0 6 1 .w1c 0 1
/-- RST_CAUSE.WDOG_WARM (R465). -/
@[reducible] def RST_CAUSE_WDOG_WARM : Fld := mkFld 1 0 5 1 .w1c 0 1
/-- RST_CAUSE.SW_COLD (R465). -/
@[reducible] def RST_CAUSE_SW_COLD : Fld := mkFld 1 0 4 1 .w1c 0 1
/-- RST_CAUSE.SW_WARM (R465). -/
@[reducible] def RST_CAUSE_SW_WARM : Fld := mkFld 1 0 3 1 .w1c 0 1
/-- RST_CAUSE.RESET_N (R465). -/
@[reducible] def RST_CAUSE_RESET_N : Fld := mkFld 1 0 2 1 .w1c 0 1
/-- RST_CAUSE.PWRGOOD (R465). -/
@[reducible] def RST_CAUSE_PWRGOOD : Fld := mkFld 1 0 1 1 .w1c 0 1
/-- RST_CAUSE.POR (R465). -/
@[reducible] def RST_CAUSE_POR : Fld := mkFld 1 0 0 1 .w1c 1 1
/-- RST_SW.KEY (R466). -/
@[reducible] def RST_SW_KEY : Fld := mkFld 1 1 24 8 .wo 0 0
/-- RST_SW.OP (R466). -/
@[reducible] def RST_SW_OP : Fld := mkFld 1 1 22 2 .wo 0 0
/-- RST_SW.REACH (R466). -/
@[reducible] def RST_SW_REACH : Fld := mkFld 1 1 16 4 .wo 0 0
/-- RST_SW.INDEX (R466). -/
@[reducible] def RST_SW_INDEX : Fld := mkFld 1 1 8 8 .wo 0 0
/-- RST_STAT.HIF_HELD (R467). -/
@[reducible] def RST_STAT_HIF_HELD : Fld := mkFld 1 2 50 2 .ro 0 0
/-- RST_STAT.PLANE_HELD (R467). -/
@[reducible] def RST_STAT_PLANE_HELD : Fld := mkFld 1 2 48 2 .ro 0 0
/-- RST_STAT.TILE_HELD (R467). -/
@[reducible] def RST_STAT_TILE_HELD : Fld := mkFld 1 2 32 16 .ro 0 0
/-- RST_STAT.WDOG_EVENTS (R467). -/
@[reducible] def RST_STAT_WDOG_EVENTS : Fld := mkFld 1 2 24 2 .ro 0 1
/-- RST_STAT.SW_ERR (R467). -/
@[reducible] def RST_STAT_SW_ERR : Fld := mkFld 1 2 16 1 .w1c 0 0
/-- RST_STAT.CLK_WAIT (R467). -/
@[reducible] def RST_STAT_CLK_WAIT : Fld := mkFld 1 2 15 1 .ro 0 0
/-- RST_STAT.IN_RESET (R467). -/
@[reducible] def RST_STAT_IN_RESET : Fld := mkFld 1 2 0 14 .ro 0 0
/-- RST_STRAP.TEST_N (R468). -/
@[reducible] def RST_STRAP_TEST_N : Fld := mkFld 1 3 5 1 .ro 0 1
/-- RST_STRAP.PAIR_ID (R468). -/
@[reducible] def RST_STRAP_PAIR_ID : Fld := mkFld 1 3 4 1 .ro 0 1
/-- RST_STRAP.CLK_MODE (R468). -/
@[reducible] def RST_STRAP_CLK_MODE : Fld := mkFld 1 3 2 2 .ro 0 1
/-- RST_STRAP.BOOT_SRC (R468). -/
@[reducible] def RST_STRAP_BOOT_SRC : Fld := mkFld 1 3 0 2 .ro 0 1
/-- FLT_STATUS.BITS (R471). -/
@[reducible] def FLT_STATUS_BITS : Fld := mkFld 2 0 0 48 .w1c 0 1
/-- FLT_FIRST.VALID (R490). -/
@[reducible] def FLT_FIRST_VALID : Fld := mkFld 2 1 31 1 .w1c 0 1
/-- FLT_FIRST.FATAL (R490). -/
@[reducible] def FLT_FIRST_FATAL : Fld := mkFld 2 1 19 1 .ro 0 1
/-- FLT_FIRST.CAUSE (R490). -/
@[reducible] def FLT_FIRST_CAUSE : Fld := mkFld 2 1 8 8 .ro 0 1
/-- FLT_FIRST_TIME.TIME (R490). -/
@[reducible] def FLT_FIRST_TIME_TIME : Fld := mkFld 2 2 0 64 .ro 0 1
/-- FLT_OVF.OVF (R490). -/
@[reducible] def FLT_OVF_OVF : Fld := mkFld 2 3 0 64 .ro 0 1
/-- FLT_CLRFAIL.PERSIST (R490). -/
@[reducible] def FLT_CLRFAIL_PERSIST : Fld := mkFld 2 4 0 64 .rc 0 1
/-- FLT_MODE.WINDOW_S (R490). -/
@[reducible] def FLT_MODE_WINDOW_S : Fld := mkFld 2 5 8 8 .ro 0 1
/-- FLT_MODE.MODE (R490). -/
@[reducible] def FLT_MODE_MODE : Fld := mkFld 2 5 0 1 .ro 1 1
/-- FLT_FIRST_SUB.BIT (R490). -/
@[reducible] def FLT_FIRST_SUB_BIT : Fld := mkFld 2 6 8 6 .ro 0 1
/-- FLT_FIRST_SUB.SUB (R490). -/
@[reducible] def FLT_FIRST_SUB_SUB : Fld := mkFld 2 6 0 8 .ro 0 1
/-- FLT_CTRL.LOG_LOST (R490). -/
@[reducible] def FLT_CTRL_LOG_LOST : Fld := mkFld 2 7 1 1 .w1c 0 1
/-- FLT_CTRL.WR_ERR (R490). -/
@[reducible] def FLT_CTRL_WR_ERR : Fld := mkFld 2 7 0 1 .w1c 0 1
/-- FLT_HISTORY.TIME (R491). -/
@[reducible] def FLT_HISTORY_TIME : Fld := mkFld 2 8 64 64 .ro 0 1
/-- FLT_HISTORY.SUB (R491). -/
@[reducible] def FLT_HISTORY_SUB : Fld := mkFld 2 8 16 8 .ro 0 1
/-- FLT_HISTORY.CAUSE (R491). -/
@[reducible] def FLT_HISTORY_CAUSE : Fld := mkFld 2 8 8 8 .ro 0 1
/-- FLT_HISTORY.FATAL (R491). -/
@[reducible] def FLT_HISTORY_FATAL : Fld := mkFld 2 8 7 1 .ro 0 1
/-- FLT_HISTORY.BIT (R491). -/
@[reducible] def FLT_HISTORY_BIT : Fld := mkFld 2 8 0 6 .ro 0 1
/-- FLT_HIST_PTR.TOTAL (R491). -/
@[reducible] def FLT_HIST_PTR_TOTAL : Fld := mkFld 2 9 16 16 .rc 0 1
/-- FLT_HIST_PTR.NEXT (R491). -/
@[reducible] def FLT_HIST_PTR_NEXT : Fld := mkFld 2 9 0 5 .ro 0 1
/-- FLT_REACT.ACTION (R492). -/
@[reducible] def FLT_REACT_ACTION : Fld := mkFld 2 10 4 3 .rw 0 1
/-- FLT_REACT.FAULT_N (R492). -/
@[reducible] def FLT_REACT_FAULT_N : Fld := mkFld 2 10 3 1 .rw 0 1
/-- FLT_REACT.IRQ (R492). -/
@[reducible] def FLT_REACT_IRQ : Fld := mkFld 2 10 2 1 .rw 1 1
/-- FLT_CAUSE.COUNT (R492). -/
@[reducible] def FLT_CAUSE_COUNT : Fld := mkFld 2 11 20 12 .rc 0 1
/-- FLT_CAUSE.FATAL (R492). -/
@[reducible] def FLT_CAUSE_FATAL : Fld := mkFld 2 11 19 1 .ro 0 1
/-- FLT_CAUSE.CAUSE (R492). -/
@[reducible] def FLT_CAUSE_CAUSE : Fld := mkFld 2 11 8 8 .ro 0 1
/-- FLT_CAUSE.SUB (R492). -/
@[reducible] def FLT_CAUSE_SUB : Fld := mkFld 2 11 0 8 .ro 0 1
/-- BELAY_STAT.MISSES (R380). -/
@[reducible] def BELAY_STAT_MISSES : Fld := mkFld 3 0 8 8 .ro 0 1
/-- BELAY_STAT.ACTIVE_PP (R380). -/
@[reducible] def BELAY_STAT_ACTIVE_PP : Fld := mkFld 3 0 6 1 .ro 0 1
/-- BELAY_STAT.PP1_STATE (R380). -/
@[reducible] def BELAY_STAT_PP1_STATE : Fld := mkFld 3 0 3 3 .ro 1 1
/-- BELAY_STAT.PP0_STATE (R380). -/
@[reducible] def BELAY_STAT_PP0_STATE : Fld := mkFld 3 0 0 3 .ro 0 1
/-- BELAY_EPOCH.EPOCH (R380). -/
@[reducible] def BELAY_EPOCH_EPOCH : Fld := mkFld 3 1 0 32 .ro 0 1
/-- BELAY_FAILOVERS.COUNT (R380). -/
@[reducible] def BELAY_FAILOVERS_COUNT : Fld := mkFld 3 2 0 32 .rc 0 1
/-- BELAY_HB.HB (R380). -/
@[reducible] def BELAY_HB_HB : Fld := mkFld 3 3 0 32 .wo 0 0
/-- HIF_STAT.ADOPTED (R336). -/
@[reducible] def HIF_STAT_ADOPTED : Fld := mkFld 4 0 16 16 .ro 0 0
/-- HIF_STAT.WIDTH (R336). -/
@[reducible] def HIF_STAT_WIDTH : Fld := mkFld 4 0 8 4 .ro 0 0
/-- HIF_STAT.SPEED (R336). -/
@[reducible] def HIF_STAT_SPEED : Fld := mkFld 4 0 5 3 .ro 0 0
/-- HIF_STAT.STATE (R336). -/
@[reducible] def HIF_STAT_STATE : Fld := mkFld 4 0 0 2 .ro 0 0
/-- HIF_WB_BASE.BASE (R337). -/
@[reducible] def HIF_WB_BASE_BASE : Fld := mkFld 4 1 7 57 .rw 0 0
/-- HIF_EVT_BASE.BASE (R337). -/
@[reducible] def HIF_EVT_BASE_BASE : Fld := mkFld 4 2 12 52 .rw 0 0
/-- HIF_EVT_CFG.MIN_US (R337). -/
@[reducible] def HIF_EVT_CFG_MIN_US : Fld := mkFld 4 3 16 16 .rw 0 0
/-- HIF_EVT_CFG.VEC (R337). -/
@[reducible] def HIF_EVT_CFG_VEC : Fld := mkFld 4 3 6 6 .rw 0 0
/-- HIF_EVT_CFG.EN (R337). -/
@[reducible] def HIF_EVT_CFG_EN : Fld := mkFld 4 3 5 1 .rw 0 0
/-- HIF_EVT_CFG.LOG2_SIZE (R337). -/
@[reducible] def HIF_EVT_CFG_LOG2_SIZE : Fld := mkFld 4 3 0 5 .rw 6 0
/-- HIF_EVT_MASK.MASK (R337). -/
@[reducible] def HIF_EVT_MASK_MASK : Fld := mkFld 4 4 0 32 .rw 4194302 0
/-- HIF_EVT_STAT.LOST (R337). -/
@[reducible] def HIF_EVT_STAT_LOST : Fld := mkFld 4 5 48 16 .rc 0 0
/-- HIF_EVT_STAT.CFG_ERR (R337). -/
@[reducible] def HIF_EVT_STAT_CFG_ERR : Fld := mkFld 4 5 32 1 .w1c 0 0
/-- HIF_EVT_STAT.CONS (R337). -/
@[reducible] def HIF_EVT_STAT_CONS : Fld := mkFld 4 5 16 16 .ro 0 0
/-- HIF_EVT_STAT.PROD (R337). -/
@[reducible] def HIF_EVT_STAT_PROD : Fld := mkFld 4 5 0 16 .ro 0 0
/-- HIF_ERRCNT.DECODE (R340). -/
@[reducible] def HIF_ERRCNT_DECODE : Fld := mkFld 4 6 48 16 .rc 0 0
/-- HIF_ERRCNT.DB_RANGE (R340). -/
@[reducible] def HIF_ERRCNT_DB_RANGE : Fld := mkFld 4 6 32 16 .rc 0 0
/-- HIF_ERRCNT.DB_IGNORED (R340). -/
@[reducible] def HIF_ERRCNT_DB_IGNORED : Fld := mkFld 4 6 16 16 .rc 0 0
/-- HIF_ERRCNT.DMA (R340). -/
@[reducible] def HIF_ERRCNT_DMA : Fld := mkFld 4 6 0 16 .rc 0 0
/-- CRING_BASE.BASE (R338). -/
@[reducible] def CRING_BASE_BASE : Fld := mkFld 4 7 12 52 .rw 0 0
/-- CRING_CFG.RESUME (R338). -/
@[reducible] def CRING_CFG_RESUME : Fld := mkFld 4 8 10 1 .wo 0 0
/-- CRING_CFG.WEIGHT (R338). -/
@[reducible] def CRING_CFG_WEIGHT : Fld := mkFld 4 8 8 2 .rw 0 0
/-- CRING_CFG.EN (R338). -/
@[reducible] def CRING_CFG_EN : Fld := mkFld 4 8 5 1 .rw 0 0
/-- CRING_CFG.LOG2_SIZE (R338). -/
@[reducible] def CRING_CFG_LOG2_SIZE : Fld := mkFld 4 8 0 5 .rw 6 0
/-- CRING_STAT.CFG_ERR (R338). -/
@[reducible] def CRING_STAT_CFG_ERR : Fld := mkFld 4 9 4 1 .w1c 0 0
/-- CRING_STAT.STOP_CAUSE (R338). -/
@[reducible] def CRING_STAT_STOP_CAUSE : Fld := mkFld 4 9 2 2 .ro 0 1
/-- CRING_STAT.STATE (R338). -/
@[reducible] def CRING_STAT_STATE : Fld := mkFld 4 9 0 2 .ro 0 0
/-- CRING_CONS.CONS (R338). -/
@[reducible] def CRING_CONS_CONS : Fld := mkFld 4 10 0 32 .ro 0 0
/-- CRING_PROD.PROD (R338). -/
@[reducible] def CRING_PROD_PROD : Fld := mkFld 4 11 0 32 .ro 0 0
/-- CRING_LASTID.LASTID (R338). -/
@[reducible] def CRING_LASTID_LASTID : Fld := mkFld 4 12 0 64 .ro 0 1
/-- CPL_BASE.BASE (R339). -/
@[reducible] def CPL_BASE_BASE : Fld := mkFld 4 13 12 52 .rw 0 0
/-- CPL_CFG.COAL_US (R339). -/
@[reducible] def CPL_CFG_COAL_US : Fld := mkFld 4 14 24 8 .rw 0 0
/-- CPL_CFG.COAL_N (R339). -/
@[reducible] def CPL_CFG_COAL_N : Fld := mkFld 4 14 16 8 .rw 1 0
/-- CPL_CFG.VEC (R339). -/
@[reducible] def CPL_CFG_VEC : Fld := mkFld 4 14 6 6 .rw 0 0
/-- CPL_CFG.LOG2_SIZE (R339). -/
@[reducible] def CPL_CFG_LOG2_SIZE : Fld := mkFld 4 14 0 5 .rw 6 0
/-- CPL_STAT.BACKLOG (R339). -/
@[reducible] def CPL_STAT_BACKLOG : Fld := mkFld 4 15 0 32 .ro 0 0
/-- CPL_PROD.PROD (R339). -/
@[reducible] def CPL_PROD_PROD : Fld := mkFld 4 16 0 32 .ro 0 0
/-- CPL_CONS.CONS (R339). -/
@[reducible] def CPL_CONS_CONS : Fld := mkFld 4 17 0 32 .ro 0 0
/-- JRN_HEAD.HEAD_JSN (R379). -/
@[reducible] def JRN_HEAD_HEAD_JSN : Fld := mkFld 5 0 0 64 .ro 0 1
/-- JRN_DURABLE.DURABLE_JSN (R379). -/
@[reducible] def JRN_DURABLE_DURABLE_JSN : Fld := mkFld 5 1 0 64 .ro 0 1
/-- JRN_CKPT.SEQ (R379). -/
@[reducible] def JRN_CKPT_SEQ : Fld := mkFld 5 2 32 32 .ro 0 1
/-- JRN_CKPT_JSN.JSN (R379). -/
@[reducible] def JRN_CKPT_JSN_JSN : Fld := mkFld 5 3 0 64 .ro 0 1
/-- JRN_STAT.REPLAY (R379). -/
@[reducible] def JRN_STAT_REPLAY : Fld := mkFld 5 4 7 1 .ro 0 0
/-- JRN_STAT.PAYLOAD_PEND (R379). -/
@[reducible] def JRN_STAT_PAYLOAD_PEND : Fld := mkFld 5 4 6 1 .ro 0 0
/-- JRN_STAT.PEER (R379). -/
@[reducible] def JRN_STAT_PEER : Fld := mkFld 5 4 5 1 .ro 0 0
/-- JRN_STAT.FL1 (R379). -/
@[reducible] def JRN_STAT_FL1 : Fld := mkFld 5 4 4 1 .ro 0 0
/-- JRN_STAT.FL0 (R379). -/
@[reducible] def JRN_STAT_FL0 : Fld := mkFld 5 4 3 1 .ro 0 0
/-- JRN_STAT.HBM1 (R379). -/
@[reducible] def JRN_STAT_HBM1 : Fld := mkFld 5 4 2 1 .ro 0 0
/-- JRN_STAT.HBM0 (R379). -/
@[reducible] def JRN_STAT_HBM0 : Fld := mkFld 5 4 1 1 .ro 0 0
/-- JRN_STAT.FULL (R379). -/
@[reducible] def JRN_STAT_FULL : Fld := mkFld 5 4 0 1 .ro 0 0
/-- JRN_FENCE.LIVE (R379). -/
@[reducible] def JRN_FENCE_LIVE : Fld := mkFld 5 5 32 32 .rc 0 0
/-- JRN_FENCE.REPLAY (R379). -/
@[reducible] def JRN_FENCE_REPLAY : Fld := mkFld 5 5 0 32 .rc 0 0
/-- SEC_FW_STAT.WINDOW_S (R444). -/
@[reducible] def SEC_FW_STAT_WINDOW_S : Fld := mkFld 6 0 12 12 .ro 0 0
/-- SEC_FW_STAT.BASECAMP (R444). -/
@[reducible] def SEC_FW_STAT_BASECAMP : Fld := mkFld 6 0 8 2 .ro 0 0
/-- SEC_FW_STAT.UPDATE (R444). -/
@[reducible] def SEC_FW_STAT_UPDATE : Fld := mkFld 6 0 4 3 .ro 0 0
/-- SEC_FW_STAT.STAGED_SLOT (R444). -/
@[reducible] def SEC_FW_STAT_STAGED_SLOT : Fld := mkFld 6 0 1 3 .ro 0 0
/-- SEC_FW_STAT.RUNNING (R444). -/
@[reducible] def SEC_FW_STAT_RUNNING : Fld := mkFld 6 0 0 1 .ro 0 0
/-- SEC_FW_VER.VERSION (R445). -/
@[reducible] def SEC_FW_VER_VERSION : Fld := mkFld 6 1 0 64 .ro 0 0
/-- SEC_FW_TGT.TARGET (R445). -/
@[reducible] def SEC_FW_TGT_TARGET : Fld := mkFld 6 2 0 64 .ro 0 0
/-- SEC_KEYSTAT.RUN_SVN (R445). -/
@[reducible] def SEC_KEYSTAT_RUN_SVN : Fld := mkFld 6 3 16 16 .ro 0 0
/-- SEC_KEYSTAT.SVN (R445). -/
@[reducible] def SEC_KEYSTAT_SVN : Fld := mkFld 6 3 2 7 .ro 0 0
/-- SEC_KEYSTAT.OWNER_ONLY (R445). -/
@[reducible] def SEC_KEYSTAT_OWNER_ONLY : Fld := mkFld 6 3 1 1 .ro 0 0
/-- SEC_KEYSTAT.OWNER_SET (R445). -/
@[reducible] def SEC_KEYSTAT_OWNER_SET : Fld := mkFld 6 3 0 1 .ro 0 0
/-- SEC_ENTROPY.FAILS (R445). -/
@[reducible] def SEC_ENTROPY_FAILS : Fld := mkFld 6 4 16 16 .rc 0 0
/-- SEC_ENTROPY.FAIL (R445). -/
@[reducible] def SEC_ENTROPY_FAIL : Fld := mkFld 6 4 0 1 .ro 0 0
/-- SEC_IDKEY.KEY (R445). -/
@[reducible] def SEC_IDKEY_KEY : Fld := mkFld 6 5 0 64 .ro 0 0
/-- FLS_STAT.TARGETS (R419). -/
@[reducible] def FLS_STAT_TARGETS : Fld := mkFld 7 0 16 4 .ro 0 0
/-- FLS_STAT.LUNS (R419). -/
@[reducible] def FLS_STAT_LUNS : Fld := mkFld 7 0 12 4 .ro 0 0
/-- FLS_STAT.PROFILE (R419). -/
@[reducible] def FLS_STAT_PROFILE : Fld := mkFld 7 0 11 1 .ro 0 0
/-- FLS_STAT.SENSOR (R419). -/
@[reducible] def FLS_STAT_SENSOR : Fld := mkFld 7 0 10 1 .ro 0 0
/-- FLS_STAT.SCRUB (R419). -/
@[reducible] def FLS_STAT_SCRUB : Fld := mkFld 7 0 9 1 .ro 0 0
/-- FLS_STAT.STATE (R419). -/
@[reducible] def FLS_STAT_STATE : Fld := mkFld 7 0 0 3 .ro 0 0
/-- FLS_BLOCKS.SPARE_INIT (R420). -/
@[reducible] def FLS_BLOCKS_SPARE_INIT : Fld := mkFld 7 1 48 16 .ro 0 0
/-- FLS_BLOCKS.SPARE_NOW (R420). -/
@[reducible] def FLS_BLOCKS_SPARE_NOW : Fld := mkFld 7 1 32 16 .ro 0 0
/-- FLS_BLOCKS.GROWN_BAD (R420). -/
@[reducible] def FLS_BLOCKS_GROWN_BAD : Fld := mkFld 7 1 16 16 .ro 0 0
/-- FLS_BLOCKS.FACTORY_BAD (R420). -/
@[reducible] def FLS_BLOCKS_FACTORY_BAD : Fld := mkFld 7 1 0 16 .ro 0 0
/-- FLS_WEAR.PSLC_MAX (R420). -/
@[reducible] def FLS_WEAR_PSLC_MAX : Fld := mkFld 7 2 48 16 .ro 0 0
/-- FLS_WEAR.PSLC_MIN (R420). -/
@[reducible] def FLS_WEAR_PSLC_MIN : Fld := mkFld 7 2 32 16 .ro 0 0
/-- FLS_WEAR.TLC_MAX (R420). -/
@[reducible] def FLS_WEAR_TLC_MAX : Fld := mkFld 7 2 16 16 .ro 0 0
/-- FLS_WEAR.TLC_MIN (R420). -/
@[reducible] def FLS_WEAR_TLC_MIN : Fld := mkFld 7 2 0 16 .ro 0 0
/-- FLS_ECC.UNCORR (R421). -/
@[reducible] def FLS_ECC_UNCORR : Fld := mkFld 7 3 48 16 .rc 0 0
/-- FLS_ECC.SOFT (R421). -/
@[reducible] def FLS_ECC_SOFT : Fld := mkFld 7 3 32 16 .rc 0 0
/-- FLS_ECC.RETRY (R421). -/
@[reducible] def FLS_ECC_RETRY : Fld := mkFld 7 3 16 16 .rc 0 0
/-- FLS_ECC.RELOC (R421). -/
@[reducible] def FLS_ECC_RELOC : Fld := mkFld 7 3 0 16 .rc 0 0
/-- FLS_SCRUB.LAST (R421). -/
@[reducible] def FLS_SCRUB_LAST : Fld := mkFld 7 4 32 32 .ro 0 0
/-- FLS_SCRUB.AGE (R421). -/
@[reducible] def FLS_SCRUB_AGE : Fld := mkFld 7 4 16 16 .ro 0 0
/-- FLS_SCRUB.TEMP (R421). -/
@[reducible] def FLS_SCRUB_TEMP : Fld := mkFld 7 4 0 16 .ro 0 0
/-- DPLL_STATUS.BW_CAPPED (R71). -/
@[reducible] def DPLL_STATUS_BW_CAPPED : Fld := mkFld 8 0 21 1 .ro 0 1
/-- DPLL_STATUS.BW (R71). -/
@[reducible] def DPLL_STATUS_BW : Fld := mkFld 8 0 16 5 .ro 6 1
/-- DPLL_STATUS.SELECTED (R71). -/
@[reducible] def DPLL_STATUS_SELECTED : Fld := mkFld 8 0 8 8 .ro 0 1
/-- DPLL_STATUS.SLEWING (R71). -/
@[reducible] def DPLL_STATUS_SLEWING : Fld := mkFld 8 0 6 1 .ro 0 1
/-- DPLL_STATUS.HISTORY_SHORT (R71). -/
@[reducible] def DPLL_STATUS_HISTORY_SHORT : Fld := mkFld 8 0 5 1 .ro 0 1
/-- DPLL_STATUS.TOD_VALID (R71). -/
@[reducible] def DPLL_STATUS_TOD_VALID : Fld := mkFld 8 0 4 1 .ro 0 1
/-- DPLL_STATUS.TRANSFER (R71). -/
@[reducible] def DPLL_STATUS_TRANSFER : Fld := mkFld 8 0 3 1 .ro 0 1
/-- DPLL_STATUS.MODE (R71). -/
@[reducible] def DPLL_STATUS_MODE : Fld := mkFld 8 0 0 3 .ro 0 1
/-- DPLL_REFSTAT.OFFSET (R72). -/
@[reducible] def DPLL_REFSTAT_OFFSET : Fld := mkFld 8 1 32 32 .ro 0 1
/-- DPLL_REFSTAT.REF_ID (R72). -/
@[reducible] def DPLL_REFSTAT_REF_ID : Fld := mkFld 8 1 24 8 .ro 0 1
/-- DPLL_REFSTAT.TIME_BEARING (R72). -/
@[reducible] def DPLL_REFSTAT_TIME_BEARING : Fld := mkFld 8 1 6 1 .ro 0 1
/-- DPLL_REFSTAT.SELECTED (R72). -/
@[reducible] def DPLL_REFSTAT_SELECTED : Fld := mkFld 8 1 5 1 .ro 0 1
/-- DPLL_REFSTAT.WTR (R72). -/
@[reducible] def DPLL_REFSTAT_WTR : Fld := mkFld 8 1 4 1 .ro 0 1
/-- DPLL_REFSTAT.STATE (R72). -/
@[reducible] def DPLL_REFSTAT_STATE : Fld := mkFld 8 1 0 3 .ro 0 1
/-- DPLL_HFN.HFN (R73). -/
@[reducible] def DPLL_HFN_HFN : Fld := mkFld 8 2 0 64 .ro 0 1
/-- DPLL_TIME.SEC (R73). -/
@[reducible] def DPLL_TIME_SEC : Fld := mkFld 8 3 30 34 .ro 0 1
/-- DPLL_TIME.NS (R73). -/
@[reducible] def DPLL_TIME_NS : Fld := mkFld 8 3 0 30 .ro 0 1
/-- DPLL_SECHI.SEC_HI (R73). -/
@[reducible] def DPLL_SECHI_SEC_HI : Fld := mkFld 8 4 0 14 .ro 0 1
/-- DPLL_BUILDOUT.BUILDOUT (R73). -/
@[reducible] def DPLL_BUILDOUT_BUILDOUT : Fld := mkFld 8 5 0 64 .ro 0 1
/-- DPLL_NCO.NCO (R73). -/
@[reducible] def DPLL_NCO_NCO : Fld := mkFld 8 6 0 32 .ro 0 1
/-- TDM_CFG.STEER_CH (R237). -/
@[reducible] def TDM_CFG_STEER_CH : Fld := mkFld 9 0 40 16 .ro 0 0
/-- TDM_CFG.STEER_BW (R237). -/
@[reducible] def TDM_CFG_STEER_BW : Fld := mkFld 9 0 37 2 .ro 1 0
/-- TDM_CFG.SDO_IDLE (R237). -/
@[reducible] def TDM_CFG_SDO_IDLE : Fld := mkFld 9 0 36 1 .ro 1 0
/-- TDM_CFG.EDGE (R237). -/
@[reducible] def TDM_CFG_EDGE : Fld := mkFld 9 0 35 1 .ro 0 0
/-- TDM_CFG.FS_POL (R237). -/
@[reducible] def TDM_CFG_FS_POL : Fld := mkFld 9 0 34 1 .ro 0 0
/-- TDM_CFG.FS_WIDTH (R237). -/
@[reducible] def TDM_CFG_FS_WIDTH : Fld := mkFld 9 0 33 1 .ro 0 0
/-- TDM_CFG.FRAME_BCLK (R237). -/
@[reducible] def TDM_CFG_FRAME_BCLK : Fld := mkFld 9 0 22 11 .ro 256 0
/-- TDM_CFG.OFFSET (R237). -/
@[reducible] def TDM_CFG_OFFSET : Fld := mkFld 9 0 17 5 .ro 0 0
/-- TDM_CFG.WIDTH (R237). -/
@[reducible] def TDM_CFG_WIDTH : Fld := mkFld 9 0 11 6 .ro 32 0
/-- TDM_CFG.SLOTS (R237). -/
@[reducible] def TDM_CFG_SLOTS : Fld := mkFld 9 0 5 6 .ro 8 0
/-- TDM_CFG.CLOCK (R237). -/
@[reducible] def TDM_CFG_CLOCK : Fld := mkFld 9 0 4 1 .ro 0 0
/-- TDM_CFG.RATE (R237). -/
@[reducible] def TDM_CFG_RATE : Fld := mkFld 9 0 3 1 .ro 0 0
/-- TDM_CFG.PLANE (R237). -/
@[reducible] def TDM_CFG_PLANE : Fld := mkFld 9 0 1 2 .ro 2 0
/-- TDM_CFG.ENABLE (R237). -/
@[reducible] def TDM_CFG_ENABLE : Fld := mkFld 9 0 0 1 .ro 0 0
/-- TDM_STAT.VIDEO_DEST (R238). -/
@[reducible] def TDM_STAT_VIDEO_DEST : Fld := mkFld 9 1 16 16 .ro 65535 0
/-- TDM_STAT.STEER_LIMIT (R238). -/
@[reducible] def TDM_STAT_STEER_LIMIT : Fld := mkFld 9 1 5 1 .ro 0 0
/-- TDM_STAT.NO_STEER_SRC (R238). -/
@[reducible] def TDM_STAT_NO_STEER_SRC : Fld := mkFld 9 1 4 1 .ro 0 0
/-- TDM_STAT.PLANE_ACT (R238). -/
@[reducible] def TDM_STAT_PLANE_ACT : Fld := mkFld 9 1 3 1 .ro 0 0
/-- TDM_STAT.SILENT (R238). -/
@[reducible] def TDM_STAT_SILENT : Fld := mkFld 9 1 2 1 .ro 0 0
/-- TDM_STAT.STATE (R238). -/
@[reducible] def TDM_STAT_STATE : Fld := mkFld 9 1 0 2 .ro 0 0
/-- TDM_MASK.RX_PEND (R239). -/
@[reducible] def TDM_MASK_RX_PEND : Fld := mkFld 9 2 32 32 .rw 0 0
/-- TDM_MASK.TX_PEND (R239). -/
@[reducible] def TDM_MASK_TX_PEND : Fld := mkFld 9 2 0 32 .rw 0 0
/-- TDM_MASK_ACT.RX_ACT (R239). -/
@[reducible] def TDM_MASK_ACT_RX_ACT : Fld := mkFld 9 3 32 32 .ro 0 0
/-- TDM_MASK_ACT.TX_ACT (R239). -/
@[reducible] def TDM_MASK_ACT_TX_ACT : Fld := mkFld 9 3 0 32 .ro 0 0
/-- TDM_STEER.OFFSET (R240). -/
@[reducible] def TDM_STEER_OFFSET : Fld := mkFld 9 4 32 32 .ro 0 0
/-- TDM_STEER.FILL (R240). -/
@[reducible] def TDM_STEER_FILL : Fld := mkFld 9 4 0 7 .ro 0 0
/-- TDM_ERRCNT.SLIP (R240). -/
@[reducible] def TDM_ERRCNT_SLIP : Fld := mkFld 9 5 48 16 .rc 0 0
/-- TDM_ERRCNT.PARITY (R240). -/
@[reducible] def TDM_ERRCNT_PARITY : Fld := mkFld 9 5 32 16 .rc 0 0
/-- TDM_ERRCNT.CRCC (R240). -/
@[reducible] def TDM_ERRCNT_CRCC : Fld := mkFld 9 5 16 16 .rc 0 0
/-- PAIR_STAT.CONFIG (R381). -/
@[reducible] def PAIR_STAT_CONFIG : Fld := mkFld 10 0 6 1 .ro 0 0
/-- PAIR_STAT.PAIR_ID (R381). -/
@[reducible] def PAIR_STAT_PAIR_ID : Fld := mkFld 10 0 5 1 .ro 0 0
/-- PAIR_STAT.PEER_UP (R381). -/
@[reducible] def PAIR_STAT_PEER_UP : Fld := mkFld 10 0 4 1 .ro 0 0
/-- PAIR_STAT.ACTIVE_SEL (R381). -/
@[reducible] def PAIR_STAT_ACTIVE_SEL : Fld := mkFld 10 0 3 1 .ro 0 0
/-- PAIR_STAT.ROLE (R381). -/
@[reducible] def PAIR_STAT_ROLE : Fld := mkFld 10 0 0 3 .ro 0 0
/-- PAIR_LAG.LAG (R381). -/
@[reducible] def PAIR_LAG_LAG : Fld := mkFld 10 1 0 64 .ro 0 0
/-- MTX_CTRL.LOCK (R506). -/
@[reducible] def MTX_CTRL_LOCK : Fld := mkFld 11 0 31 1 .rw 0 0
/-- MTX_CTRL.AGE (R506). -/
@[reducible] def MTX_CTRL_AGE : Fld := mkFld 11 0 8 8 .rw 4 0
/-- MTX_CTRL.REMAP_HIF1 (R506). -/
@[reducible] def MTX_CTRL_REMAP_HIF1 : Fld := mkFld 11 0 3 1 .rw 0 0
/-- MTX_CTRL.REMAP_HIF0 (R506). -/
@[reducible] def MTX_CTRL_REMAP_HIF0 : Fld := mkFld 11 0 2 1 .rw 0 0
/-- MTX_CTRL.REMAP_PP1 (R506). -/
@[reducible] def MTX_CTRL_REMAP_PP1 : Fld := mkFld 11 0 1 1 .rw 0 0
/-- MTX_CTRL.REMAP_PP0 (R506). -/
@[reducible] def MTX_CTRL_REMAP_PP0 : Fld := mkFld 11 0 0 1 .rw 0 0
/-- MTX_QOS.BELAY (R507). -/
@[reducible] def MTX_QOS_BELAY : Fld := mkFld 11 1 28 4 .ro 15 0
/-- MTX_QOS.FLS (R507). -/
@[reducible] def MTX_QOS_FLS : Fld := mkFld 11 1 24 4 .rw 10 0
/-- MTX_QOS.SEC (R507). -/
@[reducible] def MTX_QOS_SEC : Fld := mkFld 11 1 20 4 .rw 8 0
/-- MTX_QOS.JRN (R507). -/
@[reducible] def MTX_QOS_JRN : Fld := mkFld 11 1 16 4 .rw 12 0
/-- MTX_QOS.HIF1 (R507). -/
@[reducible] def MTX_QOS_HIF1 : Fld := mkFld 11 1 12 4 .rw 4 0
/-- MTX_QOS.HIF0 (R507). -/
@[reducible] def MTX_QOS_HIF0 : Fld := mkFld 11 1 8 4 .rw 4 0
/-- MTX_QOS.PP1 (R507). -/
@[reducible] def MTX_QOS_PP1 : Fld := mkFld 11 1 4 4 .rw 6 0
/-- MTX_QOS.PP0 (R507). -/
@[reducible] def MTX_QOS_PP0 : Fld := mkFld 11 1 0 4 .rw 6 0
/-- MTX_WIN_BASE.BASE (R508). -/
@[reducible] def MTX_WIN_BASE_BASE : Fld := mkFld 11 2 12 36 .rw 0 0
/-- MTX_WIN_BASE.W (R508). -/
@[reducible] def MTX_WIN_BASE_W : Fld := mkFld 11 2 1 1 .rw 0 0
/-- MTX_WIN_BASE.R (R508). -/
@[reducible] def MTX_WIN_BASE_R : Fld := mkFld 11 2 0 1 .rw 0 0
/-- MTX_WIN_LIM.LAST (R508). -/
@[reducible] def MTX_WIN_LIM_LAST : Fld := mkFld 11 3 12 36 .rw 0 0
/-- MTX_ERR_INFO.VALID (R509). -/
@[reducible] def MTX_ERR_INFO_VALID : Fld := mkFld 11 4 31 1 .w1c 0 0
/-- MTX_ERR_INFO.KIND (R509). -/
@[reducible] def MTX_ERR_INFO_KIND : Fld := mkFld 11 4 8 4 .ro 0 0
/-- MTX_ERR_INFO.WRITE (R509). -/
@[reducible] def MTX_ERR_INFO_WRITE : Fld := mkFld 11 4 4 1 .ro 0 0
/-- MTX_ERR_INFO.MASTER (R509). -/
@[reducible] def MTX_ERR_INFO_MASTER : Fld := mkFld 11 4 0 4 .ro 0 0
/-- MTX_ERR_ADDR.ADDR (R509). -/
@[reducible] def MTX_ERR_ADDR_ADDR : Fld := mkFld 11 5 0 48 .ro 0 0
/-- MTX_ERRCNT.COUNT (R509). -/
@[reducible] def MTX_ERRCNT_COUNT : Fld := mkFld 11 6 0 32 .rc 0 0
/-- MTX_STAT.LOCK_ERR (R509). -/
@[reducible] def MTX_STAT_LOCK_ERR : Fld := mkFld 11 7 0 1 .w1c 0 0
/-- AGE_CFG.WARN (R492). -/
@[reducible] def AGE_CFG_WARN : Fld := mkFld 12 0 24 8 .rw 25 1
/-- AGE_CFG.HOUR (R492). -/
@[reducible] def AGE_CFG_HOUR : Fld := mkFld 12 0 16 5 .rw 3 1
/-- AGE_CFG.AUTO_REPLAN (R492). -/
@[reducible] def AGE_CFG_AUTO_REPLAN : Fld := mkFld 12 0 9 1 .rw 1 1
/-- AGE_CFG.PERIOD_D (R492). -/
@[reducible] def AGE_CFG_PERIOD_D : Fld := mkFld 12 0 0 9 .rw 30 1
/-- AGE_STAT.LAST (R492). -/
@[reducible] def AGE_STAT_LAST : Fld := mkFld 12 1 32 32 .ro 0 1
/-- AGE_STAT.SEQ (R492). -/
@[reducible] def AGE_STAT_SEQ : Fld := mkFld 12 1 16 16 .ro 0 1
/-- AGE_STAT.AVS_MV (R492). -/
@[reducible] def AGE_STAT_AVS_MV : Fld := mkFld 12 1 1 10 .ro 750 1
/-- AGE_STAT.RUNNING (R492). -/
@[reducible] def AGE_STAT_RUNNING : Fld := mkFld 12 1 0 1 .ro 0 0
/-- AGE_ITEM.MEASURED (R492). -/
@[reducible] def AGE_ITEM_MEASURED : Fld := mkFld 12 2 32 32 .ro 0 1
/-- AGE_ITEM.SKIPPED (R492). -/
@[reducible] def AGE_ITEM_SKIPPED : Fld := mkFld 12 2 19 1 .ro 0 0
/-- AGE_ITEM.STALE (R492). -/
@[reducible] def AGE_ITEM_STALE : Fld := mkFld 12 2 18 1 .ro 0 0
/-- AGE_ITEM.AT_LIMIT (R492). -/
@[reducible] def AGE_ITEM_AT_LIMIT : Fld := mkFld 12 2 17 1 .ro 0 0
/-- AGE_ITEM.STEPPED (R492). -/
@[reducible] def AGE_ITEM_STEPPED : Fld := mkFld 12 2 16 1 .ro 0 0
/-- AGE_ITEM.UNIT (R492). -/
@[reducible] def AGE_ITEM_UNIT : Fld := mkFld 12 2 8 8 .ro 0 0
/-- AGE_ITEM.MARGIN (R492). -/
@[reducible] def AGE_ITEM_MARGIN : Fld := mkFld 12 2 0 8 .ro 255 0
/-- FUSE_STAT.RESETN_COLD (R469). -/
@[reducible] def FUSE_STAT_RESETN_COLD : Fld := mkFld 13 0 3 1 .ro 0 1
/-- FUSE_STAT.FAILS (R469). -/
@[reducible] def FUSE_STAT_FAILS : Fld := mkFld 13 0 1 2 .ro 0 1
/-- FUSE_STAT.VALID (R469). -/
@[reducible] def FUSE_STAT_VALID : Fld := mkFld 13 0 0 1 .ro 0 1
/-- FUSE_PINMAP.PINS (R469). -/
@[reducible] def FUSE_PINMAP_PINS : Fld := mkFld 13 1 0 32 .ro 0 1
/-- PLN_SRCSTAT.LINK (R47). -/
@[reducible] def PLN_SRCSTAT_LINK : Fld := mkFld 14 0 21 3 .ro 0 0
/-- PLN_SRCSTAT.FRAC (R47). -/
@[reducible] def PLN_SRCSTAT_FRAC : Fld := mkFld 14 0 20 1 .ro 0 0
/-- PLN_SRCSTAT.IFACE (R47). -/
@[reducible] def PLN_SRCSTAT_IFACE : Fld := mkFld 14 0 16 4 .ro 0 0
/-- PLN_SRCSTAT.FORMAT (R47). -/
@[reducible] def PLN_SRCSTAT_FORMAT : Fld := mkFld 14 0 8 8 .ro 0 0
/-- PLN_SRCSTAT.DS (R47). -/
@[reducible] def PLN_SRCSTAT_DS : Fld := mkFld 14 0 5 1 .ro 0 0
/-- PLN_SRCSTAT.RATE_MISMATCH (R47). -/
@[reducible] def PLN_SRCSTAT_RATE_MISMATCH : Fld := mkFld 14 0 4 1 .ro 0 0
/-- PLN_SRCSTAT.MISTIMED (R47). -/
@[reducible] def PLN_SRCSTAT_MISTIMED : Fld := mkFld 14 0 3 1 .ro 0 0
/-- PLN_SRCSTAT.KIND (R47). -/
@[reducible] def PLN_SRCSTAT_KIND : Fld := mkFld 14 0 0 3 .ro 0 0
/-- PLN_SRCPOS.OFFSET (R48). -/
@[reducible] def PLN_SRCPOS_OFFSET : Fld := mkFld 14 1 0 32 .ro 2147483648 0
/-- PLN_DSTSTAT.TEAM (R76). -/
@[reducible] def PLN_DSTSTAT_TEAM : Fld := mkFld 14 2 24 8 .ro 0 0
/-- PLN_DSTSTAT.IN_TEAM (R76). -/
@[reducible] def PLN_DSTSTAT_IN_TEAM : Fld := mkFld 14 2 23 1 .ro 0 0
/-- PLN_DSTSTAT.CAUSE (R76). -/
@[reducible] def PLN_DSTSTAT_CAUSE : Fld := mkFld 14 2 16 4 .ro 0 0
/-- PLN_DSTSTAT.PENDING (R76). -/
@[reducible] def PLN_DSTSTAT_PENDING : Fld := mkFld 14 2 8 8 .ro 0 0
/-- PLN_DSTSTAT.CONCEALING (R76). -/
@[reducible] def PLN_DSTSTAT_CONCEALING : Fld := mkFld 14 2 3 1 .ro 0 0
/-- PLN_DSTSTAT.HELD (R76). -/
@[reducible] def PLN_DSTSTAT_HELD : Fld := mkFld 14 2 2 1 .ro 0 0
/-- PLN_ROUTE.JSN (R74). -/
@[reducible] def PLN_ROUTE_JSN : Fld := mkFld 14 3 64 64 .ro 0 0
/-- PLN_ROUTE.PROT (R74). -/
@[reducible] def PLN_ROUTE_PROT : Fld := mkFld 14 3 48 2 .ro 0 0
/-- PLN_ROUTE.OWNER (R74). -/
@[reducible] def PLN_ROUTE_OWNER : Fld := mkFld 14 3 32 16 .ro 0 0
/-- PLN_ROUTE.FB_SOURCE (R74). -/
@[reducible] def PLN_ROUTE_FB_SOURCE : Fld := mkFld 14 3 18 11 .ro 2047 0
/-- PLN_ROUTE.FB_KIND (R74). -/
@[reducible] def PLN_ROUTE_FB_KIND : Fld := mkFld 14 3 16 2 .ro 0 0
/-- PLN_ROUTE.SOURCE (R74). -/
@[reducible] def PLN_ROUTE_SOURCE : Fld := mkFld 14 3 0 11 .ro 2047 0
/-- PLN_ROUTE_CE.COUNT (R75). -/
@[reducible] def PLN_ROUTE_CE_COUNT : Fld := mkFld 14 4 0 32 .rc 0 0
/-- PLN_BAND.TEMP (R117). -/
@[reducible] def PLN_BAND_TEMP : Fld := mkFld 14 5 16 16 .ro 0 0
/-- PLN_BAND.COMP_RUN (R117). -/
@[reducible] def PLN_BAND_COMP_RUN : Fld := mkFld 14 5 4 6 .ro 0 0
/-- PLN_BAND.ADMIT (R117). -/
@[reducible] def PLN_BAND_ADMIT : Fld := mkFld 14 5 3 1 .ro 0 1
/-- PLN_BAND.BAND (R117). -/
@[reducible] def PLN_BAND_BAND : Fld := mkFld 14 5 0 3 .ro 1 0
/-- PLN_BUDGET.BW (R118). -/
@[reducible] def PLN_BUDGET_BW : Fld := mkFld 14 6 0 32 .ro 2200000 1
/-- PLN_LOAD_TOTAL.TOTAL (R118). -/
@[reducible] def PLN_LOAD_TOTAL_TOTAL : Fld := mkFld 14 7 0 32 .ro 0 0
/-- PLN_LOAD_NONSHED.NONSHED (R118). -/
@[reducible] def PLN_LOAD_NONSHED_NONSHED : Fld := mkFld 14 8 0 32 .ro 0 0
/-- PLN_LOAD_ACTIVE.ACTIVE (R118). -/
@[reducible] def PLN_LOAD_ACTIVE_ACTIVE : Fld := mkFld 14 9 0 32 .ro 0 0
/-- PLN_PAGES.TOTAL (R118). -/
@[reducible] def PLN_PAGES_TOTAL : Fld := mkFld 14 10 16 14 .ro 10240 0
/-- PLN_PAGES.USED (R118). -/
@[reducible] def PLN_PAGES_USED : Fld := mkFld 14 10 0 14 .ro 0 0
/-- PLN_UNDERRUN_CNT.COUNT (R118). -/
@[reducible] def PLN_UNDERRUN_CNT_COUNT : Fld := mkFld 14 11 0 32 .rc 0 0
/-- PLN_FSSTAT.PRIO (R119). -/
@[reducible] def PLN_FSSTAT_PRIO : Fld := mkFld 14 12 20 4 .ro 8 0
/-- PLN_FSSTAT.SHEDDABLE (R119). -/
@[reducible] def PLN_FSSTAT_SHEDDABLE : Fld := mkFld 14 12 19 1 .ro 0 0
/-- PLN_FSSTAT.SHED (R119). -/
@[reducible] def PLN_FSSTAT_SHED : Fld := mkFld 14 12 18 1 .ro 0 0
/-- PLN_FSSTAT.MODE (R119). -/
@[reducible] def PLN_FSSTAT_MODE : Fld := mkFld 14 12 16 2 .ro 0 0
/-- PLN_FSSTAT.PAGES (R119). -/
@[reducible] def PLN_FSSTAT_PAGES : Fld := mkFld 14 12 8 8 .ro 0 0
/-- PLN_FSSTAT.FILL (R119). -/
@[reducible] def PLN_FSSTAT_FILL : Fld := mkFld 14 12 6 2 .ro 0 0
/-- PLN_FSSTAT.LAST_SLIP (R119). -/
@[reducible] def PLN_FSSTAT_LAST_SLIP : Fld := mkFld 14 12 4 2 .ro 0 0
/-- PLN_FSSLIP.DROPS (R120). -/
@[reducible] def PLN_FSSLIP_DROPS : Fld := mkFld 14 13 16 16 .rc 0 0
/-- PLN_FSSLIP.REPEATS (R120). -/
@[reducible] def PLN_FSSLIP_REPEATS : Fld := mkFld 14 13 0 16 .rc 0 0
/-- PLN_STATE.TILE_FAIL (R145). -/
@[reducible] def PLN_STATE_TILE_FAIL : Fld := mkFld 14 14 8 8 .ro 0 0
/-- PLN_STATE.HBM_FAIL (R145). -/
@[reducible] def PLN_STATE_HBM_FAIL : Fld := mkFld 14 14 7 1 .ro 0 0
/-- PLN_STATE.COL_FAIL (R145). -/
@[reducible] def PLN_STATE_COL_FAIL : Fld := mkFld 14 14 6 1 .ro 0 0
/-- PLN_STATE.STATE (R145). -/
@[reducible] def PLN_STATE_STATE : Fld := mkFld 14 14 0 3 .ro 0 0
/-- PLN_MERGE_CFG.MISSING (R146). -/
@[reducible] def PLN_MERGE_CFG_MISSING : Fld := mkFld 14 15 0 2 .rw 0 1
/-- PLN_MERGECNT.CONCEALED (R147). -/
@[reducible] def PLN_MERGECNT_CONCEALED : Fld := mkFld 14 16 48 16 .rc 0 0
/-- PLN_MERGECNT.FILLED (R147). -/
@[reducible] def PLN_MERGECNT_FILLED : Fld := mkFld 14 16 32 16 .rc 0 0
/-- PLN_MERGECNT.STALE (R147). -/
@[reducible] def PLN_MERGECNT_STALE : Fld := mkFld 14 16 16 16 .rc 0 0
/-- PLN_MERGECNT.WITHHELD (R147). -/
@[reducible] def PLN_MERGECNT_WITHHELD : Fld := mkFld 14 16 0 16 .rc 0 0
/-- PLN_SKEW.SKEW (R148). -/
@[reducible] def PLN_SKEW_SKEW : Fld := mkFld 14 17 0 32 .ro 2147483648 0
/-- OTL_STAT.RX_MASK (R263). -/
@[reducible] def OTL_STAT_RX_MASK : Fld := mkFld 15 0 20 4 .ro 0 0
/-- OTL_STAT.TX_MASK (R263). -/
@[reducible] def OTL_STAT_TX_MASK : Fld := mkFld 15 0 16 4 .ro 0 0
/-- OTL_STAT.STANDBY (R263). -/
@[reducible] def OTL_STAT_STANDBY : Fld := mkFld 15 0 12 4 .ro 0 0
/-- OTL_STAT.SHED_N (R263). -/
@[reducible] def OTL_STAT_SHED_N : Fld := mkFld 15 0 8 4 .ro 4 0
/-- OTL_STAT.NEW_UNIT (R263). -/
@[reducible] def OTL_STAT_NEW_UNIT : Fld := mkFld 15 0 7 1 .ro 0 0
/-- OTL_STAT.STATE (R263). -/
@[reducible] def OTL_STAT_STATE : Fld := mkFld 15 0 4 3 .ro 0 0
/-- OTL_CNT.UNCORR (R264). -/
@[reducible] def OTL_CNT_UNCORR : Fld := mkFld 15 1 48 16 .rc 0 0
/-- OTL_CNT.SEG_DISC (R264). -/
@[reducible] def OTL_CNT_SEG_DISC : Fld := mkFld 15 1 32 16 .rc 0 0
/-- OTL_CNT.CTL_DISC (R264). -/
@[reducible] def OTL_CNT_CTL_DISC : Fld := mkFld 15 1 16 16 .rc 0 0
/-- OTL_CNT.SWITCHES (R264). -/
@[reducible] def OTL_CNT_SWITCHES : Fld := mkFld 15 1 0 16 .rc 0 0
/-- OTL_DELAY.ONEWAY (R264). -/
@[reducible] def OTL_DELAY_ONEWAY : Fld := mkFld 15 2 0 32 .ro 4294967295 0
/-- OTL_GB.GB_PART (R264). -/
@[reducible] def OTL_GB_GB_PART : Fld := mkFld 15 3 32 32 .ro 0 0
/-- OTL_GB.SLOTS (R264). -/
@[reducible] def OTL_GB_SLOTS : Fld := mkFld 15 3 24 8 .ro 0 0
/-- OTL_GB.IFACE (R264). -/
@[reducible] def OTL_GB_IFACE : Fld := mkFld 15 3 20 4 .ro 0 0
/-- OTL_GB.UNIT_LO (R264). -/
@[reducible] def OTL_GB_UNIT_LO : Fld := mkFld 15 3 0 20 .ro 0 0
/-- HBM_STAT.FAIL_LANE (R398). -/
@[reducible] def HBM_STAT_FAIL_LANE : Fld := mkFld 16 0 8 8 .ro 255 0
/-- HBM_STAT.TRACK_LIMIT (R398). -/
@[reducible] def HBM_STAT_TRACK_LIMIT : Fld := mkFld 16 0 3 1 .ro 0 0
/-- HBM_STAT.STATE (R398). -/
@[reducible] def HBM_STAT_STATE : Fld := mkFld 16 0 0 3 .ro 0 0
/-- HBM_ECC.HOST_UE (R399). -/
@[reducible] def HBM_ECC_HOST_UE : Fld := mkFld 16 1 48 16 .rc 0 0
/-- HBM_ECC.HOST_CE (R399). -/
@[reducible] def HBM_ECC_HOST_CE : Fld := mkFld 16 1 32 16 .rc 0 0
/-- HBM_ECC.SEV_UE (R399). -/
@[reducible] def HBM_ECC_SEV_UE : Fld := mkFld 16 1 20 12 .rc 0 0
/-- HBM_ECC.SEV_CORR (R399). -/
@[reducible] def HBM_ECC_SEV_CORR : Fld := mkFld 16 1 0 20 .rc 0 0
/-- HBM_ECC_ADDR.VALID (R399). -/
@[reducible] def HBM_ECC_ADDR_VALID : Fld := mkFld 16 2 63 1 .rc 0 0
/-- HBM_ECC_ADDR.ADDR (R399). -/
@[reducible] def HBM_ECC_ADDR_ADDR : Fld := mkFld 16 2 6 29 .rc 0 0
/-- HBM_REF.PREEMPT (R400). -/
@[reducible] def HBM_REF_PREEMPT : Fld := mkFld 16 3 32 32 .rc 0 0
/-- HBM_REF.DEBT_MAX (R400). -/
@[reducible] def HBM_REF_DEBT_MAX : Fld := mkFld 16 3 4 4 .rc 0 0
/-- HBM_REF.MULT (R400). -/
@[reducible] def HBM_REF_MULT : Fld := mkFld 16 3 0 4 .ro 1 0
/-- HBM_RTLAT.MAX_NS (R400). -/
@[reducible] def HBM_RTLAT_MAX_NS : Fld := mkFld 16 4 0 32 .rc 0 0
/-- HBM_TRAIN.RD_WIDTH (R401). -/
@[reducible] def HBM_TRAIN_RD_WIDTH : Fld := mkFld 16 5 24 7 .ro 0 0
/-- HBM_TRAIN.RD_CODE (R401). -/
@[reducible] def HBM_TRAIN_RD_CODE : Fld := mkFld 16 5 16 7 .ro 0 0
/-- HBM_TRAIN.WR_WIDTH (R401). -/
@[reducible] def HBM_TRAIN_WR_WIDTH : Fld := mkFld 16 5 8 7 .ro 0 0
/-- HBM_TRAIN.WR_CODE (R401). -/
@[reducible] def HBM_TRAIN_WR_CODE : Fld := mkFld 16 5 0 7 .ro 0 0
/-- HBM_EYE.RD_CODE (R401). -/
@[reducible] def HBM_EYE_RD_CODE : Fld := mkFld 16 6 16 7 .ro 0 0
/-- HBM_EYE.LEFT (R401). -/
@[reducible] def HBM_EYE_LEFT : Fld := mkFld 16 6 8 7 .ro 0 0
/-- HBM_EYE.RIGHT (R401). -/
@[reducible] def HBM_EYE_RIGHT : Fld := mkFld 16 6 0 7 .ro 0 0
/-- AUD_CLIPCNT.COUNT (R216). -/
@[reducible] def AUD_CLIPCNT_COUNT : Fld := mkFld 17 0 0 32 .rc 0 0
/-- AUD_MISSCNT.COUNT (R216). -/
@[reducible] def AUD_MISSCNT_COUNT : Fld := mkFld 17 1 0 32 .rc 0 0
/-- AUD_ASRC.FREE (R216). -/
@[reducible] def AUD_ASRC_FREE : Fld := mkFld 17 2 0 11 .ro 1024 0
/-- AUD_TAPSEL.ENTRY (R217). -/
@[reducible] def AUD_TAPSEL_ENTRY : Fld := mkFld 17 3 0 21 .rw 0 0
/-- AUD_TAPDATA.ENTRY (R217). -/
@[reducible] def AUD_TAPDATA_ENTRY : Fld := mkFld 17 4 0 64 .ro 0 0
/-- AUD_FOLLOW.FADE (R218). -/
@[reducible] def AUD_FOLLOW_FADE : Fld := mkFld 17 5 12 6 .ro 4 0
/-- AUD_FOLLOW.PLANE (R218). -/
@[reducible] def AUD_FOLLOW_PLANE : Fld := mkFld 17 5 11 1 .ro 0 0
/-- AUD_FOLLOW.SOURCE (R218). -/
@[reducible] def AUD_FOLLOW_SOURCE : Fld := mkFld 17 5 0 11 .ro 2047 0
/-- AUD_ORIGIN.PLANE (R219). -/
@[reducible] def AUD_ORIGIN_PLANE : Fld := mkFld 17 6 11 1 .ro 0 0
/-- AUD_ORIGIN.SOURCE (R219). -/
@[reducible] def AUD_ORIGIN_SOURCE : Fld := mkFld 17 6 0 11 .ro 2047 0
/-- AUD_SRCSTAT.ASRC_LOCKED (R220). -/
@[reducible] def AUD_SRCSTAT_ASRC_LOCKED : Fld := mkFld 17 7 7 1 .ro 0 0
/-- AUD_SRCSTAT.ASRC (R220). -/
@[reducible] def AUD_SRCSTAT_ASRC : Fld := mkFld 17 7 6 1 .ro 0 0
/-- AUD_SRCSTAT.NONPCM (R220). -/
@[reducible] def AUD_SRCSTAT_NONPCM : Fld := mkFld 17 7 5 1 .ro 0 0
/-- AUD_SRCSTAT.PAIR (R220). -/
@[reducible] def AUD_SRCSTAT_PAIR : Fld := mkFld 17 7 4 1 .ro 0 0
/-- AUD_SRCSTAT.UNTIMED (R220). -/
@[reducible] def AUD_SRCSTAT_UNTIMED : Fld := mkFld 17 7 3 1 .ro 0 0
/-- AUD_SRCSTAT.MISSING (R220). -/
@[reducible] def AUD_SRCSTAT_MISSING : Fld := mkFld 17 7 2 1 .ro 0 0
/-- AUD_SRCSTAT.V (R220). -/
@[reducible] def AUD_SRCSTAT_V : Fld := mkFld 17 7 1 1 .ro 0 0
/-- AUD_SRCSTAT.PRESENT (R220). -/
@[reducible] def AUD_SRCSTAT_PRESENT : Fld := mkFld 17 7 0 1 .ro 0 0
/-- CMP_STAT.DROPPED (R170). -/
@[reducible] def CMP_STAT_DROPPED : Fld := mkFld 18 0 24 8 .ro 0 0
/-- CMP_STAT.DEGRADED (R170). -/
@[reducible] def CMP_STAT_DEGRADED : Fld := mkFld 18 0 16 8 .ro 0 0
/-- CMP_STAT.ENABLED (R170). -/
@[reducible] def CMP_STAT_ENABLED : Fld := mkFld 18 0 8 8 .ro 0 0
/-- CMP_STAT.SHED (R170). -/
@[reducible] def CMP_STAT_SHED : Fld := mkFld 18 0 2 1 .ro 0 0
/-- CMP_STAT.RUN (R170). -/
@[reducible] def CMP_STAT_RUN : Fld := mkFld 18 0 1 1 .ro 0 0
/-- CMP_STAT.CONFIGURED (R170). -/
@[reducible] def CMP_STAT_CONFIGURED : Fld := mkFld 18 0 0 1 .ro 0 0
/-- CMP_TAPS.TAPS (R171). -/
@[reducible] def CMP_TAPS_TAPS : Fld := mkFld 18 1 0 32 .ro 0 0
/-- CMP_LMEM.VALIDATED (R171). -/
@[reducible] def CMP_LMEM_VALIDATED : Fld := mkFld 18 2 16 9 .ro 0 0
/-- CMP_LMEM.IN_USE (R171). -/
@[reducible] def CMP_LMEM_IN_USE : Fld := mkFld 18 2 0 9 .ro 0 0
/-- CMP_ENC.ENC (R191). -/
@[reducible] def CMP_ENC_ENC : Fld := mkFld 18 3 0 64 .ro 0 0
/-- GEN_STAT.STILL_ID (R172). -/
@[reducible] def GEN_STAT_STILL_ID : Fld := mkFld 18 4 16 10 .ro 0 0
/-- GEN_STAT.FORMAT (R172). -/
@[reducible] def GEN_STAT_FORMAT : Fld := mkFld 18 4 8 8 .ro 0 0
/-- GEN_STAT.SAMPLING (R172). -/
@[reducible] def GEN_STAT_SAMPLING : Fld := mkFld 18 4 4 4 .ro 0 0
/-- GEN_STAT.PATTERN (R172). -/
@[reducible] def GEN_STAT_PATTERN : Fld := mkFld 18 4 0 4 .ro 0 0
/-- CMP_STILL.COUNT (R172). -/
@[reducible] def CMP_STILL_COUNT : Fld := mkFld 18 5 16 11 .ro 0 0
/-- CMP_STILL.FREE (R172). -/
@[reducible] def CMP_STILL_FREE : Fld := mkFld 18 5 0 16 .ro 32768 0
/-- MAC_PORTCFG.CFG_ERR (R310). -/
@[reducible] def MAC_PORTCFG_CFG_ERR : Fld := mkFld 19 0 31 1 .ro 0 0
/-- MAC_PORTCFG.MEDIUM (R310). -/
@[reducible] def MAC_PORTCFG_MEDIUM : Fld := mkFld 19 0 24 2 .rw 2 1
/-- MAC_PORTCFG.MAX_FRAME (R310). -/
@[reducible] def MAC_PORTCFG_MAX_FRAME : Fld := mkFld 19 0 6 14 .rw 1522 1
/-- MAC_PORTCFG.AN (R310). -/
@[reducible] def MAC_PORTCFG_AN : Fld := mkFld 19 0 5 1 .rw 1 1
/-- MAC_PORTCFG.MODE (R310). -/
@[reducible] def MAC_PORTCFG_MODE : Fld := mkFld 19 0 0 2 .rw 0 1
/-- MAC_PORTSTAT.AN_ACT (R310). -/
@[reducible] def MAC_PORTSTAT_AN_ACT : Fld := mkFld 19 1 4 1 .ro 1 0
/-- MAC_PORTSTAT.MEDIUM_ACT (R310). -/
@[reducible] def MAC_PORTSTAT_MEDIUM_ACT : Fld := mkFld 19 1 2 2 .ro 2 0
/-- MAC_PORTSTAT.MODE_ACT (R310). -/
@[reducible] def MAC_PORTSTAT_MODE_ACT : Fld := mkFld 19 1 0 2 .ro 0 0
/-- MAC_INSTCFG.IPV4 (R311). -/
@[reducible] def MAC_INSTCFG_IPV4 : Fld := mkFld 19 2 32 32 .ro 0 1
/-- MAC_INSTCFG.VLAN (R311). -/
@[reducible] def MAC_INSTCFG_VLAN : Fld := mkFld 19 2 20 12 .ro 0 1
/-- MAC_INSTCFG.IGMP_EN (R311). -/
@[reducible] def MAC_INSTCFG_IGMP_EN : Fld := mkFld 19 2 4 1 .ro 1 1
/-- MAC_INSTCFG.CAPTURE_UNMATCHED (R311). -/
@[reducible] def MAC_INSTCFG_CAPTURE_UNMATCHED : Fld := mkFld 19 2 3 1 .ro 0 1
/-- MAC_INSTCFG.DELIVER_BAD (R311). -/
@[reducible] def MAC_INSTCFG_DELIVER_BAD : Fld := mkFld 19 2 2 1 .ro 0 1
/-- MAC_INSTCFG.PASS_ALL_GROUPS (R311). -/
@[reducible] def MAC_INSTCFG_PASS_ALL_GROUPS : Fld := mkFld 19 2 1 1 .ro 0 1
/-- MAC_INSTCFG.PROMISC (R311). -/
@[reducible] def MAC_INSTCFG_PROMISC : Fld := mkFld 19 2 0 1 .ro 0 1
/-- MAC_INSTADDR.MAC (R311). -/
@[reducible] def MAC_INSTADDR_MAC : Fld := mkFld 19 3 0 48 .ro 0 1
/-- MAC_CLS.USED (R312). -/
@[reducible] def MAC_CLS_USED : Fld := mkFld 19 4 0 13 .ro 0 0
/-- MAC_PMF.EN (R311). -/
@[reducible] def MAC_PMF_EN : Fld := mkFld 19 5 48 1 .ro 0 1
/-- MAC_PMF.ADDR (R311). -/
@[reducible] def MAC_PMF_ADDR : Fld := mkFld 19 5 0 48 .ro 0 1
/-- MAC_CAPQ_BASE.BASE (R312). -/
@[reducible] def MAC_CAPQ_BASE_BASE : Fld := mkFld 19 6 12 52 .rw 0 0
/-- MAC_CAPQ_CFG.EN (R312). -/
@[reducible] def MAC_CAPQ_CFG_EN : Fld := mkFld 19 7 31 1 .rw 0 0
/-- MAC_CAPQ_CFG.CAP_VEC (R312). -/
@[reducible] def MAC_CAPQ_CFG_CAP_VEC : Fld := mkFld 19 7 9 6 .rw 0 0
/-- MAC_CAPQ_CFG.HIF (R312). -/
@[reducible] def MAC_CAPQ_CFG_HIF : Fld := mkFld 19 7 8 1 .rw 0 0
/-- MAC_CAPQ_CFG.LOG2_SIZE (R312). -/
@[reducible] def MAC_CAPQ_CFG_LOG2_SIZE : Fld := mkFld 19 7 0 5 .rw 6 0
/-- MAC_CAPQ_PROD.PROD (R312). -/
@[reducible] def MAC_CAPQ_PROD_PROD : Fld := mkFld 19 8 0 32 .ro 0 0
/-- MAC_CAPQ_CONS.CONS (R312). -/
@[reducible] def MAC_CAPQ_CONS_CONS : Fld := mkFld 19 9 0 32 .rw 0 0
/-- MAC_STAT.COUNT (R313). -/
@[reducible] def MAC_STAT_COUNT : Fld := mkFld 19 10 0 64 .rc 0 0
/-- MAC_SNAP.COUNT (R313). -/
@[reducible] def MAC_SNAP_COUNT : Fld := mkFld 19 11 0 64 .ro 0 0
/-- FLOW_CNT.OVERRATE (R314). -/
@[reducible] def FLOW_CNT_OVERRATE : Fld := mkFld 19 12 63 1 .rc 0 0
/-- FLOW_CNT.LATE (R314). -/
@[reducible] def FLOW_CNT_LATE : Fld := mkFld 19 12 48 15 .rc 0 0
/-- FLOW_CNT.SEQ_GAP (R314). -/
@[reducible] def FLOW_CNT_SEQ_GAP : Fld := mkFld 19 12 32 16 .rc 0 0
/-- FLOW_CNT.PACKETS (R314). -/
@[reducible] def FLOW_CNT_PACKETS : Fld := mkFld 19 12 0 32 .rc 0 0
/-- FLOW_SNAP.VALUE (R314). -/
@[reducible] def FLOW_SNAP_VALUE : Fld := mkFld 19 13 0 64 .ro 0 0
/-- LANE_CFG.FOM_WARN (R284). -/
@[reducible] def LANE_CFG_FOM_WARN : Fld := mkFld 20 0 24 8 .rw 64 1
/-- LANE_CFG.FOM_MIN (R284). -/
@[reducible] def LANE_CFG_FOM_MIN : Fld := mkFld 20 0 16 8 .rw 72 1
/-- LANE_CFG.TX_SWING (R284). -/
@[reducible] def LANE_CFG_TX_SWING : Fld := mkFld 20 0 8 3 .rw 4 1
/-- LANE_CFG.TX_LOCAL (R284). -/
@[reducible] def LANE_CFG_TX_LOCAL : Fld := mkFld 20 0 7 1 .rw 0 1
/-- LANE_CFG.TX_INV (R284). -/
@[reducible] def LANE_CFG_TX_INV : Fld := mkFld 20 0 6 1 .rw 0 1
/-- LANE_CFG.RX_POL (R284). -/
@[reducible] def LANE_CFG_RX_POL : Fld := mkFld 20 0 4 2 .rw 0 1
/-- LANE_CFG.PRECODE_RX (R284). -/
@[reducible] def LANE_CFG_PRECODE_RX : Fld := mkFld 20 0 0 2 .rw 0 1
/-- LANE_TXFIR.C0 (R285). -/
@[reducible] def LANE_TXFIR_C0 : Fld := mkFld 20 1 32 8 .ro 48 0
/-- LANE_TXFIR.CP1 (R285). -/
@[reducible] def LANE_TXFIR_CP1 : Fld := mkFld 20 1 24 8 .rw 252 1
/-- LANE_TXFIR.CM1 (R285). -/
@[reducible] def LANE_TXFIR_CM1 : Fld := mkFld 20 1 16 8 .rw 246 1
/-- LANE_TXFIR.CM2 (R285). -/
@[reducible] def LANE_TXFIR_CM2 : Fld := mkFld 20 1 8 8 .rw 2 1
/-- LANE_TXFIR.CM3 (R285). -/
@[reducible] def LANE_TXFIR_CM3 : Fld := mkFld 20 1 0 8 .rw 0 1
/-- LANE_RXEQ.CTLE_FORCE (R286). -/
@[reducible] def LANE_RXEQ_CTLE_FORCE : Fld := mkFld 20 2 15 1 .rw 0 1
/-- LANE_RXEQ.CTLE_SET (R286). -/
@[reducible] def LANE_RXEQ_CTLE_SET : Fld := mkFld 20 2 8 6 .rw 20 1
/-- LANE_RXEQ.CTLE (R286). -/
@[reducible] def LANE_RXEQ_CTLE : Fld := mkFld 20 2 0 6 .ro 0 0
/-- LANE_STAT.ERR (R287). -/
@[reducible] def LANE_STAT_ERR : Fld := mkFld 20 3 12 4 .ro 0 0
/-- LANE_STAT.LOW_FOM (R287). -/
@[reducible] def LANE_STAT_LOW_FOM : Fld := mkFld 20 3 11 1 .ro 0 0
/-- LANE_STAT.REVERSED (R287). -/
@[reducible] def LANE_STAT_REVERSED : Fld := mkFld 20 3 10 1 .ro 0 0
/-- LANE_STAT.LOGICAL (R287). -/
@[reducible] def LANE_STAT_LOGICAL : Fld := mkFld 20 3 8 2 .ro 0 0
/-- LANE_STAT.POL_INV (R287). -/
@[reducible] def LANE_STAT_POL_INV : Fld := mkFld 20 3 7 1 .ro 0 0
/-- LANE_STAT.PRECODE_TX (R287). -/
@[reducible] def LANE_STAT_PRECODE_TX : Fld := mkFld 20 3 6 1 .ro 0 0
/-- LANE_STAT.PRECODE_RX (R287). -/
@[reducible] def LANE_STAT_PRECODE_RX : Fld := mkFld 20 3 5 1 .ro 0 0
/-- LANE_STAT.STAGE (R287). -/
@[reducible] def LANE_STAT_STAGE : Fld := mkFld 20 3 0 4 .ro 8 0
/-- LANE_FOM.BASE (R288). -/
@[reducible] def LANE_FOM_BASE : Fld := mkFld 20 4 24 8 .ro 0 1
/-- LANE_FOM.MEAN (R288). -/
@[reducible] def LANE_FOM_MEAN : Fld := mkFld 20 4 16 8 .ro 0 0
/-- LANE_FOM.MIN (R288). -/
@[reducible] def LANE_FOM_MIN : Fld := mkFld 20 4 8 8 .rc 255 0
/-- LANE_FOM.CUR (R288). -/
@[reducible] def LANE_FOM_CUR : Fld := mkFld 20 4 0 8 .ro 0 0
/-- LANE_FFE_SEL.TAP (R289). -/
@[reducible] def LANE_FFE_SEL_TAP : Fld := mkFld 20 5 0 5 .rw 4 0
/-- LANE_FFE_DATA.COEF (R289). -/
@[reducible] def LANE_FFE_DATA_COEF : Fld := mkFld 20 6 0 10 .ro 0 0
/-- LANE_CNT.CORR (R289). -/
@[reducible] def LANE_CNT_CORR : Fld := mkFld 20 7 32 32 .rc 0 0
/-- LANE_CNT.UNCORR (R289). -/
@[reducible] def LANE_CNT_UNCORR : Fld := mkFld 20 7 16 16 .rc 0 0
/-- LANE_CNT.BRINGUPS (R289). -/
@[reducible] def LANE_CNT_BRINGUPS : Fld := mkFld 20 7 0 16 .rc 0 0

end F

/-- The registers of block SYS. -/
def regsSys : List RegDef := [
  ⟨"SYS_ID", 0, 0x0, 1, 0, 1, 0, 32,
    [F.SYS_ID_PART, F.SYS_ID_FAMILY]⟩,
  ⟨"SYS_REV", 0, 0x4, 1, 0, 1, 0, 32,
    [F.SYS_REV_STEP, F.SYS_REV_METAL]⟩,
  ⟨"SYS_UID", 0, 0x10, 4, 4, 1, 0, 32,
    [F.SYS_UID_UID]⟩,
  ⟨"SYS_STATE", 0, 0x20, 1, 0, 1, 0, 32,
    [F.SYS_STATE_DEGRADED, F.SYS_STATE_STATE]⟩]

/-- The registers of block RST. -/
def regsRst : List RegDef := [
  ⟨"RST_CAUSE", 1, 0x0, 1, 0, 1, 0, 32,
    [F.RST_CAUSE_LAST_REACH, F.RST_CAUSE_THERMAL, F.RST_CAUSE_FUSE_PARITY, F.RST_CAUSE_FLT_COLD, F.RST_CAUSE_FLT_WARM, F.RST_CAUSE_WDOG_WARM, F.RST_CAUSE_SW_COLD, F.RST_CAUSE_SW_WARM, F.RST_CAUSE_RESET_N, F.RST_CAUSE_PWRGOOD, F.RST_CAUSE_POR]⟩,
  ⟨"RST_SW", 1, 0x8, 1, 0, 1, 0, 32,
    [F.RST_SW_KEY, F.RST_SW_OP, F.RST_SW_REACH, F.RST_SW_INDEX]⟩,
  ⟨"RST_STAT", 1, 0x10, 1, 0, 1, 0, 64,
    [F.RST_STAT_HIF_HELD, F.RST_STAT_PLANE_HELD, F.RST_STAT_TILE_HELD, F.RST_STAT_WDOG_EVENTS, F.RST_STAT_SW_ERR, F.RST_STAT_CLK_WAIT, F.RST_STAT_IN_RESET]⟩,
  ⟨"RST_STRAP", 1, 0x18, 1, 0, 1, 0, 32,
    [F.RST_STRAP_TEST_N, F.RST_STRAP_PAIR_ID, F.RST_STRAP_CLK_MODE, F.RST_STRAP_BOOT_SRC]⟩]

/-- The registers of block FLT. -/
def regsFlt : List RegDef := [
  ⟨"FLT_STATUS", 2, 0x0, 1, 0, 1, 0, 64,
    [F.FLT_STATUS_BITS]⟩,
  ⟨"FLT_FIRST", 2, 0x8, 1, 0, 1, 0, 32,
    [F.FLT_FIRST_VALID, F.FLT_FIRST_FATAL, F.FLT_FIRST_CAUSE]⟩,
  ⟨"FLT_FIRST_TIME", 2, 0x10, 1, 0, 1, 0, 64,
    [F.FLT_FIRST_TIME_TIME]⟩,
  ⟨"FLT_OVF", 2, 0x18, 1, 0, 1, 0, 64,
    [F.FLT_OVF_OVF]⟩,
  ⟨"FLT_CLRFAIL", 2, 0x20, 1, 0, 1, 0, 64,
    [F.FLT_CLRFAIL_PERSIST]⟩,
  ⟨"FLT_MODE", 2, 0x28, 1, 0, 1, 0, 32,
    [F.FLT_MODE_WINDOW_S, F.FLT_MODE_MODE]⟩,
  ⟨"FLT_FIRST_SUB", 2, 0x2C, 1, 0, 1, 0, 32,
    [F.FLT_FIRST_SUB_BIT, F.FLT_FIRST_SUB_SUB]⟩,
  ⟨"FLT_CTRL", 2, 0x30, 1, 0, 1, 0, 32,
    [F.FLT_CTRL_LOG_LOST, F.FLT_CTRL_WR_ERR]⟩,
  ⟨"FLT_HISTORY", 2, 0x100, 32, 16, 1, 0, 128,
    [F.FLT_HISTORY_TIME, F.FLT_HISTORY_SUB, F.FLT_HISTORY_CAUSE, F.FLT_HISTORY_FATAL, F.FLT_HISTORY_BIT]⟩,
  ⟨"FLT_HIST_PTR", 2, 0x300, 1, 0, 1, 0, 32,
    [F.FLT_HIST_PTR_TOTAL, F.FLT_HIST_PTR_NEXT]⟩,
  ⟨"FLT_REACT", 2, 0x400, 48, 4, 1, 0, 32,
    [F.FLT_REACT_ACTION, F.FLT_REACT_FAULT_N, F.FLT_REACT_IRQ]⟩,
  ⟨"FLT_CAUSE", 2, 0x500, 48, 4, 1, 0, 32,
    [F.FLT_CAUSE_COUNT, F.FLT_CAUSE_FATAL, F.FLT_CAUSE_CAUSE, F.FLT_CAUSE_SUB]⟩]

/-- The registers of block BELAY. -/
def regsBelay : List RegDef := [
  ⟨"BELAY_STAT", 3, 0x0, 1, 0, 1, 0, 32,
    [F.BELAY_STAT_MISSES, F.BELAY_STAT_ACTIVE_PP, F.BELAY_STAT_PP1_STATE, F.BELAY_STAT_PP0_STATE]⟩,
  ⟨"BELAY_EPOCH", 3, 0x4, 1, 0, 1, 0, 32,
    [F.BELAY_EPOCH_EPOCH]⟩,
  ⟨"BELAY_FAILOVERS", 3, 0x8, 1, 0, 1, 0, 32,
    [F.BELAY_FAILOVERS_COUNT]⟩,
  ⟨"BELAY_HB", 3, 0x10, 1, 0, 1, 0, 32,
    [F.BELAY_HB_HB]⟩]

/-- The registers of block HIF. -/
def regsHif : List RegDef := [
  ⟨"HIF_STAT", 4, 0x0, 1, 0, 1, 0, 32,
    [F.HIF_STAT_ADOPTED, F.HIF_STAT_WIDTH, F.HIF_STAT_SPEED, F.HIF_STAT_STATE]⟩,
  ⟨"HIF_WB_BASE", 4, 0x8, 1, 0, 1, 0, 64,
    [F.HIF_WB_BASE_BASE]⟩,
  ⟨"HIF_EVT_BASE", 4, 0x10, 1, 0, 1, 0, 64,
    [F.HIF_EVT_BASE_BASE]⟩,
  ⟨"HIF_EVT_CFG", 4, 0x18, 1, 0, 1, 0, 32,
    [F.HIF_EVT_CFG_MIN_US, F.HIF_EVT_CFG_VEC, F.HIF_EVT_CFG_EN, F.HIF_EVT_CFG_LOG2_SIZE]⟩,
  ⟨"HIF_EVT_MASK", 4, 0x1C, 1, 0, 1, 0, 32,
    [F.HIF_EVT_MASK_MASK]⟩,
  ⟨"HIF_EVT_STAT", 4, 0x20, 1, 0, 1, 0, 64,
    [F.HIF_EVT_STAT_LOST, F.HIF_EVT_STAT_CFG_ERR, F.HIF_EVT_STAT_CONS, F.HIF_EVT_STAT_PROD]⟩,
  ⟨"HIF_ERRCNT", 4, 0x30, 1, 0, 1, 0, 64,
    [F.HIF_ERRCNT_DECODE, F.HIF_ERRCNT_DB_RANGE, F.HIF_ERRCNT_DB_IGNORED, F.HIF_ERRCNT_DMA]⟩,
  ⟨"CRING_BASE", 4, 0x1000, 16, 64, 1, 0, 64,
    [F.CRING_BASE_BASE]⟩,
  ⟨"CRING_CFG", 4, 0x1008, 16, 64, 1, 0, 32,
    [F.CRING_CFG_RESUME, F.CRING_CFG_WEIGHT, F.CRING_CFG_EN, F.CRING_CFG_LOG2_SIZE]⟩,
  ⟨"CRING_STAT", 4, 0x100C, 16, 64, 1, 0, 32,
    [F.CRING_STAT_CFG_ERR, F.CRING_STAT_STOP_CAUSE, F.CRING_STAT_STATE]⟩,
  ⟨"CRING_CONS", 4, 0x1010, 16, 64, 1, 0, 32,
    [F.CRING_CONS_CONS]⟩,
  ⟨"CRING_PROD", 4, 0x1014, 16, 64, 1, 0, 32,
    [F.CRING_PROD_PROD]⟩,
  ⟨"CRING_LASTID", 4, 0x1018, 16, 64, 1, 0, 64,
    [F.CRING_LASTID_LASTID]⟩,
  ⟨"CPL_BASE", 4, 0x1020, 16, 64, 1, 0, 64,
    [F.CPL_BASE_BASE]⟩,
  ⟨"CPL_CFG", 4, 0x1028, 16, 64, 1, 0, 32,
    [F.CPL_CFG_COAL_US, F.CPL_CFG_COAL_N, F.CPL_CFG_VEC, F.CPL_CFG_LOG2_SIZE]⟩,
  ⟨"CPL_STAT", 4, 0x102C, 16, 64, 1, 0, 32,
    [F.CPL_STAT_BACKLOG]⟩,
  ⟨"CPL_PROD", 4, 0x1030, 16, 64, 1, 0, 32,
    [F.CPL_PROD_PROD]⟩,
  ⟨"CPL_CONS", 4, 0x1034, 16, 64, 1, 0, 32,
    [F.CPL_CONS_CONS]⟩]

/-- The registers of block JRN. -/
def regsJrn : List RegDef := [
  ⟨"JRN_HEAD", 5, 0x0, 1, 0, 1, 0, 64,
    [F.JRN_HEAD_HEAD_JSN]⟩,
  ⟨"JRN_DURABLE", 5, 0x8, 1, 0, 1, 0, 64,
    [F.JRN_DURABLE_DURABLE_JSN]⟩,
  ⟨"JRN_CKPT", 5, 0x10, 1, 0, 1, 0, 64,
    [F.JRN_CKPT_SEQ]⟩,
  ⟨"JRN_CKPT_JSN", 5, 0x18, 1, 0, 1, 0, 64,
    [F.JRN_CKPT_JSN_JSN]⟩,
  ⟨"JRN_STAT", 5, 0x20, 1, 0, 1, 0, 32,
    [F.JRN_STAT_REPLAY, F.JRN_STAT_PAYLOAD_PEND, F.JRN_STAT_PEER, F.JRN_STAT_FL1, F.JRN_STAT_FL0, F.JRN_STAT_HBM1, F.JRN_STAT_HBM0, F.JRN_STAT_FULL]⟩,
  ⟨"JRN_FENCE", 5, 0x28, 1, 0, 1, 0, 64,
    [F.JRN_FENCE_LIVE, F.JRN_FENCE_REPLAY]⟩]

/-- The registers of block SEC. -/
def regsSec : List RegDef := [
  ⟨"SEC_FW_STAT", 6, 0x0, 1, 0, 1, 0, 32,
    [F.SEC_FW_STAT_WINDOW_S, F.SEC_FW_STAT_BASECAMP, F.SEC_FW_STAT_UPDATE, F.SEC_FW_STAT_STAGED_SLOT, F.SEC_FW_STAT_RUNNING]⟩,
  ⟨"SEC_FW_VER", 6, 0x8, 1, 0, 1, 0, 64,
    [F.SEC_FW_VER_VERSION]⟩,
  ⟨"SEC_FW_TGT", 6, 0x10, 1, 0, 1, 0, 64,
    [F.SEC_FW_TGT_TARGET]⟩,
  ⟨"SEC_KEYSTAT", 6, 0x18, 1, 0, 1, 0, 32,
    [F.SEC_KEYSTAT_RUN_SVN, F.SEC_KEYSTAT_SVN, F.SEC_KEYSTAT_OWNER_ONLY, F.SEC_KEYSTAT_OWNER_SET]⟩,
  ⟨"SEC_ENTROPY", 6, 0x20, 1, 0, 1, 0, 32,
    [F.SEC_ENTROPY_FAILS, F.SEC_ENTROPY_FAIL]⟩,
  ⟨"SEC_IDKEY", 6, 0x40, 8, 8, 1, 0, 64,
    [F.SEC_IDKEY_KEY]⟩]

/-- The registers of block FLS. -/
def regsFls : List RegDef := [
  ⟨"FLS_STAT", 7, 0x0, 1, 0, 1, 0, 32,
    [F.FLS_STAT_TARGETS, F.FLS_STAT_LUNS, F.FLS_STAT_PROFILE, F.FLS_STAT_SENSOR, F.FLS_STAT_SCRUB, F.FLS_STAT_STATE]⟩,
  ⟨"FLS_BLOCKS", 7, 0x8, 1, 0, 1, 0, 64,
    [F.FLS_BLOCKS_SPARE_INIT, F.FLS_BLOCKS_SPARE_NOW, F.FLS_BLOCKS_GROWN_BAD, F.FLS_BLOCKS_FACTORY_BAD]⟩,
  ⟨"FLS_WEAR", 7, 0x10, 1, 0, 1, 0, 64,
    [F.FLS_WEAR_PSLC_MAX, F.FLS_WEAR_PSLC_MIN, F.FLS_WEAR_TLC_MAX, F.FLS_WEAR_TLC_MIN]⟩,
  ⟨"FLS_ECC", 7, 0x18, 1, 0, 1, 0, 64,
    [F.FLS_ECC_UNCORR, F.FLS_ECC_SOFT, F.FLS_ECC_RETRY, F.FLS_ECC_RELOC]⟩,
  ⟨"FLS_SCRUB", 7, 0x20, 1, 0, 1, 0, 64,
    [F.FLS_SCRUB_LAST, F.FLS_SCRUB_AGE, F.FLS_SCRUB_TEMP]⟩]

/-- The registers of block DPLL. -/
def regsDpll : List RegDef := [
  ⟨"DPLL_STATUS", 8, 0x0, 1, 0, 1, 0, 32,
    [F.DPLL_STATUS_BW_CAPPED, F.DPLL_STATUS_BW, F.DPLL_STATUS_SELECTED, F.DPLL_STATUS_SLEWING, F.DPLL_STATUS_HISTORY_SHORT, F.DPLL_STATUS_TOD_VALID, F.DPLL_STATUS_TRANSFER, F.DPLL_STATUS_MODE]⟩,
  ⟨"DPLL_REFSTAT", 8, 0x100, 8, 8, 1, 0, 64,
    [F.DPLL_REFSTAT_OFFSET, F.DPLL_REFSTAT_REF_ID, F.DPLL_REFSTAT_TIME_BEARING, F.DPLL_REFSTAT_SELECTED, F.DPLL_REFSTAT_WTR, F.DPLL_REFSTAT_STATE]⟩,
  ⟨"DPLL_HFN", 8, 0x8, 1, 0, 1, 0, 64,
    [F.DPLL_HFN_HFN]⟩,
  ⟨"DPLL_TIME", 8, 0x10, 1, 0, 1, 0, 64,
    [F.DPLL_TIME_SEC, F.DPLL_TIME_NS]⟩,
  ⟨"DPLL_SECHI", 8, 0x18, 1, 0, 1, 0, 64,
    [F.DPLL_SECHI_SEC_HI]⟩,
  ⟨"DPLL_BUILDOUT", 8, 0x20, 1, 0, 1, 0, 64,
    [F.DPLL_BUILDOUT_BUILDOUT]⟩,
  ⟨"DPLL_NCO", 8, 0x28, 1, 0, 1, 0, 64,
    [F.DPLL_NCO_NCO]⟩]

/-- The registers of block TDM. -/
def regsTdm : List RegDef := [
  ⟨"TDM_CFG", 9, 0x0, 16, 256, 1, 0, 64,
    [F.TDM_CFG_STEER_CH, F.TDM_CFG_STEER_BW, F.TDM_CFG_SDO_IDLE, F.TDM_CFG_EDGE, F.TDM_CFG_FS_POL, F.TDM_CFG_FS_WIDTH, F.TDM_CFG_FRAME_BCLK, F.TDM_CFG_OFFSET, F.TDM_CFG_WIDTH, F.TDM_CFG_SLOTS, F.TDM_CFG_CLOCK, F.TDM_CFG_RATE, F.TDM_CFG_PLANE, F.TDM_CFG_ENABLE]⟩,
  ⟨"TDM_STAT", 9, 0x8, 16, 256, 1, 0, 32,
    [F.TDM_STAT_VIDEO_DEST, F.TDM_STAT_STEER_LIMIT, F.TDM_STAT_NO_STEER_SRC, F.TDM_STAT_PLANE_ACT, F.TDM_STAT_SILENT, F.TDM_STAT_STATE]⟩,
  ⟨"TDM_MASK", 9, 0x10, 16, 256, 1, 0, 64,
    [F.TDM_MASK_RX_PEND, F.TDM_MASK_TX_PEND]⟩,
  ⟨"TDM_MASK_ACT", 9, 0x18, 16, 256, 1, 0, 64,
    [F.TDM_MASK_ACT_RX_ACT, F.TDM_MASK_ACT_TX_ACT]⟩,
  ⟨"TDM_STEER", 9, 0x20, 16, 256, 1, 0, 64,
    [F.TDM_STEER_OFFSET, F.TDM_STEER_FILL]⟩,
  ⟨"TDM_ERRCNT", 9, 0x28, 16, 256, 1, 0, 64,
    [F.TDM_ERRCNT_SLIP, F.TDM_ERRCNT_PARITY, F.TDM_ERRCNT_CRCC]⟩]

/-- The registers of block PEER. -/
def regsPeer : List RegDef := [
  ⟨"PAIR_STAT", 10, 0x0, 1, 0, 1, 0, 32,
    [F.PAIR_STAT_CONFIG, F.PAIR_STAT_PAIR_ID, F.PAIR_STAT_PEER_UP, F.PAIR_STAT_ACTIVE_SEL, F.PAIR_STAT_ROLE]⟩,
  ⟨"PAIR_LAG", 10, 0x8, 1, 0, 1, 0, 64,
    [F.PAIR_LAG_LAG]⟩]

/-- The registers of block MTX. -/
def regsMtx : List RegDef := [
  ⟨"MTX_CTRL", 11, 0x0, 1, 0, 1, 0, 32,
    [F.MTX_CTRL_LOCK, F.MTX_CTRL_AGE, F.MTX_CTRL_REMAP_HIF1, F.MTX_CTRL_REMAP_HIF0, F.MTX_CTRL_REMAP_PP1, F.MTX_CTRL_REMAP_PP0]⟩,
  ⟨"MTX_QOS", 11, 0x4, 1, 0, 1, 0, 32,
    [F.MTX_QOS_BELAY, F.MTX_QOS_FLS, F.MTX_QOS_SEC, F.MTX_QOS_JRN, F.MTX_QOS_HIF1, F.MTX_QOS_HIF0, F.MTX_QOS_PP1, F.MTX_QOS_PP0]⟩,
  ⟨"MTX_WIN_BASE", 11, 0x100, 3, 128, 8, 16, 64,
    [F.MTX_WIN_BASE_BASE, F.MTX_WIN_BASE_W, F.MTX_WIN_BASE_R]⟩,
  ⟨"MTX_WIN_LIM", 11, 0x108, 3, 128, 8, 16, 64,
    [F.MTX_WIN_LIM_LAST]⟩,
  ⟨"MTX_ERR_INFO", 11, 0x10, 1, 0, 1, 0, 32,
    [F.MTX_ERR_INFO_VALID, F.MTX_ERR_INFO_KIND, F.MTX_ERR_INFO_WRITE, F.MTX_ERR_INFO_MASTER]⟩,
  ⟨"MTX_ERR_ADDR", 11, 0x18, 1, 0, 1, 0, 64,
    [F.MTX_ERR_ADDR_ADDR]⟩,
  ⟨"MTX_ERRCNT", 11, 0x20, 1, 0, 1, 0, 32,
    [F.MTX_ERRCNT_COUNT]⟩,
  ⟨"MTX_STAT", 11, 0x24, 1, 0, 1, 0, 32,
    [F.MTX_STAT_LOCK_ERR]⟩]

/-- The registers of block AGE. -/
def regsAge : List RegDef := [
  ⟨"AGE_CFG", 12, 0x0, 1, 0, 1, 0, 32,
    [F.AGE_CFG_WARN, F.AGE_CFG_HOUR, F.AGE_CFG_AUTO_REPLAN, F.AGE_CFG_PERIOD_D]⟩,
  ⟨"AGE_STAT", 12, 0x8, 1, 0, 1, 0, 64,
    [F.AGE_STAT_LAST, F.AGE_STAT_SEQ, F.AGE_STAT_AVS_MV, F.AGE_STAT_RUNNING]⟩,
  ⟨"AGE_ITEM", 12, 0x100, 16, 8, 1, 0, 64,
    [F.AGE_ITEM_MEASURED, F.AGE_ITEM_SKIPPED, F.AGE_ITEM_STALE, F.AGE_ITEM_AT_LIMIT, F.AGE_ITEM_STEPPED, F.AGE_ITEM_UNIT, F.AGE_ITEM_MARGIN]⟩]

/-- The registers of block FUSE. -/
def regsFuse : List RegDef := [
  ⟨"FUSE_STAT", 13, 0x0, 1, 0, 1, 0, 32,
    [F.FUSE_STAT_RESETN_COLD, F.FUSE_STAT_FAILS, F.FUSE_STAT_VALID]⟩,
  ⟨"FUSE_PINMAP", 13, 0x100, 64, 4, 1, 0, 32,
    [F.FUSE_PINMAP_PINS]⟩]

/-- The registers of block PLN. -/
def regsPln : List RegDef := [
  ⟨"PLN_SRCSTAT", 14, 0x10000, 1600, 4, 1, 0, 32,
    [F.PLN_SRCSTAT_LINK, F.PLN_SRCSTAT_FRAC, F.PLN_SRCSTAT_IFACE, F.PLN_SRCSTAT_FORMAT, F.PLN_SRCSTAT_DS, F.PLN_SRCSTAT_RATE_MISMATCH, F.PLN_SRCSTAT_MISTIMED, F.PLN_SRCSTAT_KIND]⟩,
  ⟨"PLN_SRCPOS", 14, 0x20000, 1600, 4, 1, 0, 32,
    [F.PLN_SRCPOS_OFFSET]⟩,
  ⟨"PLN_DSTSTAT", 14, 0x30000, 1792, 4, 1, 0, 32,
    [F.PLN_DSTSTAT_TEAM, F.PLN_DSTSTAT_IN_TEAM, F.PLN_DSTSTAT_CAUSE, F.PLN_DSTSTAT_PENDING, F.PLN_DSTSTAT_CONCEALING, F.PLN_DSTSTAT_HELD]⟩,
  ⟨"PLN_ROUTE", 14, 0x40000, 1792, 16, 1, 0, 128,
    [F.PLN_ROUTE_JSN, F.PLN_ROUTE_PROT, F.PLN_ROUTE_OWNER, F.PLN_ROUTE_FB_SOURCE, F.PLN_ROUTE_FB_KIND, F.PLN_ROUTE_SOURCE]⟩,
  ⟨"PLN_ROUTE_CE", 14, 0x47000, 1, 0, 1, 0, 32,
    [F.PLN_ROUTE_CE_COUNT]⟩,
  ⟨"PLN_BAND", 14, 0x50000, 1, 0, 1, 0, 32,
    [F.PLN_BAND_TEMP, F.PLN_BAND_COMP_RUN, F.PLN_BAND_ADMIT, F.PLN_BAND_BAND]⟩,
  ⟨"PLN_BUDGET", 14, 0x50010, 5, 4, 1, 0, 32,
    [F.PLN_BUDGET_BW]⟩,
  ⟨"PLN_LOAD_TOTAL", 14, 0x50030, 1, 0, 1, 0, 32,
    [F.PLN_LOAD_TOTAL_TOTAL]⟩,
  ⟨"PLN_LOAD_NONSHED", 14, 0x50034, 1, 0, 1, 0, 32,
    [F.PLN_LOAD_NONSHED_NONSHED]⟩,
  ⟨"PLN_LOAD_ACTIVE", 14, 0x50038, 1, 0, 1, 0, 32,
    [F.PLN_LOAD_ACTIVE_ACTIVE]⟩,
  ⟨"PLN_PAGES", 14, 0x5003C, 1, 0, 1, 0, 32,
    [F.PLN_PAGES_TOTAL, F.PLN_PAGES_USED]⟩,
  ⟨"PLN_UNDERRUN_CNT", 14, 0x50040, 1, 0, 1, 0, 32,
    [F.PLN_UNDERRUN_CNT_COUNT]⟩,
  ⟨"PLN_FSSTAT", 14, 0x60000, 1536, 4, 1, 0, 32,
    [F.PLN_FSSTAT_PRIO, F.PLN_FSSTAT_SHEDDABLE, F.PLN_FSSTAT_SHED, F.PLN_FSSTAT_MODE, F.PLN_FSSTAT_PAGES, F.PLN_FSSTAT_FILL, F.PLN_FSSTAT_LAST_SLIP]⟩,
  ⟨"PLN_FSSLIP", 14, 0x70000, 1536, 4, 1, 0, 32,
    [F.PLN_FSSLIP_DROPS, F.PLN_FSSLIP_REPEATS]⟩,
  ⟨"PLN_STATE", 14, 0xA0000, 1, 0, 1, 0, 32,
    [F.PLN_STATE_TILE_FAIL, F.PLN_STATE_HBM_FAIL, F.PLN_STATE_COL_FAIL, F.PLN_STATE_STATE]⟩,
  ⟨"PLN_MERGE_CFG", 14, 0xA0010, 1, 0, 1, 0, 32,
    [F.PLN_MERGE_CFG_MISSING]⟩,
  ⟨"PLN_MERGECNT", 14, 0xB0000, 1536, 8, 1, 0, 64,
    [F.PLN_MERGECNT_CONCEALED, F.PLN_MERGECNT_FILLED, F.PLN_MERGECNT_STALE, F.PLN_MERGECNT_WITHHELD]⟩,
  ⟨"PLN_SKEW", 14, 0xC0000, 1536, 4, 1, 0, 32,
    [F.PLN_SKEW_SKEW]⟩]

/-- The registers of block TILE. -/
def regsTile : List RegDef := [
  ⟨"OTL_STAT", 15, 0x0, 3, 256, 1, 0, 32,
    [F.OTL_STAT_RX_MASK, F.OTL_STAT_TX_MASK, F.OTL_STAT_STANDBY, F.OTL_STAT_SHED_N, F.OTL_STAT_NEW_UNIT, F.OTL_STAT_STATE]⟩,
  ⟨"OTL_CNT", 15, 0x8, 3, 256, 1, 0, 64,
    [F.OTL_CNT_UNCORR, F.OTL_CNT_SEG_DISC, F.OTL_CNT_CTL_DISC, F.OTL_CNT_SWITCHES]⟩,
  ⟨"OTL_DELAY", 15, 0x10, 3, 256, 1, 0, 32,
    [F.OTL_DELAY_ONEWAY]⟩,
  ⟨"OTL_GB", 15, 0x18, 3, 256, 1, 0, 64,
    [F.OTL_GB_GB_PART, F.OTL_GB_SLOTS, F.OTL_GB_IFACE, F.OTL_GB_UNIT_LO]⟩]

/-- The registers of block HBM. -/
def regsHbm : List RegDef := [
  ⟨"HBM_STAT", 16, 0x0, 1, 0, 1, 0, 32,
    [F.HBM_STAT_FAIL_LANE, F.HBM_STAT_TRACK_LIMIT, F.HBM_STAT_STATE]⟩,
  ⟨"HBM_ECC", 16, 0x8, 1, 0, 1, 0, 64,
    [F.HBM_ECC_HOST_UE, F.HBM_ECC_HOST_CE, F.HBM_ECC_SEV_UE, F.HBM_ECC_SEV_CORR]⟩,
  ⟨"HBM_ECC_ADDR", 16, 0x10, 1, 0, 1, 0, 64,
    [F.HBM_ECC_ADDR_VALID, F.HBM_ECC_ADDR_ADDR]⟩,
  ⟨"HBM_REF", 16, 0x18, 1, 0, 1, 0, 64,
    [F.HBM_REF_PREEMPT, F.HBM_REF_DEBT_MAX, F.HBM_REF_MULT]⟩,
  ⟨"HBM_RTLAT", 16, 0x20, 1, 0, 1, 0, 32,
    [F.HBM_RTLAT_MAX_NS]⟩,
  ⟨"HBM_TRAIN", 16, 0x1000, 128, 4, 1, 0, 32,
    [F.HBM_TRAIN_RD_WIDTH, F.HBM_TRAIN_RD_CODE, F.HBM_TRAIN_WR_WIDTH, F.HBM_TRAIN_WR_CODE]⟩,
  ⟨"HBM_EYE", 16, 0x1200, 128, 4, 1, 0, 32,
    [F.HBM_EYE_RD_CODE, F.HBM_EYE_LEFT, F.HBM_EYE_RIGHT]⟩]

/-- The registers of block AUD. -/
def regsAud : List RegDef := [
  ⟨"AUD_CLIPCNT", 17, 0x0, 1, 0, 1, 0, 32,
    [F.AUD_CLIPCNT_COUNT]⟩,
  ⟨"AUD_MISSCNT", 17, 0x4, 1, 0, 1, 0, 32,
    [F.AUD_MISSCNT_COUNT]⟩,
  ⟨"AUD_ASRC", 17, 0x8, 1, 0, 1, 0, 32,
    [F.AUD_ASRC_FREE]⟩,
  ⟨"AUD_TAPSEL", 17, 0x10, 1, 0, 1, 0, 32,
    [F.AUD_TAPSEL_ENTRY]⟩,
  ⟨"AUD_TAPDATA", 17, 0x18, 1, 0, 1, 0, 64,
    [F.AUD_TAPDATA_ENTRY]⟩,
  ⟨"AUD_FOLLOW", 17, 0x1000, 1536, 4, 1, 0, 32,
    [F.AUD_FOLLOW_FADE, F.AUD_FOLLOW_PLANE, F.AUD_FOLLOW_SOURCE]⟩,
  ⟨"AUD_ORIGIN", 17, 0x3000, 64, 4, 1, 0, 32,
    [F.AUD_ORIGIN_PLANE, F.AUD_ORIGIN_SOURCE]⟩,
  ⟨"AUD_SRCSTAT", 17, 0x40000, 65536, 4, 1, 0, 32,
    [F.AUD_SRCSTAT_ASRC_LOCKED, F.AUD_SRCSTAT_ASRC, F.AUD_SRCSTAT_NONPCM, F.AUD_SRCSTAT_PAIR, F.AUD_SRCSTAT_UNTIMED, F.AUD_SRCSTAT_MISSING, F.AUD_SRCSTAT_V, F.AUD_SRCSTAT_PRESENT]⟩]

/-- The registers of block CMP. -/
def regsCmp : List RegDef := [
  ⟨"CMP_STAT", 18, 0x0, 32, 4, 1, 0, 32,
    [F.CMP_STAT_DROPPED, F.CMP_STAT_DEGRADED, F.CMP_STAT_ENABLED, F.CMP_STAT_SHED, F.CMP_STAT_RUN, F.CMP_STAT_CONFIGURED]⟩,
  ⟨"CMP_TAPS", 18, 0x100, 32, 4, 1, 0, 32,
    [F.CMP_TAPS_TAPS]⟩,
  ⟨"CMP_LMEM", 18, 0x200, 32, 4, 1, 0, 32,
    [F.CMP_LMEM_VALIDATED, F.CMP_LMEM_IN_USE]⟩,
  ⟨"CMP_ENC", 18, 0x300, 32, 8, 1, 0, 64,
    [F.CMP_ENC_ENC]⟩,
  ⟨"GEN_STAT", 18, 0x400, 32, 4, 1, 0, 32,
    [F.GEN_STAT_STILL_ID, F.GEN_STAT_FORMAT, F.GEN_STAT_SAMPLING, F.GEN_STAT_PATTERN]⟩,
  ⟨"CMP_STILL", 18, 0x800, 1, 0, 1, 0, 32,
    [F.CMP_STILL_COUNT, F.CMP_STILL_FREE]⟩]

/-- The registers of block MAC. -/
def regsMac : List RegDef := [
  ⟨"MAC_PORTCFG", 19, 0x0, 2, 16, 1, 0, 32,
    [F.MAC_PORTCFG_CFG_ERR, F.MAC_PORTCFG_MEDIUM, F.MAC_PORTCFG_MAX_FRAME, F.MAC_PORTCFG_AN, F.MAC_PORTCFG_MODE]⟩,
  ⟨"MAC_PORTSTAT", 19, 0x4, 2, 16, 1, 0, 32,
    [F.MAC_PORTSTAT_AN_ACT, F.MAC_PORTSTAT_MEDIUM_ACT, F.MAC_PORTSTAT_MODE_ACT]⟩,
  ⟨"MAC_INSTCFG", 19, 0x100, 8, 16, 1, 0, 64,
    [F.MAC_INSTCFG_IPV4, F.MAC_INSTCFG_VLAN, F.MAC_INSTCFG_IGMP_EN, F.MAC_INSTCFG_CAPTURE_UNMATCHED, F.MAC_INSTCFG_DELIVER_BAD, F.MAC_INSTCFG_PASS_ALL_GROUPS, F.MAC_INSTCFG_PROMISC]⟩,
  ⟨"MAC_INSTADDR", 19, 0x108, 8, 16, 1, 0, 64,
    [F.MAC_INSTADDR_MAC]⟩,
  ⟨"MAC_CLS", 19, 0x300, 1, 0, 1, 0, 32,
    [F.MAC_CLS_USED]⟩,
  ⟨"MAC_PMF", 19, 0x1000, 8, 128, 16, 8, 64,
    [F.MAC_PMF_EN, F.MAC_PMF_ADDR]⟩,
  ⟨"MAC_CAPQ_BASE", 19, 0x2000, 1, 0, 1, 0, 64,
    [F.MAC_CAPQ_BASE_BASE]⟩,
  ⟨"MAC_CAPQ_CFG", 19, 0x2008, 1, 0, 1, 0, 32,
    [F.MAC_CAPQ_CFG_EN, F.MAC_CAPQ_CFG_CAP_VEC, F.MAC_CAPQ_CFG_HIF, F.MAC_CAPQ_CFG_LOG2_SIZE]⟩,
  ⟨"MAC_CAPQ_PROD", 19, 0x2010, 1, 0, 1, 0, 32,
    [F.MAC_CAPQ_PROD_PROD]⟩,
  ⟨"MAC_CAPQ_CONS", 19, 0x2014, 1, 0, 1, 0, 32,
    [F.MAC_CAPQ_CONS_CONS]⟩,
  ⟨"MAC_STAT", 19, 0x10000, 8, 256, 18, 8, 64,
    [F.MAC_STAT_COUNT]⟩,
  ⟨"MAC_SNAP", 19, 0x10800, 8, 256, 18, 8, 64,
    [F.MAC_SNAP_COUNT]⟩,
  ⟨"FLOW_CNT", 19, 0x20000, 2816, 8, 1, 0, 64,
    [F.FLOW_CNT_OVERRATE, F.FLOW_CNT_LATE, F.FLOW_CNT_SEQ_GAP, F.FLOW_CNT_PACKETS]⟩,
  ⟨"FLOW_SNAP", 19, 0x30000, 2816, 8, 1, 0, 64,
    [F.FLOW_SNAP_VALUE]⟩]

/-- The registers of block LANE. -/
def regsLane : List RegDef := [
  ⟨"LANE_CFG", 20, 0x0, 80, 1024, 1, 0, 32,
    [F.LANE_CFG_FOM_WARN, F.LANE_CFG_FOM_MIN, F.LANE_CFG_TX_SWING, F.LANE_CFG_TX_LOCAL, F.LANE_CFG_TX_INV, F.LANE_CFG_RX_POL, F.LANE_CFG_PRECODE_RX]⟩,
  ⟨"LANE_TXFIR", 20, 0x8, 80, 1024, 1, 0, 64,
    [F.LANE_TXFIR_C0, F.LANE_TXFIR_CP1, F.LANE_TXFIR_CM1, F.LANE_TXFIR_CM2, F.LANE_TXFIR_CM3]⟩,
  ⟨"LANE_RXEQ", 20, 0x10, 80, 1024, 1, 0, 32,
    [F.LANE_RXEQ_CTLE_FORCE, F.LANE_RXEQ_CTLE_SET, F.LANE_RXEQ_CTLE]⟩,
  ⟨"LANE_STAT", 20, 0x18, 80, 1024, 1, 0, 32,
    [F.LANE_STAT_ERR, F.LANE_STAT_LOW_FOM, F.LANE_STAT_REVERSED, F.LANE_STAT_LOGICAL, F.LANE_STAT_POL_INV, F.LANE_STAT_PRECODE_TX, F.LANE_STAT_PRECODE_RX, F.LANE_STAT_STAGE]⟩,
  ⟨"LANE_FOM", 20, 0x20, 80, 1024, 1, 0, 32,
    [F.LANE_FOM_BASE, F.LANE_FOM_MEAN, F.LANE_FOM_MIN, F.LANE_FOM_CUR]⟩,
  ⟨"LANE_FFE_SEL", 20, 0x28, 80, 1024, 1, 0, 32,
    [F.LANE_FFE_SEL_TAP]⟩,
  ⟨"LANE_FFE_DATA", 20, 0x2C, 80, 1024, 1, 0, 32,
    [F.LANE_FFE_DATA_COEF]⟩,
  ⟨"LANE_CNT", 20, 0x30, 80, 1024, 1, 0, 64,
    [F.LANE_CNT_CORR, F.LANE_CNT_UNCORR, F.LANE_CNT_BRINGUPS]⟩]

/-- The registers of a block, by block number. -/
def regsOf : Nat → List RegDef
  | 0 => regsSys
  | 1 => regsRst
  | 2 => regsFlt
  | 3 => regsBelay
  | 4 => regsHif
  | 5 => regsJrn
  | 6 => regsSec
  | 7 => regsFls
  | 8 => regsDpll
  | 9 => regsTdm
  | 10 => regsPeer
  | 11 => regsMtx
  | 12 => regsAge
  | 13 => regsFuse
  | 14 => regsPln
  | 15 => regsTile
  | 16 => regsHbm
  | 17 => regsAud
  | 18 => regsCmp
  | 19 => regsMac
  | 20 => regsLane
  | _ => []

/-- Blocks that exist twice (per plane, per HIF, per flash channel, per stack): unit `u` of element `j` is kept under
index 2·j + u. -/
def blkDual (b : Nat) : Bool := b == 4 || b == 7 || (14 ≤ b && b ≤ 20)

/-- The index under which element `j` of unit `u` of a doubled block is kept. -/
def ix (u j : Nat) : Nat := 2 * j + u

/-- Register-space window to (block, unit, tile) (R498); none where the window is unassigned or holds no register. -/
def windowBlock (w : Nat) : Option (Nat × Nat × Nat) :=
  if w = 0 then some (0, 0, 0) else if w = 1 then some (1, 0, 0) else if w = 2 then some (2, 0, 0)
  else if w = 3 then some (3, 0, 0) else if w = 4 then some (4, 0, 0) else if w = 5 then some (4, 1, 0)
  else if w = 6 then some (5, 0, 0) else if w = 7 then some (6, 0, 0) else if w = 8 then some (7, 0, 0)
  else if w = 9 then some (7, 1, 0) else if w = 10 then some (8, 0, 0) else if w = 11 then some (9, 0, 0)
  else if w = 12 then some (10, 0, 0) else if w = 13 then some (11, 0, 0) else if w = 14 then some (12, 0, 0)
  else if w = 15 then some (13, 0, 0) else if w = 0x10 then some (14, 0, 0) else if w = 0x40 then some (14, 1, 0)
  else if 0x12 ≤ w ∧ w ≤ 0x19 then some (15, 0, w - 0x12) else if 0x42 ≤ w ∧ w ≤ 0x49 then some (15, 1, w - 0x42)
  else if w = 0x1A then some (16, 0, 0) else if w = 0x4A then some (16, 1, 0)
  else if w = 0x1B then some (17, 0, 0) else if w = 0x4B then some (17, 1, 0)
  else if w = 0x1C then some (18, 0, 0) else if w = 0x4C then some (18, 1, 0)
  else if w = 0x1D then some (19, 0, 0) else if w = 0x4D then some (19, 1, 0)
  else if w = 0x1E then some (20, 0, 0) else if w = 0x4E then some (20, 1, 0)
  else none

/-- A register found at an address: its definition, the index its fields are kept under, and the byte offset of the
access inside the register. -/
structure RegHit where
  d : RegDef
  idx : Nat
  sub : Nat
deriving DecidableEq, Repr

/-- Element number and byte inside the element, when byte offset `o` lies in the array of `d`. -/
def RegDef.locate (d : RegDef) (o : Nat) : Option (Nat × Nat) :=
  if o < d.off then none
  else
    let x := o - d.off
    let i := if d.s1 = 0 then 0 else x / d.s1
    let y := if d.s1 = 0 then x else x % d.s1
    let k := if d.s2 = 0 then 0 else y / d.s2
    let z := if d.s2 = 0 then y else y % d.s2
    if i < d.n1 ∧ k < d.n2 ∧ z < d.width / 8 then some (i * d.n2 + k, z) else none

/-- First register of a list that holds byte offset `o`. -/
def findReg : List RegDef → Nat → Option (RegDef × Nat × Nat)
  | [], _ => none
  | d :: ds, o =>
    match d.locate o with
    | some (j, z) => some (d, j, z)
    | none => findReg ds o

/-- The register at byte address `a` of register space (window number times 1 MiB plus offset) (R5, R498). Tile `t`
holds plane links 3·t to 3·t + 2 (R263); the peer link's lanes are lanes 80 to 83 of unit 0 (R284, R466). -/
def locateReg (a : Nat) : Option RegHit :=
  let o := a % 0x100000
  match windowBlock (a / 0x100000) with
  | none => none
  | some (b, u, t) =>
    if b = 10 ∧ 0x10000 ≤ o ∧ o < 0x11000 then
      match findReg regsLane (o - 0x10000) with
      | some (d, j, z) => some ⟨d, ix 0 (80 + j), z⟩
      | none => none
    else if b = 15 ∧ 6 ≤ t then none
    else
      match findReg (regsOf b) o with
      | some (d, j, z) => some ⟨d, if b = 15 then ix u (3 * t + j) else if blkDual b then ix u j else j, z⟩
      | none => none

end Sys2Proof.Machine
end

