-- ==== Sys2Proof/Machine/State.lean ====
section
/-! DEFINITION. The state of the device as plain data: the register file, the control state that the journal holds, the
engines' state, the outputs, and the queue of waiting commands; and the state after reset. -/

namespace Sys2Proof.Machine

/-- Why the machine stops with a fault: no command of this device stops it, so there is no constructor. Safe. -/
inductive Fault : Type where
deriving DecidableEq, Repr

/-- Why a command has no meaning here. -/
inductive Refusal where
  /-- Raised by a refused arm of `exec` only: the command has no meaning in the model. Safe. -/
  | notModelled (mnemonic : String)
deriving DecidableEq, Repr

/-- What the device puts out, newest first in `Dev.out` (log entry 5). -/
inductive Out where
  /-- A write of `len` bytes to host memory through a HIF; `value` is little-endian. -/
  | dma (hif addr len value : Nat)
  /-- An MSI-X message (R315, R332, R334). -/
  | msix (hif vec : Nat)
  /-- The answer to a register or memory read: requester (R493), size in bytes, value. -/
  | rdata (master size value : Nat)
  /-- An error response of the control matrix (R499). -/
  | rerr (master : Nat)
  /-- A control block on an Otira link: plane, link, TYPE, payload (R244 to R256). -/
  | ctl (plane link type : Nat) (payload : Nat)
  /-- An Otira segment: plane, link, slot, Cairn number, flags, source shown (R123, R242). -/
  | seg (plane link slot cairn flags src : Nat)
  /-- An Ethernet frame or packet: plane, MAC instance, kind, content (R294 to R308). -/
  | eth (plane inst kind : Nat) (content : Nat)
  /-- A message on the peer link: kind and content (R68, R88, R372). -/
  | peer (kind : Nat) (content : Nat)
  /-- A TDM frame of a port: slot words packed 32 bits each (R224). -/
  | tdm (port : Nat) (words : List Nat)
  /-- An audio sample of a destination channel at a grid instant, with V, U and C as bits 0 to 2 (R200, R201). -/
  | audio (plane ch : Nat) (value : Int) (vuc : Nat)
  /-- A compositor frame: plane, compositor, layer descriptions (R150). -/
  | frame (plane comp : Nat) (layers : List Nat)
  /-- An output pixel of a compositor as signal codes (R173). -/
  | pixel (plane comp : Nat) (codes : List Nat)
  /-- A pin level (R457, R478): fuse-map index, or 256 FAULT_N, 257 FUSE_FAIL, 258 every pin; 0 low, 1 high, 2 high-impedance,
  3 weak pull-down. -/
  | pin (n level : Nat)
  /-- A flash operation: channel, kind, address, content (R405 to R417). -/
  | flash (ch kind addr content : Nat)
  /-- An AVSBus transaction: rail, value (R512). -/
  | avs (rail value : Nat)
  /-- A training-frame field sent on a lane (R272). -/
  | train (lane value : Nat)
deriving DecidableEq, Repr

/-- A completion entry before its PHASE is known (R330). -/
structure Cpl where
  cmdId : Nat
  jsn : Nat
  applied : Nat
  detail : Nat
  status : Nat
  orig : Nat := 0
  foreign : Nat := 0
  irq : Bool := false
  waitDur : Bool := false
  slot : Nat := 0
  phase : Nat := 1
deriving DecidableEq, Repr

/-- The device's side of one command and completion ring pair (R320, R325, R331, R332). -/
structure RingSt where
  /-- PHASE of the next completion written. -/
  phase : Nat := 1
  /-- Completions written and not yet consumed, oldest first. -/
  entries : List Cpl := []
  /-- Completions decided and not yet written. -/
  waiting : List Cpl := []
  /-- CMD_IDs of duplicates whose earlier command is not complete (R326). -/
  dups : List Nat := []
  /-- Unsignalled completions, and the time of the first (R332). -/
  unsig : Nat := 0
  coalAt : Option Nat := none
  /-- A consumer index waits for its write-back; time of the last write-back (R325). -/
  wbPend : Bool := false
  wbAt : Option Nat := none
  /-- A doorbell value latched while the HIF is UP (R318). -/
  latch : Option Nat := none
  cplLatch : Option Nat := none
  /-- A forwarded command waiting for the active device (R372): descriptor and buffer. -/
  fwd : Option (Bytes × Bytes) := none
deriving DecidableEq, Repr

/-- The device's side of one HIF (R315, R319, R334). -/
structure HifSt where
  perst : Bool := true
  link : Bool := false
  bme : Bool := false
  d0 : Bool := true
  /-- House time at which the HIF last left ACTIVE (R333). -/
  inactiveAt : Nat := 0
  evtPhase : Nat := 1
  evtIrqAt : Option Nat := none
  evtIrqPend : Bool := false
  /-- The DURABLE event held for a full ring (R334), without its PHASE. -/
  heldDur : Option Nat := none
  evtLatch : Option Nat := none
  /-- The MSI-X table in BAR4, by 32-bit word (R316, R332); a vector's control word resets masked (log entry 74, PRESUMED). -/
  table : SMap Nat := []
  /-- The pending-bit array in BAR4, bit `v` for vector `v` (R316, R332). -/
  pba : Nat := 0
deriving DecidableEq, Repr

/-- Host-interface engine state. -/
structure HostSt where
  rings : SMap RingSt := []
  hifs : SMap HifSt := []
  /-- Round-robin position and commands taken in this turn (R329). -/
  rr : Nat := 0
  rrTaken : Nat := 0
  /-- SEQ of the next event (R334). -/
  seq : Nat := 0
deriving DecidableEq, Repr

/-- One monitored reference (R59): `diff` is house time minus reference time in ps as last measured (R66). -/
structure RefSt where
  state : Nat := 0
  good : Nat := 0
  softGood : Nat := 0
  offsets : List Int := []
  qualAt : Option Nat := none
  present : Bool := false
  diff : Int := 0
deriving DecidableEq, Repr

/-- DPLL, reference selection and clock-monitor engine state (R20, R49, R58, R62 to R68). -/
structure TimSt where
  refs : SMap RefSt := []
  /-- NCO values with their times, one a second while LOCKED, newest first (R64). -/
  ncoHist : List (Nat × Int) := []
  /-- When the selected reference was selected (R58). -/
  selAt : Nat := 0
  /-- The first selection since COLD is still to come (R65). -/
  firstSel : Bool := true
  /-- Bad windows in a row per monitored clock (R20). -/
  badWin : SMap Nat := []
  /-- Last house-time snapshot per receiver: planes A and B, control domain (R19). -/
  snap : SMap Nat := []
  /-- The peer's house time and round trip in ns (R68). -/
  peerTime : Nat := 0
  peerRtt : Nat := 0
  /-- Frame number last started (R50). -/
  lastFrame : Nat := 0
  /-- Seconds of history used at the last entry to holdover (R64, R70). -/
  holdSecs : Nat := 0
  /-- Destinations repeat and audio ramps across a step of house time at this time (R67). -/
  stepAt : Option Nat := none
deriving DecidableEq, Repr

/-- Observed state of a source at a plane (R42 to R48): the adopted format and the format being counted. -/
structure SrcSt where
  mode : Nat := 0
  modeAt : Option (Nat × Nat) := none
  /-- SLIP_HYST and RES_IFACE in force (R98). -/
  slip : Nat := 100
  res : Nat := 7
  /-- A synchroniser configuration that stays charged until the mode changes (R42, R109). -/
  was : Option FsCfg := none
  fmt : Nat := 0
  iface : Nat := 0
  frac : Nat := 0
  sampling : Nat := 0
  /-- Resolved encoding byte (R174, R175); 0xFF unknown. -/
  enc : Nat := 0xFF
  newFmt : Nat := 0
  newIface : Nat := 0
  newCount : Nat := 0
  signal : Bool := false
  kind : Nat := 0
  known : Bool := false
  off : Int := 0
deriving DecidableEq, Repr

/-- Synchroniser engine of one source on one plane (R100, R102, R104). Offset in µs. `read` is the frame being read,
`done` the complete unread frames, oldest first. -/
structure FsSt where
  active : Bool := false
  empty : Bool := true
  offset : Int := 0
  done : List Nat := []
  read : Option Nat := none
  lost : Nat := 0
  oversize : Bool := false
  oversizeRep : Bool := false
  /-- One repeat of the last output frame on the passage from TIMED (R45). -/
  grace : Bool := false
  underrun : Nat := 0
  /-- What this frame's choice was: 0 read, 1 repeat, 2 drop (R133). -/
  slip : Nat := 0
  /-- Frames at whose start a seam lies, newest first (R105). -/
  seams : List Nat := []
  closed : List Nat := []
deriving DecidableEq, Repr

/-- Output state of a destination on one plane (R76, R78, R92). -/
structure DstSt where
  outFmt : Nat := 0
  sent : Bool := false
  cause : Nat := 0
  underrun : Nat := 0
  teamCause : Nat := 0
  shown : Nat := 0x7FF
  repeated : Bool := false
  /-- The member's team resumes after a hold (R96). -/
  resume : Bool := false
deriving DecidableEq, Repr

/-- The merge history of a source or flow (R127 to R129). -/
structure MergeSt where
  hist : List Nat := []
  last : Option Nat := none
  /-- Missing positions already counted as concealed or withheld, newest first (R131, R132). -/
  gone : List Nat := []
deriving DecidableEq, Repr

/-- One plane's engine state (R108, R111, R121, R142). -/
structure PlaneSt where
  since : Nat := 0
  routesLoaded : Bool := false
  fillFrames : Nat := 0
  bandAt : Nat := 0
  shedDue : Bool := false
  restoreDue : Bool := false
  shedReason : Nat := 1
  hold : Bool := false
  shedAt : Nat := 0
  resets : List Nat := []
deriving DecidableEq, Repr

/-- The planes' engine state. -/
structure PlnSt where
  planes : SMap PlaneSt := []
  src : SMap SrcSt := []
  fs : SMap FsSt := []
  dst : SMap DstSt := []
  merge : SMap MergeSt := []
  /-- Power samples of the last second in mW, newest first (R25). -/
  pwr : List Nat := []
  pwrShed : Option Nat := none
  pwrLow : Option Nat := none
  pwrRest : Option Nat := none
  pwrNone : Bool := false
  /-- The exhaustion of the backstop has been reported (R25). -/
  pwrTold : Bool := false
  pwrOrder : List Nat := []
  /-- Rope-team decision of a frame, key 2·team + plane: frame and 1 read, 2 hold, 3 drop (R96). -/
  teamSt : SMap (Nat × Nat) := []
  /-- Changes of follow source that the audio engine has still to follow (R89, R208): plane and destination, and 1 for
  AUDIO_CUT. -/
  audioQ : List (Nat × Nat) := []
deriving DecidableEq, Repr

/-- A sub-domain of the release order (R454): step 1 to 14 and unit. -/
structure Dom where
  step : Nat
  unit : Nat
deriving DecidableEq, Repr

/-- An asserted reset source (R446, R448): reach code, unit, source number, and whether entry is done (R453). -/
structure RstReq where
  reach : Nat
  unit : Nat
  src : Nat
  entered : Bool := false
  pulse : Bool := false
deriving DecidableEq, Repr

/-- Reset controller, straps, pins and fuse-load state (R447 to R458). -/
structure RstSt where
  /-- 0 COLD_RESET, 1 FUSE_LOAD, 2 running (R459). -/
  phase : Nat := 1
  reqs : List RstReq := []
  inReset : List Dom := []
  /-- Domains whose clock is switched to AONCLK, and those waiting for their clock (R453). -/
  onAon : List Dom := []
  clkWait : List Dom := []
  fuseFails : Nat := 0
  fuseFailPin : Bool := false
  thermalHold : Bool := false
  wdog : List Nat := []
  warms : List Nat := []
  /-- Every configurable pin is high-impedance (R456, R461). -/
  pinsFloat : Bool := true
  pwrLowAt : Option Nat := none
  /-- Selected TAP instruction (R520): 0 BYPASS, 1 SAMPLE/PRELOAD, 2 EXTEST, 3 IDCODE, 4 HIGHZ, 5 CLAMP. -/
  jtag : Nat := 0
deriving DecidableEq, Repr

/-- Fault-collector engine state (R473 to R481). -/
structure FltSt where
  /-- Bits whose latest FATAL event drove FAULT_N (R478). -/
  drives : Nat := 0
  /-- Bits just cleared, awaiting the 1 µs check (R479). -/
  checks : List Nat := []
  /-- When the 60 s HISTORY window began (R474). -/
  windowAt : Option Nat := none
  bist : Bool := false
  /-- Records waiting for the flash fault log, oldest first, as 32-byte numbers; time of the last record per bit (R481). -/
  buf : List Nat := []
  lastLog : SMap Nat := []
  /-- Bits whose block is out of service (R473). -/
  outOfService : Nat := 0
deriving DecidableEq, Repr

/-- Journal engine, Belay and Pair state (R355 to R376). -/
structure JrnSt where
  /-- The last image that is durable in flash, its JSN, and the image being programmed (R361, R364). -/
  durable : Ctl := {}
  durJsn : Nat := 0
  /-- The control state is lost and comes back from flash (R364). -/
  cold : Bool := true
  flushing : Option (Ctl × Nat) := none
  lastFlush : Nat := 0
  unflushed : Bool := false
  /-- Journal bytes since the older HBM checkpoint and since the latest (R359, R363). -/
  sinceOlder : Nat := 0
  sinceLast : Nat := 0
  lastCkpt : Nat := 0
  staging : Nat := 0
  fl0w : Bool := false
  fl1w : Bool := false
  /-- Channels that the running flush is programmed on (bit 0 FL0), and the staging bytes it covers. -/
  flMask : Nat := 0
  flBytes : Nat := 0
  /-- Validation stopped (R365): a control outage is in progress. -/
  outage : Bool := true
  outageEnd : Nat := 0
  /-- Fence times of the last 10 minutes (R368), and matrix epoch draining (R366). -/
  fences : List Nat := []
  draining : Option Nat := none
  retired : SMap Nat := []
  /-- A PP_SWITCH waiting for its takeover: JSN of the command (R369). -/
  ppSwitch : Option Nat := none
  belayPin : Bool := false
  belayAt : Nat := 0
  /-- Pair: peer's ACTIVE_SEL, peer reachable, its epoch, lost-since time (R371 to R376). -/
  peerSel : Bool := false
  peerEpoch : Nat := 0
  peerLostAt : Option Nat := none
  /-- Missed heartbeats of the peer in a row (R375), and what it holds staged (R434, R436). -/
  peerFw : Option (Nat × Nat) := none
  peerBind : Nat := 0
  /-- A BIVOUAC entry or exit under way: JSN of the command, and when it was validated (R394, R396, R397). -/
  bivIn : Option (Nat × Nat) := none
  bivOut : Option (Nat × Nat) := none
deriving DecidableEq, Repr

/-- One Otira link (R243, R248 to R260). -/
structure LnkSt where
  since : Nat := 0
  /-- Training may restart from here (R259). -/
  retryAt : Nat := 0
  lastPres : Option Nat := none
  presSeen : Bool := false
  /-- Frame number, plus 1, whose FRAME_START TIMING has been sent (R248). -/
  lastFs : Nat := 0
  unit : Option Nat := none
  newUnit : Option Nat := none
  /-- Our outstanding RESTRIPE_REQ: mask and REQ_ID; the far end's, waiting for our switch round (R256). -/
  req : Option (Nat × Nat) := none
  reqId : Nat := 0
  upWait : Bool := false
  /-- Logical lanes found beyond the skew tolerance (R243). -/
  skewed : List Nat := []
  farReq : Option (Nat × Nat) := none
  delaySeq : Nat := 0
  delayOut : Option (Nat × Nat) := none
  /-- CFG items sent: content and SEQ (R251). -/
  cfgSeq : Nat := 0
  cfg : SMap (Nat × Nat) := []
  /-- Segment alignment is lost until the next valid control block (R244). -/
  needAlign : Bool := false
  idleAt : Option Nat := none
  idleBand : Nat := 1
deriving DecidableEq, Repr

/-- One SerDes lane (R266 to R281). -/
structure LaneSt where
  since : Nat := 0
  cnt : Nat := 0
  sense : Bool := false
  /-- LANE_CFG, LANE_TXFIR and LANE_RXEQ as they took effect at the last entry to CDR_LOCK (R279). -/
  cfg : Nat := 0x40480400
  txf : Nat := 0xFCF60200
  rxe : Nat := 0x1400
  /-- Side taps in use: c(-3), c(-2), c(-1), c(+1) (R267). -/
  fir : List Int := [0, 2, -10, -4]
  ffe : List Int := []
  precReq : Bool := false
  precOn : Bool := false
  rxReady : Bool := false
  farLane : Option Nat := none
  reqTog : Bool := false
  reqOut : Option Nat := none
  noTune : Bool := false
  ansTog : Bool := false
  ansStat : Nat := 0
  seq : Nat := 0
  /-- Frames of a fast exit still to come (R281). -/
  fast : Option Nat := none
  lowSince : Option Nat := none
  /-- FOM sums in UP per hour of the last 24: hour, sum, count (R288). -/
  fomH : List (Nat × Nat × Nat) := []
  /-- Alignment: period of the last valid AM, consecutive valid ones, and whether aligned (R243). -/
  amAt : Option Nat := none
  amGood : Nat := 0
  aligned : Bool := false
  uncor : Nat := 0
deriving DecidableEq, Repr

/-- Links and lanes: links keyed by plane and link, lanes by plane and physical lane, peer lanes 80 to 83. -/
structure OtlSt where
  links : SMap LnkSt := []
  lanes : SMap LaneSt := []
deriving DecidableEq, Repr

/-- One HBM stack's controller (R386 to R393): bank debts keyed by pseudo-channel and bank, times of recent uncorrectable
errors, end of the last training, byte lanes at their tracking limit, and promoted requests by pseudo-channel (R388). -/
structure HbmSt where
  debt : SMap Nat := []
  ues : List Nat := []
  trainedAt : Option Nat := none
  limited : List Nat := []
  promo : SMap (List Nat) := []
  /-- Write delay of each byte lane as trained (R386, R486). -/
  wrBase : SMap Nat := []
deriving DecidableEq, Repr


/-- One compositor's last assignment (R160, R161): taps by layer, and the configured taps they were assigned under. -/
structure CmpSt where
  taps : List Nat := []
  conf : List Nat := []
deriving DecidableEq, Repr

/-- One TDM port (R221 to R236): the grid instant of its last restart, its first frame, masks waiting since `landAt`,
received frames of the last grid instants, channel-status gathering, and the steered send FIFO. -/
structure TdmSt where
  j0 : Nat := 0
  firstAt : Option Nat := none
  frames : Nat := 0
  maskPend : Bool := false
  landAt : Nat := 0
  origin : Nat := 0
  inGuard : Bool := false
  rx : List (Nat × List (Option Nat)) := []
  last : SMap Nat := []
  bitsC : SMap (Nat × Nat) := []
  blk : SMap Nat := []
  txBlk : SMap Nat := []
  fifo : List (List OutSamp) := []
  lastOut : List OutSamp := []
  clampAt : Option Nat := none
  downAt : Option Nat := none
  /-- The destination handle that the FOLLOW taps of the port's channels follow (R235). -/
  assoc : Nat := 0xFFFF
deriving DecidableEq, Repr

/-- A gain that moves linearly: from `start` through the segments (target, samples), `k` samples into the first (R206). -/
structure Ramp where
  start : Rat := 0
  k : Nat := 0
  segs : List (Rat × Nat) := []
deriving DecidableEq, Repr

/-- A tap whose gain is moving (R206): the entry it reads by, its ramp, and a source that ramps out. -/
structure TapRt where
  ent : Nat := 0
  ramp : Ramp := {}
  old : Option (Nat × Ramp) := none
deriving DecidableEq, Repr

/-- A running crossfade (R210): the new source, whether it is a cut with ramps (R208), length and position in samples. -/
structure Xfade where
  dst : Nat × Nat
  cut : Bool
  len : Nat
  k : Nat := 0
deriving DecidableEq, Repr

/-- The audio of one video destination: the follow source heard before the running crossfades, those crossfades oldest
first (R90), and the mute ramp in samples, 48 fully open (R211). -/
structure VidAud where
  base : Nat × Nat := (0, 0x7FF)
  xs : List Xfade := []
  open' : Nat := 48
deriving DecidableEq, Repr

/-- One plane's audio engine (R200 to R215): moving taps, destinations, last good sample and missing run of IP channels,
their silence ramp, channels present or missing in the last 1 ms, ASRC channels locked with their ramp, flows off the house
clock, and the last outputs of the TDM send channels. -/
structure AudSt where
  taps : SMap TapRt := []
  dests : SMap VidAud := []
  good : SMap Int := []
  miss : SMap Nat := []
  hush : SMap Nat := []
  present : List Nat := []
  missed : List Nat := []
  locked : List Nat := []
  level : SMap Nat := []
  offClock : List Nat := []
  tdmOut : List (Nat × SMap OutSamp) := []
deriving DecidableEq, Repr

/-- One MAC instance (R291, R299): 0 DOWN, 1 TRAINING, 2 UP; IGMP reports to send (group, reports left, time of the last), and
the queries to answer, first in, first out: time, maximum response time, group (0: every group). -/
structure EthInst where
  state : Nat := 0
  reports : List (Nat × Nat × Nat) := []
  query : List (Nat × Nat × Nat) := []
deriving DecidableEq, Repr

/-- One receive flow on one plane's network (R89, R300, R314): the frame being received, when it began, its wire bytes, the last
sequence number, and the last frame whose marker has come. -/
structure EthFlow where
  frame : Nat := 0
  frameAt : Nat := 0
  seen : Bool := false
  bytes : Nat := 0
  last : Option Nat := none
  done : Option Nat := none
  /-- Key of the flow before its last change, and until when it stays matched (R307). -/
  oldRec : List (BitVec 8) := []
  oldUntil : Nat := 0
deriving DecidableEq, Repr

/-- Ethernet state: instances and receive flows by plane, and each plane's capture queue: PHASE, whether slots wait for their
message, and when the last message went (R298). -/
structure EthSt where
  insts : SMap EthInst := []
  flows : SMap EthFlow := []
  phase : SMap Nat := []
  wrote : SMap Nat := []
  irqAt : SMap Nat := []
deriving DecidableEq, Repr


/-- One pool of a flash channel (R407, R413): good blocks, formatted and remaining reserve, erase counts by block, blocks that
hold data, blocks read at a level above the pool's, and the pool's starting read-retry level (R411, R486). -/
structure FlsPool where
  good : Nat := 0
  init : Nat := 0
  spare : Nat := 0
  erase : SMap Nat := []
  used : List Nat := []
  levels : SMap Nat := []
  start : Nat := 0
deriving DecidableEq, Repr

/-- One flash channel (R402 to R417). `cond` is what the channel itself is across a WARM reset: 0 never formatted,
2 rebuilding, 3 healthy, 4 failed; `fresh`: formatted with no other channel to fill from. Equivalent age in minutes
times 2^20. -/
structure FlsSt where
  cond : Nat := 0
  fresh : Bool := false
  retry : Nat := 0
  slc : FlsPool := {}
  tlc : FlsPool := {}
  tail : Nat := 0
  age : Nat := 0
  dirAt : Nat := 0
  dirDue : Bool := false
  movedAt : Option Nat := none
  scrubbing : Bool := false
deriving DecidableEq, Repr

/-- A firmware slot (R423): 0 EMPTY, 1 INACTIVE, 2 STAGED, 3 PENDING, 4 TRIAL, 5 ACTIVE. -/
structure FwSlot where
  state : Nat := 0
  img : FwImg := {}
deriving DecidableEq, Repr

/-- Firmware and security state (R422 to R444): the two slots as flash holds them, the image held in the staging slot with the
slot it was written to, the schedule (JSN, frame, window seconds), the end of the confirmation window and its length, the
image that runs and whether the host loaded it (R425), the takeover under way (JSN of the FW_SCHEDULE, and when it began), a
revert under way with its cause, one that in Pair waits for its frame (frame, cause), the enrolled owner hash with OWNER_ONLY (R430), and the blown bits of SVN (R431). -/
structure SecSt where
  slotA : FwSlot := {}
  slotB : FwSlot := {}
  stage : Option FwImg := none
  inFlash : Bool := false
  sched : Option (Nat × Nat × Nat) := none
  windowEnd : Option Nat := none
  confirmS : Nat := 0
  run : FwImg := {}
  hostLoaded : Bool := false
  activating : Option Nat := none
  activatedAt : Nat := 0
  noWindow : Bool := false
  reverting : Option Nat := none
  revertAt : Option (Nat × Nat) := none
  owner : Option Nat := none
  ownerOnly : Bool := false
  svn : Nat := 0
deriving DecidableEq, Repr

/-- The margin survey and the monitors (R483 to R489): command or firmware action that started it, REPLAN, when it started,
measured items (value, unit), items stepped and at their limit, AVS steps taken and the time of the last, narrowest
eye by stack, a budget changed, replicas below 2 % and diodes at or above 150 °C, tile spread times, and whether the regulator
stopped the steps (R512). -/
structure AgeSt where
  jsn : Option Nat := none
  replan : Bool := false
  startedAt : Option Nat := none
  meas : SMap (Int × Nat) := []
  stepped : List Nat := []
  limit : List Nat := []
  warned : List Nat := []
  avsSteps : Nat := 0
  avsAt : Option Nat := none
  eyes : SMap Nat := []
  budget : Bool := false
  low : List Nat := []
  hot : List Nat := []
  split : SMap Nat := []
deriving DecidableEq, Repr

/-- The control matrix (R494 to R504): master last granted at each target (7 before any grant). -/
structure MtxSt where
  last : SMap Nat := []
deriving DecidableEq, Repr

/-- AVSBus (R512): targets acknowledged for VDD_CORE and VDD_SRAM in mV, invalid responses in a row by rail, time of the last
step, and steps stopped. -/
structure AvsSt where
  core : Nat := 750
  prev : Nat := 750
  sram : Nat := 800
  bad : SMap Nat := []
  stepAt : Option Nat := none
  stopped : Bool := false
  wroteAt : Option Nat := none
deriving DecidableEq, Repr

/-- The device itself: everything but the queue of commands and the memories behind the control matrix (every field's docstring names the rules that give it; reset values are the fields' own). -/
structure Dev where
  /-- The register file: field key to value; an unlisted field reads its Reset column (R8). -/
  regs : SMap Nat := []
  /-- House time in ticks of 1/54 ns (R49, log entry 1). -/
  now : Nat := 0
  /-- What the device has put out, newest first. -/
  out : List Out := []
  /-- The model's own counter that picks the next free value (log entry 7). -/
  freeCtr : Nat := 0
  /-- Values latched by a read of a lowest word, and low words of writes held, per requester and address (R9). -/
  latches : SMap Nat := []
  holds : SMap Nat := []
  host : HostSt := {}
  ctl : Ctl := {}
  jrn : JrnSt := {}
  tim : TimSt := {}
  pln : PlnSt := {}
  rst : RstSt := {}
  flt : FltSt := {}
  otl : OtlSt := {}
  hbm : SMap HbmSt := []
  cmp : SMap CmpSt := []
  /-- The flash copy of the still and colour libraries, by mechanism key (R169, R190). -/
  library : SMap Mech := []
  tdm : SMap TdmSt := []
  /-- The audio master clock is absent (R236). -/
  mclkOff : Bool := false
  aud : SMap AudSt := []
  eth : EthSt := {}
  fls : SMap FlsSt := []
  /-- A valid card profile has been read (R403). -/
  profile : Bool := false
  sec : SecSt := {}
  age : AgeSt := {}
  mtx : MtxSt := {}
  avs : AvsSt := {}
deriving DecidableEq, Repr

/-- Every sub-domain of the release order from step 2 on (R454): links as 32·plane + link with the Ethernet ports 18 and 19
and the peer link 64, lanes as 128·plane + lane with the peer lanes 80 to 83. -/
def allDoms : List Dom :=
  ((List.range 7).map fun k => { step := k + 2, unit := 0 }) ++
    [{ step := 9, unit := 0 }, { step := 9, unit := 1 }, { step := 10, unit := 0 }, { step := 11, unit := 0 }, { step := 11, unit := 1 }] ++
    ((List.range 16).map fun u => { step := 12, unit := u }) ++
    ((List.range 2).flatMap fun p => (List.range 20).map fun l => { step := 13, unit := 32 * p + l }) ++
    [{ step := 13, unit := 64 }] ++
    ((List.range 2).flatMap fun p => (List.range 80).map fun l => { step := 14, unit := 128 * p + l }) ++
    ((List.range 4).map fun l => { step := 14, unit := 80 + l })

/-- Bytes of memory by address, in the canonical form of Map.lean. -/
abbrev Memory := List Host.Cell

/-- The canonical form: addresses strictly rising, and no byte that an unlisted address reads as, 0 (log entry 33). -/
def Memory.wf (m : Memory) : Bool := mwf 0 m

/-- The state of the machine: the commands that wait, first in, first out; the device; and the memories that the control matrix
reaches (R497), byte by physical address in the canonical form of Map.lean: an unlisted address reads 0 (log entry 33). -/
structure State where
  pending : List Instr := []
  dev : Dev := {}
  mem : Memory := []
deriving DecidableEq, Repr

/-- The machine right after power-on reset is released: every register at its Reset column, the fuse load running (R456),
every sub-domain from step 2 on in reset (R454, log entry 9). -/
def State.reset : State := { dev := { rst := { inReset := allDoms } } }

end Sys2Proof.Machine
end

