-- ==== Sys2Proof/Machine/Ops.lean ====
section
/-! DEFINITION. The shared operations: the register file, time, outputs, events, completions. Every meaning is written
over these. -/

namespace Sys2Proof.Machine

/-! The register file. -/

/-- The key of field `f` of element `i` (RegMap). -/
def fkey (f : Fld) (i : Nat) : Nat := i * 262144 + f.code % 262144

/-- The Reset column of field `f` of element `i`, where it differs by element: PLN_BUDGET (R118), FLT_REACT (R476). -/
def resetAt (f : Fld) (i : Nat) : Nat :=
  if f.code = F.PLN_BUDGET_BW.code then
    match i / 2 with | 0 => 2200000 | 1 => 2200000 | 2 => 2100000 | 3 => 1900000 | _ => 1400000
  else if f.code = F.FLT_REACT_ACTION.code then
    if [19, 20, 21, 22, 23, 24, 25, 26].contains i then 1
    else if [29, 30, 32].contains i then 2 else if [46, 41, 47].contains i then 3 else if i = 42 then 4 else 0
  else if f.code = F.FLT_REACT_FAULT_N.code then b2n ([46, 41, 47, 42, 31, 43, 45].contains i)
  else f.reset

/-- The stored value of a field. -/
def getF (s : Dev) (f : Fld) (i : Nat) : Nat := mget (resetAt f i) s.regs (fkey f i)

/-- Store a field: the value's low bits, the rest of the state unchanged. -/
def setF (s : Dev) (f : Fld) (i : Nat) (v : Nat) : Dev :=
  { s with regs := mset (resetAt f i) s.regs (fkey f i) (v % 2 ^ f.width) }

/-- Count up a saturating counter by `n`. -/
def satAdd (s : Dev) (f : Fld) (i n : Nat) : Dev :=
  let v := getF s f i + n
  setF s f i (if 2 ^ f.width ≤ v then 2 ^ f.width - 1 else v)

/-- Several fields of one element. -/
def setFs (s : Dev) (i : Nat) : List (Fld × Nat) → Dev
  | [] => s
  | (f, v) :: r => setFs (setF s f i v) i r

/-! Configuration, time. -/

/-- Pair configuration in force (R1). -/
def isPair (s : Dev) : Bool := s.ctl.pair

/-- Key of element `j` of plane `p` in the control state: one copy serves both planes in Single (R27, R74). -/
def pkey (s : Dev) (p j : Nat) : Nat := if s.ctl.pair then 2 * j + p else 2 * j

/-- The device state (R470). -/
def devState (s : Dev) : Nat := getF s F.SYS_STATE_STATE 0

/-- House time in ns (R49). -/
def nsOf (t : Nat) : Nat := t / 54

/-- House frame number at time `t` (R50). -/
def hfnAt (s : Dev) (t : Nat) : Nat := t / framePeriod s.ctl.ref.rate

/-- House frame number now. -/
def hfn (s : Dev) : Nat := hfnAt s s.now

/-- Start of house frame `n` (R50). -/
def frameStart (s : Dev) (n : Nat) : Nat := n * framePeriod s.ctl.ref.rate

/-- Move house time to `t`. -/
def Dev.at (s : Dev) (t : Nat) : Dev := { s with now := t }

/-- Put out one thing. -/
def emit (s : Dev) (o : Out) : Dev := { s with out := o :: s.out }

/-- Put out several things, the first of the list first. -/
def emits (s : Dev) (os : List Out) : Dev := os.foldl emit s

/-- Take the next free value of `w` bits (log entry 7). -/
def takeFree (s : Dev) (w : Nat) : Nat × Dev :=
  ((Config.freeValue s.freeCtr).toNat % 2 ^ w, { s with freeCtr := s.freeCtr + 1 })

/-! Substructures by key. -/

/-- State of ring `r` of HIF `h`. -/
def ringOf (s : Dev) (h r : Nat) : RingSt := mget {} s.host.rings (16 * h + r)

/-- Store the state of ring `r` of HIF `h`. -/
def setRing (s : Dev) (h r : Nat) (x : RingSt) : Dev :=
  { s with host := { s.host with rings := mset {} s.host.rings (16 * h + r) x } }

/-- State of HIF `h`. -/
def hifOf (s : Dev) (h : Nat) : HifSt := mget {} s.host.hifs h

/-- Store the state of HIF `h`. -/
def setHif (s : Dev) (h : Nat) (x : HifSt) : Dev :=
  { s with host := { s.host with hifs := mset {} s.host.hifs h x } }

/-- What a word of the MSI-X table resets to: a vector's control word, its fourth, masked (R332; log entry 74, PRESUMED). -/
def vecReset (i : Nat) : Nat := if i % 4 = 3 then 1 else 0

/-- Vector `v` is masked (R332). -/
def vecMasked (x : HifSt) (v : Nat) : Bool := bit (mget (vecReset (4 * v + 3)) x.table (4 * v + 3)) 0

/-- Send vector `v` of HIF `h`; a masked one becomes pending (R332; log entry 74, PRESUMED). -/
def sendMsix (s : Dev) (h v : Nat) : Dev :=
  let x := hifOf s h
  if vecMasked x v then setHif s h { x with pba := x.pba ||| 2 ^ v } else emit s (.msix h v)

/-- The route-table entry at route key `k`. -/
def routeOf (s : Dev) (k : Nat) : Route := mget {} s.ctl.routes k

/-- Change the control state. -/
def modCtl (s : Dev) (f : Ctl → Ctl) : Dev := { s with ctl := f s.ctl }

/-- Store a route-table entry. -/
def setRoute (s : Dev) (k : Nat) (x : Route) : Dev :=
  modCtl s fun c => { c with routes := mset {} c.routes k x }

/-- Synchroniser configuration of source key `k`. -/
def fsCfgOf (s : Dev) (k : Nat) : FsCfg := mget {} s.ctl.fsync k

/-- Store a synchroniser configuration. -/
def setFsCfg (s : Dev) (k : Nat) (x : FsCfg) : Dev := modCtl s fun c => { c with fsync := mset {} c.fsync k x }

/-- Key of a commanded mechanism: kind and index (R362). -/
def mkey (kind idx : Nat) : Nat := kind * 65536 + idx

/-- Compositor layout. -/
@[reducible] def mkComp : Nat := 1
/-- Generator. -/
@[reducible] def mkGen : Nat := 2
/-- Otira link. -/
@[reducible] def mkLink : Nat := 3
/-- IP flow. -/
@[reducible] def mkFlow : Nat := 4
/-- MAC instance. -/
@[reducible] def mkMac : Nat := 5
/-- TDM port. -/
@[reducible] def mkTdm : Nat := 6
/-- PTP instance. -/
@[reducible] def mkPtp : Nat := 7
/-- Colour-library slot. -/
@[reducible] def mkLut : Nat := 8
/-- Still. -/
@[reducible] def mkStill : Nat := 9
/-- Follow source of a destination. -/
@[reducible] def mkFollow : Nat := 10
/-- Follow origin of a compositor or generator. -/
@[reducible] def mkOrigin : Nat := 11
/-- Audio table of a plane. -/
@[reducible] def mkAudio : Nat := 12
/-- Budget mode of a plane. -/
@[reducible] def mkBudget : Nat := 13
/-- Firmware slot. -/
@[reducible] def mkFw : Nat := 14
/-- Pair configuration. -/
@[reducible] def mkPair : Nat := 15
/-- Compositor RUN bit. -/
@[reducible] def mkRun : Nat := 16
/-- Firmware trial and schedule. -/
@[reducible] def mkFwSched : Nat := 17
/-- Fade setting of a destination. -/
@[reducible] def mkFade : Nat := 18
/-- Margin survey. -/
@[reducible] def mkSurvey : Nat := 19

/-- The stored configuration of a mechanism. -/
def mechOf (s : Dev) (kind idx : Nat) : Mech := mget {} s.ctl.mech (mkey kind idx)

/-- Store a mechanism's configuration. -/
def setMech (s : Dev) (kind idx : Nat) (x : Mech) : Dev :=
  modCtl s fun c => { c with mech := mset {} c.mech (mkey kind idx) x }

/-! Events (R334, R335). -/

/-- Ring size from a LOG2_SIZE field (R320): outside 6 to 16 it acts as the nearer limit. -/
def ringSize (l : Nat) : Nat := 2 ^ (if l < 6 then 6 else if 16 < l then 16 else l)

/-- An event entry without PHASE as one 256-bit number (R334). -/
def eventEntry (ns jsn detail code src dev seq : Nat) : Nat :=
  ns % 2 ^ 64 + jsn % 2 ^ 64 * 2 ^ 64 + detail % 2 ^ 32 * 2 ^ 128 + code % 256 * 2 ^ 160 + src % 64 * 2 ^ 168 +
    dev % 2 * 2 ^ 174 + seq % 2 ^ 32 * 2 ^ 192

/-- Put an entry into the event ring of HIF `h` at PROD, and signal (R334). -/
def putEvent (s : Dev) (h entry : Nat) : Dev :=
  let size := ringSize (getF s F.HIF_EVT_CFG_LOG2_SIZE h)
  let prod := getF s F.HIF_EVT_STAT_PROD h
  let x := hifOf s h
  let s := emit s (.dma h (getF s F.HIF_EVT_BASE_BASE h * 4096 + 32 * prod) 32 (entry + x.evtPhase * 2 ^ 248))
  let next := (prod + 1) % size
  let s := setF s F.HIF_EVT_STAT_PROD h next
  let x := { x with evtPhase := if next = 0 then 1 - x.evtPhase else x.evtPhase }
  let due := match x.evtIrqAt with
    | none => true
    | some a => decide (a + getF s F.HIF_EVT_CFG_MIN_US h * 54000 ≤ s.now)
  if due then sendMsix (setHif s h { x with evtIrqAt := some s.now, evtIrqPend := false }) h (getF s F.HIF_EVT_CFG_VEC h)
  else setHif s h { x with evtIrqPend := true }

/-- The event ring of HIF `h` holds size − 1 entries (R334). -/
def evtFull (s : Dev) (h : Nat) : Bool :=
  (getF s F.HIF_EVT_STAT_PROD h + 1) % ringSize (getF s F.HIF_EVT_CFG_LOG2_SIZE h) == getF s F.HIF_EVT_STAT_CONS h

/-- Offer an event of `code` to HIF `h` (R334). -/
def offerEvent (s : Dev) (h code entry : Nat) : Dev :=
  if getF s F.HIF_STAT_STATE h = 3 ∧ getF s F.HIF_EVT_CFG_EN h = 1 ∧ bit (getF s F.HIF_EVT_MASK_MASK h) code then
    if evtFull s h then
      if code = 0x0D then setHif s h { hifOf s h with heldDur := some entry } else satAdd s F.HIF_EVT_STAT_LOST h 1
    else putEvent s h entry
  else s

/-- Raise an event: code, SOURCE, JSN and detail word (R334). In Pair it is also mirrored to the peer (R372). -/
def raise (s : Dev) (code src jsn detail : Nat) : Dev :=
  let e := eventEntry (nsOf s.now) jsn detail code src (getF s F.RST_STRAP_PAIR_ID 0) s.host.seq
  let s := { s with host := { s.host with seq := (s.host.seq + 1) % 2 ^ 32 } }
  let s := offerEvent (offerEvent s 0 code e) 1 code e
  if s.ctl.pair then emit s (.peer 3 e) else s

/-! Completions (R325, R330 to R332). -/

/-- A completion entry as one 256-bit number (R330). -/
def cplEntry (c : Cpl) : Nat :=
  c.cmdId % 2 ^ 64 + c.jsn % 2 ^ 64 * 2 ^ 64 + c.applied % 2 ^ 64 * 2 ^ 128 + c.detail % 2 ^ 32 * 2 ^ 192 +
    c.status % 2 ^ 16 * 2 ^ 224 + c.orig % 4096 * 2 ^ 240 + c.foreign % 2 * 2 ^ 252 + c.phase % 2 * 2 ^ 255

/-- Ring `r` of HIF `h` is adopted by the other HIF (R333). -/
def isAdopted (s : Dev) (h r : Nat) : Bool := mget 0 s.ctl.adopted (16 * h + r) == 1

/-- Write the consumer index of a ring into its write-back slot (R325): 4 bytes and 4 zero bytes; a base of 0 disables. -/
def writeBack (s : Dev) (h r : Nat) : Dev :=
  let x := ringOf s h r
  let b := getF s F.HIF_WB_BASE_BASE h
  if getF s F.HIF_STAT_STATE h = 3 then
    let s := if b = 0 then s else emit s (.dma h (b * 128 + 8 * r) 8 (getF s F.CRING_CONS_CONS (ix h r)))
    setRing s h r { x with wbPend := false, wbAt := some s.now }
  else s

/-- Send the completion ring's MSI-X message; everything written is then signalled (R332). -/
def signalRing (s : Dev) (h r : Nat) : Dev :=
  let s := sendMsix s h (getF s F.CPL_CFG_VEC (ix h r))
  setRing s h r { ringOf s h r with unsig := 0, coalAt := none }

/-- A write-back of ring `r` still waits for its microsecond to pass (R325). -/
def wbHeld (s : Dev) (h r : Nat) : Bool :=
  let x := ringOf s h r
  x.wbPend && (match x.wbAt with | none => false | some a => decide (s.now < a + 54000))

/-- Completion ring `r` of HIF `h` can take an entry now: a completion never passes the write-back of its own ring (R325). -/
def cplRoom (s : Dev) (h r : Nat) : Bool :=
  getF s F.HIF_STAT_STATE h == 3 && getF s F.CRING_CFG_EN (ix h r) == 1 && !isAdopted s h r && !wbHeld s h r &&
    !((getF s F.CPL_PROD_PROD (ix h r) + 1) % ringSize (getF s F.CPL_CFG_LOG2_SIZE (ix h r)) ==
      getF s F.CPL_CONS_CONS (ix h r))

/-- Write one completion at the ring's producer index and signal it (R330, R332). -/
def writeCpl (s : Dev) (h r : Nat) (c : Cpl) : Dev :=
  let s := if (ringOf s h r).wbPend then writeBack s h r else s
  let i := ix h r
  let slot := getF s F.CPL_PROD_PROD i
  let x := ringOf s h r
  let c := { c with slot := slot, phase := x.phase }
  let s := emit s (.dma h (getF s F.CPL_BASE_BASE i * 4096 + 32 * slot) 32 (cplEntry c))
  let next := (slot + 1) % ringSize (getF s F.CPL_CFG_LOG2_SIZE i)
  let s := setF s F.CPL_PROD_PROD i next
  let u := x.unsig + 1
  let s := setRing s h r { x with
    phase := if next = 0 then 1 - x.phase else x.phase
    entries := x.entries ++ [c]
    unsig := u
    coalAt := match x.coalAt with | none => some s.now | some a => some a }
  let n := getF s F.CPL_CFG_COAL_N i
  if c.irq ∨ (n ≠ 0 ∧ n ≤ u) then signalRing s h r else s

/-- The completion may be written now: WAIT_DURABLE waits until its JSN is durable (R331). -/
def cplReady (s : Dev) (c : Cpl) : Bool := !c.waitDur || decide (c.jsn ≤ getF s F.JRN_DURABLE_DURABLE_JSN 0)

/-- Write the ready completions of a list in order, answering the ones that must wait. -/
def deliverList (h r : Nat) : List Cpl → Dev → Dev × List Cpl
  | [], s => (s, [])
  | c :: cs, s =>
    if cplReady s c && cplRoom s h r then deliverList h r cs (writeCpl s h r c)
    else
      let q := deliverList h r cs s
      (q.1, c :: q.2)

/-- Write what ring `r` of HIF `h` holds back and may now write; CPL_STAT.BACKLOG counts what stays (R339). HIFs 2 and 3 are
those of the peer of a Pair, which writes the completions that the active device sends it (R372). -/
def deliver (s : Dev) (h r : Nat) : Dev :=
  if 2 ≤ h then
    let x := ringOf s h r
    let s := emits s ((x.waiting.filter (cplReady s)).map fun c => .peer 4 (cplEntry c * 64 + (h - 2) * 16 + r))
    setRing s h r { x with waiting := x.waiting.filter fun c => !cplReady s c }
  else
    let q := deliverList h r (ringOf s h r).waiting s
    let s := setRing q.1 h r { ringOf q.1 h r with waiting := q.2 }
    setF s F.CPL_STAT_BACKLOG (ix h r) q.2.length

/-- Write what every ring holds back and may now write. -/
def deliverAll (s : Dev) : Dev :=
  (List.range 64).foldl (fun s k => deliver s (k / 16) (k % 16)) s

/-- The journal record of a JSN. -/
def recOf (s : Dev) (jsn : Nat) : Option JRec := s.ctl.recs.find? (fun r => r.jsn == jsn)

/-- Change the journal record of a JSN. -/
def modRec (s : Dev) (jsn : Nat) (f : JRec → JRec) : Dev :=
  modCtl s fun c => { c with recs := c.recs.map fun r => if r.jsn = jsn then f r else r }

/-- The ring that a command's completion is written to: its own, or the adopting HIF's (R333), with FOREIGN. -/
def cplTarget (s : Dev) (h r : Nat) : Nat × Nat := if isAdopted s h r then (1 - h, 1) else (h, 0)

/-- The completion of a decided record. -/
def cplOf (s : Dev) (j : JRec) (d : Dec) : Cpl :=
  { cmdId := j.cmdId, jsn := j.jsn, applied := d.applied, detail := d.detail, status := d.status,
    foreign := (cplTarget s j.hif j.ring).2, irq := bit j.flags 3, waitDur := bit j.flags 4 }

/-- The DUPLICATE completion of an earlier record (R326). -/
def dupOf (s : Dev) (j : JRec) (d : Dec) : Cpl :=
  { cmdId := j.cmdId, jsn := j.jsn, applied := d.applied, detail := d.detail, status := stDup, orig := d.status,
    foreign := (cplTarget s j.hif j.ring).2, waitDur := bit j.flags 4 }

/-- The command carries BARRIER: its flag, or the BARRIER opcode (R347, R348). -/
def isBarrier (j : JRec) : Bool := bit j.flags 0 || j.op == 0x01

/-- Hold completions for a ring and write what may be written. -/
def queueCpls (s : Dev) (h r : Nat) (cs : List Cpl) : Dev :=
  let t := (cplTarget s h r).1
  let x := ringOf s t r
  deliver (setRing s t r { x with waiting := x.waiting ++ cs }) t r

/-- Place a DUPLICATE right behind the completion it repeats and that one's earlier duplicates, where that completion still
waits (R326). -/
def placeDup (c : Cpl) : List Cpl → List Cpl
  | [] => [c]
  | o :: os =>
    if o.jsn = c.jsn then o :: (os.takeWhile fun x => x.jsn == c.jsn) ++ c :: (os.dropWhile fun x => x.jsn == c.jsn)
    else o :: placeDup c os

/-- Hold a DUPLICATE of a decided command, and write what may be written (R326). -/
def queueDup (s : Dev) (h r : Nat) (c : Cpl) : Dev :=
  let t := (cplTarget s h r).1
  let x := ringOf s t r
  deliver (setRing s t r { x with waiting := placeDup c x.waiting }) t r

/-- The device holds no policy context: a standby, isolated or joining device of a Pair (R372, R375, R376). -/
def isFollower (s : Dev) : Bool := [2, 4, 5].contains (getF s F.PAIR_STAT_ROLE 0)

/-- Decide a command's status (R360): the decision record, its completion, any duplicate that waited for it, and the
stop of its ring if it carried BARRIER and was refused (R328). A command already decided stays as it is (R355), and a
follower of a Pair waits for the decision of the active device (R372). -/
def decideCmd (s : Dev) (jsn status applied detail : Nat) : Dev :=
  match recOf s jsn with
  | none => s
  | some j =>
    if j.dec.isSome || isFollower s then s
    else
      let d : Dec := { status := status, applied := applied, detail := detail }
      let s := if getF s F.JRN_STAT_PEER 0 = 1 then emit s (.peer 7 jsn) else s
      let s := modRec s jsn fun r => { r with dec := some d }
      let k := 16 * j.hif + j.ring
      let s := if isBarrier j && decide (0x100 ≤ status) && mget 0 s.ctl.stop k == 0 then
          modCtl s fun c => { c with stop := mset 0 c.stop k 1 } else s
      let x := ringOf s j.hif j.ring
      let n := (x.dups.filter (· == j.cmdId)).length
      let s := setRing s j.hif j.ring { x with dups := x.dups.filter (· != j.cmdId) }
      queueCpls s j.hif j.ring (cplOf s j d :: List.replicate n (dupOf s j d))

/-- A bit field of JRN_HEAD: the next JSN of the sequence, assigned (R357). -/
def nextJsn (s : Dev) : Nat × Dev :=
  let n := getF s F.JRN_HEAD_HEAD_JSN 0 + 1
  (n, setF s F.JRN_HEAD_HEAD_JSN 0 n)

/-- A journal record of `n` bytes: what counts toward the flush, the checkpoints and the staging memory (R358, R359); the older
checkpoint is at risk once the 256 MiB ring has run past it by all but the 4 MiB of staging (log entry 26). -/
def journal (s : Dev) (n : Nat) : Dev :=
  let s := { s with jrn := { s.jrn with unflushed := true, sinceOlder := s.jrn.sinceOlder + n, sinceLast := s.jrn.sinceLast + n,
                                        staging := s.jrn.staging + n } }
  if 264241152 ≤ s.jrn.sinceOlder then setF s F.JRN_STAT_FULL 0 1 else s

/-- A firmware action takes its JSN and is journalled (R22). -/
def fwAction (s : Dev) : Nat × Dev :=
  let q := nextJsn s
  (q.1, journal q.2 64)

end Sys2Proof.Machine
end

