-- ==== Sys2Proof/Machine/Flags.lean ====
section
/-! DEFINITION. Flags and detail words: the status flags and the event detail words that the spec lays out bit by bit
(R70, R87, R92, R116, R144, R161, R262, R377). -/

namespace Sys2Proof.Machine

/-- Detail of TAKE and SALVO completions (R87). -/
def takeDetail (item dropped reason : Nat) : Nat := item % 2 ^ 13 + dropped % 2 ^ 13 * 2 ^ 13 + reason % 16 * 2 ^ 26

/-- CONCEAL (R92). -/
def concealDetail (d p cause entry : Nat) : Nat := d % 4096 + p * 2 ^ 12 + cause % 16 * 2 ^ 13 + entry * 2 ^ 17

/-- REF_SWITCH (R70). -/
def refSwitchDetail (old new reason abandoned : Nat) : Nat := old % 256 + new % 256 * 256 + reason % 16 * 2 ^ 16 + abandoned * 2 ^ 20

/-- REF_DRIFT (R70). -/
def refDriftDetail (ref set soft drift : Nat) : Nat := ref % 256 + set * 256 + soft * 512 + drift * 1024

/-- HOLDOVER (R70). -/
def holdoverDetail (entry short secs : Nat) : Nat := entry + short * 2 + secs % 1024 * 16

/-- TEMP_BAND (R116): temperature in 1/16 °C. -/
def tempBandDetail (new old p : Nat) (temp : Int) : Nat := new + old * 8 + p * 64 + usgn 16 temp * 65536

/-- BUDGET_SHED (R116). -/
def shedDetail (item comp p shed band reason : Nat) : Nat :=
  item % 2048 + comp * 2 ^ 11 + p * 2 ^ 12 + shed * 2 ^ 13 + band % 8 * 2 ^ 14 + reason % 8 * 2 ^ 17

/-- FSYNC_SLIP (R116). -/
def slipDetail (n p drop count team : Nat) : Nat :=
  n % 2048 + p * 2 ^ 11 + drop * 2 ^ 12 + (if 7 < count then 7 else count) * 2 ^ 13 + team * 2 ^ 16

/-- UNDERRUN (R116): reader kind 0 synchroniser, 1 layer, 2 still. -/
def underrunDetail (n p kind oversize band : Nat) : Nat :=
  n % 2048 + p * 2 ^ 11 + kind % 4 * 2 ^ 12 + oversize * 2 ^ 14 + band % 8 * 2 ^ 15

/-- LANE_RESTRIPE (R144). -/
def restripeDetail (link p tx mask shed lost : Nat) : Nat :=
  link % 32 + p * 32 + tx * 64 + mask % 16 * 128 + shed % 128 * 2 ^ 11 + lost * 2 ^ 18

/-- LAYER_DEGRADED and LAYER_DROPPED (R161). -/
def layerDetail (c l p taps vtaps entry : Nat) : Nat :=
  c % 32 + l % 8 * 32 + p * 256 + taps % 16 * 2 ^ 9 + vtaps % 16 * 2 ^ 13 + entry * 2 ^ 17

/-- PAIR_STATE (R377). -/
def pairDetail (role prev id up cause epoch : Nat) : Nat :=
  role % 8 + prev % 8 * 8 + id % 2 * 64 + up % 2 * 128 + cause % 256 * 256 + epoch % 65536 * 65536

/-- COMP_SET and COMP_STATE completions (R162). -/
def compDetail (reason layer needed : Nat) : Nat :=
  reason % 256 + layer % 8 * 256 + (if 4095 < needed then 4095 else needed) * 65536

end Sys2Proof.Machine
end

