-- ==== Sys2Proof/Machine/Flows.lean ====
section
/-! DEFINITION. IP flow configuration as FLOW_SET stores it (R305, R353): its fields and reserved rates. -/

namespace Sys2Proof.Machine

/-- Index of an IP video flow among the flow mechanisms: port position `q` of plane `p`, direction 0 receive, 1 send. -/
def videoFlow (s : Dev) (p q dir : Nat) : Nat := 2 * pkey s p q + dir

/-- The 64-byte FLOW_SET buffer of a flow; empty when not configured. -/
def flowRec (s : Dev) (f : Nat) : Bytes := (mechOf s mkFlow f).data

/-- ENABLE of a flow record. -/
def flowEnabled (b : Bytes) : Bool := bit (le b 2 1) 1

/-- ESSENCE: 0 ST 2110-20, 1 ST 2022-6, 2 ST 2110-30, 3 ST 2110-31. -/
def flowEssence (b : Bytes) : Nat := bits (le b 2 1) 2 3

/-- FORMAT of the IP video sender at position `q` (R78); 0 when it is not configured. -/
def senderFmt (s : Dev) (p q : Nat) : Nat := let b := flowRec s (videoFlow s p q 1); if b.isEmpty then 0 else le b 44 1

/-- Active width of a raster code (R34, R35): pixels per line. -/
def fmtWidth (f : Nat) : Nat := match f / 16 with | 1 => 720 | 2 => 720 | 3 => 1280 | 4 => 1920 | 5 => 1920 | 6 => 1920 | 7 => 3840 | _ => 0

/-- Active lines of a raster code. -/
def fmtHeight (f : Nat) : Nat := match f / 16 with | 1 => 486 | 2 => 576 | 3 => 720 | 4 => 1080 | 5 => 1080 | 6 => 1080 | 7 => 2160 | _ => 0

/-- Bits per pixel of a SAMPLING code (R153): 4:2:2 10-bit 20, 4:4:4 10-bit 30, 12-bit 36. -/
def sampBits (c : Nat) : Nat := if c = 0 then 20 else if c = 1 ∨ c = 3 then 30 else 36

/-- Nominal SDI line rate in Mbit/s times 100 of a format carried by ST 2022-6 (R34, R300). -/
def lineRateC (f : Nat) (wide : Bool) : Nat :=
  match fmtIface f wide with | 1 => 27000 | 2 => 148500 | 3 => 297000 | 6 => 594000 | 7 => 1188000 | _ => 0

/-- Reserved rate in Mbit/s of a flow record, rounded up (R300). -/
def flowRate (b : Bytes) : Nat :=
  let f := le b 44 1
  let samp := bits (le b 45 1) 0 4
  match flowEssence b with
  | 0 =>
    let lines := fmtHeight f
    let bytesLine := fmtWidth f * sampBits samp / 8
    let n := lines * cdiv bytesLine (le b 48 2)
    let wire := (bytesLine * lines + n * 90) * 8 * nominalRate (f % 16)
    cdiv (wire + (if bit (le b 45 1) 6 then 40000000 else 0)) 1000000
  | 1 => cdiv (lineRateC f (samp != 0) * 1466) (1376 * 100)
  | e =>
    let ptime := bit (le b 55 1) 3
    let r96 := bit (le b 55 1) 4
    let c := le b 54 1
    let s := (if ptime then 6 else 48) * (if r96 then 2 else 1)
    let w := if e = 3 then 4 else if bit (le b 55 1) 5 then 2 else 3
    cdiv ((c * s * w + 82) * 8 * (if ptime then 8000 else 1000)) 1000000

/-- Reserved rate of the IP video source at position `q` of plane `p` (R16, R97, R300); 0 when no receive flow is set. -/
def ipRate (s : Dev) (p q : Nat) : Nat :=
  let b := flowRec s (videoFlow s p q 0)
  if b.isEmpty || !flowEnabled b then 0 else flowRate b

/-- Index of an audio flow among the flow mechanisms: direction 0 receive, 1 send, and its number. -/
def audioFlow (dir n : Nat) : Nat := 4096 * (1 + dir) + n

/-- First engine channel of an audio flow. -/
def flowFirst (b : Bytes) : Nat := le b 52 2

/-- Engine channels of an audio flow: two for each 96 kHz channel (R196, R202). -/
def flowChans (b : Bytes) : Nat := bits (le b 54 1) 0 7 * (if bit (le b 55 1) 4 then 2 else 1)

/-- Audio flows of direction `dir` that serve plane `p`: number and record. -/
def audioFlows (s : Dev) (p dir : Nat) : List (Nat × Bytes) :=
  s.ctl.mech.filterMap fun q =>
    let f := q.1 % 65536
    if q.1 / 65536 = mkFlow ∧ f / 4096 = 1 + dir ∧ !q.2.data.isEmpty ∧ (!s.ctl.pair ∨ f % 4096 / 2048 = p) then
      some (f % 4096, q.2.data) else none

/-- The audio flow of direction `dir` whose block holds engine channel `ch`. -/
def flowOfChan (s : Dev) (p dir ch : Nat) : Option (Nat × Bytes) :=
  (audioFlows s p dir).find? fun q => decide (flowFirst q.2 ≤ ch) && decide (ch < flowFirst q.2 + flowChans q.2)

end Sys2Proof.Machine
end

