-- ==== Sys2Proof/Machine/Reactions.lean ====
section
/-! DEFINITION. Shared operations of the always-on domain: asserting resets (R446 to R451), fencing a policy processor
(R366 to R370), plane states (R121, R144), and an event on a block's error line with its reaction (R472 to R482). -/

namespace Sys2Proof.Machine

/-! Pins that the fuse map does not number. -/

/-- FAULT_N. -/
@[reducible] def pinFaultN : Nat := 256
/-- FUSE_FAIL. -/
@[reducible] def pinFuseFail : Nat := 257
/-- Every pin at once. -/
@[reducible] def pinAll : Nat := 258

/-! Device and plane state. -/

/-- State of plane `p`. -/
def planeOf (s : Dev) (p : Nat) : PlaneSt := mget {} s.pln.planes p

/-- Store the engine state of plane `p`. -/
def setPlaneSt (s : Dev) (p : Nat) (x : PlaneSt) : Dev :=
  { s with pln := { s.pln with planes := mset {} s.pln.planes p x } }

/-- PLN_STATE.STATE of plane `p`: 0 OFF, 1 TRAINING, 2 SYNCING, 3 ACTIVE, 4 DEGRADED, 5 FAILED (R145). -/
def planeState (s : Dev) (p : Nat) : Nat := getF s F.PLN_STATE_STATE p

/-- State of policy processor `n` (R380). -/
def ppState (s : Dev) (n : Nat) : Nat := if n = 0 then getF s F.BELAY_STAT_PP0_STATE 0 else getF s F.BELAY_STAT_PP1_STATE 0

/-- Set the state of policy processor `n`: 0 ACTIVE, 1 STANDBY, 2 FENCED, 3 TESTING, 4 FAILED. -/
def setPp (s : Dev) (n v : Nat) : Dev := setF s (if n = 0 then F.BELAY_STAT_PP0_STATE else F.BELAY_STAT_PP1_STATE) 0 v

/-- SYS_STATE.DEGRADED: a plane not ACTIVE, a flash channel not HEALTHY or a FAILED processor, in SERVICE (R459). -/
def isDegraded (s : Dev) : Bool :=
  devState s == dvService &&
    (planeState s 0 != 3 || planeState s 1 != 3 || getF s F.FLS_STAT_STATE 0 != 3 || getF s F.FLS_STAT_STATE 1 != 3 ||
      ppState s 0 == 4 || ppState s 1 == 4)

/-- Bring SYS_STATE.DEGRADED up to date. -/
def syncDegraded (s : Dev) : Dev := setF s F.SYS_STATE_DEGRADED 0 (b2n (isDegraded s))

/-- Start the 60 s HISTORY window afresh (R474). -/
def historyWindow (s : Dev) : Dev :=
  let s := { s with flt := { s.flt with windowAt := some s.now } }
  setFs s 0 [(F.FLT_MODE_MODE, 1), (F.FLT_MODE_WINDOW_S, 60)]

/-- The collector's mode follows the device state, the window and BIST (R474). -/
def syncFltMode (s : Dev) : Dev :=
  let w := match s.flt.windowAt with | none => false | some a => decide (s.now < a + 60 * tickSec)
  let hist := w || s.flt.bist || devState s != dvService
  let left := match s.flt.windowAt with
    | none => 0
    | some a => if s.now < a + 60 * tickSec then (a + 60 * tickSec - s.now + tickSec - 1) / tickSec else 0
  setFs s 0 [(F.FLT_MODE_MODE, b2n hist), (F.FLT_MODE_WINDOW_S, left)]

/-- Enter a device state (R459, R470). -/
def setDev (s : Dev) (v : Nat) : Dev := syncFltMode (syncDegraded (setF s F.SYS_STATE_STATE 0 v))

/-- Enter a plane state with a PLANE_STATE event at each change (R121, R144). `jsn` is the command that caused it, 0 if none
(R334, log entry 114). -/
def setPlane (s : Dev) (p v cause : Nat) (jsn : Nat := 0) : Dev :=
  let old := planeState s p
  if old = v then s
  else
    let s := setPlaneSt (setF s F.PLN_STATE_STATE p v) p { planeOf s p with since := s.now }
    let d := v + old * 8 + p * 64 + cause * 256 + getF s F.PLN_STATE_TILE_FAIL p * 65536
    syncDegraded (raise s 0x03 (19 + p) jsn d)

/-! Resets. -/

/-- RST_CAUSE bit of a source of WARM or COLD reach (R465): sources 0 POR, 1 PWRGOOD, 2 RESET_N, 3 software,
4 watchdog, 5 fault reaction, 6 fuse parity, 7 thermal, 8 PERST, 9 Belay fence, 10 double-bit error. -/
def causeField (src reach : Nat) : Option Fld :=
  match src with
  | 0 => some F.RST_CAUSE_POR
  | 1 => some F.RST_CAUSE_PWRGOOD
  | 2 => some F.RST_CAUSE_RESET_N
  | 3 => some (if reach = 8 then F.RST_CAUSE_SW_COLD else F.RST_CAUSE_SW_WARM)
  | 4 => some F.RST_CAUSE_WDOG_WARM
  | 5 => some (if reach = 8 then F.RST_CAUSE_FLT_COLD else F.RST_CAUSE_FLT_WARM)
  | 6 => some F.RST_CAUSE_FUSE_PARITY
  | 7 => some F.RST_CAUSE_THERMAL
  | _ => none

/-- The fuse load is aborted and the shadow marked invalid when a COLD source is asserted (R456). -/
def abortFuse (s : Dev) : Dev := setF { s with rst := { s.rst with phase := 0 } } F.FUSE_STAT_VALID 0 0

/-- Assert a reset source (R447, R451): one asserted again before its release has completed stays asserted; WARM and COLD set their RST_CAUSE bit and LAST_REACH,
and validation stops at PP reach or wider (R365). -/
def assertReset (s : Dev) (reach unit src : Nat) (pulse : Bool) : Dev :=
  let mine := fun (r : RstReq) => r.reach == reach && r.unit == unit && r.src == src
  let s := if s.rst.reqs.any mine then
      { s with rst := { s.rst with reqs := s.rst.reqs.map fun r => if mine r then { r with pulse := r.pulse && pulse } else r } }
    else { s with rst := { s.rst with
      reqs := s.rst.reqs ++ [{ reach := reach, unit := unit, src := src, pulse := pulse }] } }
  let s := if reach = 7 ∨ reach = 8 then
      let s := setF s F.RST_CAUSE_LAST_REACH 0 reach
      match causeField src reach with | none => s | some f => setF s f 0 1
    else s
  let s := if reach = 7 ∨ reach = 8 then { s with jrn := { s.jrn with outage := true } } else s
  if reach = 8 then abortFuse s else s

/-- Release a reset source (R447). A source released before its entry is complete still runs to it (R453). -/
def releaseReset (s : Dev) (reach unit src : Nat) : Dev :=
  let mine := fun (r : RstReq) => r.reach == reach && r.unit == unit && r.src == src
  { s with rst := { s.rst with
      reqs := (s.rst.reqs.filter fun r => !(mine r && r.entered)).map fun r => if mine r then { r with pulse := true } else r } }

/-- Drop a reset source at once. -/
def dropReset (s : Dev) (reach unit src : Nat) : Dev :=
  { s with rst := { s.rst with reqs := s.rst.reqs.filter fun r => !(r.reach == reach && r.unit == unit && r.src == src) } }

/-- The source has been entered (R453). -/
def enteredReset (s : Dev) (reach unit src : Nat) : Dev :=
  { s with rst := { s.rst with
      reqs := s.rst.reqs.map fun r => if r.reach == reach && r.unit == unit && r.src == src then { r with entered := true } else r } }

/-! Fencing. -/

/-- The FAILOVER detail word (R370). -/
def failoverDetail (newPp cause pair epoch : Nat) : Nat := newPp + cause * 2 + pair * 16 + epoch % 65536 * 65536

/-- FAULT_HALT: nothing is accepted, FAULT_N asserted, BELAY_OUT stops (R368). -/
def faultHalt (s : Dev) : Dev :=
  let s := setDev s dvHalt
  emit { s with jrn := { s.jrn with outage := true, belayPin := false } } (.pin pinFaultN 0)

/-- Fences of the last 10 minutes. -/
def recentFences (s : Dev) : List Nat := s.jrn.fences.filter fun a => decide (s.now < a + 600 * tickSec)

/-- The first house frame that starts at least 10 ms from now: both devices of a Pair revert in it (R438). -/
def revertFrame (s : Dev) : Nat := cdiv (s.now + 540000000) (framePeriod s.ctl.ref.rate)

/-- The trial firmware is to be reverted with a cause, once; in Pair the peer hears of it (R438). -/
def markRevert (s : Dev) (cause : Nat) : Dev :=
  if getF s F.SEC_FW_STAT_UPDATE 0 = 4 ∧ s.sec.reverting = none then
    let s := { s with sec := { s.sec with reverting := some cause } }
    if s.ctl.pair && s.sec.revertAt.isNone then emit s (.peer 9 (revertFrame s * 16 + cause)) else s
  else s

/-- A plane leaves DEGRADED when no failed block remains (R121, R480). -/
def undegrade (s : Dev) (p : Nat) : Dev :=
  if planeState s p = 4 ∧ getF s F.PLN_STATE_TILE_FAIL p = 0 ∧ getF s F.PLN_STATE_HBM_FAIL p = 0 ∧ getF s F.PLN_STATE_COL_FAIL p = 0 then
    setPlane s p 3 8 else s

/-- The Belay fences the active policy processor (R366, R367): its epoch is retired and drains, the control epoch rises
and is journalled, the standby is released, or with none the fenced processor is scrubbed and released again (R368).
`cause` is the FAILOVER cause (R370). -/
def fence (s : Dev) (cause : Nat) : Dev :=
  let a := getF s F.BELAY_STAT_ACTIVE_PP 0
  let standby := ppState s (1 - a) == 1
  let keep := recentFences s
  let s := markRevert s 3
  let s := { s with
    ctl := { s.ctl with epoch := (s.ctl.epoch + 1) % 2 ^ 32 }
    jrn := { s.jrn with outage := true, draining := some s.now, retired := mset 0 s.jrn.retired a (mget 0 s.jrn.retired a + 1),
                        fences := if standby then s.jrn.fences else s.now :: keep } }
  let s := setF s F.BELAY_EPOCH_EPOCH 0 s.ctl.epoch
  let s := setF (satAdd s F.BELAY_FAILOVERS_COUNT 0 1) F.BELAY_STAT_MISSES 0 0
  let s := journal s 64
  let s := assertReset (setPp s a 2) 5 a 9 false
  let s := if standby then dropReset (setF (setPp s (1 - a) 0) F.BELAY_STAT_ACTIVE_PP 0 (1 - a)) 5 (1 - a) 9 else s
  let s := historyWindow s
  let s := raise s 0x0E 31 0 (failoverDetail (getF s F.BELAY_STAT_ACTIVE_PP 0) cause 0 s.ctl.epoch)
  if !standby && decide (2 ≤ keep.length) then assertReset s 7 0 9 true else s

/-! Error lines. -/

/-- Severity of a CAUSE (R472): FATAL. -/
def isFatal (cause : Nat) : Bool := [1, 2, 4, 5, 7, 9, 10, 11, 13, 14, 15].contains cause

/-- Plane of a block's FLT_STATUS bit, where the bit may take a PLANE reaction (R471, R476). -/
def bitPlane (b : Nat) : Nat :=
  if b < 8 then 0 else if b < 16 then 1 else if b = 16 then 0 else if b = 17 then 1 else if b % 2 = 1 then 0 else 1

/-- The legal ACTION codes of a bit (R476). -/
def actionLegal (b act : Nat) : Bool :=
  act == 0 || act == 2 || act == 3 || act == 4 || (act == 1 && (decide (b < 18) || decide (19 ≤ b ∧ b ≤ 28)))

/-- PLN_STATE: a failed block takes an ACTIVE plane to DEGRADED (R121, R141). -/
def degradePlane (s : Dev) (p cause : Nat) : Dev := if planeState s p = 3 then setPlane s p 4 cause else s

/-- A block with a FATAL event leaves service (R473): tile, HBM stack, Col, flash channel, standby processor. -/
def outOfService (s : Dev) (b : Nat) : Dev :=
  let s := { s with flt := { s.flt with outOfService := s.flt.outOfService ||| 2 ^ b } }
  if b < 16 then
    degradePlane (setF s F.PLN_STATE_TILE_FAIL (b / 8) (getF s F.PLN_STATE_TILE_FAIL (b / 8) ||| 2 ^ (b % 8))) (b / 8) 0x01
  else if b < 18 then degradePlane (setF s F.PLN_STATE_HBM_FAIL (b - 16) 1) (b - 16) 0x02
  else if b = 18 then
    degradePlane (degradePlane (setF (setF s F.PLN_STATE_COL_FAIL 0 1) F.PLN_STATE_COL_FAIL 1 1) 0 0x03) 1 0x03
  else if b = 34 ∨ b = 35 then
    syncDegraded (setF (setF s F.FLS_STAT_STATE (b - 34) 4) (if b = 34 then F.JRN_STAT_FL0 else F.JRN_STAT_FL1) 0 0)
  else if (b = 29 ∨ b = 30) ∧ getF s F.BELAY_STAT_ACTIVE_PP 0 ≠ b - 29 then syncDegraded (setPp s (b - 29) 4)
  else s

/-- The action taken for a FATAL event of bit `b` (R476, R477): PP failover of a standby's bit does nothing, and the
third WARM from reactions within 10 minutes is taken as COLD. -/
def actionFor (s : Dev) (b : Nat) : Nat :=
  let a := getF s F.FLT_REACT_ACTION b
  if a = 2 ∧ (b = 29 ∨ b = 30) ∧ getF s F.BELAY_STAT_ACTIVE_PP 0 ≠ b - 29 then 0
  else if a = 3 ∧ 2 ≤ (s.rst.warms.filter fun t => decide (s.now < t + 600 * tickSec)).length then 4
  else a

/-- PLANE reset from a reaction or from the hardware (R477): not asserted twice; the third within 10 minutes leaves the
plane held, in FAILED. -/
def planeReaction (s : Dev) (p src : Nat) : Dev :=
  if s.rst.reqs.any (fun r => r.reach == 4 && r.unit == p) then s
  else
    let x := planeOf s p
    let recent := x.resets.filter fun a => decide (s.now < a + 600 * tickSec)
    let s := setPlaneSt s p { x with resets := s.now :: recent, hold := decide (2 ≤ recent.length) }
    assertReset s 4 p src (decide (recent.length < 2))

/-- Apply a reaction (R476, R477). -/
def react (s : Dev) (b act : Nat) : Dev :=
  if act = 1 then planeReaction s (bitPlane b) 5
  else if act = 2 then fence s 2
  else if act = 3 then assertReset { s with rst := { s.rst with warms := s.now :: s.rst.warms } } 7 0 5 true
  else if act = 4 then assertReset s 8 0 5 true
  else s

/-- FAULT_N follows R478: driven low for a driving bit still set, a thermal hold, a failed fuse load or FAULT_HALT. -/
def faultNLow (s : Dev) : Bool :=
  s.flt.drives &&& getF s F.FLT_STATUS_BITS 0 != 0 || s.rst.thermalHold || s.rst.fuseFailPin || devState s == dvHalt

/-- Put the level of FAULT_N out: pin 0, 0 driven low, 2 high-impedance (R478). -/
def driveFaultN (s : Dev) : Dev := emit s (.pin pinFaultN (if faultNLow s then 0 else 2))

/-- Latch or record an event by the collector's mode (R474, R475): answers whether it was latched as FIRST. -/
def capture (s : Dev) (b cause sub : Nat) : Bool × Dev :=
  let fatal := b2n (isFatal cause)
  if getF s F.FLT_MODE_MODE 0 = 1 then
    let k := getF s F.FLT_HIST_PTR_NEXT 0
    let s := setFs s k [(F.FLT_HISTORY_TIME, nsOf s.now), (F.FLT_HISTORY_SUB, sub), (F.FLT_HISTORY_CAUSE, cause),
      (F.FLT_HISTORY_FATAL, fatal), (F.FLT_HISTORY_BIT, b)]
    (false, satAdd (setF s F.FLT_HIST_PTR_NEXT 0 ((k + 1) % 32)) F.FLT_HIST_PTR_TOTAL 0 1)
  else if getF s F.FLT_FIRST_VALID 0 = 0 then
    (true, setFs s 0 [(F.FLT_FIRST_VALID, 1), (F.FLT_FIRST_FATAL, fatal), (F.FLT_FIRST_CAUSE, cause),
      (F.FLT_FIRST_TIME_TIME, nsOf s.now), (F.FLT_FIRST_SUB_BIT, b), (F.FLT_FIRST_SUB_SUB, sub)])
  else (false, setF s F.FLT_OVF_OVF 0 (getF s F.FLT_OVF_OVF 0 ||| 2 ^ b))

/-- The 32-byte fault-log payload (R481). -/
def faultRecord (s : Dev) (b cause sub act fn persist : Nat) : Nat :=
  nsOf s.now % 2 ^ 64 + getF s F.JRN_HEAD_HEAD_JSN 0 * 2 ^ 64 + b * 2 ^ 128 + cause * 2 ^ 136 + sub % 256 * 2 ^ 144 +
    (act + fn * 8 + persist * 16) * 2 ^ 152 + devState s * 2 ^ 160

/-- A record enters the always-on buffer, at most one per bit per second; a full buffer drops its oldest (R481). -/
def logFault (s : Dev) (b entry : Nat) : Dev :=
  let ok := match mget none (s.flt.lastLog.map fun q => (q.1, some q.2)) b with
    | none => true
    | some a => decide (a + tickSec ≤ s.now)
  if ok then
    let full := decide (64 ≤ s.flt.buf.length)
    let s := { s with flt := { s.flt with buf := (if full then s.flt.buf.drop 1 else s.flt.buf) ++ [entry],
                                          lastLog := mins b s.now (mdel s.flt.lastLog b) } }
    if full then setF s F.FLT_CTRL_LOG_LOST 0 1 else s
  else s

/-- The FAULT detail word (R482). -/
def faultDetail (sub cause set fatal act fn first persist : Nat) : Nat :=
  sub % 256 + cause % 256 * 2 ^ 8 + set * 2 ^ 16 + fatal * 2 ^ 17 + act % 8 * 2 ^ 18 + fn * 2 ^ 21 + first * 2 ^ 22 + persist * 2 ^ 23

/-- An event on the error line of the block of bit `b` (R473): the bit sets, the event is recorded and logged, FAULT is
raised, and a FATAL event takes the block out of service and applies its reaction. -/
def faultEvent (s : Dev) (b cause sub : Nat) : Dev :=
  let fatal := isFatal cause
  let act := if fatal then actionFor s b else 0
  let fn := if fatal then getF s F.FLT_REACT_FAULT_N b else 0
  let s := setF s F.FLT_STATUS_BITS 0 (getF s F.FLT_STATUS_BITS 0 ||| 2 ^ b)
  let s := setFs (satAdd s F.FLT_CAUSE_COUNT b 1) b
    [(F.FLT_CAUSE_FATAL, b2n fatal), (F.FLT_CAUSE_CAUSE, cause), (F.FLT_CAUSE_SUB, sub)]
  let q := capture s b cause sub
  let s := logFault q.2 b (faultRecord q.2 b cause sub act fn 0)
  let s := if fatal then
      { s with flt := { s.flt with drives := if fn = 1 then s.flt.drives ||| 2 ^ b else s.flt.drives - (s.flt.drives &&& 2 ^ b) } }
    else s
  let s := raise s 0x11 b 0 (faultDetail sub cause 1 (b2n fatal) act fn (b2n q.1) 0)
  if fatal then react (outOfService (driveFaultN s) b) b act else s

end Sys2Proof.Machine
end

