-- ==== Sys2Proof/Machine/HostRings.lean ====
section
/-! DEFINITION. Host interface and descriptor rings: doorbells, acceptance, completions, events, HIF states (R315 to R340). -/

namespace Sys2Proof.Machine

/-- HIF_STAT.STATE of HIF `h`: 0 RESET, 1 DOWN, 2 UP, 3 ACTIVE (R319). -/
def hifState (s : Dev) (h : Nat) : Nat := getF s F.HIF_STAT_STATE h

/-- Entries of command ring `r` (R320). -/
def cringSize (s : Dev) (h r : Nat) : Nat := ringSize (getF s F.CRING_CFG_LOG2_SIZE (ix h r))

/-- Entries of completion ring `r` (R320). -/
def cplSize (s : Dev) (h r : Nat) : Nat := ringSize (getF s F.CPL_CFG_LOG2_SIZE (ix h r))

/-- Role of the device (R377): 0 NONE, 1 ACTIVE, 2 STANDBY, 3 ALONE, 4 ISOLATED, 5 JOINING. -/
def role (s : Dev) : Nat := getF s F.PAIR_STAT_ROLE 0

/-! Doorbells (R318, R321, R340). -/

/-- A doorbell value the device takes: the ring is enabled and not adopted, and the value lies in the ring. -/
def doorbellOk (s : Dev) (h r value size : Nat) : Bool × Dev :=
  if getF s F.CRING_CFG_EN (ix h r) = 0 ∨ isAdopted s h r then (false, satAdd s F.HIF_ERRCNT_DB_IGNORED h 1)
  else if size ≤ value then (false, satAdd s F.HIF_ERRCNT_DB_RANGE h 1)
  else (true, s)

/-- COMMAND_DOORBELL (R318): a producer index for command ring `r`, latched in UP, in force in ACTIVE. -/
def commandDoorbell (s : Dev) (h r value : Nat) : Dev :=
  if hifState s h < 2 then s
  else
    let q := doorbellOk s h r value (cringSize s h r)
    if !q.1 then q.2
    else if hifState s h = 2 then setRing s h r { ringOf s h r with latch := some value }
    else setF s F.CRING_PROD_PROD (ix h r) value

/-- A consumer index of a completion ring: the entries it passes are consumed, and with every one passed nothing is
unsignalled (R331, R332). -/
def consumeCpl (s : Dev) (h r value : Nat) : Dev :=
  let i := ix h r
  let x := ringOf s h r
  let size := cplSize s h r
  let n := (value + size - getF s F.CPL_CONS_CONS i) % size
  let gone := (x.entries.take n).filterMap fun c => if c.status = stDup then none else some c.jsn
  let rest := x.entries.drop n
  let s := setF s F.CPL_CONS_CONS i value
  let s := modCtl s fun c => { c with recs := c.recs.map fun j => if gone.contains j.jsn then { j with consumed := true } else j }
  let s := setRing s h r { x with entries := rest, unsig := if rest.isEmpty then 0 else x.unsig,
                                  coalAt := if rest.isEmpty then none else x.coalAt }
  deliver s h r

/-- COMPLETION_DOORBELL (R331). -/
def completionDoorbell (s : Dev) (h r value : Nat) : Dev :=
  if hifState s h < 2 then s
  else
    let q := doorbellOk s h r value (cplSize s h r)
    if !q.1 then q.2
    else if hifState s h = 2 then setRing s h r { ringOf s h r with cplLatch := some value }
    else consumeCpl s h r value

/-- A consumer index of the event ring; a held DURABLE event takes the first slot that frees (R334). -/
def consumeEvt (s : Dev) (h value : Nat) : Dev :=
  let s := setF s F.HIF_EVT_STAT_CONS h value
  match (hifOf s h).heldDur with
  | none => s
  | some e => if evtFull s h then s else putEvent (setHif s h { hifOf s h with heldDur := none }) h e

/-- EVENT_DOORBELL (R334). -/
def eventDoorbell (s : Dev) (h value : Nat) : Dev :=
  if hifState s h < 2 then s
  else if getF s F.HIF_EVT_CFG_EN h = 0 then satAdd s F.HIF_ERRCNT_DB_IGNORED h 1
  else if ringSize (getF s F.HIF_EVT_CFG_LOG2_SIZE h) ≤ value then satAdd s F.HIF_ERRCNT_DB_RANGE h 1
  else if hifState s h = 2 then setHif s h { hifOf s h with evtLatch := some value }
  else consumeEvt s h value

/-! Acceptance (R325 to R329). -/

/-- Commands of ring `r` accepted and not complete. -/
def openCount (s : Dev) (h r : Nat) : Nat :=
  (s.ctl.recs.filter fun j => j.hif == h && j.ring == r && j.dec.isNone).length

/-- The completion credit of ring `r` that is spent (R327), with an adopted ring's commands counted (R333). -/
def creditUsed (s : Dev) (h r : Nat) : Nat :=
  let x := ringOf s h r
  openCount s h r + (if isAdopted s (1 - h) r then openCount s (1 - h) r else 0) + x.entries.length + x.waiting.length

/-- A copy that a record can be held in before acceptance: a trained stack, or a healthy flash channel (R359, R426). -/
def journalCopy (s : Dev) : Bool :=
  getF s F.JRN_STAT_HBM0 0 == 1 || getF s F.JRN_STAT_HBM1 0 == 1 || getF s F.JRN_STAT_FL0 0 == 1 || getF s F.JRN_STAT_FL1 0 == 1

/-- No pause of R327 holds on ring `r`, and a command waits on it. In host-load Base camp HIF0 alone is served (R425). -/
def canAccept (s : Dev) (h r : Nat) : Bool :=
  hifState s h == 3 && !(h == 1 && getF s F.SEC_FW_STAT_BASECAMP 0 == 3) && getF s F.CRING_CFG_EN (ix h r) == 1 && !isAdopted s h r && mget 0 s.ctl.stop (16 * h + r) == 0 &&
    getF s F.CRING_PROD_PROD (ix h r) != getF s F.CRING_CONS_CONS (ix h r) &&
    decide (creditUsed s h r < cplSize s h r - 1) && decide (s.jrn.staging < 4194304) && !s.jrn.outage &&
    getF s F.JRN_STAT_FULL 0 == 0 && journalCopy s && [1, 2, 3, 4, 5].contains (devState s) && s.rst.phase == 2 && role s != 4 && role s != 5

/-- The next ring of the weighted round-robin that may accept (R329): ring number 16·h + r and commands taken in its turn. -/
def nextRing (s : Dev) : Option (Nat × Nat) :=
  let k := s.host.rr
  if canAccept s (k / 16) (k % 16) &&
      decide (s.host.rrTaken < 8 * (getF s F.CRING_CFG_WEIGHT (ix (k / 16) (k % 16)) + 1)) then some (k, s.host.rrTaken)
  else
    match ((List.range 32).map fun d => (k + 1 + d) % 32).find? fun q => canAccept s (q / 16) (q % 16) with
    | some q => some (q, 0)
    | none => none

/-- The consumer index passes a command, with its write-back: at most one per microsecond (R325). -/
def passCommand (s : Dev) (h r : Nat) : Dev :=
  let i := ix h r
  let s := setF s F.CRING_CONS_CONS i ((getF s F.CRING_CONS_CONS i + 1) % cringSize s h r)
  let x := ringOf s h r
  let due := match x.wbAt with | none => true | some a => decide (a + 54000 ≤ s.now)
  if due then writeBack s h r else setRing s h r { x with wbPend := true }

/-- The completions a ring's last 65,536 commands are retained with (R326), newest first. -/
def retained (s : Dev) (h r : Nat) : List JRec :=
  ((s.ctl.recs.filter fun j => j.hif == h && j.ring == r).reverse).take 65536

/-- A command whose CMD_ID is at or below CRING_LASTID (R326): passed with no JSN, completed with DUPLICATE. -/
def acceptDup (s : Dev) (h r cmdId : Nat) : Dev :=
  let s := passCommand s h r
  match (retained s h r).find? fun j => j.cmdId == cmdId with
  | none => queueCpls s h r [{ cmdId := cmdId, jsn := 0, applied := 0, detail := 0, status := stDup, orig := 0xFFF }]
  | some j =>
    match j.dec with
    | some d => queueDup s h r (dupOf s j d)
    | none => let x := ringOf s h r; setRing s h r { x with dups := x.dups ++ [cmdId] }

/-- Bytes a command's journal record takes: its descriptor with the payload, or with its digest (R323, R358). -/
def recBytes (d : Bytes) : Nat :=
  if dOp d = 0x24 ∨ dOp d = 0x70 then 96 else if hasBuf (dOp d) ∧ dBufLen d ≤ bufCap (dOp d) then 64 + dBufLen d else 64

/-- The record of an accepted command (R358). A buffer above its cap is not read (R323). -/
def mkRec (jsn h r : Nat) (d b : Bytes) : JRec :=
  { jsn := jsn, hif := h, ring := r, cmdId := dCmdId d, op := dOp d, flags := dFlags d, target := dTarget d, desc := d,
    buf := if hasBuf (dOp d) && decide (dBufLen d ≤ bufCap (dOp d)) then b.take (dBufLen d) else [] }

/-- A command enters the journal and is accepted (R325 steps 3 to 5). -/
def acceptNew (s : Dev) (h r : Nat) (d b : Bytes) : Dev :=
  let q := nextJsn s
  let s := journal q.2 (recBytes d)
  let s := modCtl s fun c => { c with recs := c.recs ++ [mkRec q.1 h r d b], lastId := mset 0 c.lastId (16 * h + r) (dCmdId d) }
  let s := if getF s F.JRN_STAT_PEER 0 = 1 then emit s (.peer 2 q.1) else s
  passCommand s h r

/-- A failed DMA read stops the ring (R328); AER reports it to the host, outside the model. -/
def stopDma (s : Dev) (h r : Nat) : Dev :=
  satAdd (modCtl s fun c => { c with stop := mset 0 c.stop (16 * h + r) 2 }) F.HIF_ERRCNT_DMA h 1

/-- COMMAND_ACCEPT (R325): the next command of the round-robin is read (`fetch`: descriptor and buffer, none when a DMA
read fails), checked, journalled and passed. In Pair the peer's acknowledgement is awaited (R359), and a standby forwards
the command instead (R372). -/
def commandAccept (s : Dev) (fetch : Option (Bytes × Bytes)) (peerAck : Bool) : Dev :=
  match nextRing s with
  | none => s
  | some (k, taken) =>
    let h := k / 16
    let r := k % 16
    match fetch with
    | none => stopDma s h r
    | some (d, b) =>
      if dCmdId d ≤ mget 0 s.ctl.lastId k then acceptDup { s with host := { s.host with rr := k, rrTaken := taken } } h r (dCmdId d)
      else if role s = 2 then emit (setRing s h r { ringOf s h r with fwd := some (d, b) }) (.peer 1 (leVal d * 64 + k))
      else if getF s F.JRN_STAT_PEER 0 = 1 ∧ !peerAck then s
      else acceptNew { s with host := { s.host with rr := k, rrTaken := taken + 1 } } h r d b

/-- WRITEBACK_WRITE (R325): the write-back, and then the completions that waited behind it. -/
def writebackWrite (s : Dev) (h r : Nat) : Dev :=
  let x := ringOf s h r
  let due := match x.wbAt with | none => true | some a => decide (a + 54000 ≤ s.now)
  if x.wbPend && due then deliver (writeBack s h r) h r else s

/-! Interrupt timers (R332, R334). -/

/-- COAL_US has run since the first unsignalled completion (R332); a COAL_US of 0 disables the trigger. -/
def coalDue (s : Dev) (h r : Nat) : Bool :=
  let us := getF s F.CPL_CFG_COAL_US (ix h r)
  match (ringOf s h r).coalAt with
  | none => false
  | some a => us != 0 && decide (a + us * 54000 ≤ s.now)

/-- COALESCE_TIMER (R332). -/
def coalesceTimer (s : Dev) (h r : Nat) : Dev :=
  if coalDue s h r && hifState s h == 3 then signalRing s h r else s

/-- EVENT_IRQ_TIMER (R334). -/
def eventIrqTimer (s : Dev) (h : Nat) : Dev :=
  let x := hifOf s h
  let due := match x.evtIrqAt with
    | none => true
    | some a => decide (a + getF s F.HIF_EVT_CFG_MIN_US h * 54000 ≤ s.now)
  if x.evtIrqPend && due && hifState s h == 3 then
    sendMsix (setHif s h { x with evtIrqAt := some s.now, evtIrqPend := false }) h (getF s F.HIF_EVT_CFG_VEC h)
  else s

/-! Ring set-up (R320, R321, R328, R332, R333, R337). -/

/-- The backlog of ring `r` of HIF `h` (R331): decided, not consumed, in JSN order, less what stands written and
unconsumed on the adopting HIF's ring. -/
def backlogOf (s : Dev) (h r : Nat) : List Cpl :=
  let away := ((ringOf s (1 - h) r).entries.filter fun c => c.foreign == 1).map (·.jsn)
  (s.ctl.recs.filter fun j => j.hif == h && j.ring == r && !j.consumed && !away.contains j.jsn).filterMap fun j =>
    j.dec.map fun d => { cplOf s j d with foreign := 0 }

/-- CRING_ENABLE (R320, R331, R333): EN from 0 to 1 returns an adopted ring, zeroes the indices, sets PHASE 1 and
re-delivers the backlog. -/
def cringEnable (s : Dev) (h r : Nat) : Dev :=
  if getF s F.CRING_CFG_EN (ix h r) = 1 then s
  else
    let s := if isAdopted s h r then
        let y := ringOf s (1 - h) r
        setRing (modCtl s fun c => { c with adopted := mset 0 c.adopted (16 * h + r) 0 }) (1 - h) r
          { y with waiting := y.waiting.filter fun c => c.foreign != 1 }
      else s
    let b := backlogOf s h r
    let s := setFs s (ix h r) [(F.CRING_CFG_EN, 1), (F.CRING_PROD_PROD, 0), (F.CRING_CONS_CONS, 0), (F.CPL_PROD_PROD, 0),
      (F.CPL_CONS_CONS, 0)]
    let x := ringOf s h r
    deliver (setRing s h r { x with phase := 1, entries := [], waiting := b, unsig := 0, coalAt := none, wbPend := false,
                                    latch := none, cplLatch := none }) h r

/-- CRING_DISABLE (R321): acceptance stops; completions are held until the ring is enabled again or adopted. -/
def cringDisable (s : Dev) (h r : Nat) : Dev := setF s F.CRING_CFG_EN (ix h r) 0

/-- CRING_RESUME (R328): the ring leaves STOPPED, enabled or not. -/
def cringResume (s : Dev) (h r : Nat) : Dev := modCtl s fun c => { c with stop := mset 0 c.stop (16 * h + r) 0 }

/-- CPL_COALESCE_WRITE (R332): the new values act at once on the running timer and count. -/
def cplCoalesceWrite (s : Dev) (h r us n : Nat) : Dev :=
  let s := setFs s (ix h r) [(F.CPL_CFG_COAL_US, us), (F.CPL_CFG_COAL_N, n)]
  let c := getF s F.CPL_CFG_COAL_N (ix h r)
  if hifState s h == 3 && (coalDue s h r || (c != 0 && decide (c ≤ (ringOf s h r).unsig))) then signalRing s h r else s

/-- EVT_RING_ENABLE (R337): EN from 0 to 1 zeroes the indices and sets PHASE 1; a held DURABLE then finds a free slot. -/
def evtRingEnable (s : Dev) (h : Nat) : Dev :=
  if getF s F.HIF_EVT_CFG_EN h = 1 then s
  else
    let s := setFs s h [(F.HIF_EVT_CFG_EN, 1), (F.HIF_EVT_STAT_PROD, 0)]
    let s := setHif s h { hifOf s h with evtPhase := 1 }
    if hifState s h = 3 then consumeEvt s h 0 else setF s F.HIF_EVT_STAT_CONS h 0

/-! HIF states (R315, R319). -/

/-- Release of HIF reach still waits: PERST asserted, or the sub-domain in reset (R454). -/
def hifHeld (s : Dev) (h : Nat) : Bool :=
  (hifOf s h).perst || s.rst.inReset.any (fun d => d.step == 9 && d.unit == h) ||
    s.rst.reqs.any (fun q => q.reach == 6 && q.unit == h && q.src != 8)

/-- Every register field of HIF `h` returns to its reset value (R319, R336). -/
def clearHifRegs (s : Dev) (h : Nat) : Dev :=
  { s with regs := s.regs.filter fun e => !(codeBlk (e.1 % 262144) == 4 && e.1 / 262144 % 2 == h) }

/-- HIF `h` enters RESET (R319): its ring registers take their reset values, its rings are disabled, its completions stay
in the journal backlog, which CPL_STAT.BACKLOG counts (R331, R339). -/
def hifEnterReset (s : Dev) (h : Nat) : Dev :=
  let was := hifState s h
  let s := clearHifRegs s h
  let x := hifOf s h
  let s := setHif s h { x with link := false, bme := false, d0 := true, evtPhase := 1, evtIrqPend := false, heldDur := none,
                               evtLatch := none, table := [], pba := 0, inactiveAt := if was = 3 then s.now else x.inactiveAt }
  (List.range 16).foldl (fun s r =>
    let y := ringOf s h r
    let b := if isAdopted s h r then [] else backlogOf s h r
    setF (setRing s h r { phase := 1, dups := y.dups, waiting := b }) F.CPL_STAT_BACKLOG (ix h r) b.length) s

/-- The state that link, Bus Master Enable and power state give (R319). -/
def hifTarget (s : Dev) (h : Nat) : Nat :=
  let x := hifOf s h
  if hifHeld s h then 0 else if !x.link then 1 else if !x.bme || !x.d0 then 2 else 3

/-- Completions between the consumer and producer indices are rewritten with unchanged contents and phase (R331). -/
def rewriteRing (s : Dev) (h r : Nat) : Dev :=
  (ringOf s h r).entries.foldl (fun s c =>
    emit s (.dma h (getF s F.CPL_BASE_BASE (ix h r) * 4096 + 32 * c.slot) 32 (cplEntry c))) s

/-- Act on what was latched in UP (R318). -/
def takeLatches (s : Dev) (h r : Nat) : Dev :=
  let x := ringOf s h r
  let s := setRing s h r { x with latch := none, cplLatch := none }
  let s := match x.latch with | none => s | some v => setF s F.CRING_PROD_PROD (ix h r) v
  match x.cplLatch with | none => s | some v => consumeCpl s h r v

/-- Every pending vector of HIF `h` that is no longer masked is sent (R332; log entry 74, PRESUMED). -/
def sendPending (s : Dev) (h : Nat) : Dev :=
  (List.range 64).foldl (fun s v =>
    let x := hifOf s h
    if bit x.pba v && !vecMasked x v then emit (setHif s h { x with pba := x.pba - 2 ^ v }) (.msix h v) else s) s

/-- A word of the MSI-X table or of the pending-bit array (R316); what else BAR4 reads as is not stated (log entry 74). -/
def msixWord (s : Dev) (h i : Nat) : Nat :=
  let x := hifOf s h
  if i < 256 then mget (vecReset i) x.table i
  else if i = 512 then x.pba % 2 ^ 32
  else if i = 513 then x.pba / 2 ^ 32
  else (Config.bar4Gap i).toNat

/-- A write of a word of BAR4: the table stores it, a control word only its mask; the rest is read-only. -/
def setMsixWord (s : Dev) (h i v : Nat) : Dev :=
  let x := hifOf s h
  if i < 256 then setHif s h { x with table := mset (vecReset i) x.table i (if i % 4 = 3 then v % 2 else v % 2 ^ 32) } else s

/-- A read of BAR4 by its own aligned 4-byte or 8-byte access (R316). -/
def msixRead (s : Dev) (h off size : Nat) : Nat :=
  if size = 8 ∧ off % 8 = 0 then msixWord s h (off / 4) + msixWord s h (off / 4 + 1) * 2 ^ 32
  else if size = 4 ∧ off % 4 = 0 then msixWord s h (off / 4)
  else (Config.bar4Gap (off + 1024)).toNat % 2 ^ (8 * size)

/-- A write of BAR4 by its own aligned 4-byte or 8-byte access: a vector unmasked while it is pending is sent (R316, R332). -/
def msixWrite (s : Dev) (h off size v : Nat) : Dev :=
  let s := if size = 8 ∧ off % 8 = 0 then setMsixWord (setMsixWord s h (off / 4) (v % 2 ^ 32)) h (off / 4 + 1) (v / 2 ^ 32)
    else if size = 4 ∧ off % 4 = 0 then setMsixWord s h (off / 4) v else s
  if hifState s h = 3 then sendPending s h else s

/-- HIF `h` moves to the state its inputs give; a return to ACTIVE re-delivers completions and takes latched doorbells. -/
def hifMove (s : Dev) (h : Nat) : Dev :=
  let old := hifState s h
  let new := hifTarget s h
  let s := setF s F.HIF_STAT_STATE h new
  let s := if old = 3 ∧ new ≠ 3 then setHif s h { hifOf s h with inactiveAt := s.now } else s
  if new = 3 ∧ old ≠ 3 then
    let s := sendPending s h
    let s := (List.range 16).foldl (fun s r => deliver (takeLatches (rewriteRing s h r) h r) h r) s
    match (hifOf s h).evtLatch with
    | none => s
    | some v => consumeEvt (setHif s h { hifOf s h with evtLatch := none }) h v
  else s

/-- HIF_PERST (R315, R319): PERST, hot reset or function-level reset asserted or released. -/
def hifPerst (s : Dev) (h : Nat) (asserted : Bool) : Dev :=
  if asserted then
    let s := hifEnterReset (enteredReset (assertReset s 6 h 8 false) 6 h 8) h
    setHif s h { hifOf s h with perst := true }
  else hifMove (setHif (releaseReset s 6 h 8) h { hifOf s h with perst := false }) h

/-- HIF_LINK_CHANGE (R319, R336): link, Bus Master Enable and power state as they now stand. -/
def hifLinkChange (s : Dev) (h : Nat) (link bme d0 : Bool) (speed width : Nat) : Dev :=
  if hifHeld s h then s
  else
    let s := setHif s h { hifOf s h with link := link, bme := bme, d0 := d0 }
    let s := setFs s h [(F.HIF_STAT_SPEED, if link then speed else 0), (F.HIF_STAT_WIDTH, if link then width else 0)]
    hifMove s h

/-! The commands of this file. -/

/-- COMMAND_DOORBELL (R318): a producer index for command ring `r` of HIF `h`. -/
def execCommandDoorbell (t : Nat) (h : Fin 2) (r : Fin 16) (value : Nat) (s : State) : Host.Outcome State Fault Refusal :=
  .next { s with dev := commandDoorbell (s.dev.at t) h r value }

/-- WRITEBACK_WRITE (R325): the write-back of ring `r` falls due. -/
def execWritebackWrite (t : Nat) (h : Fin 2) (r : Fin 16) (s : State) : Host.Outcome State Fault Refusal :=
  .next { s with dev := writebackWrite (s.dev.at t) h r }

/-- COMPLETION_DOORBELL (R331): a consumer index for completion ring `r` of HIF `h`. -/
def execCompletionDoorbell (t : Nat) (h : Fin 2) (r : Fin 16) (value : Nat) (s : State) : Host.Outcome State Fault Refusal :=
  .next { s with dev := completionDoorbell (s.dev.at t) h r value }

/-- EVENT_DOORBELL (R334): a consumer index for the event ring of HIF `h`. -/
def execEventDoorbell (t : Nat) (h : Fin 2) (value : Nat) (s : State) : Host.Outcome State Fault Refusal :=
  .next { s with dev := eventDoorbell (s.dev.at t) h value }

/-- COALESCE_TIMER (R332): the coalescing timer of completion ring `r` runs out. -/
def execCoalesceTimer (t : Nat) (h : Fin 2) (r : Fin 16) (s : State) : Host.Outcome State Fault Refusal :=
  .next { s with dev := coalesceTimer (s.dev.at t) h r }

/-- EVENT_IRQ_TIMER (R334): MIN_US has passed since the last event message. -/
def execEventIrqTimer (t : Nat) (h : Fin 2) (s : State) : Host.Outcome State Fault Refusal :=
  .next { s with dev := eventIrqTimer (s.dev.at t) h }

/-- CRING_ENABLE (R320): CRING_CFG.EN is written from 0 to 1. -/
def execCringEnable (t : Nat) (h : Fin 2) (r : Fin 16) (s : State) : Host.Outcome State Fault Refusal :=
  .next { s with dev := cringEnable (s.dev.at t) h r }

/-- CRING_DISABLE (R321): CRING_CFG.EN is written 0. -/
def execCringDisable (t : Nat) (h : Fin 2) (r : Fin 16) (s : State) : Host.Outcome State Fault Refusal :=
  .next { s with dev := cringDisable (s.dev.at t) h r }

/-- CRING_RESUME (R328): CRING_CFG.RESUME is written 1. -/
def execCringResume (t : Nat) (h : Fin 2) (r : Fin 16) (s : State) : Host.Outcome State Fault Refusal :=
  .next { s with dev := cringResume (s.dev.at t) h r }

/-- CPL_COALESCE_WRITE (R332): COAL_US and COAL_N are written. -/
def execCplCoalesceWrite (t : Nat) (h : Fin 2) (r : Fin 16) (us n : Nat) (s : State) : Host.Outcome State Fault Refusal :=
  .next { s with dev := cplCoalesceWrite (s.dev.at t) h r us n }

/-- EVT_RING_ENABLE (R337): HIF_EVT_CFG.EN is written from 0 to 1. -/
def execEvtRingEnable (t : Nat) (h : Fin 2) (s : State) : Host.Outcome State Fault Refusal :=
  .next { s with dev := evtRingEnable (s.dev.at t) h }

/-- HIF_PERST (R315, R319): PERST, hot reset or function-level reset of HIF `h` is asserted or released. -/
def execHifPerst (t : Nat) (h : Fin 2) (asserted : Bool) (s : State) : Host.Outcome State Fault Refusal :=
  .next { s with dev := hifPerst (s.dev.at t) h asserted }

/-- HIF_LINK_CHANGE (R319, R336): link, Bus Master Enable and power state of HIF `h` as they now stand. -/
def execHifLinkChange (t : Nat) (h : Fin 2) (link bme d0 : Bool) (speed width : Nat) (s : State) : Host.Outcome State Fault Refusal :=
  .next { s with dev := hifLinkChange (s.dev.at t) h link bme d0 speed width }

end Sys2Proof.Machine
end

