-- ==== Sys2Proof/Machine/Sched.lean ====
section
/-! DEFINITION. Scheduling of commands: which frame a command makes (R77 to R81, R94, R41), the checks that every
command passes (R342), pending items and their completion (R82, R83), and the JSN fence (R362). -/

namespace Sys2Proof.Machine

/-! Formats of destinations (R78) and switching instants (R77). -/

/-- FORMAT of local source `n` of plane `p` (R47). -/
def srcFmt (s : Dev) (p n : Nat) : Nat := getF s F.PLN_SRCSTAT_FORMAT (ix p n)

/-- KIND of local source `n` of plane `p`: 0 NONE, 1 TIMED, 2 FSYNC, 3 UNTIMED (R47). -/
def srcKind (s : Dev) (p n : Nat) : Nat := getF s F.PLN_SRCSTAT_KIND (ix p n)

/-- Engine state of a source at a plane. -/
def srcSt (s : Dev) (p n : Nat) : SrcSt := mget {} s.pln.src (ix p n)

/-- Output state of a destination at a plane. -/
def dstSt (s : Dev) (p d : Nat) : DstSt := mget {} s.pln.dst (ix p d)

/-- Store the output state of a destination. -/
def setDst (s : Dev) (p d : Nat) (x : DstSt) : Dev := { s with pln := { s.pln with dst := mset {} s.pln.dst (ix p d) x } }

/-- The nominal raster of R78 and R150: 1125 lines at the house rate. -/
def houseFmt (s : Dev) : Nat := 0x60 + s.ctl.ref.rate

/-- The applied layout record of compositor `c` (R153); empty before any COMP_SET. -/
def compRec (s : Dev) (p c : Nat) : Bytes := (mechOf s mkComp (pkey s p c)).data

/-- Layer record field of `len` bytes at `off` of layer `l` (R154). -/
def layerFld (rec : Bytes) (l off len : Nat) : Nat := le rec (32 + 64 * l + off) len

/-- Items pending on a destination key before frame `n`, or all of them when `n` is 0: (frame, jsn, item). -/
def pendingOn (s : Dev) (k n : Nat) : List (Nat × Nat × PItem) :=
  s.ctl.pend.flatMap fun q =>
    if (q.op = 0x10 ∨ q.op = 0x11) ∧ (n = 0 ∨ q.frame < n) then
      (q.items.filter fun i => i.key == k && i.state == 0).map fun i => (q.frame, q.jsn, i)
    else []

/-- The later of two pending items by frame, then JSN. -/
def laterItem (a b : Nat × Nat × PItem) : Nat × Nat × PItem :=
  if a.1 < b.1 ∨ (a.1 = b.1 ∧ a.2.1 < b.2.1) then b else a

/-- The source (plane, index) that destination key `k` carries at frame `n` as the entry and the schedule stand (R41). -/
def scheduledSrc (s : Dev) (k n : Nat) : Nat × Nat :=
  match pendingOn s k n with
  | [] => ((routeOf s k).srcPlane, (routeOf s k).src)
  | a :: r => let z := (r.foldl laterItem a).2.2; (z.srcPlane, z.src)

/-- The format that Otira destination `d` sends at the start of frame `n` (R78), 0 where it has sent none: what it sends now, or the
format of the source that the commands scheduled before `n` give it. -/
def outgoing (s : Dev) (p d n : Nat) : Nat :=
  let o := dstSt s p d
  let now := if o.sent then o.outFmt else 0
  let k := pkey s p d
  if (pendingOn s k n).isEmpty then now
  else
    let z := scheduledSrc s k n
    let f := if z.2 = 0x7FF then 0 else srcFmt s (if s.ctl.pair then z.1 else p) z.2
    if f = 0 then now else f

/-- Format of destination `d` for frame `n` (R78); `inFmt` is the incoming source's FORMAT, 0 unknown. -/
def dstFmt (s : Dev) (p d n inFmt : Nat) : Nat :=
  match dstKind d with
  | 0 => let o := outgoing s p d n
         if o ≠ 0 then o else if inFmt ≠ 0 then inFmt else houseFmt s
  | 1 => let f := senderFmt s p (d - 1152); if f = 0 then houseFmt s else f
  | _ => let r := compRec s p ((d - 1536) / 8); if r.isEmpty then houseFmt s else le r 0 1

/-- Line period of a format in ticks (R77). -/
def linePeriod (s : Dev) (f : Nat) : Nat :=
  let p := framePeriod (f % 16)
  (if p = 0 then framePeriod s.ctl.ref.rate else p) / totalLines f

/-- A take in frame `n` of a source of format `inFmt` changes the format of Otira destination `d`, or a format is unknown: the switch
falls at frame start (R78). -/
def fmtSwitch (s : Dev) (p d n inFmt : Nat) : Bool :=
  let o := outgoing s p d n
  o == 0 || inFmt == 0 || o != inFmt

/-- Switching line of destination `d`: its override, or the RP 168 line (R77, R79). -/
def switchLineOf (s : Dev) (p d f : Nat) : Nat :=
  let l := (routeOf s (pkey s p d)).switchLine
  if l = 0 then rpLine f else l

/-- The switching instant of destination `d` of plane `p` in frame `n` (R77, R78). `take` says that a source change is
meant, `inFmt` its format. -/
def switchAt (s : Dev) (p d n : Nat) (take : Bool) (inFmt : Nat) : Nat :=
  let f := dstFmt s p d n inFmt
  if dstKind d = 0 && !(take && fmtSwitch s p d n inFmt) then
    frameStart s n + (switchLineOf s p d f - 1) * linePeriod s f
  else frameStart s n

/-- The arm instant (R80). -/
def armAt (s : Dev) (p d n : Nat) (take : Bool) (inFmt : Nat) : Nat :=
  switchAt s p d n take inFmt - (routeOf s (pkey s p d)).armLines * linePeriod s (dstFmt s p d n inFmt)

/-- Plane and local destination of a route key; in Single every key is of plane A's copy. -/
def keyPlane (s : Dev) (k : Nat) : Nat := if s.ctl.pair then k % 2 else 0

/-- Earliest of a list of times; `m` when the list is empty. -/
def minTime (m : Nat) (l : List Nat) : Nat := l.foldl min m

/-- Teams that hold any of the destination keys. -/
def teamsOf (s : Dev) (ks : List Nat) : List Team :=
  (s.ctl.teams.map (·.2)).filter fun t => t.members.any fun m => ks.contains m

/-- The deadline of a command in frame `n` (R80, R94): the earliest arm instant among its items (destination key, take,
incoming format) and among all members of every team they touch. -/
def itemsDeadline (s : Dev) (items : List (Nat × Bool × Nat)) (n : Nat) : Nat :=
  let own := items.map fun q => armAt s (keyPlane s q.1) (q.1 / 2) n q.2.1 q.2.2
  let team := (teamsOf s (items.map (·.1))).flatMap fun t => t.members.map fun k => armAt s (keyPlane s k) (k / 2) n false 0
  match own ++ team with
  | [] => frameStart s n
  | a :: r => minTime a r

/-- First frame from `n` on, within `fuel` frames, that is admissible and whose deadline follows now. -/
def firstFrame (s : Dev) (dl : Nat → Nat) (ok : Nat → Bool) : Nat → Nat → Nat
  | 0, n => n
  | k + 1, n => if ok n && decide (s.now < dl n) then n else firstFrame s dl ok k (n + 1)

/-- What R80, R81 and R41 decide: the frame with `deferred` and REASON, or none for LATE. -/
def chooseFrame (s : Dev) (flags target : Nat) (dl : Nat → Nat) (ok : Nat → Bool) : Option (Nat × Bool × Nat) :=
  let h := hfn s
  if !bit flags 1 || target == 0 then some (firstFrame s dl ok 64 h, false, 0)
  else
    let meets := decide (h < target) && decide (s.now < dl target)
    if meets && ok target then some (target, false, 0)
    else if bit flags 2 then none
    else some (firstFrame s dl ok 64 (max (target + 1) h), true, if ok target then 8 else 7)

/-- REASON of a LATE: 0x7 where the even-frame rule does not admit the target (R41), 0x8 otherwise (R87). -/
def lateReason (ok : Nat → Bool) (target : Nat) : Nat := if ok target then 8 else 7

/-! The checks of every command (R342). -/

/-- A target more than 1,048,576 frames after the current house frame (R81). -/
def targetFar (s : Dev) (j : JRec) : Bool := bit j.flags 1 && decide (hfn s + 1048576 < j.target)

/-- BUF_LEN above its cap (R323). -/
def bufOver (j : JRec) : Bool := hasBuf j.op && decide (bufCap j.op < dBufLen j.desc)

/-- The checks in the order of R342: malformed, the opcode's INVALID, RANGE, the legality table, and the rest. `det` gives
the detail word of a byte offset, so that opcodes with their own detail word use it. -/
def checksOf (s : Dev) (j : JRec) (det : Nat → Nat) (inv rng conf rest : List (Bool × Nat × Nat)) : Option Refuse :=
  firstFail ([(!opcodes.contains j.op, stUnknown, 0),
      ((reservedAt j.desc).isSome, stInvalid, det ((reservedAt j.desc).getD 0))] ++ inv ++
    [(bufOver j, stRange, det 32), (targetFar s j, stRange, det 16)] ++ rng ++
    [(!(legalIn j.op (bit (le j.desc 24 1) 0)).contains (devState s), stConflict, det 0)] ++ conf ++ rest)

/-- Generic detail of a descriptor offset (R344). -/
def gdet (off : Nat) : Nat := genDetail off false 0

/-- Validation of `j` must wait (R347): it carries BARRIER and an earlier command is not complete, or an earlier barrier
is not complete. -/
def blocked (s : Dev) (j : JRec) : Bool :=
  s.ctl.recs.any fun q => decide (q.jsn < j.jsn) && q.dec.isNone && (isBarrier j || isBarrier q)

/-- Validate the journalled command `jsn` of opcode `op` by `k` at time `t`; nothing happens where it is decided already,
scheduled already, held behind a barrier, or validation has stopped (R347, R355, R365), and on a device that does not hold the
active role of a Pair (R372, R375). -/
def withCmd (s : Dev) (t jsn op : Nat) (k : Dev → JRec → Dev) : Dev :=
  let s := s.at t
  match recOf s jsn with
  | none => s
  | some j =>
    if j.op != op || j.dec.isSome || j.validated || s.jrn.outage || [2, 4, 5].contains (role s) || blocked s j then s else k s j

/-- Refuse a command: class 0x01 to 0x05, APPLIED 0 (R330, R341). -/
def refuse (s : Dev) (j : JRec) (r : Refuse) : Dev := decideCmd s j.jsn r.1 0 r.2

/-- Complete every command whose opcode the table does not list (R342 step 2) and that no barrier holds back. -/
def sweepUnknown (s : Dev) : Dev :=
  s.ctl.recs.foldl (fun s j =>
    if j.dec.isNone && !opcodes.contains j.op && !blocked s j && !s.jrn.outage then decideCmd s j.jsn stUnknown 0 0 else s) s

/-! Pending commands. -/

/-- Pending items counted by R81: each salvo item, each TAKE, and each AUDIO_MAP as one (R205). -/
def pendCount (s : Dev) : Nat :=
  (s.ctl.pend.map fun q => if q.op = 0x10 ∨ q.op = 0x11 then q.items.length else if q.op = 0x30 then 1 else 0).sum

/-- Insert in JSN order. -/
def insPend (x : Pend) : List Pend → List Pend
  | [] => [x]
  | y :: r => if x.jsn < y.jsn then x :: y :: r else y :: insPend x r

/-- PLN_DSTSTAT.PENDING of a destination key follows the pending list (R76). -/
def syncPending (s : Dev) (k : Nat) : Dev :=
  let n := (s.ctl.pend.map fun q =>
    if q.op = 0x13 then 0 else (q.items.filter fun i => i.key == k && i.state == 0).length).sum
  let v := if 255 < n then 255 else n
  if s.ctl.pair then setF s F.PLN_DSTSTAT_PENDING k v
  else setF (setF s F.PLN_DSTSTAT_PENDING k v) F.PLN_DSTSTAT_PENDING (k + 1) v

/-- Load a command into the apply queue (R80): its pending entry, and the mark that it is validated. -/
def schedule (s : Dev) (x : Pend) : Dev :=
  let s := modCtl s fun c => { c with pend := insPend x c.pend }
  let s := modRec s x.jsn fun r => { r with validated := true }
  if x.op = 0x10 ∨ x.op = 0x11 ∨ x.op = 0x12 ∨ x.op = 0x15 then
    x.items.foldl (fun s i => syncPending s i.key) s
  else s

/-- Take a pending command out. -/
def unpend (s : Dev) (jsn : Nat) : Dev := modCtl s fun c => { c with pend := c.pend.filter fun q => q.jsn != jsn }

/-- Work applies on one path only (R88, R122, R341): exactly one plane in service in Single, ALONE in Pair. -/
def onePath (s : Dev) : Bool :=
  if s.ctl.pair then role s == 3
  else
    let up := fun p => planeState s p == 3 || planeState s p == 4
    up 0 != up 1

/-- Status of a command that has applied (R341, R343). -/
def doneStatus (s : Dev) (deferred : Bool) : Nat := if onePath s then stOnePath else if deferred then stDeferred else stDone

/-- Schedule a command that applies at a frame start, deadline `lead` ticks before it (R354 'Frame start, 1 ms'); LATE
carries the generic detail 0. -/
def scheduleFrame (s : Dev) (j : JRec) (dl : Nat → Nat) : Dev :=
  match chooseFrame s j.flags j.target dl (fun _ => true) with
  | none => refuse s j (stLate, 0)
  | some (n, dfr, why) =>
    schedule s { jsn := j.jsn, op := j.op, frame := n, atFrame := bit j.flags 1 && j.target != 0, deferred := dfr, reason := why }

/-- Deadline of 'Frame start, 1 ms' (R354). -/
def dlMs (s : Dev) (n : Nat) : Nat := frameStart s n - 54000000

/-- A command due at a frame start has applied: its completion (R354). -/
def finishFrame (s : Dev) (x : Pend) (n : Nat) : Dev :=
  decideCmd (unpend s x.jsn) x.jsn (doneStatus s x.deferred) n 0

/-! The JSN fence (R362). -/

/-- The hardware refuses an apply at or below the recorded JSN: counted in JRN_FENCE, and in service outside replay a
FATAL event on JRN. -/
def fenceRefusal (s : Dev) : Dev :=
  if getF s F.JRN_STAT_REPLAY 0 = 1 then satAdd s F.JRN_FENCE_REPLAY 0 1
  else
    let s := satAdd s F.JRN_FENCE_LIVE 0 1
    if devState s = dvService then faultEvent s 32 0x0B 0 else s

/-- Apply a change to a mechanism through the fence: `set` runs above the recorded JSN. Answers whether it applied. -/
def fenced (s : Dev) (jsn recorded : Nat) (set : Dev → Dev) : Bool × Dev :=
  if jsn ≤ recorded then (false, fenceRefusal s) else (true, set s)

/-! The commands of this file. -/

/-- COMMAND_ACCEPT (R325): the next command of the round-robin is read (descriptor and buffer; none when a DMA read fails) and accepted. -/
def execCommandAccept (t : Nat) (fetch : Option (Bytes × Bytes)) (peerAck : Bool) (s : State) : Host.Outcome State Fault Refusal :=
  .next { s with dev := sweepUnknown (commandAccept (s.dev.at t) fetch peerAck) }

end Sys2Proof.Machine
end

