-- ==== Sys2Proof/Machine/Switching.lean ====
section
/-! DEFINITION. Switching on the frame: TAKE, SALVO, PROTECT, DEST_POLICY, GROUP_SET and the switching instant
(R74 to R96, R39, R46, R16). -/

namespace Sys2Proof.Machine

/-! Formats a destination cannot carry (R37, R39, R152, R304). -/

/-- Sampling code of a source (R153): 0 where it is 4:2:2 10-bit. -/
def srcSamp (s : Dev) (p n : Nat) : Nat :=
  match srcKindOf n with
  | 2 => bits (le (compRec s p (n - 1536)) 1 1) 0 4
  | 3 => bits (le (mechOf s mkGen (pkey s p (n - 1568))).data 3 1) 0 4
  | _ => (srcSt s p n).sampling

/-- Scan of a raster: interlaced 525i, 625i, 1080i (R152: 1080psF counts as progressive). -/
def isInterlaced (f : Nat) : Bool := f / 16 == 1 || f / 16 == 2 || f / 16 == 4

/-- Cropped width of a source of width `w` at layer `l` (R154). -/
def cropW (rec : Bytes) (l w : Nat) : Nat := w - w * layerFld rec l 12 2 / 65536 - w * layerFld rec l 16 2 / 65536

/-- Cropped height. -/
def cropH (rec : Bytes) (l h : Nat) : Nat := h - h * layerFld rec l 14 2 / 65536 - h * layerFld rec l 18 2 / 65536

/-- The layer whose crop and rectangle layer `l` uses: a key layer that of the picture layer naming it (R157). -/
def geomLayer (rec : Bytes) (l : Nat) : Nat :=
  if bit (layerFld rec l 0 1) 3 then
    ((List.range 8).find? fun k => bit (le rec 2 1) k && !bit (layerFld rec k 0 1) 3 && bits (layerFld rec k 4 1) 0 2 == 3 &&
      bits (layerFld rec k 4 1) 2 3 == l).getD l
  else l

/-- A source of this size takes the scaling ratio outside R155, or crops to nothing. -/
def ratioBad (rec : Bytes) (l w h : Nat) : Bool :=
  let g := geomLayer rec l
  let cw := cropW rec g w
  let ch := cropH rec g h
  let rw := layerFld rec g 24 2
  let rh := layerFld rec g 26 2
  decide (rw * 16 < cw) || decide (16 * cw < rw) || decide (rh * 8 < ch) || decide (8 * ch < rh)

/-- Layer input `l` of a compositor cannot carry the source (R152, R156, R175), its layer enabled in an applied COMP_SET.
An encoding of 0xFE is one that resolves to none supported. -/
def layerCannot (rec : Bytes) (l f samp : Nat) (ds : Bool) (enc : Nat) : Bool :=
  let out := le rec 0 1
  let maxF := layerFld rec l 2 1
  let e := layerFld rec l 48 1
  !rec.isEmpty && bit (le rec 2 1) l &&
    (ratioBad rec l (fmtWidth f) (fmtHeight f) || (enc == 0xFE && !bit (layerFld rec l 0 1) 3 && (bits e 0 2 == 3 || bits e 2 2 == 3 || bits e 4 2 == 3)) ||
    (framePeriod (f % 16) != framePeriod (out % 16) || isInterlaced f != isInterlaced out ||
      samp != bits (layerFld rec l 3 1) 0 4 || decide (fmtWidth maxF < fmtWidth f) || decide (fmtHeight maxF < fmtHeight f) || ds))

/-- Destination `d` of plane `p` cannot carry source `n` of plane `q` in its known format (R39). -/
def destCannot (s : Dev) (p d q n : Nat) : Bool :=
  let f := srcFmt s q n
  let samp := srcSamp s q n
  let ds := getF s F.PLN_SRCSTAT_DS (ix q n) == 1
  if n = 0x7FF ∨ f = 0 then false
  else
    match dstKind d with
    | 0 => srcKindOf n ≥ 2 && fmtIface f (samp != 0) == 0
    | 1 =>
      let b := flowRec s (videoFlow s p (d - 1152) 1)
      if b.isEmpty then false
      else if flowEssence b = 1 then decide (6 ≤ fmtIface f (samp != 0)) || le b 44 1 != f || ds
      else le b 44 1 != f || bits (le b 45 1) 0 4 != samp || ds
    | _ => layerCannot (compRec s p ((d - 1536) / 8)) ((d - 1536) % 8) f samp ds (if srcKindOf n < 2 then (srcSt s q n).enc else 0)

/-- The encoding byte that a source indicates: 0xFF none, 0xFE none supported (R175, R304). -/
def srcEnc (s : Dev) (p n : Nat) : Nat :=
  match srcKindOf n with
  | 2 => le (compRec s p (n - 1536)) 16 1
  | 3 =>
    let g := (mechOf s mkGen (pkey s p (n - 1568))).data
    if bits (le g 3 1) 4 4 = 3 then bits (le (mechOf s mkStill (bits (le g 10 2) 0 10)).data 4 1) 0 6 else 0
  | _ => (srcSt s p n).enc

/-- An ST 2110-20 sender's ENC differs from the known encoding of its source in TF, PRIM or RANGE (R304). -/
def encDiffers (s : Dev) (p d q n : Nat) : Bool :=
  let b := flowRec s (videoFlow s p (d - 1152) 1)
  let e := srcEnc s q n
  dstKind d == 1 && !b.isEmpty && flowEssence b == 0 && n != 0x7FF && e != 0xFF && bits e 0 6 != bits (le b 46 1) 0 6

/-! Half-rate sources (R41) and the Col load (R16). -/

/-- A source at half the house rate (R41). -/
def isHalf (s : Dev) (q n : Nat) : Bool := n != 0x7FF && halfRate s.ctl.ref.rate (srcFmt s q n % 16)

/-- Reserved rate on the Col of source `n` of plane `q`, in units of 10 kbit/s × 100 = Mbit/s (R16). -/
def colRate (s : Dev) (q n : Nat) : Nat := if srcKindOf n = 1 then ipRate s q (n - 1152) else 11880

/-- The distinct sources of plane `q` that destinations of the other plane take, with `items` taken in (R16). -/
def crossing (s : Dev) (q : Nat) (items : List PItem) : List Nat :=
  let keys := (s.ctl.routes.map (·.1) ++ s.ctl.pend.flatMap (fun x => x.items.map (·.key)) ++ items.map (·.key)).eraseDups
  let srcs := keys.filterMap fun k =>
    let z := match items.find? fun i => i.key == k with
      | some i => (i.srcPlane, i.src)
      | none => scheduledSrc s k 0
    if k % 2 ≠ q ∧ z.1 = q ∧ z.2 ≠ 0x7FF then some z.2 else none
  srcs.eraseDups

/-- The Col load out of plane `q` in Mbit/s (R16). -/
def colLoad (s : Dev) (q : Nat) (items : List PItem) : Nat := ((crossing s q items).map (colRate s q)).sum

/-- The Col limit is passed in either direction; never in Single (R16). -/
def colOver (s : Dev) (items : List PItem) : Bool :=
  s.ctl.pair && (decide (16000000 < colLoad s 0 items) || decide (16000000 < colLoad s 1 items))

/-! Validation of TAKE and SALVO (R84 to R87, R91). -/

/-- An item as the operands give it: index, destination handle, source handle, item flags. -/
structure RawItem where
  idx : Nat
  dst : Nat
  src : Nat
  flags : Nat
deriving DecidableEq, Repr

/-- Lowest index of an item that fails a test. -/
def failIdx (items : List RawItem) (f : RawItem → Bool) : Option Nat := (items.find? f).map (·.idx)

/-- Destination key of a raw item. -/
def rawKey (s : Dev) (i : RawItem) : Nat := let v := hVal (dstOf s.ctl.pair i.dst); pkey s v.1 v.2

/-- A destination that an earlier item of the list names (R85). -/
def dupDest (items : List RawItem) (i : RawItem) : Bool := items.any fun q => decide (q.idx < i.idx) && q.dst == i.dst

/-- Route change refused by protection (R91). -/
def takeLocked (r : Route) (owner : Nat) : Bool := r.prot == 2 || (r.prot == 1 && r.owner != owner && owner != 0xFFFF)

/-- PROTECT and DEST_POLICY refused by protection (R91). -/
def protLocked (r : Route) (owner : Nat) : Bool := (r.prot == 1 || r.prot == 2) && r.owner != owner && owner != 0xFFFF

/-- One class of checks over every item (R85): the lowest failing index decides, with its REASON. -/
def itemCheck (items : List RawItem) (st : Nat) (why : RawItem → Nat) (f : RawItem → Bool) : Bool × Nat × Nat :=
  match items.find? f with
  | none => (false, 0, 0)
  | some i => (true, st, takeDetail i.idx 0 (why i))

/-- Pending items of decoded raw items. -/
def toItems (s : Dev) (owner : Nat) (items : List RawItem) : List PItem :=
  items.map fun i =>
    let d := hVal (dstOf s.ctl.pair i.dst)
    let q := hVal (srcOf s.ctl.pair i.src)
    { idx := i.idx, key := pkey s d.1 d.2, src := q.2, srcPlane := q.1, flags := i.flags, owner := owner }

/-- Number or direction (R27). -/
def badNumber (s : Dev) (i : RawItem) : Bool :=
  hStatus (dstOf s.ctl.pair i.dst) == stRange || hStatus (srcOf s.ctl.pair i.src) == stRange

/-- Reserved handle kind (R27). -/
def badKind (s : Dev) (i : RawItem) : Bool :=
  hStatus (dstOf s.ctl.pair i.dst) == stInvalid || hStatus (srcOf s.ctl.pair i.src) == stInvalid

/-- Format the destination cannot carry (R39). -/
def badFormat (s : Dev) (i : RawItem) : Bool :=
  let d := hVal (dstOf s.ctl.pair i.dst)
  let q := hVal (srcOf s.ctl.pair i.src)
  !badNumber s i && !badKind s i && destCannot s d.1 d.2 q.1 q.2

/-- The INVALID failure of an item (R85, R86): a reserved bit, a reserved handle kind, or a destination named twice. -/
def badItem (s : Dev) (items : List RawItem) (i : RawItem) : Bool := decide (4 ≤ i.flags) || badKind s i || dupDest items i

/-- The checks of a salvo, class by class (R85, R91, R342); `inv` and `rng` are the checks of the opcode's own operands. -/
def salvoChecks (s : Dev) (j : JRec) (owner : Nat) (items : List RawItem) (inv rng : List (Bool × Nat × Nat)) :
    Option Refuse :=
  let its := toItems s owner items
  let inv2 := inv ++
    [(owner == 0, stInvalid, takeDetail 0 0 9),
     itemCheck items stInvalid (fun i => if 4 ≤ i.flags then 0 else if badKind s i then 1 else 6) (badItem s items)]
  let rng2 := rng ++
    [itemCheck items stRange (fun i => if badNumber s i then 2 else 3) (fun i => badNumber s i || badFormat s i)]
  let rest :=
    [itemCheck items stLocked (fun _ => 4) (fun i => takeLocked (routeOf s (rawKey s i)) owner),
     (colOver s its, stBudget, takeDetail 0 0 5),
     (decide (65536 < pendCount s + items.length), stBusy, 0)]
  checksOf s j (fun _ => 0) inv2 rng2 [] rest

/-- The deadline of the items of a TAKE or SALVO in a frame (R80). -/
def takeDeadline (s : Dev) (its : List PItem) (n : Nat) : Nat :=
  itemsDeadline s (its.map fun i => (i.key, true, srcFmt s i.srcPlane i.src)) n

/-- A frame that the items may apply in: with a source at half the house rate on either side of a take, an even one (R41). -/
def takeFrameOk (s : Dev) (its : List PItem) (n : Nat) : Bool :=
  n % 2 == 0 || !(its.any fun i =>
    let o := scheduledSrc s i.key n
    isHalf s o.1 o.2 || isHalf s i.srcPlane i.src)

/-- Validate and load the items of a TAKE or SALVO. -/
def validateItems (s : Dev) (j : JRec) (owner : Nat) (items : List RawItem) (inv rng : List (Bool × Nat × Nat)) : Dev :=
  match salvoChecks s j owner items inv rng with
  | some r => refuse s j r
  | none =>
    let its := toItems s owner items
    match chooseFrame s j.flags j.target (takeDeadline s its) (takeFrameOk s its) with
    | none => refuse s j (stLate, takeDetail 0 0 (lateReason (takeFrameOk s its) j.target))
    | some (n, dfr, why) =>
      schedule s { jsn := j.jsn, op := j.op, frame := n, atFrame := bit j.flags 1 && j.target != 0, deferred := dfr,
                   reason := why, items := its }

/-- The item of a TAKE descriptor (R351). -/
def takeRaw (j : JRec) : List RawItem := [{ idx := 0, dst := le j.desc 24 2, src := le j.desc 26 2, flags := le j.desc 28 1 }]

/-- The checks of TAKE in the order of R342 (R84, R85). -/
def takeChecks (s : Dev) (j : JRec) : Option Refuse := salvoChecks s j (le j.desc 30 2) (takeRaw j) [] []

/-- TAKE (R84): one item from the descriptor (R351). -/
def takeCmd (s : Dev) (j : JRec) : Dev := validateItems s j (le j.desc 30 2) (takeRaw j) [] []

/-- The items of a SALVO buffer, with bytes 4 to 7 as flags (R86). -/
def salvoItems (buf : Bytes) (count : Nat) : List RawItem :=
  (List.range count).map fun k =>
    { idx := k, dst := le buf (8 * k) 2, src := le buf (8 * k + 2) 2, flags := le buf (8 * k + 4) 4 }

/-- The items of a SALVO whose count is in range (R86). -/
def salvoRaw (j : JRec) : List RawItem :=
  let count := le j.desc 36 2
  if count = 0 ∨ 4096 < count then [] else salvoItems j.buf count

/-- INVALID for a buffer of another length (R86). -/
def salvoInv (j : JRec) : List (Bool × Nat × Nat) := [(!bufOver j && dBufLen j.desc != 8 * le j.desc 36 2, stInvalid, 0)]

/-- RANGE for a count of 0 or above 4096 (R86). -/
def salvoRng (j : JRec) : List (Bool × Nat × Nat) := [(le j.desc 36 2 == 0 || decide (4096 < le j.desc 36 2), stRange, 0)]

/-- The checks of SALVO in the order of R342 (R85, R86, R351). -/
def salvoCmdChecks (s : Dev) (j : JRec) : Option Refuse := salvoChecks s j (le j.desc 38 2) (salvoRaw j) (salvoInv j) (salvoRng j)

/-- SALVO (R85, R86, R351). -/
def salvoCmd (s : Dev) (j : JRec) : Dev := validateItems s j (le j.desc 38 2) (salvoRaw j) (salvoInv j) (salvoRng j)

/-! PROTECT, DEST_POLICY, GROUP_SET. -/

/-- Checks of a destination handle operand at byte `off` (R27). -/
def dstInvalid (s : Dev) (h off : Nat) : Bool × Nat × Nat := (hStatus (dstOf s.ctl.pair h) == stInvalid, stInvalid, gdet off)
/-- Number or direction of a destination handle operand. -/
def dstRange (s : Dev) (h off : Nat) : Bool × Nat × Nat := (hStatus (dstOf s.ctl.pair h) == stRange, stRange, gdet off)
/-- Reserved kind of a source handle operand. -/
def srcInvalid (s : Dev) (h off : Nat) : Bool × Nat × Nat := (hStatus (srcOf s.ctl.pair h) == stInvalid, stInvalid, gdet off)
/-- Number or direction of a source handle operand. -/
def srcRange (s : Dev) (h off : Nat) : Bool × Nat × Nat := (hStatus (srcOf s.ctl.pair h) == stRange, stRange, gdet off)

/-- Load a command that applies at one destination's switching instant, its deadline that of a TAKE (R354). -/
def scheduleDest (s : Dev) (j : JRec) (key owner : Nat) : Dev :=
  let dl := itemsDeadline s [(key, false, 0)]
  match chooseFrame s j.flags j.target dl (fun _ => true) with
  | none => refuse s j (stLate, 0)
  | some (n, dfr, why) =>
    schedule s { jsn := j.jsn, op := j.op, frame := n, atFrame := bit j.flags 1 && j.target != 0, deferred := dfr,
                 reason := why, items := [{ idx := 0, key := key, owner := owner }] }

/-- The checks of PROTECT in the order of R342 (R91, R351). -/
def protectChecks (s : Dev) (j : JRec) : Option Refuse :=
  let h := le j.desc 24 2
  let owner := le j.desc 28 2
  let v := hVal (dstOf s.ctl.pair h)
  let k := pkey s v.1 v.2
  checksOf s j gdet
      [dstInvalid s h 24, (bits (le j.desc 26 1) 0 2 == 3, stInvalid, gdet 26), (owner == 0, stInvalid, gdet 28)]
      [dstRange s h 24] [] [(protLocked (routeOf s k) owner, stLocked, gdet 28)]

/-- PROTECT (R91, R351). -/
def protectCmd (s : Dev) (j : JRec) : Dev :=
  let h := le j.desc 24 2
  let owner := le j.desc 28 2
  let v := hVal (dstOf s.ctl.pair h)
  let k := pkey s v.1 v.2
  match protectChecks s j with
  | some r => refuse s j r
  | none => scheduleDest s j k owner

/-- The checks of DEST_POLICY in the order of R342 (R79, R91, R351). -/
def destPolicyChecks (s : Dev) (j : JRec) : Option Refuse :=
  let h := le j.desc 24 2
  let owner := le j.desc 32 2
  let v := hVal (dstOf s.ctl.pair h)
  let k := pkey s v.1 v.2
  let line := bits (le j.desc 26 2) 0 11
  let arm := bits (le j.desc 28 1) 0 7
  let fbk := bits (le j.desc 29 1) 0 2
  let fb := le j.desc 30 2
  let fv := hVal (srcOf s.ctl.pair fb)
  checksOf s j gdet
      [dstInvalid s h 24, (decide (2 ≤ fbk), stInvalid, gdet 29), (fbk == 0 && fb != 0xFFFF, stInvalid, gdet 30),
       (fbk == 1 && hStatus (srcOf s.ctl.pair fb) == stInvalid, stInvalid, gdet 30), (owner == 0, stInvalid, gdet 32)]
      [dstRange s h 24, (decide (19 < line) || (line != 0 && dstKind v.2 != 0), stRange, gdet 26),
       (arm == 0 || decide (64 < arm), stRange, gdet 28),
       (fbk == 1 && (hStatus (srcOf s.ctl.pair fb) == stRange || (s.ctl.pair && fv.1 != v.1)), stRange, gdet 30)]
      [] [(protLocked (routeOf s k) owner, stLocked, gdet 32)]

/-- DEST_POLICY (R79, R91, R351). -/
def destPolicyCmd (s : Dev) (j : JRec) : Dev :=
  let h := le j.desc 24 2
  let owner := le j.desc 32 2
  let v := hVal (dstOf s.ctl.pair h)
  let k := pkey s v.1 v.2
  match destPolicyChecks s j with
  | some r => refuse s j r
  | none => scheduleDest s j k owner

/-- The member handles of a GROUP_SET (R351). -/
def groupMembers (d : Bytes) : List Nat := (List.range (le d 26 1)).map fun k => le d (28 + 2 * k) 2

/-- A team as stored. -/
def teamOf (s : Dev) (t : Nat) : Team := mget {} s.ctl.teams t

/-- A destination key that a team other than `t` holds (R93). -/
def heldElsewhere (s : Dev) (t : Nat) (keys : List Nat) : Bool :=
  keys.any fun k => (s.ctl.teams.filter fun q => q.1 != t).any fun q => q.2.members.contains k

/-- The checks of GROUP_SET in the order of R342 (R93, R94, R351, R354). -/
def groupSetChecks (s : Dev) (j : JRec) : Option Refuse :=
  let t := le j.desc 24 1
  let count := le j.desc 26 1
  let hs := (groupMembers j.desc).take 16
  let keys := hs.map fun h => let v := hVal (dstOf s.ctl.pair h); pkey s v.1 v.2
  let held := heldElsewhere s t keys
  let bad := fun st h => hStatus (dstOf s.ctl.pair h) == st
  let off := s.ctl.pair && (keys ++ (teamOf s t).members).any fun k => planeState s (k % 2) == 0
  checksOf s j gdet
      [(decide (count ≤ 16) && le (j.desc.drop (28 + 2 * count)) 0 (32 - 2 * count) != 0, stInvalid, gdet (28 + 2 * count)),
       (hs.any (bad stInvalid), stInvalid, gdet (28 + 2 * hs.findIdx (bad stInvalid)))]
      [(decide (16 < count), stRange, gdet 26), (hs.any (bad stRange), stRange, gdet (28 + 2 * hs.findIdx (bad stRange)))]
      [(held, stConflict, genDetail 0 false 1), (off, stConflict, genDetail 0 false 2)] []

/-- GROUP_SET (R93, R94, R351, R354). A destination named twice is one member (log entry 117). -/
def groupSetCmd (s : Dev) (j : JRec) : Dev :=
  let t := le j.desc 24 1
  let hs := (groupMembers j.desc).take 16
  let keys := (hs.map fun h => let v := hVal (dstOf s.ctl.pair h); pkey s v.1 v.2).eraseDups
  match groupSetChecks s j with
  | some r => refuse s j r
  | none =>
    let dl := itemsDeadline s ((keys ++ (teamOf s t).members).map fun k => (k, false, 0))
    match chooseFrame s j.flags j.target dl (fun _ => true) with
    | none => refuse s j (stLate, 0)
    | some (n, dfr, why) =>
      schedule s { jsn := j.jsn, op := 0x13, frame := n, atFrame := bit j.flags 1 && j.target != 0, deferred := dfr,
                   reason := why, items := keys.map fun k => { idx := t, key := k } }

/-- A GROUP_SET that falls due sets the team through the fence (R93, R362), unless another team has taken a member since. -/
def applyGroup (s : Dev) (x : Pend) (n : Nat) : Dev :=
  match recOf s x.jsn with
  | none => unpend s x.jsn
  | some j =>
    let t := le j.desc 24 1
    if heldElsewhere s t (x.items.map (·.key)) then decideCmd (unpend s x.jsn) x.jsn stConflict 0 (genDetail 0 false 1)
    else
    let q := fenced s x.jsn (teamOf s t).jsn fun s => modCtl s fun c =>
      { c with teams := mset {} c.teams t { members := x.items.map (·.key), policy := bits (le j.desc 25 1) 0 1, jsn := x.jsn } }
    if q.1 then finishFrame q.2 x n else decideCmd (unpend q.2 x.jsn) x.jsn stCancelled 0 0

/-! The switching instant (R82). -/

/-- Change a pending entry. -/
def modPend (s : Dev) (jsn : Nat) (f : Pend → Pend) : Dev :=
  modCtl s fun c => { c with pend := c.pend.map fun q => if q.jsn = jsn then f q else q }

/-- Set the state of the items of `jsn` on key `k`: 1 applied in frame `n`, 2 dropped. -/
def markItem (s : Dev) (jsn k st n : Nat) : Dev :=
  modPend s jsn fun q => { q with
    items := q.items.map fun i => if i.key = k ∧ i.state = 0 then { i with state := st } else i
    lastFrame := if st = 1 then n else q.lastFrame }

/-- A TAKE or SALVO whose every item has applied or been withdrawn completes (R83, R87, R347). -/
def settle (s : Dev) (jsn : Nat) : Dev :=
  match s.ctl.pend.find? fun q => q.jsn == jsn with
  | none => s
  | some q =>
    if q.items.any fun i => i.state == 0 then s
    else
      let dropped := (q.items.filter fun i => i.state == 2).length
      let s := unpend s jsn
      if q.items.any fun i => i.state == 1 then
        decideCmd s jsn (doneStatus s q.deferred) q.lastFrame (takeDetail 0 (if q.op = 0x10 then 0 else dropped) q.reason)
      else decideCmd s jsn stCancelled 0 (takeDetail 0 (if q.op = 0x10 then 0 else dropped) 0)

/-- The pending command sets the FADE of destination key `k` (R209, OP 0). -/
def setsFade (s : Dev) (k : Nat) (q : Pend) : Bool :=
  q.op == 0x31 && match recOf s q.jsn with
    | none => false
    | some j => bits (le j.desc 24 1) 0 2 == 0 && (let v := hVal (dstOf s.ctl.pair (le j.desc 26 2)); pkey s v.1 v.2 == k)

/-- An apply on key `k` withdraws every pending command there with a lower JSN (R83). -/
def withdraw (s : Dev) (k jsn : Nat) : Dev :=
  let olds := s.ctl.pend.filter fun q =>
    decide (q.jsn < jsn) && (setsFade s k q ||
      ([0x10, 0x11, 0x12, 0x15, 0x31].contains q.op && q.items.any fun i => i.key == k && i.state == 0))
  olds.foldl (fun s q =>
    if q.op = 0x10 ∨ q.op = 0x11 then settle (markItem s q.jsn k 2 0) q.jsn
    else decideCmd (unpend s q.jsn) q.jsn stCancelled 0 0) s

/-- The new entry that a due item sets (R74, R79, R91). -/
def newRoute (s : Dev) (op : Nat) (d : Bytes) (r : Route) (i : PItem) (jsn : Nat) : Route :=
  if op = 0x10 ∨ op = 0x11 then { r with src := i.src, srcPlane := i.srcPlane, jsn := jsn }
  else if op = 0x12 then
    let p := bits (le d 26 1) 0 2
    { r with prot := p, owner := if p = 0 then 0 else i.owner, jsn := jsn }
  else
    let fb := hVal (srcOf s.ctl.pair (le d 30 2))
    let k := bits (le d 29 1) 0 2
    { r with switchLine := bits (le d 26 2) 0 11, armLines := bits (le d 28 1) 0 7, fbKind := k,
             fbSrc := if k = 1 then fb.2 else 0x7FF, jsn := jsn }

/-- Protection as checked again at apply (R82, R91). -/
def applyLocked (r : Route) (op owner : Nat) : Bool := if op = 0x10 ∨ op = 0x11 then takeLocked r owner else protLocked r owner

/-- The follow source of destination `d` of plane `p`: plane and source (R207, R218). -/
def followOf (s : Dev) (p d : Nat) : Nat × Nat := (getF s F.AUD_FOLLOW_PLANE (ix p d), getF s F.AUD_FOLLOW_SOURCE (ix p d))

/-- The follow source of destination key `k` becomes source `n` of plane `q` (R207, R208, R218): through its fence (R362), in
AUD_FOLLOW and in the configuration, and the audio engine finds the change at its next grid instant. `cut` is AUDIO_CUT.
A change to the present follow source makes no audio change; layer inputs have no follow source. -/
def followAudio (s : Dev) (k cut q n jsn : Nat) : Dev :=
  let d := k / 2
  if dstKind d = 2 ∨ jsn ≤ (mechOf s mkFollow k).jsn then s
  else
    let s := setMech s mkFollow k { data := leBytes 4 (n + q * 65536), jsn := jsn }
    (if s.ctl.pair then [k % 2] else [0, 1]).foldl (fun s p =>
      if followOf s p d = (q, n) then s
      else
        let s := setFs s (ix p d) [(F.AUD_FOLLOW_PLANE, q), (F.AUD_FOLLOW_SOURCE, n)]
        { s with pln := { s.pln with audioQ := s.pln.audioQ ++ [(ix p d, cut)] } }) s

/-- The item that protection refuses when item `i` of `x` falls due (R82, R85, R91): a salvo of which no item has applied is refused
whole, by the lowest item that is protected anywhere in it; later only the item itself counts. -/
def lockedItem (s : Dev) (x : Pend) (i : PItem) : Option PItem :=
  if x.op = 0x11 ∧ !(x.items.any fun z => z.state == 1) then
    x.items.find? fun z => z.state == 0 && applyLocked (routeOf s z.key) x.op z.owner
  else if applyLocked (routeOf s i.key) x.op i.owner then some i else none

/-- Apply one due command at destination key `k` in frame `n` (R82 step 1): protection, the fence, the entry, the
withdrawal of earlier commands, and the completion. -/
def applyDue (s : Dev) (k n : Nat) (x : Pend) : Dev :=
  match x.items.find? fun i => i.key == k && i.state == 0 with
  | none => s
  | some i =>
    let r := routeOf s k
    let d := match recOf s x.jsn with | none => [] | some j => j.desc
    if x.op = 0x31 then
      -- AUDIO_FOLLOW, OP 1: an audio take
      if takeLocked r i.owner then decideCmd (unpend s x.jsn) x.jsn stLocked 0 (gdet 30)
      else
        let f := fenced s x.jsn (mechOf s mkFollow k).jsn fun s => followAudio s k i.flags i.srcPlane i.src x.jsn
        if f.1 then finishFrame (withdraw f.2 k x.jsn) x n else decideCmd (unpend f.2 x.jsn) x.jsn stCancelled 0 0
    else match lockedItem s x i with
    | some z =>
      let gone := (x.items.filter fun z => z.state == 2).length
      decideCmd (unpend s x.jsn) x.jsn stLocked 0
        (if x.op = 0x11 then takeDetail z.idx gone 4 else if x.op = 0x10 then takeDetail 0 0 4 else gdet (if x.op = 0x12 then 28 else 32))
    | none =>
      let f := fenced s x.jsn r.jsn fun s => setRoute s k (newRoute s x.op d r i x.jsn)
      if !f.1 then
        if x.op = 0x10 then decideCmd (unpend f.2 x.jsn) x.jsn stCancelled 0 (takeDetail 0 0 0xA)
        else if x.op = 0x11 then settle (markItem f.2 x.jsn k 2 0) x.jsn
        else decideCmd (unpend f.2 x.jsn) x.jsn stCancelled 0 0
      else
        let s := withdraw (journal f.2 32) k x.jsn
        if x.op = 0x10 ∨ x.op = 0x11 then
          let same := r.src == i.src && r.srcPlane == i.srcPlane
          let s := if same || bit i.flags 0 then s else followAudio s k (bits i.flags 1 1) i.srcPlane i.src x.jsn
          settle (markItem s x.jsn k 1 n) x.jsn
        else finishFrame s x n

/-- The commands due at destination key `k` in frame `n`, in JSN order (R82): those with an item there, and every GROUP_SET of the frame,
which applies at its first switching instant (R354). -/
def dueAt (s : Dev) (k n : Nat) : List Pend :=
  s.ctl.pend.filter fun q => decide (q.frame ≤ n) && (q.op == 0x13 ||
    ([0x10, 0x11, 0x12, 0x15, 0x31].contains q.op && q.items.any fun i => i.key == k && i.state == 0))

/-- Synchroniser engine state of source `n` of plane `p`. -/
def fsSt (s : Dev) (p n : Nat) : FsSt := mget {} s.pln.fs (ix p n)

/-- The source reads its synchroniser and it is empty (R104): no complete frame yet. -/
def fsEmpty (s : Dev) (q n : Nat) : Bool := srcKind s q n == 2 && (fsSt s q n).empty && !(fsSt s q n).grace

/-- The last output frame is repeated once while the first frame page fills (R45). -/
def graceRep (s : Dev) (q n : Nat) : Bool := srcKind s q n == 2 && (fsSt s q n).empty && (fsSt s q n).grace

/-- The team of a destination key: number and team (R93). -/
def teamHolding (s : Dev) (k : Nat) : Option (Nat × Team) := s.ctl.teams.find? fun q => q.2.members.contains k

/-- The source that destination key `k` carries on plane `p` is of kind FSYNC. -/
def fsyncFed (s : Dev) (p k : Nat) : Bool :=
  let r := routeOf s k
  r.src != 0x7FF && srcKind s (if s.ctl.pair then r.srcPlane else p) r.src == 2

/-- A team's cause still stands (R96): the destination is a member, and an FSYNC source feeds the team, or, for cause 6, the member. -/
def teamStands (s : Dev) (p d cause : Nat) : Bool :=
  match teamHolding s (pkey s p d) with
  | none => false
  | some t => if cause = 6 then fsyncFed s p (pkey s p d) else t.2.members.any (fsyncFed s p)

/-- The concealment causes that hold at destination `d` of plane `p` (R92), lowest first. -/
def causesOf (s : Dev) (p d : Nat) : List Nat :=
  let r := routeOf s (pkey s p d)
  let q := if s.ctl.pair then r.srcPlane else p
  let x := dstSt s p d
  let none' := r.src == 0x7FF || srcKind s q r.src == 0 || fsEmpty s q r.src
  (if none' then [1] else []) ++
  (if destCannot s p d q r.src || encDiffers s p d q r.src then [2] else []) ++
  (if dstKind d != 0 && r.src != 0x7FF && srcKind s q r.src == 3 then [3] else []) ++
  (if x.underrun == 1 || (r.src != 0x7FF && (fsSt s q r.src).oversize) ||
      (r.src != 0x7FF && srcKind s q r.src == 2 && (fsSt s q r.src).underrun == 1) then [4] else []) ++
  (if x.teamCause != 0 && teamStands s p d x.teamCause then [x.teamCause] else [])

/-- The fallback is usable by the destination (R92). -/
def fallbackOk (s : Dev) (p d : Nat) (r : Route) : Bool :=
  r.fbKind == 1 && r.fbSrc != 0x7FF && srcKind s p r.fbSrc != 0 && !destCannot s p d p r.fbSrc &&
    !(dstKind d != 0 && srcKind s p r.fbSrc == 3)

/-- The destination repeats its last frame instead of showing the fallback: the underrun backstop on an FSYNC source
(R92, R115), or GROUP_HOLD on a member that can repeat (R96). -/
def repeats (s : Dev) (p d cause : Nat) : Bool :=
  let r := routeOf s (pkey s p d)
  let q := if s.ctl.pair then r.srcPlane else p
  let fs := srcKind s q r.src == 2
  (cause == 4 && fs && (!(fsSt s q r.src).oversize || (fsSt s q r.src).oversizeRep)) || (cause == 5 && fs)

/-- CONCEAL events of a change of cause (R92). -/
def concealEvents (s : Dev) (p d old new : Nat) : Dev :=
  if old = new then s
  else
    let s := if old ≠ 0 then raise s 0x14 (19 + p) 0 (concealDetail d p old 0) else s
    if new ≠ 0 then raise s 0x14 (19 + p) 0 (concealDetail d p new 1) else s

/-- The members of a team that resumes raise FSYNC_SLIP, before their concealment ends (R96). -/
def teamResumes (s : Dev) (p d : Nat) : Dev :=
  if !(dstSt s p d).resume then s
  else
    ((teamHolding s (pkey s p d)).map fun t => t.2.members).getD [] |>.foldl (fun s k =>
      let q := if s.ctl.pair then k % 2 else p
      let x := dstSt s q (k / 2)
      if x.resume then raise (setDst s q (k / 2) { x with resume := false }) 0x09 (19 + q) 0 (slipDetail (k / 2) q 0 0 1) else s)
      (setDst s p d { dstSt s p d with resume := (teamHolding s (pkey s p d)).isSome })

/-- Steps 2 to 4 of R82 at destination `d` of plane `p`: causes, output, PLN_DSTSTAT. -/
def evalDst (s : Dev) (p d : Nat) : Dev :=
  let k := pkey s p d
  let r := routeOf s k
  let q := if s.ctl.pair then r.srcPlane else p
  let s := teamResumes s p d
  let x := dstSt s p d
  let cause := (causesOf s p d).headD 0
  let s := concealEvents s p d x.cause cause
  let rep := (cause != 0 && repeats s p d cause) || (cause == 0 && graceRep s q r.src)
  let shown := if rep then x.shown else if cause = 0 then r.src else if fallbackOk s p d r then r.fbSrc else 0x7FF
  let plane := if cause = 0 then q else p
  let f := if rep || shown = 0x7FF then x.outFmt else srcFmt s plane shown
  let s := setDst s p d { x with cause := cause, repeated := rep, shown := shown,
                                 outFmt := if f = 0 then x.outFmt else f, sent := x.sent || shown != 0x7FF }
  let t := teamHolding s k
  setFs s (ix p d) [(F.PLN_DSTSTAT_CAUSE, cause), (F.PLN_DSTSTAT_CONCEALING, b2n (cause != 0)),
    (F.PLN_DSTSTAT_HELD, b2n (cause == 5 && rep)), (F.PLN_DSTSTAT_IN_TEAM, b2n t.isSome),
    (F.PLN_DSTSTAT_TEAM, (t.map (·.1)).getD 0)]

/-- A route-table double-bit error resets the plane from source 10, whatever the reaction table holds (R75, R448, R473). -/
def routeDoubleBit (s : Dev) (p : Nat) : Dev := faultEvent (planeReaction s p 10) (19 + p) 0x02 0

/-- The check bits of the entry that plane `p` reads (R75): 0 good, 1 a corrected single-bit error, 2 a double-bit error. -/
def routeEcc (s : Dev) (p ecc : Nat) : Dev :=
  if ecc = 1 then satAdd s F.PLN_ROUTE_CE_COUNT p 1 else if ecc = 2 then routeDoubleBit s p else s

/-- The destination at whose switching instants FOLLOW taps of TDM port `q` adopt a VIDEO_DEST that changed: the new one, or the old
where there is none now (R235; log entry 126). -/
def adoptDest (s : Dev) (q : Nat) : Option (Nat × Nat) :=
  let new := getF s F.TDM_STAT_VIDEO_DEST q
  let old := (mget {} s.tdm q : TdmSt).assoc
  let h := if new = 0xFFFF then old else new
  if new = old then none else some (hVal (dstOf s.ctl.pair h))

/-- Ports whose new VIDEO_DEST is adopted at this switching instant of destination `d` of plane `p` (R235). -/
def adoptAssoc (s : Dev) (p d : Nat) : Dev :=
  (List.range 16).foldl (fun s q =>
    match adoptDest s q with
    | none => s
    | some v => if v.2 = d ∧ (!s.ctl.pair ∨ v.1 = p) then
        { s with tdm := mset {} s.tdm q { (mget {} s.tdm q : TdmSt) with assoc := getF s F.TDM_STAT_VIDEO_DEST q } } else s) s

/-- SWITCHING_INSTANT (R82): destination `d` (in Single on both planes alike, R88) at time `t`; `ecc` is what plane `p`'s read of the
entry gives (R75), and a plane with a double-bit error evaluates nothing. -/
def switchingInstant (s : Dev) (t p d ecc : Nat) : Dev :=
  let s := routeEcc (s.at t) p ecc
  let n := hfn s
  let k := pkey s p d
  let s := (dueAt s k n).foldl (fun s x =>
    match s.ctl.pend.find? fun q => q.jsn == x.jsn with
    | none => s
    | some y => if y.op = 0x13 then applyGroup s y n else applyDue s k n y) s
  let s := syncPending s k
  let go := fun (s : Dev) (q : Nat) => if ecc = 2 ∧ q = p then s else evalDst s q d
  adoptAssoc (if s.ctl.pair then go s p else go (go s 0) 1) p d

/-! The commands of this file. -/

/-- TAKE (R84): validation of the accepted command `jsn`. -/
def execTake (t jsn : Nat) (s : State) : Host.Outcome State Fault Refusal :=
  .next { s with dev := withCmd s.dev t jsn 0x10 takeCmd }

/-- SALVO (R85): validation of the accepted command `jsn`. -/
def execSalvo (t jsn : Nat) (s : State) : Host.Outcome State Fault Refusal :=
  .next { s with dev := withCmd s.dev t jsn 0x11 salvoCmd }

/-- PROTECT (R91): validation of the accepted command `jsn`. -/
def execProtect (t jsn : Nat) (s : State) : Host.Outcome State Fault Refusal :=
  .next { s with dev := withCmd s.dev t jsn 0x12 protectCmd }

/-- GROUP_SET (R93): validation of the accepted command `jsn`. -/
def execGroupSet (t jsn : Nat) (s : State) : Host.Outcome State Fault Refusal :=
  .next { s with dev := withCmd s.dev t jsn 0x13 groupSetCmd }

/-- DEST_POLICY (R79): validation of the accepted command `jsn`. -/
def execDestPolicy (t jsn : Nat) (s : State) : Host.Outcome State Fault Refusal :=
  .next { s with dev := withCmd s.dev t jsn 0x15 destPolicyCmd }

end Sys2Proof.Machine
end

