-- ==== Sys2Proof/Machine/Budget.lean ====
section
/-! DEFINITION. The HBM essence budget: charges, committed load, admission, shedding and restoration (R97, R106 to R114). -/

namespace Sys2Proof.Machine

/-! Charges (R97, R106). -/

/-- A charge: bandwidth in Mbit/s and pages. -/
structure Charge where
  bw : Nat := 0
  pages : Nat := 0
deriving DecidableEq, Repr

/-- The larger of two charges, part by part. -/
def Charge.sup (a b : Charge) : Charge := { bw := max a.bw b.bw, pages := max a.pages b.pages }

/-- Pages per buffer of a synchroniser at house rate code `rc` (R97). -/
def fsPages (s : Dev) (rc p n : Nat) (c : FsCfg) : Nat :=
  if n < 1152 then ifacePages c.resIface rc
  else framePages (ipRate s p (n - 1152)) (le (flowRec s (videoFlow s p (n - 1152) 0)) 44 1 % 16)

/-- Charge of a synchroniser (R97, R106): nothing outside mode FSYNC. -/
def fsCharge (s : Dev) (rc p n : Nat) (c : FsCfg) : Charge :=
  if c.mode ≠ 1 then {}
  else { bw := if n < 1152 then ifaceRate c.resIface / 1000 else ipRate s p (n - 1152), pages := 3 * fsPages s rc p n c }

/-- Rate in Mbit/s of a layer's or still's format (R106): the R34 line rate, 5,940 for 1080p50 to 60 4:4:4; the
charge of a combination that R34 lists no interface for is not stated (log entry 13). -/
def layerRate (f samp : Nat) : Nat :=
  let wide := samp != 0
  if wide && f / 16 == 6 && decide (6 ≤ f % 16) then 5940
  else
    let i := fmtIface f wide
    if i ≠ 0 then ifaceRate i / 1000 else if fmtListed f then (Config.unlistedRate f samp).toNat else 0

/-- Charge of one layer (R106): two buffers. -/
def layerCharge (f samp : Nat) : Charge :=
  let r := layerRate f samp
  { bw := r, pages := 2 * framePages r (f % 16) }

/-- Charge of a running compositor with layout record `rec` (R106). -/
def compCharge (rec : Bytes) : Charge :=
  (List.range 8).foldl (fun c l =>
    if bit (le rec 2 1) l then
      let q := layerCharge (layerFld rec l 2 1) (bits (layerFld rec l 3 1) 0 4)
      { bw := c.bw + q.bw, pages := c.pages + q.pages }
    else c) {}

/-- A generator's stored operands (bytes 24 to 35 of GEN_SET): FORMAT, SAMPLING, PATTERN, STILL_ID. -/
def genFmt (g : Bytes) : Nat := le g 2 1
/-- SAMPLING of a generator. -/
def genSamp (g : Bytes) : Nat := bits (le g 3 1) 0 4
/-- PATTERN of a generator. -/
def genPattern (g : Bytes) : Nat := bits (le g 3 1) 4 4

/-- Charge of still playback in a generator (R106, R167): once, no pages. -/
def genCharge (g : Bytes) : Charge := if genPattern g = 3 then { bw := layerRate (genFmt g) (genSamp g) } else {}

/-! Candidates: what is applied and what validated commands have still to apply (R109). -/

/-- Configurations that count beside the applied ones: synchronisers, layouts, starts and generators by key. -/
structure Cand where
  fs : List (Nat × FsCfg) := []
  comps : List (Nat × Bytes) := []
  runs : List Nat := []
  gens : List (Nat × Bytes) := []
deriving DecidableEq, Repr

/-- The synchroniser configuration that an FSYNC_SET carries (R98, R351). -/
def fsCfgOfDesc (d : Bytes) (jsn : Nat) : FsCfg :=
  { mode := bits (le d 26 1) 0 2, sheddable := bit (le d 26 1) 2, resIface := bits (le d 27 1) 0 4,
    prio := bits (le d 27 1) 4 4, slipHyst := bits (le d 28 2) 0 10, ipHold := bits (le d 30 2) 0 14, jsn := jsn }

/-- Key of the plane-local source a handle names. -/
def srcKey (s : Dev) (h : Nat) : Nat := let v := hVal (srcOf s.ctl.pair h); pkey s v.1 v.2

/-- Key of the compositor that an output handle names. -/
def compKey (s : Dev) (h : Nat) : Nat := let v := hVal (srcOf s.ctl.pair h); pkey s v.1 (v.2 - 1536)

/-- Key of the generator that a handle names. -/
def genKey (s : Dev) (h : Nat) : Nat := let v := hVal (srcOf s.ctl.pair h); pkey s v.1 (v.2 - 1568)

/-- What one validated and unapplied command adds. -/
def candOf (s : Dev) (j : JRec) : Cand :=
  if j.op = 0x14 then { fs := [(srcKey s (le j.desc 24 2), fsCfgOfDesc j.desc j.jsn)] }
  else if j.op = 0x20 then { comps := [(compKey s (le j.desc 36 2), j.buf)] }
  else if j.op = 0x21 then (if bit (le j.desc 26 1) 0 then { runs := [compKey s (le j.desc 24 2)] } else {})
  else if j.op = 0x23 then { gens := [(genKey s (le j.desc 24 2), (j.desc.drop 24).take 12)] }
  else {}

/-- Both sets of candidates. -/
def Cand.app (a b : Cand) : Cand :=
  { fs := a.fs ++ b.fs, comps := a.comps ++ b.comps, runs := a.runs ++ b.runs, gens := a.gens ++ b.gens }

/-- The candidates of every pending command. -/
def pendCand (s : Dev) : Cand :=
  s.ctl.pend.foldl (fun c q => match recOf s q.jsn with | none => c | some j => c.app (candOf s j)) {}

/-! Loads. -/

/-- One charged item of a plane. -/
structure Item where
  comp : Bool
  idx : Nat
  charge : Charge
  sheddable : Bool
  prio : Nat
deriving DecidableEq, Repr

/-- The item is shed on plane `p` (R113). -/
def isShed (s : Dev) (p : Nat) (comp : Bool) (idx : Nat) : Bool :=
  s.ctl.shed.any fun q => q.1 == p && q.2.comp == comp && q.2.key == idx

/-- A control-state key belongs to plane `p`. -/
def onPlane (s : Dev) (p k : Nat) : Bool := !s.ctl.pair || k % 2 == p

/-- RUN of the compositor at key `k` (R165). -/
def runOf (s : Dev) (k : Nat) : Bool := (mechOf s mkRun k).aux == 1

/-- Keys of a mechanism kind that are stored. -/
def mechKeys (s : Dev) (kind : Nat) : List Nat :=
  (s.ctl.mech.filter fun q => q.1 / 65536 == kind).map fun q => q.1 % 65536

/-- Charged items of plane `p` at house rate code `rc`, with candidates `c`. -/
def itemsOf (s : Dev) (p rc : Nat) (c : Cand) : List Item :=
  let fk := ((s.ctl.fsync.map (·.1)) ++ c.fs.map (·.1)).eraseDups.filter (onPlane s p)
  let ck := ((mechKeys s mkRun) ++ c.runs).eraseDups.filter (onPlane s p)
  let gk := ((mechKeys s mkGen) ++ c.gens.map (·.1)).eraseDups.filter (onPlane s p)
  let fs := fk.filterMap fun k =>
    let all := (mget {} s.pln.src (ix p (k / 2))).was.toList ++ fsCfgOf s k :: (c.fs.filter fun q => q.1 == k).map (·.2)
    let ch := all.foldl (fun a x => a.sup (fsCharge s rc p (k / 2) x)) ({} : Charge)
    let last := all.getLastD {}
    if ch = ({} : Charge) then none else some { comp := false, idx := k / 2, charge := ch, sheddable := all.all fun x => x.sheddable || x.mode != 1, prio := last.prio }
  let cs := ck.filterMap fun k =>
    let all := (mechOf s mkComp k).data :: (c.comps.filter fun q => q.1 == k).map (·.2)
    if runOf s k || c.runs.contains k then
      some { comp := true, idx := k / 2, charge := all.foldl (fun a x => a.sup (compCharge x)) ({} : Charge),
             sheddable := all.all fun x => bit (le x 4 1) 0, prio := bits (le (all.getLastD []) 5 1) 0 4 }
    else none
  let gs := gk.filterMap fun k =>
    let all := (mechOf s mkGen k).data :: (c.gens.filter fun q => q.1 == k).map (·.2)
    let ch := all.foldl (fun a x => a.sup (genCharge x)) ({} : Charge)
    if ch = ({} : Charge) then none else some { comp := false, idx := 1568 + k / 2, charge := ch, sheddable := false, prio := 15 }
  fs ++ cs ++ gs

/-- Bandwidth of items. -/
def bwOf (l : List Item) : Nat := (l.map fun i => i.charge.bw).sum

/-- Pages of items. -/
def pagesOf (l : List Item) : Nat := (l.map fun i => i.charge.pages).sum

/-- Budget of band `b` of plane `p` in Mbit/s (R118). -/
def budgetOf (s : Dev) (p b : Nat) : Nat := getF s F.PLN_BUDGET_BW (ix p b)

/-- Band of plane `p`: 0 COLD, 1 NORMAL, 2 WARM, 3 HIGH, 4 HOT (R116). -/
def bandOf (s : Dev) (p : Nat) : Nat := getF s F.PLN_BAND_BAND p

/-- Running-compositor limit of a band (R108). -/
def compLimit (b : Nat) : Nat := if b = 4 then 16 else 32

/-- Planes that a BUDGET_MODE names (R352): both in Single. -/
def budgetPlanes (s : Dev) (d : Bytes) : List Nat := if s.ctl.pair then [bits (le d 24 1) 1 1] else [0, 1]

/-- The admission mode that governs plane `p` (R110): 0 GUARANTEED, 1 BAND; a validated BUDGET_MODE to GUARANTEED governs already. -/
def admitMode (s : Dev) (p : Nat) : Nat :=
  let waits := s.ctl.pend.any fun q => q.op == 0x60 &&
    (match recOf s q.jsn with | none => false | some j => !bit (le j.desc 24 1) 0 && (budgetPlanes s j.desc).contains p)
  if waits then 0 else getF s F.PLN_BAND_ADMIT p

/-- The rule of R109 on a set of items: 0 admitted, 2 pages, 3 bandwidth, 4 compositor limit (REASON codes of R162). -/
def admitRule (s : Dev) (p : Nat) (l : List Item) : Nat :=
  let comps := l.filter fun i => i.comp
  let ns := l.filter fun i => !i.sheddable
  let hot := budgetOf s p 4
  if 10240 < pagesOf l then 2
  else if admitMode s p = 0 then
    if hot < bwOf l then 3 else if 16 < comps.length then 4 else 0
  else if hot < bwOf ns ∨ budgetOf s p (bandOf s p) < bwOf l then 3
  else if 16 < (comps.filter fun i => !i.sheddable).length ∨ compLimit (bandOf s p) < comps.length then 4
  else 0

/-- A set of items adds or raises something against another. -/
def raises (old new : List Item) : Bool :=
  decide (bwOf old < bwOf new) || decide (pagesOf old < pagesOf new) ||
    decide ((old.filter fun i => i.comp).length < (new.filter fun i => i.comp).length) ||
    decide (bwOf (old.filter fun i => !i.sheddable) < bwOf (new.filter fun i => !i.sheddable)) ||
    decide ((old.filter fun i => i.comp && !i.sheddable).length < (new.filter fun i => i.comp && !i.sheddable).length)

/-- Admission of candidates on plane `p` at one house rate (R109). -/
def admitAt (s : Dev) (p rc : Nat) (new : Cand) : Nat :=
  let old := itemsOf s p rc (pendCand s)
  let all := itemsOf s p rc ((pendCand s).app new)
  if raises old all then admitRule s p all else 0

/-- The house rates that a rate change waits for (R51, R99): that of an applied REF_POLICY, and those of validated ones. -/
def waitingRates (s : Dev) : List Nat :=
  (match s.ctl.rateWait with | none => [] | some w => [w.1]) ++
    s.ctl.pend.filterMap fun q => if q.op = 0x40 then (recOf s q.jsn).map fun j => bits (le j.desc 24 1) 0 4 else none

/-- Admission of candidates (R99, R109): on every plane, at the present rate and at every waiting one; pages decide before
bandwidth, and that before the compositor limit (R156). -/
def admission (s : Dev) (new : Cand) : Nat :=
  let rates := (s.ctl.ref.rate :: waitingRates s).eraseDups
  let codes := rates.flatMap fun rc => [admitAt s 0 rc new, admitAt s 1 rc new]
  ([2, 3, 4].find? fun c => codes.contains c).getD 0

/-- The load registers of plane `p` follow the charges (R117, R118). -/
def syncLoad (s : Dev) (p : Nat) : Dev :=
  let l := itemsOf s p s.ctl.ref.rate (pendCand s)
  let live := l.filter fun i => !isShed s p i.comp i.idx
  let run := ((mechKeys s mkRun).filter fun k => onPlane s p k && runOf s k && !isShed s p true (k / 2)).length
  setFs s p [(F.PLN_LOAD_TOTAL_TOTAL, bwOf l), (F.PLN_LOAD_NONSHED_NONSHED, bwOf (l.filter fun i => !i.sheddable)),
    (F.PLN_LOAD_ACTIVE_ACTIVE, bwOf live), (F.PLN_PAGES_USED, pagesOf l), (F.PLN_BAND_COMP_RUN, run)]

/-- The load registers of both planes. -/
def syncLoads (s : Dev) : Dev := syncLoad (syncLoad s 0) 1

/-! Shedding and restoration (R112 to R114, R25). -/

/-- Order within a step of R112: ascending PRIO, then the highest index first. -/
def shedBefore (a b : Item) : Bool := decide (a.prio < b.prio) || (a.prio == b.prio && decide (b.idx < a.idx))

/-- Insert an item in shed order. -/
def insShed (x : Item) : List Item → List Item
  | [] => [x]
  | y :: r => if shedBefore x y then x :: y :: r else y :: insShed x r

/-- Items in shed order. -/
def sortShed (l : List Item) : List Item := l.foldr insShed []

/-- The synchroniser's or compositor's SHED flag in its status register (R113, R119, R170). -/
def setShedFlag (s : Dev) (p : Nat) (comp : Bool) (idx v : Nat) : Dev :=
  if comp then setF s F.CMP_STAT_SHED (ix p idx) v else setF s F.PLN_FSSTAT_SHED (ix p idx) v

/-- A change of the source's synchroniser counts as a mode change at its next frame start (R44). -/
def pendMode (s : Dev) (p n : Nat) : Dev :=
  let x := srcSt s p n
  { s with pln := { s.pln with src := mset {} s.pln.src (ix p n) { x with modeAt := some (s.now, 0) } } }

/-- A shed or stopped compositor's output is of kind NONE at once (R113, R149, R165). -/
def compKindNone (s : Dev) (p c : Nat) : Dev :=
  setFs s (ix p (1536 + c)) [(F.PLN_SRCSTAT_KIND, 0), (F.PLN_SRCPOS_OFFSET, 0x80000000)]

/-- Shed one item of plane `p` with its event; a firmware action (R22, R113). -/
def shedItem (s : Dev) (p reason : Nat) (i : Item) : Dev :=
  let q := fwAction s
  let s := modCtl q.2 fun c => { c with shed := c.shed ++ [(p, { comp := i.comp, key := i.idx, reason := reason })] }
  let s := setShedFlag s p i.comp i.idx 1
  let s := if i.comp then compKindNone s p i.idx else pendMode s p i.idx
  raise (syncLoad s p) 0x08 (19 + p) q.1 (shedDetail i.idx (b2n i.comp) p 1 (bandOf s p) reason)

/-- Items of plane `p` that are charged and not shed. -/
def liveItems (s : Dev) (p : Nat) : List Item :=
  (itemsOf s p s.ctl.ref.rate {}).filter fun i => !isShed s p i.comp i.idx

/-- Running compositors of plane `p` that are not shed. -/
def liveComps (s : Dev) (p : Nat) : List Item := (liveItems s p).filter fun i => i.comp

/-- Shed the items of a list while `needed` holds. -/
def shedWhile (p reason : Nat) (needed : Dev → Bool) : List Item → Dev → Dev
  | [], s => s
  | i :: r, s => if needed s then shedWhile p reason needed r (shedItem s p reason i) else s

/-- The bandwidth limit of the band in force is passed by the active load. -/
def bwOver (s : Dev) (p : Nat) : Bool := decide (budgetOf s p (bandOf s p) < bwOf (liveItems s p))

/-- Shed by R112 on plane `p` for a band rise (reason 1) or a margin reduction (3); REASON 0x4 when nothing is left. -/
def shedPlane (s : Dev) (p reason : Nat) : Dev :=
  let overC := fun s => bandOf s p == 4 && decide (16 < (liveComps s p).length)
  let cs := liveComps s p
  let s := if getF s F.PLN_BAND_ADMIT p = 1 then
      let s := shedWhile p 2 overC (sortShed (cs.filter fun i => i.sheddable) ++ sortShed (cs.filter fun i => !i.sheddable)) s
      let s := shedWhile p reason (fun s => bwOver s p) (sortShed ((liveComps s p).filter fun i => i.sheddable)) s
      shedWhile p reason (fun s => bwOver s p) (sortShed ((liveItems s p).filter fun i => !i.comp && i.sheddable)) s
    else s
  if bwOver s p then raise s 0x08 (19 + p) 0 (shedDetail 0x7FF 0 p 1 (bandOf s p) 4) else s

/-! Taps of a compositor as configured (R154, R160, R165). -/

/-- Layer `l` is enabled. -/
def layerOn (r : Bytes) (l : Nat) : Bool := bit (le r 2 1) l
/-- Layer `l` is a key layer (ROLE 1). -/
def isKey (r : Bytes) (l : Nat) : Bool := bit (layerFld r l 0 1) 3
/-- Layer `l` is an enabled picture layer. -/
def isPic (r : Bytes) (l : Nat) : Bool := layerOn r l && !isKey r l
/-- VTAPS of a layer. -/
def vtapsOf (r : Bytes) (l : Nat) : Nat := bits (layerFld r l 1 1) 0 4
/-- Layers 0 to 7. -/
@[reducible] def eight : List Nat := [0, 1, 2, 3, 4, 5, 6, 7]

/-- Engine state of compositor `c` of plane `p`. -/
def cmpSt (s : Dev) (p c : Nat) : CmpSt := mget {} s.cmp (ix p c)

/-- Store the engine state of a compositor. -/
def setCmp (s : Dev) (p c : Nat) (x : CmpSt) : Dev := { s with cmp := mset {} s.cmp (ix p c) x }

/-- Taps as configured: the picture layers' VTAPS. -/
def confTaps (r : Bytes) : List Nat := eight.map fun l => if isPic r l then vtapsOf r l else 0

/-- Fit is evaluated afresh at the next prefetch instant (R165). -/
def freshTaps (s : Dev) (p c : Nat) : Dev := let t := confTaps (compRec s p c); setCmp s p c { taps := t, conf := t }

/-- Restore one shed item of plane `p` with its event (R114); a compositor's fit is then evaluated afresh (R165). -/
def restoreItem (s : Dev) (p reason : Nat) (i : ShedItem) : Dev :=
  let q := fwAction s
  let s := modCtl q.2 fun c => { c with shed := c.shed.filter fun x => !(x.1 == p && x.2.comp == i.comp && x.2.key == i.key) }
  let s := setShedFlag s p i.comp i.key 0
  let s := if i.comp then freshTaps s p i.key else pendMode s p i.key
  raise (syncLoad s p) 0x08 (19 + p) q.1 (shedDetail i.key (b2n i.comp) p 0 (bandOf s p) reason)

/-- The item would fit the band's limits if it were restored (R114). -/
def fitsBack (s : Dev) (p : Nat) (i : ShedItem) : Bool :=
  let all := itemsOf s p s.ctl.ref.rate {}
  match all.find? fun x => x.comp == i.comp && x.idx == i.key with
  | none => true
  | some x =>
    decide (bwOf (liveItems s p) + x.charge.bw ≤ budgetOf s p (bandOf s p)) &&
      (!i.comp || decide ((liveComps s p).length + 1 ≤ compLimit (bandOf s p)))

/-- Restore in the reverse of the shed order, stopping at the first item that does not fit (R114). Items shed for power
keep to R25. -/
def restoreList (p : Nat) : List ShedItem → Dev → Dev
  | [], s => s
  | i :: r, s => if fitsBack s p i then restoreList p r (restoreItem s p 5 i) else s

/-- Restoration after a band fall (R114). -/
def restorePlane (s : Dev) (p : Nat) : Dev :=
  restoreList p ((s.ctl.shed.filter fun q => q.1 == p && q.2.reason != 6).map (·.2)).reverse s

end Sys2Proof.Machine
end

