-- ==== Sys2Proof/Machine/Fsync.lean ====
section
/-! DEFINITION. Sources and frame synchronisers: kinds (R42 to R48), FSYNC_SET and BUDGET_MODE (R98, R110), the reader's
choice (R100 to R104, R96), temperature bands (R108, R111), the power backstop (R25) and underruns (R115). -/

namespace Sys2Proof.Machine

/-! FSYNC_SET and BUDGET_MODE. -/

/-- The checks of FSYNC_SET in the order of R342 (R98, R109, R354). -/
def fsyncSetChecks (s : Dev) (j : JRec) : Option Refuse :=
  let h := le j.desc 24 2
  let c := fsCfgOfDesc j.desc j.jsn
  let v := hVal (srcOf s.ctl.pair h)
  let noFam := c.mode == 1 && decide (v.2 < 1152) && (s.ctl.ref.rate :: waitingRates s).any fun rc => ifacePages c.resIface rc == 0
  let bad := admission s { fs := [(pkey s v.1 v.2, c)] }
  checksOf s j gdet
      [srcInvalid s h 24, (c.mode == 3, stInvalid, gdet 26), (decide (11 ≤ c.resIface), stInvalid, gdet 27)]
      [srcRange s h 24, (decide (1536 ≤ v.2), stRange, gdet 24),
       (c.resIface == 0 || decide (7 < c.resIface), stRange, gdet 27), (decide (1000 < c.slipHyst), stRange, gdet 28),
       (decide (10000 < c.ipHold), stRange, gdet 30), (noFam, stRange, genDetail 27 false 1)]
      [] [(bad != 0, stBudget, gdet 26)]

/-- FSYNC_SET (R98, R109, R354). -/
def fsyncSetCmd (s : Dev) (j : JRec) : Dev :=
  match fsyncSetChecks s j with
  | some r => refuse s j r
  | none => syncLoads (scheduleFrame s j (dlMs s))

/-- The synchroniser configuration that an FSYNC_SET replaces stays charged on plane `p` until the mode changes (R42, R44), unless it was
shed. -/
def keepCharge (s : Dev) (p n : Nat) (c : FsCfg) : Dev :=
  let x := srcSt s p n
  if isShed s p false n || x.was.isSome then s
  else { s with pln := { s.pln with src := mset {} s.pln.src (ix p n) { x with was := some c } } }

/-- A mode change waits for the first source frame start at or after the applied frame (R44) on plane `p`. -/
def applyFsync (s : Dev) (x : Pend) (j : JRec) (n : Nat) : Dev :=
  let v := hVal (srcOf s.ctl.pair (le j.desc 24 2))
  let k := pkey s v.1 v.2
  let c := fsCfgOfDesc j.desc x.jsn
  let q := fenced s x.jsn (fsCfgOf s k).jsn fun s =>
    let old := fsCfgOf s k
    let s := if s.ctl.pair then keepCharge s v.1 v.2 old else keepCharge (keepCharge s 0 v.2 old) 1 v.2 old
    let s := setFsCfg s k c
    let s := if c.mode ≠ 1 then
        modCtl s fun t => { t with shed := t.shed.filter fun e => !(onPlane s e.1 k && !e.2.comp && e.2.key == v.2) } else s
    if s.ctl.pair then pendMode s v.1 v.2 else pendMode (pendMode s 0 v.2) 1 v.2
  if q.1 then syncLoads (finishFrame q.2 x n) else decideCmd (unpend q.2 x.jsn) x.jsn stCancelled 0 0

/-- BUDGET_MODE to GUARANTEED does not fit (R110). -/
def guarBad (s : Dev) (p : Nat) : Bool :=
  let l := itemsOf s p s.ctl.ref.rate (pendCand s)
  decide (budgetOf s p 4 < bwOf l) || decide (16 < (l.filter fun i => i.comp).length)

/-- The checks of BUDGET_MODE in the order of R342 (R110, R352). -/
def budgetModeChecks (s : Dev) (j : JRec) : Option Refuse :=
  let m := bits (le j.desc 24 1) 0 1
  let ps := budgetPlanes s j.desc
  checksOf s j gdet [] [(!s.ctl.pair && bit (le j.desc 24 1) 1, stRange, gdet 24)] []
      [(m == 0 && ps.any (guarBad s), stBudget, gdet 24)]

/-- BUDGET_MODE (R110, R352). -/
def budgetModeCmd (s : Dev) (j : JRec) : Dev :=
  match budgetModeChecks s j with
  | some r => refuse s j r
  | none => scheduleFrame s j (dlMs s)

/-- A BUDGET_MODE that falls due sets ADMIT (R110, R117). -/
def applyBudgetMode (s : Dev) (x : Pend) (j : JRec) (n : Nat) : Dev :=
  let m := bits (le j.desc 24 1) 0 1
  let ps := budgetPlanes s j.desc
  let rec' := (ps.map fun p => (mechOf s mkBudget p).jsn).foldl max 0
  let q := fenced s x.jsn rec' fun s =>
    ps.foldl (fun s p =>
      let s := setMech s mkBudget p { data := leBytes 1 m, jsn := x.jsn }
      setF s F.PLN_BAND_ADMIT p m) s
  if q.1 then finishFrame q.2 x n
  else decideCmd (unpend q.2 x.jsn) x.jsn stCancelled 0 0

/-! Source frame starts (R42 to R48). -/

/-- Half-width of the timing window of a source in ticks (R43); the line rate of SD has no ÷ 1.001 form (R34). -/
def halfWidth (s : Dev) (p n : Nat) (x : SrcSt) : Nat :=
  if n < 1152 then windowTicks (ifaceRate x.iface) (x.frac == 1 && x.iface != 1) else windowTicks (ipRate s p (n - 1152) * 1000) false

/-- The kind that the table of R42 gives, with RATE_MISMATCH and MISTIMED (R47). -/
def kindTable (s : Dev) (p n : Nat) (x : SrcSt) : Nat × Nat × Nat :=
  if !x.signal || !x.known then (0, 0, 0)
  else if x.fmt = 0 ∨ !inFamily s.ctl.ref.rate (x.fmt % 16) then (3, 1, 0)
  else
    match x.mode with
    | 0 => if x.off.natAbs ≤ halfWidth s p n x then (1, 0, 0) else (3, 0, 1)
    | 1 => (2, 0, 0)
    | _ => (3, 0, 0)

/-- The mode in effect: a shed synchroniser counts as PASS (R113). -/
def effMode (s : Dev) (p n : Nat) : Nat :=
  let c := fsCfgOf s (pkey s p n)
  if c.mode = 1 ∧ isShed s p false n then 2 else c.mode

/-- Count toward the adoption of a format (R44): two consecutive complete frames must agree. -/
def countFmt (x : SrcSt) (complete : Bool) (f i fr samp enc : Nat) : SrcSt :=
  if x.known ∧ x.fmt = f ∧ x.iface = i ∧ x.frac = fr ∧ x.sampling = samp ∧ x.enc = enc then { x with newCount := 0 }
  else if !complete then { x with newCount := 0 }
  else
    let c := if x.newFmt = f ∧ x.newIface = i ∧ 0 < x.newCount then x.newCount + 1 else 1
    if 2 ≤ c then { x with known := true, fmt := f, iface := i, frac := fr, sampling := samp, enc := enc, newCount := 0,
                           newFmt := f, newIface := i }
    else { x with newFmt := f, newIface := i, newCount := c }

/-- The signal's detected interface exceeds RES_IFACE (R104): Otira sources in mode FSYNC. -/
def oversized (n : Nat) (x : SrcSt) : Bool :=
  decide (n < 1152) && decide (ifaceRate x.res < ifaceRate x.iface)

/-- Store synchroniser engine state. -/
def setFs' (s : Dev) (p n : Nat) (x : FsSt) : Dev := { s with pln := { s.pln with fs := mset {} s.pln.fs (ix p n) x } }

/-- Band code in UNDERRUN and BUDGET_SHED details. -/
def underrunEvent (s : Dev) (p n kind oversize : Nat) : Dev :=
  raise s 0x0A (16 + p) 0 (underrunDetail n p kind oversize (bandOf s p))

/-- What a new kind does to the source's synchroniser (R45, R104): entry to FSYNC starts it empty. -/
def enterKind (s : Dev) (p n old new : Nat) (x : SrcSt) : Dev :=
  if new = 2 then
    let f := fsSt s p n
    let big := oversized n x
    let s := if big && !f.oversize then underrunEvent s p n 0 1 else s
    if old ≠ 2 then
      setFs' s p n { active := true, empty := true, offset := 0, grace := old == 1, oversize := big, oversizeRep := big }
    else setFs' s p n { f with oversize := big, oversizeRep := big && !f.oversize }
  else if old = 2 then setFs' s p n {}
  else s

/-- PLN_FSSTAT reports the stored configuration (R119). -/
def syncFsStat (s : Dev) (p n : Nat) : Dev :=
  let c := fsCfgOf s (pkey s p n)
  setFs s (ix p n) [(F.PLN_FSSTAT_PRIO, c.prio), (F.PLN_FSSTAT_SHEDDABLE, b2n c.sheddable), (F.PLN_FSSTAT_MODE, c.mode),
    (F.PLN_FSSTAT_SHED, b2n (isShed s p false n)),
    (F.PLN_FSSTAT_PAGES, if c.mode = 1 then fsPages s s.ctl.ref.rate p n c else 0)]

/-- SRCSTAT, SRCPOS and SKEW of an input (R47, R48, R148); the offset in whole ns rounds toward zero (log entry 121, DESIGN CHOICE). -/
def syncSrc (s : Dev) (p n : Nat) (x : SrcSt) (rm mt link ds : Nat) (skew : Option Int) : Dev :=
  let pos := if x.kind = 0 ∨ rm = 1 then 0x80000000 else usgn 32 (clampI 0x7FFFFFFF (x.off.tdiv 54))
  let sk := match skew with
    | none => 0x80000000
    | some v => if s.ctl.pair then 0x80000000 else usgn 32 (clampI 0x7FFFFFFF v)
  setFs s (ix p n) [(F.PLN_SRCSTAT_KIND, x.kind), (F.PLN_SRCSTAT_FORMAT, if x.known then x.fmt else 0),
    (F.PLN_SRCSTAT_IFACE, if x.known then x.iface else 0), (F.PLN_SRCSTAT_FRAC, x.frac), (F.PLN_SRCSTAT_LINK, link),
    (F.PLN_SRCSTAT_DS, ds), (F.PLN_SRCSTAT_RATE_MISMATCH, rm), (F.PLN_SRCSTAT_MISTIMED, mt), (F.PLN_SRCPOS_OFFSET, pos),
    (F.PLN_SKEW_SKEW, sk)]

/-- A compositor or generator as a source (R48, R149, R164, R166): its format, and TIMED on the house frame grid whenever it outputs. -/
def innerSource (s : Dev) (p n : Nat) : Dev :=
  let f := if n < 1568 then le (compRec s p (n - 1536)) 0 1 else genFmt (mechOf s mkGen (pkey s p (n - 1568))).data
  let fam := inFamily s.ctl.ref.rate (f % 16)
  let on := if n < 1568 then
      !(compRec s p (n - 1536)).isEmpty && runOf s (pkey s p (n - 1536)) && !isShed s p true (n - 1536) && fam
    else f != 0 && fam
  setFs s (ix p n) [(F.PLN_SRCSTAT_KIND, b2n on), (F.PLN_SRCSTAT_FORMAT, f), (F.PLN_SRCSTAT_IFACE, if f = 0 then 0 else 0xA),
    (F.PLN_SRCSTAT_FRAC, b2n ([1, 4, 7].contains (f % 16))), (F.PLN_SRCSTAT_RATE_MISMATCH, b2n (f != 0 && !fam)),
    (F.PLN_SRCPOS_OFFSET, if on then 0 else 0x80000000)]

/-- The instant is a house frame start (R44). -/
def atHouseFrame (s : Dev) : Bool := s.now % framePeriod s.ctl.ref.rate == 0

/-- SOURCE_FRAME_START (R42, R44): mode change first, with the other parameters of FSYNC_SET (R98), then the format, then the table of R42. -/
def sourceFrameStart (s : Dev) (t p n : Nat) (o : SrcObs) : Dev :=
  let s := s.at t
  if 1536 ≤ n then innerSource s p n
  else
    let x := srcSt s p n
    let w := x.was.isSome && x.modeAt.any fun a => decide (a.1 ≤ t)
    let x := match x.modeAt with
      | none => x
      | some a =>
        let c := fsCfgOf s (pkey s p n)
        if a.1 ≤ t then { x with mode := effMode s p n, slip := c.slipHyst, res := c.resIface, modeAt := none, was := none } else x
    let x := if !o.signal then { x with signal := false, newCount := 0 }
      else countFmt { x with signal := true, off := o.offset.getD x.off } o.complete o.fmt o.iface o.frac o.samp o.enc
    let hold := !x.signal && !atHouseFrame s && x.kind != 0
    let k := if hold then (x.kind, getF s F.PLN_SRCSTAT_RATE_MISMATCH (ix p n), getF s F.PLN_SRCSTAT_MISTIMED (ix p n))
      else kindTable s p n x
    let x := if k.1 = 0 ∧ !x.signal then { x with known := false } else x
    let old := x.kind
    let x := { x with kind := k.1 }
    let s := { s with pln := { s.pln with src := mset {} s.pln.src (ix p n) x } }
    let s := enterKind s p n old k.1 x
    let s := syncFsStat (syncSrc s p n x k.2.1 k.2.2 o.link o.ds o.skew) p n
    if w then syncLoad s p else s

/-- At a house frame start a source whose signal has gone becomes NONE (R44). -/
def signalLoss (s : Dev) : Dev :=
  s.pln.src.foldl (fun s e =>
    if e.2.signal || e.2.kind == 0 then s
    else
      let p := e.1 % 2
      let n := e.1 / 2
      let x := { e.2 with kind := 0, known := false }
      let s := { s with pln := { s.pln with src := mset {} s.pln.src e.1 x } }
      syncFsStat (syncSrc (enterKind s p n e.2.kind 0 x) p n x 0 0 0 0 none) p n) s

/-! The reader's choice (R96, R100, R103). -/

/-- Frames completed since the frame read before (R100), overwritten ones included. -/
def fsCount (f : FsSt) : Nat := f.done.length + f.lost

/-- Destination keys that carry source `n` of plane `p`. -/
def fedBy (s : Dev) (p n : Nat) : List Nat :=
  (s.ctl.routes.filter fun q => q.2.src == n && (!s.ctl.pair || q.2.srcPlane == p)).map (·.1)

/-- Teams with a member fed by source `n` of plane `p`. -/
def teamsFedBy (s : Dev) (p n : Nat) : List (Nat × Team) :=
  s.ctl.teams.filter fun t => t.2.members.any fun k => (fedBy s p n).contains k

/-- FSYNC sources of the members of a team, as (plane, source). -/
def teamSources (s : Dev) (p : Nat) (t : Team) : List (Nat × Nat) :=
  (t.members.filterMap fun k =>
    let r := routeOf s k
    let q := if s.ctl.pair then r.srcPlane else p
    if r.src ≠ 0x7FF ∧ srcKind s q r.src = 2 then some (q, r.src) else none).eraseDups

/-- The GROUP_HOLD teams that share a source with one of `ts`, one link of sharing further at each of `fuel` rounds: what is forced on
a source for one team counts in every other that it feeds (R103). -/
def linkedTeams (s : Dev) (p : Nat) : Nat → List (Nat × Team) → List (Nat × Team)
  | 0, ts => ts
  | k + 1, ts =>
    let srcs := ts.flatMap fun t => teamSources s p t.2
    linkedTeams s p k (s.ctl.teams.filter fun t => t.2.policy == 0 &&
      (ts.any (·.1 == t.1) || (teamSources s p t.2).any fun q => srcs.contains q))

/-- Team `e` held its last frame (R96). -/
def teamHeld (s : Dev) (p : Nat) (e : Nat × Team) : Bool := (mget (0, 1) s.pln.teamSt (2 * e.1 + p)).2 == 2

/-- The oldest waiting frame already passes one over: a frame of the source was never completed (R94, R96; log entry 120, DEDUCED). -/
def skips (f : FsSt) : Bool :=
  match f.read, f.done.head? with
  | some r, some k => decide (r + 1 < k)
  | _, _ => false

/-- What GROUP_HOLD teams that share sources do in a frame (R96, R103): 2 hold, 3 drop together, 1 read. A hold lasts until every FSYNC
member holds a complete frame; an empty synchroniser begins none. A source that has been oversized for longer than a frame takes no part
(R104). -/
def teamChoice (s : Dev) (p : Nat) (ts : List (Nat × Team)) : Nat :=
  let fs := ((ts.flatMap fun t => teamSources s p t.2).eraseDups.map fun q => fsSt s q.1 q.2).filter fun f => !f.oversize || f.oversizeRep
  let held := ts.any (teamHeld s p)
  if fs.any fun f => ((held || !f.empty) && fsCount f == 0) || f.underrun == 2 then 2
  else if (fs.any fun f => decide (2 ≤ fsCount f)) && fs.all fun f => decide (2 ≤ fsCount f) || skips f then 3
  else 1

/-- Set the team cause of a member destination (R96): a member fed by an UNTIMED source is left out. -/
def memberCause (s : Dev) (p cause k : Nat) : Dev :=
  let d := k / 2
  let q := if s.ctl.pair then k % 2 else p
  let r := routeOf s k
  let sp := if s.ctl.pair then r.srcPlane else p
  setDst s q d { dstSt s q d with teamCause := if srcKind s sp r.src = 3 then 0 else cause }

/-- A member resumes at its next switching instant (R96). -/
def memberResumes (s : Dev) (p k : Nat) : Dev :=
  let q := if s.ctl.pair then k % 2 else p
  setDst s q (k / 2) { dstSt s q (k / 2) with resume := true }

/-- Record decision `c` of GROUP_HOLD team `e` for frame `m`, once per frame, with the resumption after a hold (R96). -/
def recordTeam (p m c : Nat) (s : Dev) (e : Nat × Team) : Dev :=
  let key := 2 * e.1 + p
  let old := mget (0, 1) s.pln.teamSt key
  if old.1 = m then s
  else
    let s := { s with pln := { s.pln with teamSt := mset (0, 1) s.pln.teamSt key (m, c) } }
    if c = 2 then e.2.members.foldl (fun s k => memberCause s p 5 k) s
    else if old.2 = 2 then
      e.2.members.foldl (fun s k => memberResumes (memberCause s p 0 k) p k) s
    else s

/-- The decision of GROUP_HOLD team `e` for frame `m`, with every team that shares its sources (R96, R103). -/
def decideTeam (s : Dev) (p m : Nat) (e : Nat × Team) : Dev :=
  if (mget (0, 1) s.pln.teamSt (2 * e.1 + p)).1 = m then s
  else
    let ts := linkedTeams s p s.ctl.teams.length [e]
    let c := teamChoice s p ts
    ts.foldl (recordTeam p m c) s

/-- Count a repeat or drops in PLN_FSSLIP and PLN_FSSTAT (R119, R120). -/
def countSlip (s : Dev) (p n drop count : Nat) : Dev :=
  let s := if drop = 1 then satAdd s F.PLN_FSSLIP_DROPS (ix p n) count else satAdd s F.PLN_FSSLIP_REPEATS (ix p n) 1
  setF s F.PLN_FSSTAT_LAST_SLIP (ix p n) (if drop = 1 then 2 else 1)

/-- Read the newest complete frame. -/
def readNewest (f : FsSt) : FsSt := { f with slip := if 2 ≤ f.done.length + f.lost then 2 else 0, read := f.done.getLast?, done := [], lost := 0, empty := false, grace := false }

/-- Read the next complete frame, keeping the newer ones. -/
def readNext (f : FsSt) : FsSt :=
  { f with slip := 0, read := if f.done.isEmpty then f.read else f.done.head?, done := f.done.drop 1, lost := 0, empty := false, grace := false }

/-- MEMBER_ONLY teams (R96): the failing member shows its fallback for the frame, CAUSE 0x6. -/
def memberOnly (s : Dev) (p n : Nat) (fail : Bool) : Dev :=
  ((teamsFedBy s p n).filter fun t => t.2.policy == 1).foldl (fun s t =>
    (t.2.members.filter fun k => (fedBy s p n).contains k).foldl (fun s k => memberCause s p (if fail then 6 else 0) k) s) s

/-- The reader of source `n` chooses for frame `m` of the source's grid (R100). Under GROUP_HOLD a repeat or a drop that the reader makes by
its own count raises its FSYNC_SLIP all the same; one that the team forces on it raises none. Where the team does not
drop, the next frame held is read, and frames already overwritten count as dropped. -/
def cutoffChoice (s : Dev) (t p n m : Nat) : Dev :=
  let s := s.at t
  let f := fsSt s p n
  let slip : Int := (srcSt s p n).slip
  let hold := (teamsFedBy s p n).filter fun e => e.2.policy == 0
  let s := hold.foldl (fun s e => decideTeam s p m e) s
  let forced := (hold.map fun e => (mget (0, 1) s.pln.teamSt (2 * e.1 + p)).2).foldl max 0
  let c := fsCount f
  if !f.active then s
  else if f.empty then
    setFs' s p n (if f.done.isEmpty then { f with grace := false } else { readNewest f with slip := 0 })
  else if f.underrun = 2 then memberOnly (setFs' s p n { f with underrun := 1 }) p n true
  else if f.oversize ∧ c = 0 then setFs' s p n { f with underrun := 0, oversizeRep := false }
  else
    let f := { f with underrun := 0, oversizeRep := false }
    let fill := fun (g : FsSt) (s : Dev) => setF (setFs' s p n g) F.PLN_FSSTAT_FILL (ix p n) g.done.length
    if !hold.isEmpty then
      if forced = 2 then
        let s := countSlip (fill { f with slip := 1, offset := if c = 0 then -slip else f.offset } s) p n 0 1
        memberOnly (if c = 0 then raise s 0x09 (19 + p) 0 (slipDetail n p 0 0 0) else s) p n true
      else if forced = 3 ∧ 2 ≤ c then
        let s := countSlip (fill { readNewest f with offset := slip } s) p n 1 (c - 1)
        memberOnly (raise s 0x09 (19 + p) 0 (slipDetail n p 1 (c - 1) 0)) p n true
      else if f.lost = 0 then memberOnly (fill (readNext f) s) p n false
      else
        let s := countSlip (fill { readNext f with slip := 2 } s) p n 1 f.lost
        memberOnly (raise s 0x09 (19 + p) 0 (slipDetail n p 1 f.lost 0)) p n true
    else if c = 0 then
      let s := countSlip (fill { f with slip := 1, offset := -slip } s) p n 0 1
      memberOnly (raise s 0x09 (19 + p) 0 (slipDetail n p 0 0 0)) p n true
    else if c = 1 then memberOnly (fill (readNext f) s) p n false
    else
      let s := countSlip (fill { readNewest f with offset := slip } s) p n 1 (c - 1)
      memberOnly (raise s 0x09 (19 + p) 0 (slipDetail n p 1 (c - 1) 0)) p n true

/-- FSYNC_CUTOFF (R100): the choice for frame `m`, and the seams it makes: one at a drop, and at both ends of a repeat (R105). -/
def fsyncCutoff (s : Dev) (t p n m : Nat) : Dev :=
  let old := fsSt s p n
  let s := cutoffChoice s t p n m
  let f := fsSt s p n
  if f.active && (f.slip != 0 || old.slip == 1) then setFs' s p n { f with seams := (m :: f.seams).take 4 } else s

/-- The writer completes a frame (R100): with no free buffer it overwrites the complete frame that the reader is not
using. An oversized source is not written (R104). -/
def completeFrame (s : Dev) (p n frame : Nat) : Dev :=
  let f := fsSt s p n
  if !f.active ∨ f.oversize ∨ f.done.contains frame then s
  else
    let cap := if f.read.isSome then 1 else 2
    let full := decide (cap ≤ f.done.length)
    let done := (if full then f.done.drop 1 else f.done) ++ [frame]
    setF (setFs' s p n { f with done := done, lost := if full && f.read.isSome then f.lost + 1 else f.lost })
      F.PLN_FSSTAT_FILL (ix p n) done.length

/-- FSYNC_FRAME_COMPLETE (R100). -/
def fsyncFrameComplete (s : Dev) (t p n frame : Nat) : Dev := completeFrame (s.at t) p n frame

/-- IP_HOLD_EXPIRE (R102): the frame closes to further writes and counts as complete; a frame closed stays so. -/
def ipHoldExpire (s : Dev) (t p n frame : Nat) : Dev :=
  let s := s.at t
  let f := fsSt s p n
  if f.closed.contains frame then s
  else completeFrame (setFs' s p n { f with closed := (frame :: f.closed).take 8 }) p n frame

/-! Temperature bands (R108, R111). -/

/-- Lower bound of a band in 1/16 °C (R108). -/
def bandBound (b : Nat) : Int := match b with | 1 => 0 | 2 => 1360 | 3 => 1680 | 4 => 2000 | _ => -100000

/-- The band after one reading, with the 3 °C hysteresis of R108. -/
def nextBand (b : Nat) (temp : Int) : Nat :=
  let up := if bandBound 4 ≤ temp then 4 else if bandBound 3 ≤ temp then 3 else if bandBound 2 ≤ temp then 2
    else if bandBound 1 ≤ temp then 1 else 0
  if b < up then up
  else if b = 4 ∧ temp < bandBound 4 - 48 then (if temp < bandBound 3 - 48 then (if temp < bandBound 2 - 48 then (if temp < bandBound 1 - 48 then 0 else 1) else 2) else 3)
  else if b = 3 ∧ temp < bandBound 3 - 48 then (if temp < bandBound 2 - 48 then (if temp < bandBound 1 - 48 then 0 else 1) else 2)
  else if b = 2 ∧ temp < bandBound 2 - 48 then (if temp < bandBound 1 - 48 then 0 else 1)
  else if b = 1 ∧ temp < bandBound 1 - 48 then 0
  else b

/-- Refresh multiple of a band (R108). -/
def refreshMult (b : Nat) : Nat := match b with | 2 => 2 | 3 => 4 | 4 => 8 | _ => 1

/-- BAND_SENSOR_READ (R108, R111, R117): the hottest sensor of plane `p`'s stack; a change of band takes its refresh rate
at once and calls for shedding or restoring at a later frame start. -/
def bandSensorRead (s : Dev) (t p : Nat) (temp : Int) : Dev :=
  let s := setF (s.at t) F.PLN_BAND_TEMP p (usgn 16 temp)
  let old := bandOf s p
  let new := nextBand old temp
  if new = old then s
  else
    let x := planeOf s p
    let s := setF (setF s F.PLN_BAND_BAND p new) F.HBM_REF_MULT p (refreshMult new)
    let s := setPlaneSt s p { x with bandAt := t, shedAt := t, shedDue := x.shedDue || decide (old < new), shedReason := 1,
                                     restoreDue := decide (new < old) }
    raise s 0x07 (19 + p) 0 (tempBandDetail new old p temp)

/-! The power backstop (R25), powers in mW. -/

/-- Average of the estimate over the last second. -/
def pwrAvg (s : Dev) : Nat := let l := s.pln.pwr; if l.isEmpty then 0 else l.sum / l.length

/-- Planes in the HOT band. -/
def hotPlanes (s : Dev) : List Nat := [0, 1].filter fun p => bandOf s p == 4

/-- POWER_BACKSTOP_SAMPLE (R25): the two rails' power read over AVSBus, none where regulator `rail` gives no valid
reading; then a WARN on PWR and the backstop is inactive. -/
def powerSample (s : Dev) (t : Nat) (reading : Option (Nat × Nat)) (rail : Nat) : Dev :=
  let s := s.at t
  if (hotPlanes s).isEmpty then { s with pln := { s.pln with pwr := [], pwrLow := none } }
  else
    match reading with
    | none =>
      if s.pln.pwrNone then s
      else faultEvent { s with pln := { s.pln with pwrNone := true } } 47 0x06 (0x20 + rail)
    | some (a, b) =>
      let s := { s with pln := { s.pln with pwr := ((a + b + 161000) :: s.pln.pwr).take 100, pwrNone := false } }
      let low := if pwrAvg s < 340000 then (match s.pln.pwrLow with | none => some t | some v => some v) else none
      { s with pln := { s.pln with pwrLow := low } }

/-- The next sheddable item of plane `p` for power (R25): compositors, then synchronisers, in the order of R112. -/
def pwrItem (s : Dev) (p : Nat) : Option Item :=
  let l := (liveItems s p).filter fun i => i.sheddable
  (sortShed (l.filter fun i => i.comp) ++ sortShed (l.filter fun i => !i.comp)).head?

/-- The plane that sheds next (R25): alternating, starting with the plane with more running compositors, plane A on a tie. -/
def pwrPlanes (s : Dev) : List Nat :=
  match hotPlanes s with
  | [0, 1] =>
    let first := match s.pln.pwrOrder with
      | q :: _ => 1 - q
      | [] => if (liveComps s 0).length < (liveComps s 1).length then 1 else 0
    [first, 1 - first]
  | l => l

/-- POWER_SHED_STEP (R25): one more item every 100 ms while the average exceeds 360 W, until it falls to 350 W; once no sheddable item
remains, that is reported once. -/
def powerShedStep (s : Dev) (t : Nat) : Dev :=
  let s := s.at t
  let avg := pwrAvg s
  let going := s.pln.pwrShed.isSome
  let due := match s.pln.pwrShed with | none => true | some a => decide (a + 5400000000 ≤ t)
  if s.pln.pwrNone || (hotPlanes s).isEmpty || decide (avg ≤ 350000) || (!going && decide (avg ≤ 360000)) then
    { s with pln := { s.pln with pwrShed := none, pwrTold := false } }
  else if !due then s
  else
    let s := { s with pln := { s.pln with pwrShed := some t } }
    match (pwrPlanes s).filterMap fun p => (pwrItem s p).map fun i => (p, i) with
    | (p, i) :: _ => shedItem { s with pln := { s.pln with pwrOrder := p :: s.pln.pwrOrder, pwrTold := false } } p 6 i
    | [] =>
      let p := (hotPlanes s).headD 0
      if s.pln.pwrTold then s
      else faultEvent (raise { s with pln := { s.pln with pwrTold := true } } 0x08 (19 + p) 0 (shedDetail 0x7FF 0 p 1 4 4)) 43 0x0C 0

/-- POWER_RESTORE_STEP (R25): the last item shed for power whose plane has left HOT, or the last of all once the average has stayed
low, returns, one every 100 ms; `rise` is the rise in mW that Ilesen expects of it, and a restore that would raise the average above
350 W waits. -/
def powerRestoreStep (s : Dev) (t rise : Nat) : Dev :=
  let s := s.at t
  let due := match s.pln.pwrRest with | none => true | some a => decide (a + 5400000000 ≤ t)
  let low := match s.pln.pwrLow with | none => false | some a => decide (a + 10 * tickSec ≤ t)
  let shed := s.ctl.shed.filter fun q => q.2.reason == 6
  if shed.isEmpty then { s with pln := { s.pln with pwrOrder := [] } }
  else
    match (shed.filter fun q => low || bandOf s q.1 != 4).getLast? with
    | none => s
    | some (p, i) =>
    if !due || (!(hotPlanes s).isEmpty && decide (350000 < pwrAvg s + rise)) then s
    else restoreItem { s with pln := { s.pln with pwrRest := some t, pwrOrder := s.pln.pwrOrder.drop 1 } } p 6 i

/-! The underrun backstop (R115). -/

/-- UNDERRUN (R115, R116): a real-time reader of plane `p` finds its deadline FIFO empty. Kind 0: the synchroniser of
source `n`; kind 1: the layer of destination `n`; kind 2: still playback of generator source `n`. -/
def underrun (s : Dev) (t p kind n : Nat) : Dev :=
  let s := satAdd (s.at t) F.PLN_UNDERRUN_CNT_COUNT p 1
  match kind with
  | 0 =>
    let s := setFs' s p n { fsSt s p n with underrun := 2 }
    (fedBy s p n).foldl (fun s k => underrunEvent s p (k / 2) 0 0) s
  | 1 => underrunEvent (setDst s p n { dstSt s p n with underrun := 2 }) p n 1 0
  | _ => underrunEvent (setFs' s p n { fsSt s p n with underrun := 2 }) p n 2 0

/-! The commands of this file. -/

/-- POWER_BACKSTOP_SAMPLE (R25): the rails' power is read (mW), or regulator `rail` gives no valid reading. -/
def execPowerBackstopSample (t : Nat) (reading : Option (Nat × Nat)) (rail : Nat) (s : State) : Host.Outcome State Fault Refusal :=
  .next { s with dev := powerSample s.dev t reading rail }

/-- POWER_SHED_STEP (R25): the backstop's shedding step falls due. -/
def execPowerShedStep (t : Nat) (s : State) : Host.Outcome State Fault Refusal :=
  .next { s with dev := powerShedStep s.dev t }

/-- POWER_RESTORE_STEP (R25): the backstop's restoring step falls due; `rise` is the rise in mW that is expected of it. -/
def execPowerRestoreStep (t rise : Nat) (s : State) : Host.Outcome State Fault Refusal :=
  .next { s with dev := powerRestoreStep s.dev t rise }

/-- FSYNC_SET (R98): validation of the accepted command `jsn`. -/
def execFsyncSet (t jsn : Nat) (s : State) : Host.Outcome State Fault Refusal :=
  .next { s with dev := withCmd s.dev t jsn 0x14 fsyncSetCmd }

/-- BUDGET_MODE (R110): validation of the accepted command `jsn`. -/
def execBudgetMode (t jsn : Nat) (s : State) : Host.Outcome State Fault Refusal :=
  .next { s with dev := withCmd s.dev t jsn 0x60 budgetModeCmd }

/-- FSYNC_CUTOFF (R100): the reader of source `n` chooses for frame `m`. -/
def execFsyncCutoff (t : Nat) (p : Fin 2) (n : Fin 1536) (m : Nat) (s : State) : Host.Outcome State Fault Refusal :=
  .next { s with dev := fsyncCutoff s.dev t p n m }

/-- FSYNC_FRAME_COMPLETE (R100): the synchroniser of source `n` has written frame `frame`. -/
def execFsyncFrameComplete (t : Nat) (p : Fin 2) (n : Fin 1536) (frame : Nat) (s : State) : Host.Outcome State Fault Refusal :=
  .next { s with dev := fsyncFrameComplete s.dev t p n frame }

/-- IP_HOLD_EXPIRE (R102): the hold time of an IP frame runs out. -/
def execIpHoldExpire (t : Nat) (p : Fin 2) (n : Fin 1536) (frame : Nat) (s : State) : Host.Outcome State Fault Refusal :=
  .next { s with dev := ipHoldExpire s.dev t p n frame }

/-- BAND_SENSOR_READ (R108, R111): the hottest sensor of a stack is read, in 1/16 °C. -/
def execBandSensorRead (t : Nat) (p : Fin 2) (temp : Int) (s : State) : Host.Outcome State Fault Refusal :=
  .next { s with dev := bandSensorRead s.dev t p temp }

/-- UNDERRUN (R115): a real-time reader underruns: 0 the synchroniser of source `n`, 1 the layer of destination `n`, 2 still playback of generator source `n`. -/
def execUnderrun (t : Nat) (p : Fin 2) (kind : Fin 3) (n : Fin 1792) (s : State) : Host.Outcome State Fault Refusal :=
  .next { s with dev := underrun s.dev t p kind n }

end Sys2Proof.Machine
end

