-- ==== Sys2Proof/Machine/Timing.lean ====
section
/-! DEFINITION. House timing and references: the clock monitor (R20), qualification, selection and holdover (R49 to R70),
REF_POLICY, REF_ALIGN and the house-rate change (R51, R67, R69, R99). -/

namespace Sys2Proof.Machine

/-! Distribution and the clock monitor. -/

/-- HOUSE_TIME_SNAPSHOT (R19): planes A and B and the control domain take the time. -/
def houseTimeSnapshot (s : Dev) (t : Nat) : Dev :=
  let s := s.at t
  { s with tim := { s.tim with snap := [(0, t + 1), (1, t + 1), (2, t + 1)] } }

/-- Nominal counts of R20: clocks 0 PCLK_A, 1 PCLK_B, 2 CCLK, 3 HCLK0, 4 HCLK1, 5 PPCLK0, 6 PPCLK1, 7 PERCLK, 8 REFCLK_SYS. -/
def nominalCount (s : Dev) (c : Nat) : Nat :=
  match c with
  | 0 => 15360 | 1 => 15360 | 2 => 12288 | 3 => 8192 | 4 => 8192 | 5 => 20480 | 6 => 20480 | 7 => 2048
  | _ => if bit (getF s F.RST_STRAP_CLK_MODE 0) 0 then 1024 else 1600

/-- FLT_STATUS bit of a lost clock (R20). -/
def clockBit (c : Nat) : Nat :=
  match c with | 0 => 19 | 1 => 20 | 2 => 41 | 3 => 16 | 4 => 17 | 5 => 29 | 6 => 30 | 7 => 41 | _ => 45

/-- A count differs from nominal by more than 12.5 % (R20). -/
def countBad (nom count : Nat) : Bool := decide (nom * 9 < count * 8) || decide (count * 8 < nom * 7)

/-- CLOCK_MONITOR_WINDOW (R20): the second bad window in a row sets the bit with CAUSE 0x01. PPCLK is counted for the
active cluster only. -/
def clockMonitorWindow (s : Dev) (t c count : Nat) : Dev :=
  let s := s.at t
  if (c = 5 ∨ c = 6) ∧ getF s F.BELAY_STAT_ACTIVE_PP 0 ≠ c - 5 then s
  else
    let n := if countBad (nominalCount s c) count then mget 0 s.tim.badWin c + 1 else 0
    let s := { s with tim := { s.tim with badWin := mset 0 s.tim.badWin c (min n 3) } }
    if n = 2 then faultEvent s (clockBit c) 0x01 0 else s

/-! References (R52, R59). -/

/-- REF_IDs that R52 lists, without 0x00. -/
def refListed (r : Nat) : Bool := decide (1 ≤ r ∧ r ≤ 6) || decide (0x20 ≤ r ∧ r ≤ 0x31) || decide (0x40 ≤ r ∧ r ≤ 0x51)

/-- The reference carries a seconds count (R52). -/
def timeBearing (r : Nat) : Bool := decide (4 ≤ r)

/-- Bandwidth ceiling code of a reference (R52, R56). -/
def refCeiling (r : Nat) : Nat := match r with | 1 => 18 | 2 => 18 | 3 => 6 | 4 => 9 | 5 => 9 | _ => 12

/-- State of a monitored reference. -/
def refSt (s : Dev) (r : Nat) : RefSt := mget {} s.tim.refs r

/-- Store the state of a reference. -/
def setRef (s : Dev) (r : Nat) (x : RefSt) : Dev := { s with tim := { s.tim with refs := mset {} s.tim.refs r x } }

/-- The priority list, highest first (R62). -/
def prioList (s : Dev) : List Nat := s.ctl.ref.prio.take 8

/-- The selected REF_ID. -/
def selRef (s : Dev) : Nat := getF s F.DPLL_STATUS_SELECTED 0

/-- MODE: 0 FREE_RUN, 1 ACQUIRING, 2 LOCKED, 3 HOLDOVER (R71). -/
def dpllMode (s : Dev) : Nat := getF s F.DPLL_STATUS_MODE 0

/-- The wait-to-restore timer of a reference still runs (R63). -/
def wtrRunning (s : Dev) (r : Nat) : Bool :=
  let x := refSt s r
  match x.qualAt with
  | none => false
  | some a => x.state == 2 && decide (s.now < a + s.ctl.ref.wtr * tickSec)

/-- DPLL_REFSTAT[i] reports position `i` (R72). -/
def syncRef (s : Dev) (i : Nat) : Dev :=
  match (prioList s)[i]? with
  | none => setFs s i [(F.DPLL_REFSTAT_REF_ID, 0), (F.DPLL_REFSTAT_OFFSET, 0), (F.DPLL_REFSTAT_TIME_BEARING, 0),
      (F.DPLL_REFSTAT_SELECTED, 0), (F.DPLL_REFSTAT_WTR, 0), (F.DPLL_REFSTAT_STATE, 0)]
  | some r =>
    let x := refSt s r
    setFs s i [(F.DPLL_REFSTAT_REF_ID, r), (F.DPLL_REFSTAT_OFFSET, usgn 32 (x.offsets.headD 0)),
      (F.DPLL_REFSTAT_TIME_BEARING, b2n (timeBearing r)), (F.DPLL_REFSTAT_SELECTED, b2n (selRef s == r)),
      (F.DPLL_REFSTAT_WTR, b2n (wtrRunning s r)), (F.DPLL_REFSTAT_STATE, x.state)]

/-- DPLL_REFSTAT and the bandwidth in use (R52, R71, R72). -/
def syncRefs (s : Dev) : Dev :=
  let s := (List.range 8).foldl syncRef s
  let r := selRef s
  let cap := r != 0 && decide (refCeiling r < s.ctl.ref.bw)
  setFs s 0 [(F.DPLL_STATUS_BW, if cap then refCeiling r else s.ctl.ref.bw), (F.DPLL_STATUS_BW_CAPPED, b2n cap)]

/-- Take the measured differences and presence of references. -/
def observe (s : Dev) (obs : List RefObs) : Dev :=
  obs.foldl (fun s o => if (prioList s).contains o.ref then setRef s o.ref { refSt s o.ref with diff := o.diff, present := o.present } else s) s

/-- A reference whose signal is back is under test again (R59): from ABSENT, and from DISQUALIFIED with an offset within HARD_PPM. -/
def signalReturn (s : Dev) (obs : List RefObs) : Dev :=
  obs.foldl (fun s o =>
    let x := refSt s o.ref
    if (prioList s).contains o.ref && o.present && (x.state == 0 || (x.state == 4 && decide (o.offset.natAbs ≤ s.ctl.ref.hard * 10000)))
    then setRef s o.ref { x with state := 1, good := 0 } else s) s

/-- House time minus the time of reference `r` in ps: an F pulse marks a frame start only after its input's offset (R53, R66). -/
def refDiff (s : Dev) (r : Nat) : Int :=
  (refSt s r).diff + (if r = 1 then s.ctl.ref.offA * 1000 else if r = 2 then s.ctl.ref.offB * 1000 else 0)

/-- Build-out of a move to `r` in ps (R66). -/
def buildOut (s : Dev) (r : Nat) (diff : Int) : Int :=
  if timeBearing r then diff
  else if r = 3 then diff % 1000000000000
  else
    let p : Int := framePeriod s.ctl.ref.rate * 1000
    let d := (diff * 54) % p
    (if p < 2 * d then d - p else d) / 54

/-- The best usable reference (R62): the highest QUALIFIED, failing that the highest DRIFTING; 0 for none. -/
def bestRef (s : Dev) : Nat :=
  match (prioList s).find? fun r => (refSt s r).state == 2 with
  | some r => r
  | none => ((prioList s).find? fun r => (refSt s r).state == 3).getD 0

/-- History used on entry to holdover (R64): seconds and values, the last 2 s left out. -/
def history (s : Dev) : List Int :=
  ((s.tim.ncoHist.filter fun q => decide (q.1 + 2 * tickSec ≤ s.now)).map (·.2)).take s.ctl.ref.history

/-- Entry to holdover (R64), by the action of JSN `jsn`. -/
def enterHoldover (s : Dev) (jsn : Nat) : Dev :=
  let h := history s
  let n := h.length
  let short := b2n (decide (n < s.ctl.ref.history))
  let s := if n = 0 then s else setF s F.DPLL_NCO_NCO 0 (usgn 32 (h.sum / n))
  let s := setFs s 0 [(F.DPLL_STATUS_MODE, 3), (F.DPLL_STATUS_HISTORY_SHORT, short), (F.DPLL_STATUS_TRANSFER, 0)]
  let s := { s with tim := { s.tim with holdSecs := n } }
  raise s 0x06 38 jsn (holdoverDetail 1 short n)

/-- The first selection since COLD before SERVICE steps house time onto the reference with zero build-out (R65). -/
def stepsFirst (s : Dev) : Bool :=
  s.tim.firstSel && !s.ctl.served && (devState s == 0 || devState s == 2 || devState s == 3)

/-- House time in ticks as the first selection since COLD steps it onto reference `r` (R65): the reference's time; the time since its
last pulse, where it carries no count and house time has none; its phase otherwise. -/
def firstStep (s : Dev) (r : Nat) : Nat :=
  let d := refDiff s r
  if timeBearing r then ((s.now : Int) - d * 54 / 1000).toNat
  else if getF s F.DPLL_STATUS_TOD_VALID 0 = 0 then
    (((s.now : Int) - d * 54 / 1000) % (if r = 3 then tickSec else framePeriod s.ctl.ref.rate : Nat)).toNat
  else ((s.now : Int) - buildOut s r d * 54 / 1000).toNat

/-- A move of the DPLL to `new`, 0 for holdover (R62 to R66): a firmware action (R22), or part of the command of JSN `cmd`. -/
def moveRef (s : Dev) (new reason : Nat) (cmd : Option Nat := none) : Dev :=
  let old := selRef s
  let mode := dpllMode s
  let ab := getF s F.DPLL_STATUS_SLEWING 0
  let q := match cmd with | some n => (n, s) | none => fwAction s
  let s := setFs q.2 0 [(F.DPLL_STATUS_SELECTED, new), (F.DPLL_STATUS_SLEWING, 0)]
  let why := if old = 0 then 6 else reason
  if new = 0 then enterHoldover (raise s 0x04 38 q.1 (refSwitchDetail old 0 why ab)) q.1
  else
    let d := refDiff s new
    let first := stepsFirst s
    let s := setFs s 0 [(F.DPLL_STATUS_MODE, 1), (F.DPLL_STATUS_TRANSFER, 1),
      (F.DPLL_BUILDOUT_BUILDOUT, if first then 0 else usgn 64 (buildOut s new d))]
    let s := if first then
        let s := { s with now := firstStep s new }
        let s := if timeBearing new then setF s F.DPLL_STATUS_TOD_VALID 0 1 else s
        setRef s new { refSt s new with diff := 0 }
      else s
    let s := { s with tim := { s.tim with selAt := s.now, firstSel := false } }
    let s := raise s 0x04 38 q.1 (refSwitchDetail old new why ab)
    if mode = 3 then raise s 0x06 38 q.1 (holdoverDetail 0 (getF s F.DPLL_STATUS_HISTORY_SHORT 0) s.tim.holdSecs) else s

/-- Leave the selected reference for the best usable one (R62). -/
def reselect (s : Dev) (reason : Nat) : Dev := moveRef s (bestRef s) reason

/-- REF_DRIFT on a change of the DRIFTING state (R60). -/
def driftEvent (s : Dev) (r old new soft drift : Nat) : Dev :=
  if old = 3 ∧ new ≠ 3 then raise s 0x05 38 0 (refDriftDetail r 0 soft drift)
  else if old ≠ 3 ∧ new = 3 then raise s 0x05 38 0 (refDriftDetail r 1 soft drift)
  else s

/-- Drift rate of the last ten offsets in ppt per second, times 165: the slope of their straight line (R59). -/
def driftSlope (l : List Int) : Int :=
  if l.length < 10 then 0 else (((l.take 10).zipIdx).map fun q => q.1 * (9 - 2 * (q.2 : Int))).sum

/-- One window of reference `r` (R59): its new state and whether the offset or drift passes a soft limit. -/
def qualStep (p : RefPol) (x : RefSt) (present : Bool) (o : Int) (t : Nat) : RefSt × Bool × Bool :=
  let l := (o :: x.offsets).take 10
  let hard := decide ((p.hard : Int) * 10000 < o.natAbs)
  let soft := decide ((p.soft : Int) * 10000 < o.natAbs)
  let drift := decide ((p.drift : Int) * 1000 * 165 < (driftSlope l).natAbs)
  let x := { x with offsets := l, present := present }
  if !present then ({ x with good := 0, softGood := 0 }, false, false)
  else
    match x.state with
    | 0 => ({ x with state := 1, good := 0 }, soft, drift)
    | 1 => if hard then ({ x with good := 0 }, soft, drift)
           else if 2 ≤ x.good then ({ x with state := 2, good := 0, qualAt := some t }, soft, drift)
           else ({ x with good := x.good + 1 }, soft, drift)
    | 2 => if hard then ({ x with state := 4, qualAt := none }, soft, drift)
           else if soft || drift then ({ x with state := 3, softGood := 0, qualAt := none }, soft, drift)
           else (x, soft, drift)
    | 3 => if hard then ({ x with state := 4 }, soft, drift)
           else if soft || drift then ({ x with softGood := 0 }, soft, drift)
           else if 2 ≤ x.softGood then ({ x with state := 2, softGood := 0, qualAt := some t }, soft, drift)
           else ({ x with softGood := x.softGood + 1 }, soft, drift)
    | _ => if hard then (x, soft, drift) else ({ x with state := 1, good := 0 }, soft, drift)

/-- A higher priority than the selected reference. -/
def outranks (s : Dev) (r : Nat) : Bool :=
  let l := prioList s
  match l.idxOf? r with
  | none => false
  | some i => match l.idxOf? (selRef s) with | none => true | some j => decide (i < j)

/-- The window of one reference (R59, R60). -/
def qualOne (s : Dev) (o : RefObs) : Dev :=
  if !(prioList s).contains o.ref then s
  else
    let x := refSt s o.ref
    let q := qualStep s.ctl.ref x o.present o.offset s.now
    driftEvent (setRef s o.ref { q.1 with diff := o.diff }) o.ref x.state q.1.state (b2n q.2.1) (b2n q.2.2)

/-- The move, if any, that the windows of all references call for, against their states before (R60, R62 to R64). -/
def qualMoves (old s : Dev) : Dev :=
  let r := selRef s
  let came := fun k st => (refSt s k).state == st && (refSt old k).state != st
  if r = 0 then (if bestRef s = 0 then s else moveRef s (bestRef s) 6)
  else if came r 4 then reselect s 2
  else if came r 3 && s.ctl.ref.preempt then
    match (prioList s).find? fun k => (refSt s k).state == 2 with
    | some k => moveRef s k 3
    | none => s
  else
    match (prioList s).find? fun k => s.ctl.ref.revertive && s.ctl.ref.wtr == 0 && came k 2 && outranks s k with
    | some k => moveRef s k 4
    | none => s

/-- REF_QUAL_WINDOW (R59 to R64): the end of a 1 s window, with the NCO's present value in ppt. -/
def refQualWindow (s : Dev) (t : Nat) (nco : Int) (obs : List RefObs) : Dev :=
  let s := s.at t
  let v := clampI 200000000 nco
  let s := setF s F.DPLL_NCO_NCO 0 (usgn 32 v)
  let s := if dpllMode s = 2 then { s with tim := { s.tim with ncoHist := ((t, v) :: s.tim.ncoHist).take 1003 } } else s
  syncRefs (qualMoves s (obs.foldl qualOne s))

/-- REF_LOSS_OF_SIGNAL (R52, R59, R62). -/
def refLossOfSignal (s : Dev) (t r : Nat) (obs : List RefObs) : Dev :=
  let s := observe (s.at t) obs
  if !(prioList s).contains r then s
  else
    let x := refSt s r
    let new := if x.state = 1 ∨ x.state = 0 then 0 else 4
    let s := setRef s r { x with state := new, good := 0, softGood := 0, qualAt := none, present := false }
    let s := driftEvent s r x.state new 0 0
    syncRefs (if selRef s = r then reselect s 1 else s)

/-- REF_WTR_EXPIRE (R62, R63): in revertive mode the DPLL moves to the reference whose wait is complete. -/
def refWtrExpire (s : Dev) (t r : Nat) (obs : List RefObs) : Dev :=
  let s := observe (s.at t) obs
  let x := refSt s r
  let done := x.state == 2 && (match x.qualAt with | none => false | some a => decide (a + s.ctl.ref.wtr * tickSec ≤ t))
  syncRefs (if s.ctl.ref.revertive && done && outranks s r && selRef s != 0 then moveRef s r 4 else s)

/-- 1/bandwidth in seconds, at least 1 (R56, R58). -/
def lockSecs (bw : Nat) : Nat := match bw with | 0 => 1000 | 1 => 500 | 2 => 200 | 3 => 100 | 4 => 50 | 5 => 20 | 6 => 10 | 7 => 5 | 8 => 2 | _ => 1

/-- DPLL_LOCKED (R58): phase and frequency errors have been within limits since `since`. -/
def dpllLocked (s : Dev) (t since : Nat) : Dev :=
  let s := s.at t
  if selRef s ≠ 0 ∧ dpllMode s = 1 ∧ s.tim.selAt ≤ since ∧ since + lockSecs (getF s F.DPLL_STATUS_BW 0) * tickSec ≤ t then
    syncRefs (setFs s 0 [(F.DPLL_STATUS_MODE, 2), (F.DPLL_STATUS_TRANSFER, 0)])
  else s

/-- REF_SLEW_COMPLETE (R67). -/
def refSlewComplete (s : Dev) (t : Nat) : Dev :=
  let s := s.at t
  if getF s F.DPLL_STATUS_SLEWING 0 = 1 then setFs s 0 [(F.DPLL_STATUS_SLEWING, 0), (F.DPLL_BUILDOUT_BUILDOUT, 0)] else s

/-- PEER_TIMING (R68). -/
def peerTiming (s : Dev) (t peerTime rtt : Nat) : Dev :=
  let s := s.at t
  { s with tim := { s.tim with peerTime := peerTime, peerRtt := rtt } }

/-! REF_POLICY and the house-rate change (R51, R69, R99). -/

/-- PRIO[0..7] of a REF_POLICY. -/
def prioOps (d : Bytes) : List Nat := (List.range 8).map fun i => le d (40 + i) 1

/-- The list up to its end mark. -/
def prioNamed (d : Bytes) : List Nat := (prioOps d).takeWhile (· != 0)

/-- The policy that a REF_POLICY descriptor carries (R352). -/
def polOf (d : Bytes) (jsn : Nat) : RefPol :=
  { rate := bits (le d 24 1) 0 4, prio := prioNamed d, revertive := bit (le d 25 1) 0, preempt := bit (le d 25 1) 1,
    wtr := bits (le d 26 2) 0 12, bw := bits (le d 28 1) 0 5, soft := bits (le d 30 2) 0 13, drift := bits (le d 32 2) 0 10,
    hard := bits (le d 34 2) 0 14, history := bits (le d 36 2) 0 10, slope := bits (le d 38 2) 0 14,
    offA := sgn 32 (le d 48 4), offB := sgn 32 (le d 52 4), jsn := jsn }

/-- An Otira source's synchroniser has a RES_IFACE without a format in the family of `rc` (R98, R99). -/
def noFormat (s : Dev) (rc : Nat) : Bool :=
  (s.ctl.fsync ++ (pendCand s).fs).any fun e => decide (e.1 / 2 < 1152) && e.2.mode == 1 && ifacePages e.2.resIface rc == 0

/-- Every committed charge recomputed for rate `rc` breaks the rules (R99). -/
def rateBad (s : Dev) (rc : Nat) : Bool :=
  noFormat s rc || [0, 1].any fun p => admitRule s p (itemsOf s p rc (pendCand s)) != 0

/-- Half a frame period in ns of a rate code, the range of REF_OFFSET. -/
def offRange (rate : Nat) (v : Int) : Bool := decide (framePeriod rate < 2 * 54 * v.natAbs)

/-- The first entry of PRIO that is malformed, with its COND (R52, R69, R352): a REF_ID that R52 does not list, one named before (3), or
one after the end of the list. -/
def prioFault (d : Bytes) : Option (Nat × Nat) :=
  let l := prioOps d
  (List.range 8).findSome? fun i =>
    let v := l.getD i 0
    if (prioNamed d).length ≤ i then (if v = 0 then none else some (i, 0))
    else if !refListed v then some (i, 0)
    else if (l.take i).contains v then some (i, 3) else none

/-- The checks of REF_POLICY in the order of R342 (R69, R99, R342, R354). -/
def refPolicyChecks (s : Dev) (j : JRec) : Option Refuse :=
  let d := j.desc
  let p := polOf d 0
  let present := s.ctl.ref.rate
  checksOf s j gdet
      [(p.rate == 0 || decide (8 < p.rate), stInvalid, gdet 24), (decide (18 < p.bw), stInvalid, gdet 28),
       ((prioFault d).isSome, stInvalid, let q := (prioFault d).getD (0, 0); genDetail (40 + q.1) false q.2)]
      [(decide (3600 < p.wtr), stRange, gdet 26),
       (decide (p.bw < 6) && !bit (getF s F.RST_STRAP_CLK_MODE 0) 1, stRange, genDetail 28 false 1),
       (decide (p.soft < 10) || decide (5000 < p.soft), stRange, gdet 30),
       (p.drift == 0 || decide (1000 < p.drift), stRange, gdet 32),
       (decide (p.hard < 100) || decide (10000 < p.hard), stRange, gdet 34),
       (decide (p.hard ≤ p.soft), stRange, genDetail 30 false 2),
       (p.history == 0 || decide (1000 < p.history), stRange, gdet 36),
       (p.slope == 0 || decide (10000 < p.slope), stRange, gdet 38),
       (offRange p.rate p.offA, stRange, gdet 48), (offRange p.rate p.offB, stRange, gdet 52)]
      [] [(p.rate != present && rateBad s p.rate, stBudget, gdet 24)]

/-- REF_POLICY (R69, R99, R342, R354). -/
def refPolicyCmd (s : Dev) (j : JRec) : Dev :=
  match refPolicyChecks s j with
  | some r => refuse s j r
  | none => scheduleFrame s j (dlMs s)

/-- A REF_POLICY that falls due (R51, R62, R69): its rate change waits, a new list re-evaluates selection with HOST. -/
def applyRefPolicy (s : Dev) (x : Pend) (j : JRec) (n : Nat) : Dev :=
  let q := fenced s x.jsn s.ctl.ref.jsn fun s =>
    let p := polOf j.desc x.jsn
    let old := s.ctl.ref
    let s := modCtl s fun c => { c with ref := { p with rate := old.rate },
                                        rateWait := if p.rate = old.rate then none else some (p.rate, n) }
    let s := { s with tim := { s.tim with refs := s.tim.refs.filter fun e => p.prio.contains e.1 } }
    let s := if p.prio = old.prio then s
      else
        let b := bestRef s
        if b = selRef s then s else moveRef s b 5 (some x.jsn)
    syncRefs s
  if q.1 then finishFrame q.2 x n else decideCmd (unpend q.2 x.jsn) x.jsn stCancelled 0 0

/-- A pending command completes CANCELLED with no effect (R51): a scheduled update is staged again, and an entry to Bivouac is called
off. -/
def cancelPend (s : Dev) (x : Pend) : Dev :=
  let s := match x.op with
    | 0x71 => setFs { s with sec := { s.sec with sched := none } } 0 [(F.SEC_FW_TGT_TARGET, 0), (F.SEC_FW_STAT_UPDATE, 2)]
    | 0x83 => { s with jrn := { s.jrn with bivIn := none } }
    | _ => s
  decideCmd (unpend s x.jsn) x.jsn stCancelled 0 0

/-- HOUSE_RATE_CHANGE (R51): the waiting rate takes effect at a frame start common to both rates; commands that wait for no frame of
theirs apply in the first new frame that starts no earlier than the old one. -/
def houseRateChange (s : Dev) (t : Nat) : Dev :=
  let s := s.at t
  match s.ctl.rateWait with
  | none => s
  | some (r, n) =>
    if frameStart s n ≤ t ∧ t % framePeriod s.ctl.ref.rate = 0 ∧ t % framePeriod r = 0 then
      let s := (s.ctl.pend.filter fun q => q.atFrame).foldl cancelPend s
      let s := modCtl s fun c => { c with rateWait := none, ref := { c.ref with rate := r },
                                          pend := c.pend.map fun q =>
                                            { q with frame := cdiv (q.frame * framePeriod s.ctl.ref.rate) (framePeriod r) } }
      syncRefs (syncLoads s)
    else s

/-! REF_ALIGN (R67). -/

/-- The checks of REF_ALIGN in the order of R342 (R67, R352, R354). -/
def refAlignChecks (s : Dev) (j : JRec) : Option Refuse :=
  checksOf s j gdet [] [] [] []

/-- REF_ALIGN (R67, R352, R354). -/
def refAlignCmd (s : Dev) (j : JRec) : Dev :=
  match refAlignChecks s j with
  | some r => refuse s j r
  | none => scheduleFrame s j (dlMs s)

/-- Build-out now in ps. -/
def buildOutNow (s : Dev) : Int := sgn 64 (getF s F.DPLL_BUILDOUT_BUILDOUT 0)

/-- Pending AT_FRAME commands whose frame a step skipped (R67): they move to the first frame after it, or are LATE. -/
def stepPend (s : Dev) (old first : Nat) : Dev :=
  s.ctl.pend.foldl (fun s q =>
    if q.atFrame ∧ old < q.frame ∧ q.frame < first then
      let strict := match recOf s q.jsn with | none => false | some j => bit j.flags 2
      if strict then decideCmd (unpend s q.jsn) q.jsn stLate 0 (if q.op = 0x10 ∨ q.op = 0x11 then takeDetail 0 0 8 else 0)
      else modPend s q.jsn fun z => { z with frame := first, deferred := true, reason := 8 }
    else s) s

/-- The STEP of house time onto the reference (R67). -/
def alignStep (s : Dev) (n : Nat) : Dev :=
  let b := buildOutNow s
  if b = 0 then s
  else
    let now := ((s.now : Int) - b * 54 / 1000).toNat
    let s := setF { s with now := now, tim := { s.tim with stepAt := some now, selAt := now } } F.DPLL_BUILDOUT_BUILDOUT 0 0
    let s := if timeBearing (selRef s) then setF s F.DPLL_STATUS_TOD_VALID 0 1 else s
    let s := { s with pln := { s.pln with dst := s.pln.dst.map fun e => (e.1, { e.2 with repeated := true }) } }
    let per := framePeriod s.ctl.ref.rate
    stepPend s n ((now + per - 1) / per)

/-- A REF_ALIGN that falls due (R67). -/
def applyRefAlign (s : Dev) (x : Pend) (j : JRec) (n : Nat) : Dev :=
  let b := buildOutNow s
  if dpllMode s ≠ 2 then decideCmd (unpend s x.jsn) x.jsn stConflict 0 (genDetail 0 false 1)
  else if bit (le j.desc 24 1) 0 then
    if 1000000000 < b.natAbs then decideCmd (unpend s x.jsn) x.jsn stRange 0 (genDetail 24 false 2)
    else finishFrame (if b = 0 then s else setF s F.DPLL_STATUS_SLEWING 0 1) x n
  else alignStep (finishFrame s x n) n

/-! The commands of this file. -/

/-- HOUSE_TIME_SNAPSHOT (R19): a snapshot of house time reaches the planes and the control domain. -/
def execHouseTimeSnapshot (t : Nat) (s : State) : Host.Outcome State Fault Refusal :=
  .next { s with dev := houseTimeSnapshot s.dev t }

/-- CLOCK_MONITOR_WINDOW (R20): a window of the clock monitor on clock `c` counts `count` cycles. -/
def execClockMonitorWindow (t : Nat) (c : Fin 9) (count : Nat) (s : State) : Host.Outcome State Fault Refusal :=
  .next { s with dev := clockMonitorWindow s.dev t c count }

/-- HOUSE_RATE_CHANGE (R51): the waiting house rate takes effect at a frame start common to both rates. -/
def execHouseRateChange (t : Nat) (s : State) : Host.Outcome State Fault Refusal :=
  .next { s with dev := houseRateChange s.dev t }

/-- REF_POLICY (R69): validation of the accepted command `jsn`. -/
def execRefPolicy (t jsn : Nat) (s : State) : Host.Outcome State Fault Refusal :=
  .next { s with dev := withCmd s.dev t jsn 0x40 refPolicyCmd }

/-- REF_ALIGN (R67): validation of the accepted command `jsn`. -/
def execRefAlign (t jsn : Nat) (s : State) : Host.Outcome State Fault Refusal :=
  .next { s with dev := withCmd s.dev t jsn 0x41 refAlignCmd }

/-- REF_LOSS_OF_SIGNAL (R52): reference `r` loses its signal. -/
def execRefLossOfSignal (t r : Nat) (obs : List RefObs) (s : State) : Host.Outcome State Fault Refusal :=
  .next { s with dev := refLossOfSignal s.dev t r obs }

/-- REF_QUAL_WINDOW (R59 to R61): a qualification window ends. -/
def execRefQualWindow (t : Nat) (nco : Int) (obs : List RefObs) (s : State) : Host.Outcome State Fault Refusal :=
  .next { s with dev := refQualWindow s.dev t nco obs }

/-- REF_WTR_EXPIRE (R63): the wait-to-restore time of reference `r` runs out. -/
def execRefWtrExpire (t r : Nat) (obs : List RefObs) (s : State) : Host.Outcome State Fault Refusal :=
  .next { s with dev := refWtrExpire s.dev t r obs }

/-- DPLL_LOCKED (R58): the lock criterion has held since `since`. -/
def execDpllLocked (t since : Nat) (s : State) : Host.Outcome State Fault Refusal :=
  .next { s with dev := dpllLocked s.dev t since }

/-- REF_SLEW_COMPLETE (R67): the build-out has been slewed out. -/
def execRefSlewComplete (t : Nat) (s : State) : Host.Outcome State Fault Refusal :=
  .next { s with dev := refSlewComplete s.dev t }

/-- PEER_TIMING (R68): the peer's house time and the round trip are measured. -/
def execPeerTiming (t peerTime rtt : Nat) (s : State) : Host.Outcome State Fault Refusal :=
  .next { s with dev := peerTiming s.dev t peerTime rtt }

end Sys2Proof.Machine
end

