-- ==== Sys2Proof/Machine/Lanes.lean ====
section
/-! DEFINITION. SerDes lanes: bring-up, training frames, equaliser settings, figure of merit (R265 to R289). -/

namespace Sys2Proof.Machine

/-- Engine state of lane `l` of plane `p`; the peer link's lanes are 80 to 83 of plane 0. -/
def laneSt (s : Dev) (p l : Nat) : LaneSt := mget {} s.otl.lanes (ix p l)

/-- Store a lane's state. -/
def setLane (s : Dev) (p l : Nat) (x : LaneSt) : Dev :=
  { s with otl := { s.otl with lanes := mset {} s.otl.lanes (ix p l) x } }

/-- LANE_STAT.STAGE (R270). -/
def laneStage (s : Dev) (p l : Nat) : Nat := getF s F.LANE_STAT_STAGE (ix p l)

/-- FLT_STATUS bit of a lane (R471, R472). -/
def laneBit (p l : Nat) : Nat := if 80 ≤ l then 40 else 27 + p

/-- SUB of a lane event (R472): a peer lane as 0x50 + lane. -/
def laneSub (l : Nat) : Nat := l

/-- Lanes of one link that hold lane `l`, physical, lowest first. -/
def linkLanes (l : Nat) : List Nat := (List.range 4).map fun i => l / 4 * 4 + i

/-- Enter a stage (R270). -/
def enterStage (s : Dev) (p l st : Nat) : Dev :=
  setLane (setF s F.LANE_STAT_STAGE (ix p l) st) p l { laneSt s p l with since := s.now, cnt := 0 }

/-! The transmitter (R267). -/

/-- Side-tap limits: lowest and highest of c(-3), c(-2), c(-1), c(+1). -/
def tapLimits : List (Int × Int) := [(-6, 6), (-10, 10), (-24, 0), (-16, 0)]

/-- A tap held within its limits. -/
def clampTap (lim : Int × Int) (v : Int) : Int := if v < lim.1 then lim.1 else if lim.2 < v then lim.2 else v

/-- Side taps of a LANE_TXFIR value, saturated (R267, R285). -/
def txTaps (v : Nat) : List Int :=
  List.zipWith clampTap tapLimits [sgn 8 (bits v 0 8), sgn 8 (bits v 8 8), sgn 8 (bits v 16 8), sgn 8 (bits v 24 8)]

/-- The side taps with c(-1) reduced toward 0 until the main tap is at least 32 (R267). -/
def fitTaps (l : List Int) : List Int :=
  match l with
  | [a, b, c, d] =>
    let sum := a.natAbs + b.natAbs + c.natAbs + d.natAbs
    let cut := sum - 32
    [a, b, -((c.natAbs - cut : Nat) : Int), d]
  | _ => l

/-- The main tap c(0) (R267). -/
def mainTap (l : List Int) : Nat := 64 - (l.map Int.natAbs).sum

/-- Use a set of side taps: C0 reports the main tap applied (R285). -/
def useTaps (s : Dev) (p l : Nat) (taps : List Int) : Dev :=
  let t := fitTaps taps
  setF (setLane s p l { laneSt s p l with fir := t }) F.LANE_TXFIR_C0 (ix p l) (mainTap t)

/-- The written register value of LANE_CFG. -/
def laneCfgVal (s : Dev) (i : Nat) : Nat :=
  getF s F.LANE_CFG_PRECODE_RX i + getF s F.LANE_CFG_RX_POL i * 16 + getF s F.LANE_CFG_TX_INV i * 64 +
    getF s F.LANE_CFG_TX_LOCAL i * 128 + getF s F.LANE_CFG_TX_SWING i * 256 + getF s F.LANE_CFG_FOM_MIN i * 65536 +
    getF s F.LANE_CFG_FOM_WARN i * 16777216

/-- The written side taps of LANE_TXFIR. -/
def laneTxVal (s : Dev) (i : Nat) : Nat :=
  getF s F.LANE_TXFIR_CM3 i + getF s F.LANE_TXFIR_CM2 i * 256 + getF s F.LANE_TXFIR_CM1 i * 65536 + getF s F.LANE_TXFIR_CP1 i * 16777216

/-- The written CTLE setting of LANE_RXEQ. -/
def laneRxVal (s : Dev) (i : Nat) : Nat := getF s F.LANE_RXEQ_CTLE_SET i * 256 + getF s F.LANE_RXEQ_CTLE_FORCE i * 32768

/-! Bring-up. -/

/-- Entry to CDR_LOCK: the written settings take effect, CTLE at code 20, the preset taps in use (R270, R279, R285). -/
def enterCdr (s : Dev) (p l : Nat) : Dev :=
  let i := ix p l
  let s := enterStage s p l 1
  let x := laneSt s p l
  let x := { x with cfg := laneCfgVal s i, txf := laneTxVal s i, rxe := laneRxVal s i, ffe := [], rxReady := false }
  let x := { x with farLane := none, reqOut := none, noTune := false, fast := none, aligned := false }
  let s := setLane s p l { x with amAt := none, amGood := 0 }
  let s := useTaps s p l (txTaps (laneTxVal s i))
  satAdd (setF s F.LANE_RXEQ_CTLE i 20) F.LANE_CNT_BRINGUPS i 1

/-- A lane goes back to NO_SIGNAL with the code of the stage that failed; 0, a loss, is no stage's failure (R256, R270, R287). -/
def laneFail (s : Dev) (p l err : Nat) : Dev :=
  let s := enterStage s p l 0
  let x := laneSt s p l
  let s := setLane s p l { x with rxReady := false, fast := none, aligned := false, amAt := none, amGood := 0 }
  if err = 0 then s else setF s F.LANE_STAT_ERR (ix p l) err

/-- LANE_STAGE_TIMEOUT limits in ticks (R270). -/
def stageLimit (st : Nat) : Option Nat :=
  match st with
  | 1 => some 108000000 | 2 => some 54000000 | 3 => some 5400000 | 4 => some 5400000 | 5 => some 10800000000 | _ => none

/-- LANE_STAGE_TIMEOUT (R270). -/
def laneStageTimeout (s : Dev) (t p l : Nat) : Dev :=
  let s := s.at t
  let st := laneStage s p l
  match stageLimit st with
  | none => s
  | some m => if (laneSt s p l).since + m ≤ t ∧ (l < 72 ∨ 80 ≤ l) then laneFail s p l st else s

/-- The receiver's PRECODE_REQ (R273): as PRECODE_RX directs, on AUTO above CTLE code 24. -/
def precodeReq (cfg ctle : Nat) : Bool :=
  match cfg % 4 with | 1 => false | 2 => true | _ => decide (24 < ctle)

/-- The polarity choice (R274): whether the input is inverted, or none where a forced choice contradicts the marker. -/
def polarity (cfg : Nat) (inverted : Bool) : Option Bool :=
  match cfg / 16 % 4 with
  | 1 => if inverted then none else some false
  | 2 => if inverted then some true else none
  | _ => some inverted

/-- Mapping of physical lane `i` of its link to the far end's LANE_ID `f` (R275): 0 in order, 1 reversed, none otherwise. -/
def laneMap (i f : Nat) : Option Nat := if f = i then some 0 else if f = 3 - i then some 1 else none

/-- The mappings of all lanes of the link that have read a LANE_ID agree and none repeats (R275). -/
def mapsAgree (s : Dev) (p l : Nat) : Bool :=
  let ids := (linkLanes l).filterMap fun k => (laneSt s p k).farLane.map fun f => (k % 4, f)
  decide ((ids.map (·.2)).Nodup) &&
    (ids.all (fun q => laneMap q.1 q.2 == some 0) || ids.all (fun q => laneMap q.1 q.2 == some 1))

/-- REVERSAL (R275): the lane is mapped, or every lane of the link stops at REVERSAL with ERR 0x4. -/
def doReversal (s : Dev) (p l far : Nat) : Dev :=
  let s := setLane s p l { laneSt s p l with farLane := some far }
  if mapsAgree s p l then
    let rev := (laneMap (l % 4) far).getD 0
    enterStage (setFs s (ix p l) [(F.LANE_STAT_LOGICAL, far), (F.LANE_STAT_REVERSED, rev)]) p l 5
  else
    (linkLanes l).foldl (fun s k =>
      let st := laneStage s p k
      if 4 ≤ st ∧ st ≤ 6 then setF (if st = 4 then s else enterStage s p k 4) F.LANE_STAT_ERR (ix p k) 4 else s) s

/-- Apply a far end's tap request (R276): the new taps and STAT, 1 applied, 2 at limit, 3 locked by TX_LOCAL. -/
def tapRequest (x : LaneSt) (tap act : Nat) : List Int × Nat :=
  if bit x.cfg 7 then (x.fir, 3)
  else if act = 0 then (x.fir, 1)
  else if act = 3 then (if tap = 7 then (txTaps x.txf, 1) else (x.fir, 1))
  else
    let d : Int := if act = 1 then 1 else -1
    let want := (x.fir.zipIdx).map fun q => if q.2 = tap ∨ tap = 7 then q.1 + d else q.1
    let got := List.zipWith clampTap tapLimits want
    (got, if got = want then 1 else 2)

/-- Answer a new tap request of a frame (R276). -/
def answerTap (s : Dev) (p l : Nat) (o : TrainObs) : Dev :=
  let x := laneSt s p l
  if o.reqTog = x.ansTog ∨ (3 < o.reqTap ∧ o.reqTap ≠ 7) then s
  else
    let q := tapRequest x o.reqTap o.reqAct
    useTaps (setLane s p l { x with ansTog := o.reqTog, ansStat := q.2 }) p l q.1

/-- Our own request to the far end (R276): one outstanding; unanswered for 4 frames ends tuning. -/
def tuneFar (s : Dev) (p l : Nat) (o : TrainObs) : Dev :=
  let x := laneSt s p l
  match x.reqOut with
  | some n =>
    if o.statTog = x.reqTog then setLane s p l { x with reqOut := none }
    else if 4 ≤ n then setLane s p l { x with reqOut := none, noTune := true }
    else setLane s p l { x with reqOut := some (n + 1) }
  | none => if x.noTune ∨ o.want.isNone then s else setLane s p l { x with reqTog := !x.reqTog, reqOut := some 0 }

/-- The 96-bit control field sent on a lane, without its CRC (R272). -/
def trainField (s : Dev) (p l : Nat) (o : TrainObs) : Nat :=
  let x := laneSt s p l
  let w := o.want.getD (0, 0)
  l % 4 + (if 80 ≤ l then 3 else 1) * 2 ^ 4 + laneStage s p l * 2 ^ 8 + b2n x.precReq * 2 ^ 12 + b2n x.precOn * 2 ^ 13 +
    b2n x.rxReady * 2 ^ 14 + w.1 % 8 * 2 ^ 16 + w.2 % 4 * 2 ^ 19 + b2n x.reqTog * 2 ^ 21 + x.ansStat * 2 ^ 22 +
    b2n x.ansTog * 2 ^ 24 + getF s F.LANE_FOM_CUR (ix p l) * 2 ^ 32 + x.seq % 65536 * 2 ^ 64

/-- One frame at a stage of bring-up (R270, R273 to R276). -/
def trainStage (s : Dev) (p l : Nat) (o : TrainObs) : Dev :=
  let i := ix p l
  let x := laneSt s p l
  match laneStage s p l with
  | 1 =>
    if o.cdrLocked then
      let c := min 40 (if bit x.rxe 15 then bits x.rxe 8 6 else o.ctle)
      let r := precodeReq x.cfg c
      enterStage (setFs (setLane s p l { x with precReq := r }) i [(F.LANE_RXEQ_CTLE, c)]) p l 2
    else s
  | 2 =>
    let x := { x with precOn := o.precodeReq, cnt := if o.precodeOn = x.precReq then x.cnt + 1 else 0 }
    let s := setFs (setLane s p l x) i [(F.LANE_STAT_PRECODE_TX, b2n x.precOn), (F.LANE_STAT_PRECODE_RX, b2n o.precodeOn)]
    if 8 ≤ x.cnt then enterStage s p l 3 else s
  | 3 =>
    let x := { x with cnt := if x.cnt = 0 ∨ x.sense = o.inverted then x.cnt + 1 else 1, sense := o.inverted }
    let s := setLane s p l x
    match polarity x.cfg o.inverted with
    | none => s
    | some v => if 16 ≤ x.cnt then enterStage (setF s F.LANE_STAT_POL_INV i (b2n v)) p l 4 else s
  | 4 => doReversal s p l o.laneId
  | 5 =>
    let c := min 40 (if bit x.rxe 15 then bits x.rxe 8 6 else o.ctle)
    let good := decide (bits x.cfg 16 8 ≤ o.fom) && o.adapted
    let x := { x with rxReady := good, ffe := o.ffe, cnt := if good && o.rxReady then x.cnt + 1 else 0 }
    let s := setF (setLane s p l x) F.LANE_RXEQ_CTLE i c
    if 8 ≤ x.cnt then enterStage s p l 6 else s
  | _ => s

/-- One frame of a fast-exit burst of 12 (R280, R281). -/
def fastFrame (s : Dev) (p l : Nat) (n : Nat) (o : TrainObs) : Dev :=
  let i := ix p l
  let x := laneSt s p l
  let ok := o.crcOk && decide (b2n o.inverted = getF s F.LANE_STAT_POL_INV i) && decide (bits x.cfg 16 8 ≤ o.fom) && x.farLane == some o.laneId
  let good := if n ≤ 4 then (if ok then x.cnt + 1 else 0) else 0
  if n ≤ 1 then
    if 4 ≤ good then enterStage (setLane s p l { x with fast := none }) p l 6
    else enterCdr s p l
  else setLane s p l { x with fast := some (n - 1), cnt := good }

/-- TRAINING_FRAME (R270 to R281); a frame whose CRC fails is ignored, though it takes its place in a burst of 12. -/
def trainingFrame (s : Dev) (t p l : Nat) (o : TrainObs) : Dev :=
  let s := s.at t
  if decide (72 ≤ l) && decide (l < 80) then s
  else if !o.crcOk then (match (laneSt s p l).fast with | some n => fastFrame s p l n o | none => s)
  else
    let s := setF s F.LANE_FOM_CUR (ix p l) o.fom
    let st := laneStage s p l
    let s := match (laneSt s p l).fast with
      | some n => fastFrame s p l n o
      | none =>
        if st = 6 then s
        else tuneFar (answerTap (trainStage s p l o) p l o) p l o
    let x := laneSt s p l
    emit (setLane s p l { x with seq := (x.seq + 1) % 65536 }) (.train (ix p l) (trainField s p l o))

/-- Add a FOM reading in UP to the 24-hour mean (R288). -/
def fomMean (s : Dev) (p l fom : Nat) : Dev :=
  let x := laneSt s p l
  let h := s.now / (3600 * tickSec)
  let keep := x.fomH.filter fun q => decide (h < q.1 + 24)
  let new := match keep.find? fun q => q.1 == h with
    | some q => (h, q.2.1 + fom, q.2.2 + 1) :: keep.filter fun q => q.1 != h
    | none => (h, fom, 1) :: keep
  let n := (new.map fun q => q.2.2).sum
  setF (setLane s p l { x with fomH := new }) F.LANE_FOM_MEAN (ix p l) ((new.map fun q => q.2.1).sum / n)

/-- LANE_LOW_FOM (R278): a FOM reading in UP; below FOM_WARN for 100 ms it sets LOW_FOM and raises FAULT once. -/
def laneLowFom (s : Dev) (t p l fom : Nat) : Dev :=
  let i := ix p l
  let s := setF (s.at t) F.LANE_FOM_CUR i fom
  if laneStage s p l ≠ 6 then s
  else
    let s := if fom < getF s F.LANE_FOM_MIN i then setF s F.LANE_FOM_MIN i fom else s
    let s := fomMean s p l fom
    let x := laneSt s p l
    if bits x.cfg 24 8 ≤ fom then setF (setLane s p l { x with lowSince := none }) F.LANE_STAT_LOW_FOM i 0
    else
      let a := x.lowSince.getD t
      let s := setLane s p l { x with lowSince := some a }
      if a + 5400000000 ≤ t ∧ getF s F.LANE_STAT_LOW_FOM i = 0 then
        faultEvent (setF s F.LANE_STAT_LOW_FOM i 1) (laneBit p l) 0x08 (laneSub l)
      else s

/-! The commands of this file. -/

/-- LANE_STAGE_TIMEOUT (R270): a bring-up stage of a lane has lasted too long. -/
def execLaneStageTimeout (t : Nat) (p : Fin 2) (l : Fin 84) (s : State) : Host.Outcome State Fault Refusal :=
  .next { s with dev := laneStageTimeout s.dev t p l }

/-- LANE_LOW_FOM (R278, R288): a figure of merit of a lane in UP. -/
def execLaneLowFom (t : Nat) (p : Fin 2) (l : Fin 84) (fom : Nat) (s : State) : Host.Outcome State Fault Refusal :=
  .next { s with dev := laneLowFom s.dev t p l fom }

end Sys2Proof.Machine
end

