-- ==== Sys2Proof/Machine/Links.lean ====
section
/-! DEFINITION. Otira links: masks and restripe (R256 to R258), port shedding (R139, R140), link states (R259, R260),
timing, delay, presence and configuration blocks (R248 to R252), LINK_SET (R261). -/

namespace Sys2Proof.Machine

/-- Engine state of link `l` of plane `p`. -/
def lnkSt (s : Dev) (p l : Nat) : LnkSt := mget {} s.otl.links (ix p l)

/-- Store a link's state. -/
def setLnk (s : Dev) (p l : Nat) (x : LnkSt) : Dev :=
  { s with otl := { s.otl with links := mset {} s.otl.links (ix p l) x } }

/-- OTL_STAT.STATE: 0 DOWN, 1 TRAINING, 2 UP, 3 DEGRADED, 4 IDLE (R262). -/
def linkState (s : Dev) (p l : Nat) : Nat := getF s F.OTL_STAT_STATE (ix p l)

/-- Segments flow (R259). -/
def linkFlows (s : Dev) (p l : Nat) : Bool := linkState s p l == 2 || linkState s p l == 3

/-- Transmit active mask. -/
def txMask (s : Dev) (p l : Nat) : Nat := getF s F.OTL_STAT_TX_MASK (ix p l)

/-- Receive active mask. -/
def rxMask (s : Dev) (p l : Nat) : Nat := getF s F.OTL_STAT_RX_MASK (ix p l)

/-- Lanes set in a 4-bit mask. -/
def laneCount (m : Nat) : Nat := m % 2 + m / 2 % 2 + m / 4 % 2 + m / 8 % 2

/-- MODE of a link as LINK_SET left it: 0 ENABLED, 1 IDLE, 2 DISABLED (R261). -/
def linkMode (s : Dev) (p l : Nat) : Nat := (mechOf s mkLink (pkey s p l)).aux % 4

/-- OUT_ADD of a link in µs (R261). -/
def linkOutAdd (s : Dev) (p l : Nat) : Nat := (mechOf s mkLink (pkey s p l)).aux / 4 % 32

/-- Priority of slot `k` of a link (R139, R261): 8 unless LINK_SET gave one. -/
def slotPrio (s : Dev) (p l k : Nat) : Nat :=
  let d := (mechOf s mkLink (pkey s p l)).data
  if d.isEmpty then 8 else bits (le d k 1) 0 4

/-! Shedding (R139, R140, R251). -/

/-- Detected interface of slot `k` of a link: 0 with no signal. -/
def slotIface (s : Dev) (p l k : Nat) : Nat :=
  let n := 64 * l + k
  if (srcSt s p n).signal then getF s F.PLN_SRCSTAT_IFACE (ix p n) else 0

/-- Path that a plane serves (R1): its own letter in Single, the device in Pair. -/
def pathOf (s : Dev) (p : Nat) : Nat := if s.ctl.pair then getF s F.RST_STRAP_PAIR_ID 0 else p

/-- Slot `a` is shed before slot `b` (R139). -/
def shedFirst (s : Dev) (p l a b : Nat) : Bool :=
  let x := slotPrio s p l a
  let y := slotPrio s p l b
  decide (x < y) || (x == y && (if pathOf s p = 0 then decide (b < a) else decide (a < b)))

/-- Insert a slot in shed order. -/
def insSlot (s : Dev) (p l a : Nat) : List Nat → List Nat
  | [] => [a]
  | b :: r => if shedFirst s p l a b then a :: b :: r else b :: insSlot s p l a r

/-- Shed slots while the load passes the capacity; loads in kbit/s of essence times 512, capacity times 496 (R139). -/
def shedLoop (cap : Nat) (load : Nat → Nat) : List Nat → Nat → List Nat
  | [], _ => []
  | k :: r, total => if total ≤ cap then [] else k :: shedLoop cap load r (total - load k)

/-- Slots shed while a link runs on `n` lanes (R139, R251): none on 4. -/
def shedSlots (s : Dev) (p l n : Nat) : List Nat :=
  if 4 ≤ n then []
  else
    let busy := (List.range 64).filter fun k => ifaceRate (slotIface s p l k) != 0
    let load := fun k => ifaceRate (slotIface s p l k) * 512
    let cap := (200 * n - 10) * 1000000 * 496
    shedLoop cap load (busy.foldr (insSlot s p l) []) ((busy.map load).sum)

/-- The shed slots as a bit map (R251). -/
def shedMask (s : Dev) (p l n : Nat) : Nat := ((shedSlots s p l n).map fun k => 2 ^ k).sum

/-- Slot `k` is shed now (R139, R251). -/
def slotShed (s : Dev) (p l k : Nat) : Bool := (shedSlots s p l (getF s F.OTL_STAT_SHED_N (ix p l))).contains k

/-! Configuration items (R251, R261). -/

/-- Interface on which destination `d` of plane `p` sends: its source's, or the one that R34 gives the format. -/
def egressIface (s : Dev) (p d : Nat) : Nat :=
  let x := dstSt s p d
  let r := routeOf s (pkey s p d)
  let q := if s.ctl.pair then r.srcPlane else p
  let i := if x.shown < 1152 then getF s F.PLN_SRCSTAT_IFACE (ix q x.shown) else 0
  if i ≠ 0 then i else fmtIface x.outFmt (x.shown != 0x7FF && srcSamp s q x.shown != 0)

/-- OUT_DELAY of a slot in µs (R261): half-width of the interface it sends rounded up, 4 µs and OUT_ADD. -/
def outDelay (s : Dev) (p l k : Nat) : Nat :=
  cdiv (windowTicks (ifaceRate (egressIface s p (64 * l + k))) false) 54000 + 4 + linkOutAdd s p l

/-- Content of CFG item `c` of a link: 0 to 63 SLOT items, 64 to 66 SHED items for 1 to 3 lanes (R251). The enables of a
slot are not stated by the spec: free (log entry 16). -/
def cfgContent (s : Dev) (p l c : Nat) : Nat :=
  if c < 64 then
    c + ((Config.slotEnables p l c).toNat + outDelay s p l c * 256) * 256
  else (c - 63) + shedMask s p l (c - 63) * 256

/-- Send one CFG item (R251): SUBTYPE, EPOCH, SEQ, content. -/
def sendCfg (s : Dev) (p l c content seq : Nat) : Dev :=
  emit s (.ctl p l 0x30 ((if c < 64 then 1 else 2) + s.ctl.epoch * 2 ^ 8 + seq * 2 ^ 40 + content * 2 ^ 72))

/-- Give an item that changed a new SEQ and send it (R251). -/
def cfgItem (s : Dev) (p l c : Nat) (all : Bool) : Dev :=
  let x := lnkSt s p l
  let v := cfgContent s p l c
  let old := mget (0, 0) x.cfg c
  if old.2 ≠ 0 ∧ old.1 = v then (if all then sendCfg s p l c v old.2 else s)
  else
    let n := x.cfgSeq + 1
    sendCfg (setLnk s p l { x with cfgSeq := n, cfg := mset (0, 0) x.cfg c (v, n) }) p l c v n

/-- Every CFG item of a link: all of them, or only those that changed. -/
def cfgAll (s : Dev) (p l : Nat) (all : Bool) : Dev := (List.range 67).foldl (fun s c => cfgItem s p l c all) s

/-! Link states (R259, R260, R262). -/

/-- LINK_STATE detail word (R262). -/
def linkDetail (s : Dev) (p l new old newUnit cause : Nat) : Nat :=
  l % 32 + p * 32 + new * 2 ^ 6 + old * 2 ^ 9 + txMask s p l * 2 ^ 12 + rxMask s p l * 2 ^ 16 + newUnit * 2 ^ 20 + cause * 2 ^ 21

/-- What entry to UP or DEGRADED does (R260): the unit is compared and every CFG item sent. -/
def linkUp (s : Dev) (p l : Nat) : Dev :=
  let x := lnkSt s p l
  let diff := x.unit.isSome && x.newUnit.isSome && x.newUnit != x.unit
  let s := setLnk s p l { x with unit := if x.newUnit.isSome then x.newUnit else x.unit }
  cfgAll (if diff then setF s F.OTL_STAT_NEW_UNIT (ix p l) 1 else s) p l true

/-- Move a link to a state with its event (R259, R262); `jsn` is the command that caused it, 0 if none (R334, log entry 114). -/
def linkGo (s : Dev) (p l new cause : Nat) (jsn : Nat := 0) : Dev :=
  let old := linkState s p l
  if old = new then s
  else
    let i := ix p l
    let s := setF s F.OTL_STAT_STATE i new
    let s := setLnk s p l { lnkSt s p l with since := s.now }
    let s := if new = 0 then
        let x := lnkSt s p l
        setLnk (setFs s i [(F.OTL_STAT_RX_MASK, 0), (F.OTL_STAT_TX_MASK, 0), (F.OTL_STAT_STANDBY, 0), (F.OTL_STAT_SHED_N, 4)]) p l
          { x with lastPres := none, presSeen := false, req := none, farReq := none, upWait := false, idleAt := none }
      else if new = 1 then setLnk (setF s F.OTL_STAT_NEW_UNIT i 0) p l { lnkSt s p l with presSeen := false, skewed := [] }
      else s
    let s := if (new = 2 ∨ new = 3) ∧ (old = 1 ∨ old = 4) then linkUp s p l else s
    raise s 0x01 (p * 8 + l / 3) jsn (linkDetail s p l new old (getF s F.OTL_STAT_NEW_UNIT i) cause)

/-- The state that the masks and PRESENCE give (R259); a link that trains to DEGRADED with a lane beyond the skew tolerance says so with
cause 5 (R243). -/
def linkEval (s : Dev) (p l cause : Nat) : Dev :=
  let st := linkState s p l
  let tx := txMask s p l
  let rx := rxMask s p l
  let full := decide (tx = 15 ∧ rx = 15)
  if st = 1 then
    if tx ≠ 0 ∧ rx ≠ 0 ∧ (lnkSt s p l).presSeen then
      linkGo s p l (if full then 2 else 3) (if (lnkSt s p l).skewed = [] ∨ full then cause else 5) else s
  else if st = 2 ∨ st = 3 then
    if tx = 0 ∨ rx = 0 then linkGo s p l 0 cause else linkGo s p l (if full then 2 else 3) cause
  else if st = 4 then
    if tx ≠ 0 ∧ rx ≠ 0 ∧ linkMode s p l = 0 then linkGo s p l (if full then 2 else 3) cause else s
  else s

/-- LANE_RESTRIPE (R144): the mask of a direction changes; with a direction empty every port is shed (R143; log entry 123, DEDUCED). -/
def restripeEvent (s : Dev) (p l tx n old new : Nat) : Dev :=
  let shed := if txMask s p l = 0 ∨ rxMask s p l = 0 then 64 else (shedSlots s p l n).length
  raise s 0x02 (p * 8 + l / 3) 0 (restripeDetail l p tx new shed (b2n (old &&& new != old)))

/-- Masks have changed (R251, R256): the SHED item for the smaller lane count applies, LANE_RESTRIPE is raised. -/
def restripe (s : Dev) (p l tx old new : Nat) : Dev :=
  let a := laneCount (txMask s p l)
  let b := laneCount (rxMask s p l)
  let n := if a = 0 ∨ b = 0 then 4 else min a b
  let s := setF s F.OTL_STAT_SHED_N (ix p l) n
  let s := satAdd s F.OTL_CNT_SWITCHES (ix p l) 1
  if old = new then s else restripeEvent s p l tx n old new

/-! Lanes of a link: masks are of logical lanes (R275). -/

/-- Physical lane that carries logical lane `k` of link `l`. -/
def physLane (s : Dev) (p l k : Nat) : Nat :=
  if getF s F.LANE_STAT_REVERSED (ix p (4 * l + k)) = 1 then 4 * l + 3 - k else 4 * l + k

/-- Working transmit lanes as a mask: those whose bring-up is complete (R256). -/
def workingTx (s : Dev) (p l : Nat) : Nat :=
  ((List.range 4).map fun k => if laneStage s p (physLane s p l k) = 6 then 2 ^ k else 0).sum

/-- Send RESTRIPE_REQ with a new REQ_ID (R256). -/
def sendReq (s : Dev) (p l mask : Nat) : Dev :=
  let x := lnkSt s p l
  let id := (x.reqId + 1) % 256
  emit (setLnk s p l { x with req := some (mask, id), reqId := id, upWait := false }) (.ctl p l 2 (mask + id * 2 ^ 8))

/-- AM_RECEIVED (R243): lane `k` of the link, the alignment period of the AM, whether its CRC holds, and whether the lane lies beyond
the 60 ns of skew. Two valid AMs one period apart align a lane within it; three periods without one lose it. -/
def amReceived (s : Dev) (t p l k period : Nat) (valid skew : Bool) : Dev :=
  let s := s.at t
  let ph := physLane s p l k
  let x := laneSt s p ph
  let i := ix p l
  if laneStage s p ph ≠ 6 then s
  else if !valid then satAdd s F.OTL_CNT_CTL_DISC i 1
  else
    let next := x.amAt == some (period - 1) && period != 0
    let z := lnkSt s p l
    let s := if x.aligned then s else setLnk s p l { z with skewed := (if skew then [k] else []) ++ z.skewed.filter (· != k) }
    let next := next && (x.aligned || !skew)
    let x := { x with amAt := some period, amGood := if next then x.amGood + 1 else 1, aligned := x.aligned || next }
    let s := setLane s p ph x
    if next && !bit (rxMask s p l) k then setF s F.OTL_STAT_STANDBY i (getF s F.OTL_STAT_STANDBY i ||| 2 ^ k) else s

/-- A link has lost its last receive lane: no request can be answered, and it goes DOWN (R139, R259). -/
def lastLane (s : Dev) (p l : Nat) : Dev :=
  let old := rxMask s p l
  let s := setF s F.OTL_STAT_RX_MASK (ix p l) 0
  if linkFlows s p l then linkGo (restripeEvent s p l 0 4 old 0) p l 0 1 else s

/-- The lanes that the receiver has asked for: those of a request still unanswered, else its active ones (R256). -/
def wantedRx (s : Dev) (p l : Nat) : Nat := match (lnkSt s p l).req with | some (m, _) => m | none => rxMask s p l

/-- LANE_LOSS (R256, R258, R139): the lanes of `mask` are lost together; data is discarded and a RESTRIPE_REQ names the active lanes
that are left, lanes asked back waiting for its switch; with none left the link goes DOWN. A lane only on standby leaves the standby set. -/
def laneLoss (s : Dev) (t p l mask : Nat) : Dev :=
  let s := s.at t
  let i := ix p l
  let rx := rxMask s p l
  let sb := getF s F.OTL_STAT_STANDBY i
  let lost := (List.range 4).filter fun k => bit mask k
  let s := lost.foldl (fun s k => let ph := physLane s p l k; if laneStage s p ph = 6 then laneFail s p ph 0 else s) s
  let s := setF s F.OTL_STAT_STANDBY i (sb - (sb &&& mask))
  let x := lnkSt s p l
  let base := wantedRx s p l
  let left := (base &&& rx) - (base &&& rx &&& mask)
  let back := x.upWait || (base - (base &&& rx)) - ((base - (base &&& rx)) &&& mask) != 0
  if rx = 0 ∨ linkState s p l = 0 then s
  else if left = 0 then lastLane s p l
  else if base &&& mask = 0 then s
  else
    let s := sendReq (setLnk s p l { x with needAlign := x.needAlign || rx &&& mask != 0 }) p l left
    setLnk s p l { lnkSt s p l with upWait := back }

/-- LANE_RETURN (R243, R256, R258): standby lane `k` with valid AMs for two periods is requested back; the request waits
for a down-switch in progress. -/
def laneReturn (s : Dev) (t p l k : Nat) : Dev :=
  let s := s.at t
  let x := lnkSt s p l
  let rx := rxMask s p l
  if linkState s p l = 0 ∨ !bit (getF s F.OTL_STAT_STANDBY (ix p l)) k ∨ (laneSt s p (physLane s p l k)).amGood < 2 then s
  else
    match x.req with
    | some (m, _) =>
      if laneCount m < laneCount rx then setLnk s p l { x with upWait := true } else sendReq s p l (m ||| 2 ^ k)
    | none => sendReq s p l (rx ||| 2 ^ k)

/-- RESTRIPE_REQ (R256, R258): the far end's request replaces any earlier one until the switch round. -/
def restripeReq (s : Dev) (t p l mask id : Nat) : Dev :=
  let s := s.at t
  if linkState s p l = 0 then s else setLnk s p l { lnkSt s p l with farReq := some (mask % 16, id % 256) }

/-- Send a MASK round (R256): NEW_MASK, REQ_ID, round `k` and AM period counter, ELEC_IDLE. -/
def sendMask (s : Dev) (p l mask id k period idle : Nat) : Dev :=
  emit s (.ctl p l 3 (mask + id * 2 ^ 8 + (k % 1024 + period % 64 * 1024) * 2 ^ 16 + idle * 2 ^ 32))

/-- SWITCH_ROUND (R256): the answer to the far end's request on the working transmit lanes. -/
def switchRound (s : Dev) (t p l k period : Nat) : Dev :=
  let s := s.at t
  let x := lnkSt s p l
  match x.farReq with
  | none => s
  | some (m, id) =>
    let old := txMask s p l
    let new := workingTx s p l &&& m
    let s := setF (setLnk s p l { x with farReq := none }) F.OTL_STAT_TX_MASK (ix p l) new
    linkEval (restripe (sendMask s p l new id k period 0) p l 1 old new) p l 6

/-- MASK (R256, R258, R260): a received switch round that answers our request changes the receive mask. -/
def maskReceived (s : Dev) (t p l mask id : Nat) : Dev :=
  let s := s.at t
  let x := lnkSt s p l
  let i := ix p l
  match x.req with
  | none => satAdd s F.OTL_CNT_SWITCHES i 1
  | some (_, rid) =>
    if rid ≠ id % 256 then satAdd s F.OTL_CNT_SWITCHES i 1
    else
      let old := rxMask s p l
      let new := mask % 16
      let sb := getF s F.OTL_STAT_STANDBY i
      let s := setFs s i [(F.OTL_STAT_RX_MASK, new), (F.OTL_STAT_STANDBY, sb - (sb &&& new))]
      let s := setLnk s p l { x with req := none, needAlign := false }
      let s := linkEval (restripe s p l 0 old new) p l 1
      let sb := getF s F.OTL_STAT_STANDBY i
      if (lnkSt s p l).upWait ∧ sb ≠ 0 ∧ linkState s p l ≠ 0 then sendReq s p l (rxMask s p l ||| sb) else s

/-! Timing, delay, presence. -/

/-- The TIMING block sent now (R248). -/
def timingPayload (s : Dev) (fs : Nat) : Nat :=
  let ns := nsOf s.now
  getF s F.DPLL_STATUS_TOD_VALID 0 + b2n (dpllMode s == 3) * 2 + fs * 4 + ns / 1000000000 % 2 ^ 48 * 2 ^ 8 +
    ns % 1000000000 * 2 ^ 56 + hfn s % 2 ^ 64 * 2 ^ 88 + s.ctl.ref.rate * 2 ^ 152

/-- Send a TIMING block on a link whose transmitter is active; the first of a frame carries FRAME_START (R248). -/
def sendTiming (s : Dev) (p l : Nat) : Dev :=
  let x := lnkSt s p l
  if txMask s p l = 0 then s
  else
    let first := x.lastFs != hfn s + 1
    emit (setLnk s p l { x with lastFs := hfn s + 1 }) (.ctl p l 0x10 (timingPayload s (b2n first)))

/-- REF_ID of an Otira link as a reference (R52). -/
def linkRef (p l : Nat) : Nat := (if p = 0 then 0x20 else 0x40) + l

/-- One-way delay of a link in ticks; 0 when none is measured. -/
def linkDelay (s : Dev) (p l : Nat) : Nat :=
  let d := getF s F.OTL_DELAY_ONEWAY (ix p l)
  if d = 0xFFFFFFFF then 0 else d * 54 / 1000

/-- TIMING (R248, R52): sent (`rx` none), or received; one with REFERENCE makes the link a reference whose time is
compensated by the delay of R249. -/
def timingBlock (s : Dev) (t p l : Nat) (rx : Option TimingObs) : Dev :=
  let s := s.at t
  match rx with
  | none => sendTiming s p l
  | some o =>
    let r := linkRef p l
    if o.reference && (prioList s).contains r then
      setRef s r { refSt s r with present := true,
                                  diff := ((t : Int) - ((o.time + linkDelay s p l : Nat) : Int)) * 1000 / 54 }
    else s

/-- DELAY_REQ (R249): answered with T2, the arrival in ns, T3 now, and T1 echoed. -/
def delayReq (s : Dev) (t p l seq t1 t2 : Nat) : Dev :=
  let s := s.at t
  emit s (.ctl p l 0x12 (seq % 256 + t2 % 2 ^ 64 * 2 ^ 8 + nsOf t % 2 ^ 64 * 2 ^ 72 + t1 % 2 ^ 64 * 2 ^ 136))

/-- DELAY_RESP (R249): ((T4 − T1) − (T3 − T2)) ÷ 2 in ps; a response whose SEQ is not outstanding is ignored. -/
def delayResp (s : Dev) (t p l seq t1 t2 t3 : Nat) : Dev :=
  let s := s.at t
  let x := lnkSt s p l
  if x.delayOut = some (seq % 256, t1) then
    let d : Int := ((nsOf t : Int) - t1) - ((t3 : Int) - t2)
    setF (setLnk s p l { x with delayOut := none }) F.OTL_DELAY_ONEWAY (ix p l) (clampI 0xFFFFFFFE (d * 500)).toNat
  else s

/-- DELAY_MEASURE_TIMER (R249). -/
def delayMeasure (s : Dev) (t p l : Nat) : Dev :=
  let s := s.at t
  let x := lnkSt s p l
  if txMask s p l = 0 then s
  else
    let q := (x.delaySeq + 1) % 256
    emit (setLnk s p l { x with delaySeq := q, delayOut := some (q, nsOf t) }) (.ctl p l 0x11 (q + nsOf t % 2 ^ 64 * 2 ^ 8))

/-- PRESENCE (R250): a valid block; the link stays alive and may leave TRAINING. -/
def presence (s : Dev) (t p l : Nat) (o : PresObs) : Dev :=
  let s := s.at t
  let i := ix p l
  let s := setFs s i [(F.OTL_GB_GB_PART, o.part), (F.OTL_GB_SLOTS, o.slots), (F.OTL_GB_IFACE, o.iface), (F.OTL_GB_UNIT_LO, o.unit)]
  let s := setLnk s p l { lnkSt s p l with lastPres := some t, presSeen := true, newUnit := some o.unit }
  if linkState s p l = 1 then linkEval s p l 1 else s

/-- PRESENCE_SEND (R250): the device form. -/
def presenceSend (s : Dev) (t p l : Nat) : Dev :=
  let s := s.at t
  if txMask s p l = 0 then s
  else
    emit s (.ctl p l 0x20
      (pathOf s p * 2 + b2n s.ctl.pair * 4 + getF s F.DPLL_STATUS_TOD_VALID 0 * 8 + (l + p * 32) * 2 ^ 8 + s.ctl.epoch * 2 ^ 24 +
        Config.uniqueId.toNat % 2 ^ 64 * 2 ^ 56))

/-- PRESENCE_TIMEOUT (R250, R259). -/
def presenceTimeout (s : Dev) (t p l : Nat) : Dev :=
  let s := s.at t
  let last := (lnkSt s p l).lastPres.getD (lnkSt s p l).since
  if linkFlows s p l && decide (last + 162000000 ≤ t) then linkGo s p l 0 2 else s

/-- CFG_REPEAT (R251): every item of a link that is UP or DEGRADED. -/
def cfgRepeat (s : Dev) (t p l : Nat) : Dev :=
  let s := s.at t
  if linkFlows s p l then cfgAll s p l true else s

/-- A lane of the link has signal. -/
def anySignal (s : Dev) (p l : Nat) : Bool :=
  (linkLanes (4 * l)).any fun k => let st := laneStage s p k; st != 0 && st != 8 && st != 7

/-- A link may start training (R259): DOWN, MODE ENABLED, its wait over. -/
def startTraining (s : Dev) (p l : Nat) : Dev :=
  if linkState s p l = 0 ∧ linkMode s p l = 0 ∧ (lnkSt s p l).retryAt ≤ s.now then linkGo s p l 1 1 else s

/-- LINK_TRAIN_TIMEOUT (R259): 500 ms in TRAINING takes the link DOWN; 100 ms later training restarts. -/
def linkTrainTimeout (s : Dev) (t p l : Nat) : Dev :=
  let s := s.at t
  let x := lnkSt s p l
  if linkState s p l = 1 then
    if x.since + 27000000000 ≤ t then
      let s := linkGo s p l 0 4
      setLnk s p l { lnkSt s p l with retryAt := t + 5400000000 }
    else s
  else if anySignal s p l then startTraining s p l
  else s

/-- LINK_IDLE_TIMEOUT (R259): the gearbox is not in electrical idle 1 µs after the idle switch round. -/
def linkIdleTimeout (s : Dev) (t p l : Nat) : Dev :=
  let s := s.at t
  if linkState s p l = 4 ∧ linkMode s p l = 1 ∧ (lnkSt s p l).since + 54000 ≤ t then linkGo s p l 0 3 else s

/-- LANE_SIGNAL_DETECT (R259, R270, R282): signal for 1 µs moves a lane from NO_SIGNAL to CDR_LOCK, an Ethernet lane to
ADAPT, and a link from DOWN to TRAINING. -/
def laneSignalDetect (s : Dev) (t p l : Nat) : Dev :=
  let s := s.at t
  if laneStage s p l ≠ 0 then s
  else if 72 ≤ l ∧ l < 80 then enterStage s p l 5
  else
    let s := enterCdr s p l
    if l < 72 then startTraining s p (l / 4) else s

/-- UNCORRECTABLE_CODEWORD (R244, R246, R256): lane `k` of a link: counted, the segment in progress discarded, alignment
lost; the third in a row loses the lane. `corrected` codewords of the lane before it are counted with it. -/
def uncorrectable (s : Dev) (t p l k corrected : Nat) : Dev :=
  let s := s.at t
  let ph := physLane s p l k
  let x := laneSt s p ph
  let n := if corrected = 0 then x.uncor + 1 else 1
  let s := satAdd (satAdd s F.LANE_CNT_UNCORR (ix p ph) 1) F.LANE_CNT_CORR (ix p ph) corrected
  let s := setLane s p ph { x with uncor := if 3 ≤ n then 0 else n }
  let i := ix p l
  let s := satAdd s F.OTL_CNT_UNCORR i 1
  let s := if bit (rxMask s p l) k && !(lnkSt s p l).needAlign then
      satAdd (setLnk s p l { lnkSt s p l with needAlign := true }) F.OTL_CNT_SEG_DISC i 1
    else s
  if 3 ≤ n then laneLoss s t p l (2 ^ k) else s

/-- A link out of idle on which no lane completed its fast exit goes DOWN with cause 0x4 and retrains (R281). -/
def afterFast (s : Dev) (p l : Nat) : Dev :=
  let ls := linkLanes (4 * l)
  let none' := ls.all fun k => laneStage s p k != 6 && laneStage s p k != 7
  if linkState s p l = 4 ∧ linkMode s p l = 0 ∧ none' then startTraining (linkGo s p l 0 4) p l else s

/-- A training frame with what it means for its link (R271, R281). -/
def trainingFrameLink (s : Dev) (t p l : Nat) (o : TrainObs) : Dev :=
  let s := trainingFrame s t p l o
  if l < 72 then afterFast s p (l / 4) else s

/-! LINK_SET (R259, R261, R280, R281). -/

/-- Planes and link number that LINK names (R261): both planes in Single. -/
def linkTargets (s : Dev) (link : Nat) : List (Nat × Nat) :=
  if s.ctl.pair then (if link < 18 then [(0, link)] else [(1, link - 18)]) else [(0, link), (1, link)]

/-- Key of the link mechanism. -/
def linkKey (s : Dev) (link : Nat) : Nat :=
  if s.ctl.pair then (if link < 18 then pkey s 0 link else pkey s 1 (link - 18)) else pkey s 0 link

/-- The checks of LINK_SET in the order of R342 (R261, R352, R354). -/
def linkSetChecks (s : Dev) (j : JRec) : Option Refuse :=
  let len := dBufLen j.desc
  let link := bits (le j.desc 36 1) 0 6
  let m := bits (le j.desc 37 1) 0 2
  let bad := (List.range j.buf.length).find? fun k => decide (16 ≤ le j.buf k 1)
  checksOf s j gdet
      [(!bufOver j && len != 0 && len != 64, stInvalid, gdet 32), (m == 3, stInvalid, gdet 37),
       (bad.isSome, stInvalid, genDetail (bad.getD 0) true 0)]
      [(decide ((if s.ctl.pair then 36 else 18) ≤ link), stRange, gdet 36), (decide (16 < bits (le j.desc 38 1) 0 5), stRange, gdet 38)]
      [] []

/-- LINK_SET (R261, R352, R354). -/
def linkSetCmd (s : Dev) (j : JRec) : Dev :=
  match linkSetChecks s j with
  | some r => refuse s j r
  | none => scheduleFrame s j (dlMs s)

/-- Enter electrical idle (R259, R280). -/
def linkIdle (s : Dev) (p l jsn : Nat) : Dev :=
  let s := sendMask s p l (txMask s p l) 0 0 0 1
  let s := (linkLanes (4 * l)).foldl (fun s k => if laneStage s p k = 6 then enterStage s p k 7 else s) s
  let s := linkGo s p l 4 3 jsn
  let s := setFs s (ix p l) [(F.OTL_STAT_RX_MASK, 0), (F.OTL_STAT_TX_MASK, 0), (F.OTL_STAT_STANDBY, 0)]
  setLnk s p l { lnkSt s p l with idleAt := some s.now, idleBand := bandOf s p, req := none, farReq := none }

/-- Leave electrical idle (R281): a fast exit within 60 s of entry in the same temperature band, else full bring-up. -/
def linkWake (s : Dev) (p l : Nat) : Dev :=
  let x := lnkSt s p l
  let fast := x.idleBand == bandOf s p && (match x.idleAt with | none => false | some a => decide (s.now ≤ a + 60 * tickSec))
  (linkLanes (4 * l)).foldl (fun s k =>
    if laneStage s p k = 7 then
      (if fast then setLane s p k { laneSt s p k with fast := some 12, cnt := 0, aligned := false, amAt := none, amGood := 0 } else enterCdr s p k)
    else s) (setLnk s p l { x with idleAt := none, lastPres := some s.now })

/-- Disable a link's lanes (R270). -/
def linkOff (s : Dev) (p l jsn : Nat) : Dev :=
  (linkLanes (4 * l)).foldl (fun s k => enterStage (laneFail s p k 0) p k 8) (linkGo s p l 0 3 jsn)

/-- Take a link to the state that a new MODE calls for, given the old MODE (R259, R279). -/
def linkModeApply (s : Dev) (p l old new jsn : Nat) : Dev :=
  let st := linkState s p l
  if new = 2 then linkOff s p l jsn
  else
    let s := if old = 2 then (linkLanes (4 * l)).foldl (fun s k => if laneStage s p k = 8 then enterStage s p k 0 else s) s else s
    if new = 1 then (if st = 2 ∨ st = 3 then linkIdle s p l jsn else if st = 1 then linkGo s p l 0 3 jsn else s)
    else if st = 4 then linkWake s p l
    else s

/-- A LINK_SET that falls due (R261). -/
def applyLinkSet (s : Dev) (x : Pend) (j : JRec) (n : Nat) : Dev :=
  let link := bits (le j.desc 36 1) 0 6
  let m := bits (le j.desc 37 1) 0 2
  let k := linkKey s link
  let c := mechOf s mkLink k
  let q := fenced s x.jsn c.jsn fun s =>
    let s := setMech s mkLink k { data := if j.buf.isEmpty then c.data else j.buf, jsn := x.jsn,
                                  aux := m + 4 * bits (le j.desc 38 1) 0 5 }
    (linkTargets s link).foldl (fun s t =>
      let s := linkModeApply s t.1 t.2 (c.aux % 4) m x.jsn
      if linkFlows s t.1 t.2 then cfgAll s t.1 t.2 false else s) s
  if q.1 then finishFrame q.2 x n else decideCmd (unpend q.2 x.jsn) x.jsn stCancelled 0 0

/-! CFG items that a frame or a take changes (R251). -/

/-- Send the SLOT item of Otira destination `d` of plane `q` if its interface is no longer that of the state before (R251). -/
def cfgSlot (before s : Dev) (q d : Nat) : Dev :=
  if egressIface s q d ≠ egressIface before q d ∧ d < 1152 ∧ linkFlows s q (d / 64) then cfgItem s q (d / 64) (d % 64) false else s

/-- Every CFG item of both planes that changed (R251). -/
def cfgChanged (s : Dev) : Dev :=
  [0, 1].foldl (fun s q => (List.range 18).foldl (fun s l => if linkFlows s q l then cfgAll s q l false else s) s) s

/-- A frame of a source, and the CFG items where its interface or signal changed (R42, R251). -/
def sourceFrame (s : Dev) (t p n : Nat) (o : SrcObs) : Dev :=
  let u := sourceFrameStart s t p n o
  if slotIface u p (n / 64) (n % 64) = slotIface s p (n / 64) (n % 64) then u else cfgChanged u

/-- A switching instant, and the CFG item where the destination's interface changed (R82, R251). -/
def switchInstant (s : Dev) (t p d ecc : Nat) : Dev :=
  cfgSlot s (cfgSlot s (switchingInstant s t p d ecc) 0 d) 1 d

/-! The commands of this file. -/

/-- SOURCE_FRAME_START (R42, R44): a frame of source `n` starts at plane `p`. -/
def execSourceFrameStart (t : Nat) (p : Fin 2) (n : Fin 1600) (o : SrcObs) (s : State) : Host.Outcome State Fault Refusal :=
  .next { s with dev := sourceFrame s.dev t p n o }

/-- SWITCHING_INSTANT (R82): the switching instant of destination `d`; `ecc` is what the entry's check bits give plane `p` (R75). -/
def execSwitchingInstant (t : Nat) (p : Fin 2) (d : Fin 1792) (ecc : Fin 3) (s : State) : Host.Outcome State Fault Refusal :=
  .next { s with dev := switchInstant s.dev t p d ecc }

/-- LINK_SET (R261): validation of the accepted command `jsn`. -/
def execLinkSet (t jsn : Nat) (s : State) : Host.Outcome State Fault Refusal :=
  .next { s with dev := withCmd s.dev t jsn 0x50 linkSetCmd }

/-- AM_RECEIVED (R243): an alignment marker arrives on lane `k` of link `l`. -/
def execAmReceived (t : Nat) (p : Fin 2) (l : Fin 18) (k : Fin 4) (period : Nat) (valid skew : Bool) (s : State) : Host.Outcome State Fault Refusal :=
  .next { s with dev := amReceived s.dev t p l k period valid skew }

/-- RESTRIPE_REQ (R256): a RESTRIPE_REQ arrives. -/
def execRestripeReq (t : Nat) (p : Fin 2) (l : Fin 18) (lanes id : Nat) (s : State) : Host.Outcome State Fault Refusal :=
  .next { s with dev := restripeReq s.dev t p l lanes id }

/-- SWITCH_ROUND (R256): the switch round of a request of the far end falls due. -/
def execSwitchRound (t : Nat) (p : Fin 2) (l : Fin 18) (k period : Nat) (s : State) : Host.Outcome State Fault Refusal :=
  .next { s with dev := switchRound s.dev t p l k period }

/-- MASK (R256): a switch round with a MASK arrives. -/
def execMask (t : Nat) (p : Fin 2) (l : Fin 18) (lanes id : Nat) (s : State) : Host.Outcome State Fault Refusal :=
  .next { s with dev := maskReceived s.dev t p l lanes id }

/-- TIMING (R248): a TIMING block is sent (`rx` none) or received. -/
def execTiming (t : Nat) (p : Fin 2) (l : Fin 18) (rx : Option TimingObs) (s : State) : Host.Outcome State Fault Refusal :=
  .next { s with dev := timingBlock s.dev t p l rx }

/-- DELAY_REQ (R249): a DELAY_REQ arrives. -/
def execDelayReq (t : Nat) (p : Fin 2) (l : Fin 18) (seq t1 t2 : Nat) (s : State) : Host.Outcome State Fault Refusal :=
  .next { s with dev := delayReq s.dev t p l seq t1 t2 }

/-- DELAY_RESP (R249): a DELAY_RESP arrives. -/
def execDelayResp (t : Nat) (p : Fin 2) (l : Fin 18) (seq t1 t2 t3 : Nat) (s : State) : Host.Outcome State Fault Refusal :=
  .next { s with dev := delayResp s.dev t p l seq t1 t2 t3 }

/-- DELAY_MEASURE_TIMER (R249): a delay measurement of link `l` falls due. -/
def execDelayMeasureTimer (t : Nat) (p : Fin 2) (l : Fin 18) (s : State) : Host.Outcome State Fault Refusal :=
  .next { s with dev := delayMeasure s.dev t p l }

/-- PRESENCE (R250): a PRESENCE block arrives. -/
def execPresence (t : Nat) (p : Fin 2) (l : Fin 18) (o : PresObs) (s : State) : Host.Outcome State Fault Refusal :=
  .next { s with dev := presence s.dev t p l o }

/-- PRESENCE_SEND (R250): a PRESENCE block falls due. -/
def execPresenceSend (t : Nat) (p : Fin 2) (l : Fin 18) (s : State) : Host.Outcome State Fault Refusal :=
  .next { s with dev := presenceSend s.dev t p l }

/-- PRESENCE_TIMEOUT (R250): no PRESENCE has arrived for too long. -/
def execPresenceTimeout (t : Nat) (p : Fin 2) (l : Fin 18) (s : State) : Host.Outcome State Fault Refusal :=
  .next { s with dev := presenceTimeout s.dev t p l }

/-- CFG_REPEAT (R251): the configuration items are repeated. -/
def execCfgRepeat (t : Nat) (p : Fin 2) (l : Fin 18) (s : State) : Host.Outcome State Fault Refusal :=
  .next { s with dev := cfgRepeat s.dev t p l }

/-- LANE_LOSS (R256): lanes of link `l` are lost. -/
def execLaneLoss (t : Nat) (p : Fin 2) (l : Fin 18) (lanes : Fin 16) (s : State) : Host.Outcome State Fault Refusal :=
  .next { s with dev := laneLoss s.dev t p l lanes }

/-- LANE_RETURN (R256): lane `k` of link `l` is aligned again. -/
def execLaneReturn (t : Nat) (p : Fin 2) (l : Fin 18) (k : Fin 4) (s : State) : Host.Outcome State Fault Refusal :=
  .next { s with dev := laneReturn s.dev t p l k }

/-- LINK_TRAIN_TIMEOUT (R259): training of link `l` has lasted too long. -/
def execLinkTrainTimeout (t : Nat) (p : Fin 2) (l : Fin 18) (s : State) : Host.Outcome State Fault Refusal :=
  .next { s with dev := linkTrainTimeout s.dev t p l }

/-- LINK_IDLE_TIMEOUT (R259): the fast exit of link `l` has lasted too long. -/
def execLinkIdleTimeout (t : Nat) (p : Fin 2) (l : Fin 18) (s : State) : Host.Outcome State Fault Refusal :=
  .next { s with dev := linkIdleTimeout s.dev t p l }

/-- LANE_SIGNAL_DETECT (R270): signal is detected on a lane. -/
def execLaneSignalDetect (t : Nat) (p : Fin 2) (l : Fin 84) (s : State) : Host.Outcome State Fault Refusal :=
  .next { s with dev := laneSignalDetect s.dev t p l }

/-- TRAINING_FRAME (R271, R272): a training frame arrives on a lane. -/
def execTrainingFrame (t : Nat) (p : Fin 2) (l : Fin 84) (o : TrainObs) (s : State) : Host.Outcome State Fault Refusal :=
  .next { s with dev := trainingFrameLink s.dev t p l o }

/-- UNCORRECTABLE_CODEWORD (R246): a codeword of lane `k` of link `l` is uncorrectable; `corrected` codewords were corrected before it. -/
def execUncorrectableCodeword (t : Nat) (p : Fin 2) (l : Fin 18) (k : Fin 4) (corrected : Nat) (s : State) : Host.Outcome State Fault Refusal :=
  .next { s with dev := uncorrectable s.dev t p l k corrected }

end Sys2Proof.Machine
end

