-- ==== Sys2Proof/Machine/Merge.lean ====
section
/-! DEFINITION. Planes and merge: plane states (R121, R122), Cairn numbers (R123 to R126), the ingress merge (R127 to
R129), missing positions (R130 to R133) and egress segments (R245 to R247). -/

namespace Sys2Proof.Machine

/-! Cairn numbers. -/

/-- Bits per line of a format on an interface (R124). -/
def bitsPerLine (f i : Nat) : Nat :=
  if f / 16 = 1 then 17160 else ifaceRate i * 1000 / (nominalRate (f % 16) * totalLines f)

/-- Line and index of the segment with ordinal `k` (R123); a signal with no recognised format is cut into pseudo-frames
(R254). -/
def segPos (f i k : Nat) : Nat × Nat :=
  let b := bitsPerLine f i
  if f = 0 ∨ b = 0 then (k / 16 + 1, k % 16)
  else
    let l := k * 3968 / b + 1
    (l, k - cdiv ((l - 1) * b) 3968)

/-- Segments of a frame (R123, R254). -/
def segCount (f i : Nat) : Nat :=
  let b := bitsPerLine f i
  if f = 0 ∨ b = 0 then 4080 else cdiv (b * totalLines f) 3968

/-- The Cairn number (R123). -/
def cairn (frame line index : Nat) : Nat := frame % 4096 * 2 ^ 20 + line % 4096 * 2 ^ 8 + index % 256

/-- Cairn number `a` precedes `b` (R126). -/
def cairnBefore (a b : Nat) : Bool :=
  let d := (b / 2 ^ 20 + 4096 - a / 2 ^ 20) % 4096
  decide (1 ≤ d ∧ d ≤ 2047) || (d == 0 && decide (a % 2 ^ 20 < b % 2 ^ 20))

/-- Sequence number `a` precedes `b` in serial arithmetic of `w` bits (R128). -/
def seqBefore (w a b : Nat) : Bool :=
  let d := (b + 2 ^ w - a % 2 ^ w) % 2 ^ w
  decide (1 ≤ d ∧ d < 2 ^ (w - 1))

/-! The merge. -/

/-- Merge key of source `n` of plane `p`. -/
def mergeSt (s : Dev) (k : Nat) : MergeSt := mget {} s.pln.merge k

/-- Store a merge history. -/
def setMerge (s : Dev) (k : Nat) (x : MergeSt) : Dev := { s with pln := { s.pln with merge := mset {} s.pln.merge k x } }

/-- Count in PLN_MERGECNT of source `n`, where the source has one. -/
def mergeCount (s : Dev) (p n : Nat) (f : Fld) (k : Nat) : Dev := if n < 1536 then satAdd s f (ix p n) k else s

/-- Count a missing position of source `n` once, however many destinations it feeds (R131, R132). -/
def countGone (s : Dev) (p n : Nat) (f : Fld) (num : Nat) : Dev :=
  let x := mergeSt s (ix p n)
  if x.gone.contains num then s
  else setMerge (mergeCount s p n f 1) (ix p n) { x with gone := (num :: x.gone).take 512 }

/-- Clear a history (R129). -/
def clearMerge (s : Dev) (key : Nat) : Dev := setMerge s key { gone := (mergeSt s key).gone }

/-- Class of an arriving number (R127): 0 DUPLICATE, 1 STALE, 2 ACCEPTED. -/
def mergeClass (x : MergeSt) (before : Nat → Nat → Bool) (num : Nat) : Nat :=
  if x.hist.contains num then 0
  else match x.hist.getLast? with
    | some old => if before num old then 1 else 2
    | none => 2

/-- Class and record an arriving number of a history of `cap` (R127 to R129, R147): the class and the new state. A position accepted from
the sibling copy counts FILLED as it is classed (log entry 119). -/
def mergeArrive (s : Dev) (key p n cap num : Nat) (before : Nat → Nat → Bool) (own : Bool) : Nat × Dev :=
  let old := mergeSt s key
  let s := match old.last with | some a => if a + 54000000 ≤ s.now then clearMerge s key else s | none => s
  let x := mergeSt s key
  match mergeClass x before num with
  | 0 => (0, s)
  | 1 => (1, mergeCount s p n F.PLN_MERGECNT_STALE 1)
  | _ => (2, setMerge (mergeCount s p n F.PLN_MERGECNT_FILLED (b2n !own)) key
      { hist := (num :: x.hist).take cap, last := some s.now, gone := x.gone })

/-- A received segment as its header and blocks show it (R245, R246). -/
def segBad (s : Dev) (o : SegObs) (p l k : Nat) : Bool :=
  !o.crcOk || o.valid == 0 || decide (3968 < o.valid) || o.broken || slotShed s p l k

/-- SEGMENT_RECEIVED (R127, R244 to R246): Otira source `n` of plane `p`; `own` for the plane's own link, false for the
sibling's copy through the Col, which Pair does not have. Bad control blocks met meanwhile are counted. -/
def segmentReceived (s : Dev) (t p n : Nat) (o : SegObs) : Dev :=
  let s := s.at t
  let l := n / 64
  let k := n % 64
  let i := ix p l
  let s := if o.own then satAdd s F.OTL_CNT_CTL_DISC i o.ctlBad else s
  let s := if o.own ∧ o.ctlOk then setLnk s p l { lnkSt s p l with needAlign := false } else s
  if o.own ∧ (lnkSt s p l).needAlign then s
  else if o.own ∧ segBad s o p l k then satAdd s F.OTL_CNT_SEG_DISC i 1
  else if (!o.own && s.ctl.pair) || (o.own && !linkFlows s p l) ||
      (o.own && decide (getF s F.OTL_GB_SLOTS i ≤ k)) then s
  else (mergeArrive s (ix p n) p n 512 o.cairn cairnBefore o.own).2

/-- MERGE_HISTORY_TIMEOUT (R129): source or flow `n` of plane `p`. -/
def mergeHistoryTimeout (s : Dev) (t p n : Nat) : Dev :=
  let s := s.at t
  match (mergeSt s (ix p n)).last with
  | some a => if a + 54000000 ≤ t then clearMerge s (ix p n) else s
  | none => s

/-! Missing positions (R130 to R133). -/

/-- Missing positions are withheld rather than concealed (R130): the peer serves its path while PAIR_STAT shows it up. -/
def withholds (s : Dev) (p : Nat) : Bool :=
  match getF s F.PLN_MERGE_CFG_MISSING p with
  | 1 => false
  | 2 => true
  | _ => s.ctl.pair && getF s F.PAIR_STAT_PEER_UP 0 == 1

/-- The plane sends essence (R121). -/
def planeSends (s : Dev) (p : Nat) : Bool := planeState s p == 3 || planeState s p == 4

/-- Essence that is not the routed source's at its position carries CONCEALED (R133). -/
def notRouted (s : Dev) (p d : Nat) : Bool :=
  let x := dstSt s p d
  let r := routeOf s (pkey s p d)
  let q := if s.ctl.pair then r.srcPlane else p
  x.cause != 0 || x.repeated || (r.src != 0x7FF && srcKind s q r.src == 2 && (fsSt s q r.src).slip != 0)

/-- Time of the timing position of segment `k` of frame `n` at the format's rate (R247). -/
def segTag (s : Dev) (f i n k : Nat) : Nat :=
  let p := framePeriod (f % 16)
  let p := if p = 0 then framePeriod s.ctl.ref.rate else p
  let b := bitsPerLine f i * totalLines f
  n * p + (if b = 0 then 0 else k * 3968 * p / b)

/-- EGRESS_SEGMENT (R123, R125, R130 to R133, R245, R247): segment `k` of frame `n` of Otira destination `d` launches at
`t`. `missing` says that a position it holds was never accepted; `srcFrame` is FRAME of an UNTIMED source. -/
def egressSegment (s : Dev) (t p d n k : Nat) (missing : Bool) (srcFrame : Nat) : Dev :=
  let s := s.at t
  let l := d / 64
  let slot := d % 64
  let x := dstSt s p d
  let r := routeOf s (pkey s p d)
  let q := if s.ctl.pair then r.srcPlane else p
  let f := x.outFmt
  let i := egressIface s p d
  let untimed := x.shown != 0x7FF && srcKind s q x.shown == 3
  let tag := if untimed then t else segTag s f i n k
  let limit := tag + windowTicks (ifaceRate i) false + 108000
  let idle := !planeSends s p || !linkFlows s p l || slotShed s p l slot || bit (getF s F.PLN_STATE_TILE_FAIL p) (l / 3) ||
    decide (getF s F.OTL_GB_SLOTS (ix p l) ≤ slot) || decide (segCount f i ≤ k) || !x.sent
  if idle || decide (t < tag) || decide (limit < t) then s
  else
    let z := segPos f i k
    let frame := if untimed then srcFrame else n
    let num := cairn frame z.1 z.2
    if missing && withholds s p then countGone s q x.shown F.PLN_MERGECNT_WITHHELD num
    else
    let s := if missing then countGone s q x.shown F.PLN_MERGECNT_CONCEALED num else s
    let flags := b2n (k == 0) + b2n (k + 1 == segCount f i) * 2 + b2n (missing || notRouted s p d) * 4 + b2n untimed * 8
    emit s (.seg p l slot num (flags + nsOf tag % 2 ^ 48 * 16) x.shown)

/-! Planes (R121, R142). -/

/-- A link of the plane is UP. -/
def anyLinkUp (s : Dev) (p : Nat) : Bool := (List.range 18).any fun l => linkState s p l == 2

/-- PLANE_TRAINING_DONE (R121): stack trained and a link UP; the route table is reloaded (R75). -/
def planeTrainingDone (s : Dev) (t p : Nat) : Dev :=
  let s := s.at t
  if planeState s p = 1 ∧ getF s F.HBM_STAT_STATE p = 2 ∧ anyLinkUp s p then
    let s := setPlane s p 2 0
    setPlaneSt s p { planeOf s p with routesLoaded := true, fillFrames := 0 }
  else s

/-- PLANE_STATE_TIMEOUT (R121): 2 s in TRAINING or 5 s in SYNCING end in FAILED, a FATAL event of the plane (R472). -/
def planeStateTimeout (s : Dev) (t p : Nat) : Dev :=
  let s := s.at t
  let a := (planeOf s p).since
  if (planeState s p = 1 ∧ a + 2 * tickSec ≤ t) ∨ (planeState s p = 2 ∧ a + 5 * tickSec ≤ t) then
    faultEvent (setPlane s p 5 0) (19 + p) 0x0F 0
  else s

/-! The commands of this file. -/

/-- PLANE_STATE_TIMEOUT (R121): TRAINING or SYNCING has lasted too long. -/
def execPlaneStateTimeout (t : Nat) (p : Fin 2) (s : State) : Host.Outcome State Fault Refusal :=
  .next { s with dev := planeStateTimeout s.dev t p }

/-- SEGMENT_RECEIVED (R127, R245, R246): a segment of Otira source `n` arrives, by plane `p`'s link or as the sibling's copy. -/
def execSegmentReceived (t : Nat) (p : Fin 2) (n : Fin 1152) (o : SegObs) (s : State) : Host.Outcome State Fault Refusal :=
  .next { s with dev := segmentReceived s.dev t p n o }

/-- MERGE_HISTORY_TIMEOUT (R129): nothing has been accepted for source `n` for the time after which the merge starts afresh. -/
def execMergeHistoryTimeout (t : Nat) (p : Fin 2) (n : Fin 1536) (s : State) : Host.Outcome State Fault Refusal :=
  .next { s with dev := mergeHistoryTimeout s.dev t p n }

/-- EGRESS_SEGMENT (R123, R130, R247): segment `k` of frame `n` of Otira destination `d` falls due. -/
def execEgressSegment (t : Nat) (p : Fin 2) (d : Fin 1152) (n k : Nat) (missing : Bool) (srcFrame : Nat) (s : State) : Host.Outcome State Fault Refusal :=
  .next { s with dev := egressSegment s.dev t p d n k missing srcFrame }

end Sys2Proof.Machine
end

