-- ==== Sys2Proof/Machine/Hbm.lean ====
section
/-! DEFINITION. HBM3 stacks: training and eye tracking (R386, R387), scheduling (R388, R389), refresh (R391), ECC (R392,
R393). Stack `p` belongs to plane `p`. -/

namespace Sys2Proof.Machine

/-- Controller state of stack `p`. -/
def hbmSt (s : Dev) (p : Nat) : HbmSt := mget {} s.hbm p

/-- Store a controller's state. -/
def setHbm (s : Dev) (p : Nat) (x : HbmSt) : Dev := { s with hbm := mset {} s.hbm p x }

/-- HBM_STAT.STATE: 0 OFF, 1 TRAINING, 2 READY, 3 SELF_REFRESH, 4 PASR, 5 FAILED (R398). -/
def hbmState (s : Dev) (p : Nat) : Nat := getF s F.HBM_STAT_STATE p

/-- Centre of a run of passing codes: the lower of two (R386). -/
def eyeCentre (start len : Nat) : Nat := start + (len - 1) / 2

/-- Set byte lane `l` of stack `p` to the centre of its eyes (R386). -/
def trainLane (s : Dev) (p : Nat) (o : EyeObs) (l : Nat) : Dev :=
  let i := ix p l
  let c := eyeCentre o.rdStart o.rdLen
  setFs s i [(F.HBM_TRAIN_RD_WIDTH, o.rdLen), (F.HBM_TRAIN_RD_CODE, c), (F.HBM_TRAIN_WR_WIDTH, o.wrLen),
    (F.HBM_TRAIN_WR_CODE, eyeCentre o.wrStart o.wrLen), (F.HBM_EYE_RD_CODE, c)]

/-- HBM_TRAIN_DONE (R386): every lane is set; an eye under 16 codes fails the stack. Lanes not listed failed to pass. A trained
stack's journal ring is filled and counts as a copy (R378), and its plane leaves DEGRADED (R480). -/
def hbmTrainDone (s : Dev) (t p : Nat) (eyes : List EyeObs) : Dev :=
  let s := s.at t
  if hbmState s p ≠ 1 then s
  else
    let lanes := List.range 128
    let eye := fun l => eyes.getD l { rdStart := 0, rdLen := 0, wrStart := 0, wrLen := 0 }
    let s := lanes.foldl (fun s l => trainLane s p (eye l) l) s
    let wr := lanes.foldl (fun m l => mset 0 m l (eyeCentre (eye l).wrStart (eye l).wrLen)) []
    let s := setHbm s p { hbmSt s p with trainedAt := some t, limited := [], ues := [], wrBase := wr }
    let s := setF s F.HBM_STAT_TRACK_LIMIT p 0
    match lanes.find? fun l => decide ((eye l).rdLen < 16) || decide ((eye l).wrLen < 16) with
    | none =>
      let s := setFs s p [(F.HBM_STAT_STATE, 2), (F.HBM_STAT_FAIL_LANE, 0xFF)]
      let s := setF s (if p = 0 then F.JRN_STAT_HBM0 else F.JRN_STAT_HBM1) 0 1
      undegrade (setF s F.PLN_STATE_HBM_FAIL p 0) p
    | some l =>
      let s := setF s (if p = 0 then F.JRN_STAT_HBM0 else F.JRN_STAT_HBM1) 0 0
      faultEvent (setFs s p [(F.HBM_STAT_STATE, 5), (F.HBM_STAT_FAIL_LANE, l)]) (16 + p) 0x07 l

/-- HBM_EYE_TRACK (R387): byte lane `l` has `left` and `right` passing codes beside the code in use. -/
def hbmEyeTrack (s : Dev) (t p l left right : Nat) : Dev :=
  let s := s.at t
  let i := ix p l
  let s := setFs s i [(F.HBM_EYE_LEFT, left), (F.HBM_EYE_RIGHT, right)]
  if hbmState s p ≠ 2 ∨ (4 ≤ left ∧ 4 ≤ right) ∨ left = right then s
  else
    let code := getF s F.HBM_EYE_RD_CODE i
    let base := getF s F.HBM_TRAIN_RD_CODE i
    let new := if left < right then code + 1 else code - 1
    if base + 8 < new ∨ new + 8 < base then
      if (hbmSt s p).limited.contains l then s
      else
        let s := setHbm s p { hbmSt s p with limited := l :: (hbmSt s p).limited }
        faultEvent (setF s F.HBM_STAT_TRACK_LIMIT p 1) (16 + p) 0x08 l
    else setF s F.HBM_EYE_RD_CODE i new

/-- HBM_REFRESH_INTERVAL (R391): a refresh interval of bank `b` of pseudo-channel `pc` ends. An idle bank pays its debt at
once, a bank held by a real-time burst postpones up to 8 and is then pre-empted, any other bank is refreshed. -/
def hbmRefresh (s : Dev) (t p pc b : Nat) (idle held : Bool) : Dev :=
  let s := s.at t
  if hbmState s p ≠ 2 then s
  else
    let x := hbmSt s p
    let k := pc * 48 + b
    let d := mget 0 x.debt k + 1
    let s := if getF s F.HBM_REF_DEBT_MAX p < d then setF s F.HBM_REF_DEBT_MAX p (min d 8) else s
    if idle then setHbm s p { x with debt := mset 0 x.debt k 0 }
    else if !held then setHbm s p { x with debt := mset 0 x.debt k (d - 1) }
    else if 8 ≤ d then satAdd (setHbm s p { x with debt := mset 0 x.debt k 7 }) F.HBM_REF_PREEMPT p 1
    else setHbm s p { x with debt := mset 0 x.debt k d }

/-- HBM_REQ_PROMOTE (R388, R389): a request issued at `issued` is older than 2 µs and is promoted; promoted requests are
served oldest first and complete within 2.80 µs of issue. -/
def hbmReqPromote (s : Dev) (t p pc issued : Nat) (rt : Bool) : Dev :=
  let s := s.at t
  if t ≤ issued + 108000 ∨ hbmState s p ≠ 2 then s
  else
    let x := hbmSt s p
    let live := (mget [] x.promo pc).filter fun a => decide (t < a + 151200)
    let s := setHbm s p { x with promo := mset [] x.promo pc ((live.filter (· ≤ issued)) ++ [issued] ++ live.filter (issued < ·)) }
    let ns := (t - issued) / 54
    if rt && decide (getF s F.HBM_RTLAT_MAX_NS p < ns) then setF s F.HBM_RTLAT_MAX_NS p ns else s

/-- An uncorrectable error is counted and latched, and 16 in a second or one within a second of training set the stack's
FLT_STATUS bit (R393). -/
def hbmUe (s : Dev) (p addr : Nat) : Dev :=
  let s := satAdd s F.HBM_ECC_HOST_UE p 1
  let s := if getF s F.HBM_ECC_ADDR_VALID p = 0 then setFs s p [(F.HBM_ECC_ADDR_VALID, 1), (F.HBM_ECC_ADDR_ADDR, addr / 64)] else s
  let x := hbmSt s p
  let ues := s.now :: x.ues.filter fun a => decide (s.now < a + tickSec)
  let early := match x.trainedAt with | some a => decide (s.now < a + tickSec) | none => false
  let s := setHbm s p { x with ues := ues }
  if early || ues.length == 16 then faultEvent s (16 + p) 0x02 0 else s

/-- What an uncorrectable error does to its reader (R393). -/
def hbmUeReader (s : Dev) (p : Nat) (o : HbmRead) : Dev :=
  match o.reader with
  | 1 => underrun s s.now p 0 o.unit
  | 2 => underrun s s.now p 1 o.unit
  | 3 => underrun s s.now p 2 o.unit
  | 4 => setF s (if p = 0 then F.JRN_STAT_HBM0 else F.JRN_STAT_HBM1) 0 0
  | 5 => underrun s s.now p 2 o.unit
  | _ => s

/-- HBM_SCRUB (R392, R393): a read of the scrubber's pass or of any other reader. -/
def hbmScrub (s : Dev) (t p : Nat) (o : HbmRead) : Dev :=
  let s := s.at t
  let s := if o.sev = 1 then satAdd s F.HBM_ECC_SEV_CORR p 1 else if o.sev = 2 then satAdd s F.HBM_ECC_SEV_UE p 1 else s
  match o.res with
  | 0 => s
  | 1 => satAdd s F.HBM_ECC_HOST_CE p 1
  | _ => hbmUeReader (hbmUe s p o.addr) p o

/-! The commands of this file. -/

/-- HBM_TRAIN_DONE (R386): training of a stack ends; `eyes` are its byte lanes. -/
def execHbmTrainDone (t : Nat) (p : Fin 2) (eyes : List EyeObs) (s : State) : Host.Outcome State Fault Refusal :=
  .next { s with dev := hbmTrainDone s.dev t p eyes }

/-- HBM_EYE_TRACK (R387): the tracker reads the eye of a byte lane. -/
def execHbmEyeTrack (t : Nat) (p : Fin 2) (l : Fin 128) (left right : Nat) (s : State) : Host.Outcome State Fault Refusal :=
  .next { s with dev := hbmEyeTrack s.dev t p l left right }

/-- HBM_REFRESH_INTERVAL (R391): the refresh interval of a bank falls due. -/
def execHbmRefreshInterval (t : Nat) (p : Fin 2) (pc : Fin 32) (b : Fin 48) (idle held : Bool) (s : State) : Host.Outcome State Fault Refusal :=
  .next { s with dev := hbmRefresh s.dev t p pc b idle held }

/-- HBM_REQ_PROMOTE (R388): a request of a pseudo-channel nears its deadline. -/
def execHbmReqPromote (t : Nat) (p : Fin 2) (pc : Fin 32) (issued : Nat) (rt : Bool) (s : State) : Host.Outcome State Fault Refusal :=
  .next { s with dev := hbmReqPromote s.dev t p pc issued rt }

/-- HBM_SCRUB (R392, R393): a read of a stack, by the scrubber or another reader. -/
def execHbmScrub (t : Nat) (p : Fin 2) (o : HbmRead) (s : State) : Host.Outcome State Fault Refusal :=
  .next { s with dev := hbmScrub s.dev t p o }

end Sys2Proof.Machine
end

