-- ==== Sys2Proof/Machine/Colour.lean ====
section
/-! DEFINITION. Colour and tone mapping (R173 to R188): encodings, unpacking, matrices, shaper and 3D LUT, knee, blending
and encoding. Values are exact integers in units of 2⁻²⁰ (log entry 11). -/

namespace Sys2Proof.Machine

/-- One in working units. -/
@[reducible] def one : Int := 1048576

/-- Product of two working values. -/
def wmul (a b : Int) : Int := a * b / one

/-- Three channels. -/
structure Rgb where
  r : Int
  g : Int
  b : Int
deriving DecidableEq, Repr

/-- Apply a function to each channel. -/
def Rgb.map (f : Int → Int) (x : Rgb) : Rgb := { r := f x.r, g := f x.g, b := f x.b }

/-! Encodings (R174). -/

/-- TF: 0 BT.1886, 1 PQ, 2 HLG, 3 AUTO. -/
def encTf (e : Nat) : Nat := bits e 0 2
/-- PRIM: 0 BT.709, 1 BT.2020, 3 AUTO. -/
def encPrim (e : Nat) : Nat := bits e 2 2
/-- RANGE: 0 narrow, 1 full, 3 AUTO. -/
def encRange (e : Nat) : Nat := bits e 4 2

/-- Resolve the AUTO fields of a layer's encoding from what its source indicates (R175); 0xFF indicates nothing and gives
BT.1886, BT.709, narrow. -/
def resolveEnc (e src : Nat) : Nat :=
  let d := if src = 0xFF then 0 else src
  (if encTf e = 3 then encTf d else encTf e) + (if encPrim e = 3 then encPrim d else encPrim e) * 4 +
    (if encRange e = 3 then encRange d else encRange e) * 16

/-- Some field of the encoding is AUTO. -/
def hasAuto (e : Nat) : Bool := encTf e == 3 || encPrim e == 3 || encRange e == 3

/-- Kr and Kb in units of 10⁻⁴ (R175). -/
def krb (prim : Nat) : Int × Int := if prim = 1 then (2627, 593) else (2126, 722)

/-- Bits per component of a SAMPLING code (R153). -/
def sampDepth (c : Nat) : Nat := if c = 2 ∨ c = 4 then 12 else 10

/-- The sampling is R'G'B' (R153). -/
def sampRgb (c : Nat) : Bool := c == 3 || c == 4

/-- Unpack one code (R175): `chroma` for Cb and Cr, `full` range. -/
def unpack (n : Nat) (full chroma : Bool) (code : Nat) : Int :=
  let s : Int := 2 ^ (n - 8)
  let c : Int := code
  if full then (c - (if chroma then 2 ^ (n - 1) else 0)) * one / (2 ^ n - 1)
  else if chroma then (c - 128 * s) * one / (224 * s) else (c - 16 * s) * one / (219 * s)

/-- Y'CbCr to R'G'B' by the non-constant-luminance matrix (R173). -/
def toRgb (prim : Nat) (y cb cr : Int) : Rgb :=
  let k := krb prim
  let r := y + 2 * (10000 - k.1) * cr / 10000
  let b := y + 2 * (10000 - k.2) * cb / 10000
  { r := r, b := b, g := (10000 * y - k.1 * r - k.2 * b) / (10000 - k.1 - k.2) }

/-- Stage 1 (R173, R175): codes of a layer of SAMPLING `samp` to normalised R'G'B'. -/
def stageUnpack (e samp : Nat) (c0 c1 c2 : Nat) : Rgb :=
  let n := sampDepth samp
  let f := encRange e == 1
  if sampRgb samp then { g := unpack n f false c0, b := unpack n f false c1, r := unpack n f false c2 }
  else toRgb (encPrim e) (unpack n f false c0) (unpack n f true c1) (unpack n f true c2)

/-- Luminance of linear channels with the coefficients of the primaries (R176). -/
def lumOf (prim : Nat) (x : Rgb) : Int :=
  let k := krb prim
  (k.1 * x.r + (10000 - k.1 - k.2) * x.g + k.2 * x.b) / 10000

/-- Stage 2 (R176, R184): transfer decode to working linear. -/
def stageDecode (e : Nat) (x : Rgb) : Rgb :=
  match encTf e with
  | 1 => x.map fun v => Config.transfer 1 0 (if v < 0 then 0 else if one < v then one else v)
  | 2 =>
    let l := x.map fun v => if v < 0 then 0 else Config.transfer 2 0 v
    l.map fun v => wmul v (Config.hlgGain 0 (lumOf (encPrim e) l))
  | _ => x.map fun v => if v < 0 then 0 else Config.transfer 0 0 v

/-- Apply a 3 × 3 matrix with 14 fraction bits, row-major (R178). -/
def mulMatrix (m : Nat → Int) (x : Rgb) : Rgb :=
  { r := (m 0 * x.r + m 1 * x.g + m 2 * x.b) / 16384, g := (m 3 * x.r + m 4 * x.g + m 5 * x.b) / 16384,
    b := (m 6 * x.r + m 7 * x.g + m 8 * x.b) / 16384 }

/-- The tables a compositor uses: the payload of matrix, shaper (type 2) and 3D LUT (type 3) slots. -/
abbrev Tables := Nat → Nat → Bytes

/-- Stage 3 (R178): slot 0 is the default conversion between primaries. -/
def stageMatrix (tb : Tables) (slot prim outPrim : Nat) (x : Rgb) : Rgb :=
  if slot ≠ 0 then mulMatrix (fun i => sgn 32 (le (tb 1 slot) (4 * i) 4)) x
  else if prim = outPrim then x
  else mulMatrix (Config.bt2087 (if prim = 0 then 0 else 1)) x

/-- 49.26 in working units: the largest PQ value (R176). -/
@[reducible] def pqMax : Int := 51652854

/-- LUT index of one channel in units of 2⁻¹⁶ (R179): the PQ axis, then the shaper. -/
def shaperIndex (tb : Tables) (slot ch : Nat) (v : Int) : Nat :=
  let c := if v < 0 then 0 else if pqMax < v then pqMax else v
  let u := (clampI one (Config.transfer 1 1 c)).toNat
  let at' := fun k => if slot = 0 then (65535 * k * 2 + 1023) / 2046 else le (tb 2 slot) (2 * (1024 * ch + k)) 2
  let k := u * 1023 / 1048576
  let fr := u * 1023 % 1048576
  let a := at' (min k 1023)
  let b := at' (min (k + 1) 1023)
  let val : Int := a + ((b : Int) - a) * fr / 1048576
  (val * 32 * 65536 / 65535).toNat

/-- One node of a 3D LUT: channel value 0 to 4095 (R179, R189). -/
def lutNode (tb : Tables) (slot r g b ch : Nat) : Int := le (tb 3 slot) (6 * (r + 33 * g + 1089 * b) + 2 * ch) 2 % 4096

/-- Tetrahedral interpolation of one channel (R179): the fractions in descending order walk the cell's edges. -/
def tetra (node : Nat → Nat → Nat → Int) (fr fg fb : Int) : Int :=
  let v0 := node 0 0 0
  let v7 := node 1 1 1
  let w : Int := 65536
  if fg ≤ fr then
    if fb ≤ fg then (v0 * (w - fr) + node 1 0 0 * (fr - fg) + node 1 1 0 * (fg - fb) + v7 * fb) / w
    else if fb ≤ fr then (v0 * (w - fr) + node 1 0 0 * (fr - fb) + node 1 0 1 * (fb - fg) + v7 * fg) / w
    else (v0 * (w - fb) + node 0 0 1 * (fb - fr) + node 1 0 1 * (fr - fg) + v7 * fg) / w
  else if fb ≤ fr then (v0 * (w - fg) + node 0 1 0 * (fg - fr) + node 1 1 0 * (fr - fb) + v7 * fb) / w
  else if fb ≤ fg then (v0 * (w - fg) + node 0 1 0 * (fg - fb) + node 0 1 1 * (fb - fr) + v7 * fr) / w
  else (v0 * (w - fb) + node 0 0 1 * (fb - fg) + node 0 1 1 * (fg - fr) + v7 * fr) / w

/-- Stages 4 and 5 (R179): bypassed with LUT3D slot 0. -/
def stageLut (tb : Tables) (shaper lut : Nat) (x : Rgb) : Rgb :=
  if lut = 0 then x
  else
    let i := shaperIndex tb shaper 0 x.r
    let j := shaperIndex tb shaper 1 x.g
    let k := shaperIndex tb shaper 2 x.b
    let cell := fun v => min (v / 65536) 31
    let fr := fun v => ((v - cell v * 65536 : Nat) : Int)
    let ch := fun c => Config.transfer 1 0
      (tetra (fun a b d => lutNode tb lut (cell i + a) (cell j + b) (cell k + d) c) (fr i) (fr j) (fr k) * one / 4095)
    { r := ch 0, g := ch 1, b := ch 2 }

/-- Knee constants K, P, M in units of 2⁻¹⁰ (R180, R181); none when the knee is off. -/
def kneeOf (rec : Bytes) (tf outTf : Nat) : Option (Int × Int × Int) :=
  match bits (le rec 52 1) 0 2 with
  | 1 => some (le rec 54 2, le rec 56 2, le rec 58 2)
  | 2 => if outTf = 0 ∧ tf ≠ 0 then some (0x300, 0x13B4, 0x400) else if tf = 1 ∧ outTf = 2 then some (0xC00, 0x4ED1, 0x13B4) else none
  | _ => none

/-- Stage 6 (R180). -/
def stageKnee (knee : Option (Int × Int × Int)) (x : Rgb) : Rgb :=
  match knee with
  | none => x
  | some (k, p, m) =>
    let x := x.map fun v => if v < 0 then 0 else v
    let big := max x.r (max x.g x.b)
    let K := k * 1024
    let P := p * 1024
    let M := m * 1024
    if big ≤ K then x
    else if P ≤ big then x.map fun v => v * M / big
    else
      let u := (big - K) * one / (P - K)
      let f := K + wmul (M - K) (2 * u - wmul u u)
      x.map fun v => v * f / big

/-- Largest working value at encode (R184). -/
def encMax (tf : Nat) (clip : Bool) : Int :=
  match tf with | 1 => pqMax | 2 => 5165285 | _ => if clip then one else 1290063

/-- Stage 9 short of quantising (R184): clamp and transfer encode to R'G'B'. -/
def stageEncode (e : Nat) (clip : Bool) (x : Rgb) : Rgb :=
  let m := encMax (encTf e) clip
  let x := x.map fun v => if v < 0 then 0 else if m < v then m else v
  match encTf e with
  | 1 => x.map (Config.transfer 1 1)
  | 2 => let g := Config.hlgGain 1 (lumOf (encPrim e) x); x.map fun v => Config.transfer 2 1 (wmul v g)
  | _ => x.map (Config.transfer 0 1)

/-- Quantise one channel (R184): rounded half up, clipped to the codes that may be sent. -/
def quantise (n : Nat) (full chroma clip : Bool) (v : Int) : Nat :=
  let s : Int := 2 ^ (n - 8)
  let num : Int := if full then v * (2 ^ n - 1) + (if chroma then 2 ^ (n - 1) * one else 0)
    else if chroma then v * 224 * s + 128 * s * one else v * 219 * s + 16 * s * one
  let c := (2 * num + one) / (2 * one)
  let q : Int := 2 ^ (n - 10)
  let lo : Int := if clip && !full then 64 * q else 4 * q
  let hi : Int := if clip && !full then (if chroma then 960 * q else 940 * q) else (if n = 10 then 1019 else 4079)
  (if c < lo then lo else if hi < c then hi else c).toNat

/-- Normalised R'G'B' to output codes (R173 stage 9, R184). -/
def toCodes (e samp : Nat) (clip : Bool) (x : Rgb) : List Nat :=
  let n := sampDepth samp
  let f := encRange e == 1
  if sampRgb samp then [quantise n f false clip x.g, quantise n f false clip x.b, quantise n f false clip x.r]
  else
    let k := krb (encPrim e)
    let y := lumOf (encPrim e) x
    [quantise n f false clip y, quantise n f true clip ((x.b - y) * 10000 / (2 * (10000 - k.2))),
      quantise n f true clip ((x.r - y) * 10000 / (2 * (10000 - k.1)))]

/-- The 10-bit luma code that a luminance key uses (R157, R177). -/
def keyLuma (e samp : Nat) (o : LayPix) : Int :=
  if sampRgb samp then
    let y := lumOf (encPrim e) (stageUnpack e samp o.c0 o.c1 o.c2)
    64 + (2 * 876 * y + one) / (2 * one)
  else if sampDepth samp = 12 then ((o.c0 / 4 : Nat) : Int) else o.c0

/-- A layer's final alpha in working units (R157, R158); `keyY` is the luma that its key mode uses. -/
def layerAlpha (rec : Bytes) (o : LayPix) (keyY : Int) : Int :=
  let k := le rec 4 1
  let a : Int := match bits k 0 2 with
    | 0 => 1023
    | 1 => o.alpha
    | _ => let v := (keyY - bits (le rec 8 2) 0 10) * le rec 10 2 / 256; if v < 0 then 0 else if 1023 < v then 1023 else v
  let a := if bit k 5 then 1023 - a else a
  a * bits (le rec 6 2) 0 10 * one / (1023 * 1023)

end Sys2Proof.Machine
end

