-- ==== Sys2Proof/Machine/Composition.lean ====
section
/-! DEFINITION. Compositors, generators, the still and colour libraries (R149 to R172, R182 to R191): COMP_SET, COMP_STATE,
LUT_LOAD, GEN_SET, STILL_LOAD, the prefetch instant and the flash copy of the library. -/

namespace Sys2Proof.Machine

/-! Fields of a COMP_SET record (R153, R154, R186, R187). -/

/-- Z of a layer. -/
def layerZ (r : Bytes) (l : Nat) : Nat := bits (layerFld r l 0 1) 0 3
/-- SAMPLING of a layer. -/
def layerSamp (r : Bytes) (l : Nat) : Nat := bits (layerFld r l 3 1) 0 4
/-- The key layer that a picture layer names, if its KEY_MODE is separate key. -/
def keyOf (r : Bytes) (l : Nat) : Option Nat :=
  let k := layerFld r l 4 1
  if bits k 0 2 = 3 then some (bits k 2 3) else none
/-- OUT_FMT. -/
def outFmtOf (r : Bytes) : Nat := le r 0 1
/-- OUT_SAMPLING. -/
def outSampOf (r : Bytes) : Nat := bits (le r 1 1) 0 4
/-- OUT_ENC. -/
def outEncOf (r : Bytes) : Nat := le r 16 1

/-! Checks of COMP_SET (R156, R157, R188). -/

/-- Defined bits of the header as (byte, lowest bit, width) (R153, R187). -/
def compHdrFields : List (Nat × Nat × Nat) :=
  [(0, 0, 8), (1, 0, 4), (2, 0, 8), (3, 0, 7), (4, 0, 1), (5, 0, 4), (8, 0, 10), (10, 0, 10), (12, 0, 10), (16, 0, 8),
   (17, 0, 2), (18, 0, 6), (19, 0, 6)]

/-- Defined bits of a layer record (R154, R186): IN_ENC's upper two bits are reserved (R174). -/
def compLayFields : List (Nat × Nat × Nat) :=
  [(0, 0, 4), (1, 0, 4), (2, 0, 8), (3, 0, 4), (4, 0, 7), (6, 0, 10), (8, 0, 10), (10, 0, 16), (12, 0, 16), (14, 0, 16),
   (16, 0, 16), (18, 0, 16), (20, 0, 16), (22, 0, 16), (24, 0, 16), (26, 0, 16), (48, 0, 6), (49, 0, 6), (50, 0, 6),
   (51, 0, 6), (52, 0, 2), (54, 0, 16), (56, 0, 16), (58, 0, 16)]

/-- The lowest layer with a non-zero reserved bit. -/
def layerReserved (r : Bytes) : Option Nat :=
  eight.find? fun l => clearFields 0 compLayFields (le r (32 + 64 * l) 64) != 0

/-- A reserved value or AUTO in an encoding where AUTO is illegal (R174, R187). -/
def encBad (e : Nat) : Bool := encTf e == 3 || decide (2 ≤ encPrim e) || decide (2 ≤ encRange e) || decide (64 ≤ e)

/-- OUT_SAMPLING and generator SAMPLING codes 1 to 4 go only with these formats (R153, R166). -/
def wideAllowed (f : Nat) : Bool := decide (3 ≤ f / 16 ∧ f / 16 ≤ 6) && decide (f % 16 ≤ 5)

/-- Two enabled picture layers share a Z. -/
def zClash (r : Bytes) : Bool := eight.any fun l => eight.any fun m => decide (l < m) && isPic r l && isPic r m && layerZ r l == layerZ r m

/-- The layer with a broken key reference (R157): a picture layer whose key layer is not an enabled key layer or is named by
an earlier one too, or an enabled key layer that no picture layer names. -/
def keyBroken (r : Bytes) : Option Nat :=
  let names := fun l => if isPic r l then keyOf r l else none
  match eight.find? fun l => match names l with
      | none => false
      | some k => !(layerOn r k && isKey r k) || eight.any fun m => decide (m < l) && names m == some k with
  | some l => some l
  | none => eight.find? fun k => layerOn r k && isKey r k && !eight.any fun m => names m == some k

/-- A colour-library slot has content, or a load of it waits (R188, R190; log entry 20). -/
def slotLoaded (s : Dev) (type slot : Nat) : Bool :=
  slot == 0 || !(mechOf s mkLut (type * 64 + slot)).data.isEmpty ||
    s.ctl.pend.any fun q => q.op == 0x22 && (match recOf s q.jsn with
      | none => false
      | some j => le j.buf 0 1 == type && le j.buf 1 1 == slot)

/-- KNEE_K, KNEE_P and KNEE_M break R180. -/
def kneeBad (r : Bytes) (l : Nat) : Bool :=
  bits (layerFld r l 52 1) 0 2 == 1 && !(decide (layerFld r l 54 2 < layerFld r l 58 2) && decide (layerFld r l 58 2 ≤ layerFld r l 56 2))

/-- A value of picture layer `l` outside its range (R154, R188). -/
def layerRange (s : Dev) (r : Bytes) (l : Nat) : Bool :=
  let pos := fun off => let v := sgn 16 (layerFld r l off 2); decide (v < -8192) || decide (8191 < v)
  let dim := fun off => layerFld r l off 2 == 0 || decide (8192 < layerFld r l off 2)
  decide (vtapsOf r l < 2) || decide (8 < vtapsOf r l) || pos 20 || pos 22 || dim 24 || dim 26 || kneeBad r l ||
    !slotLoaded s 1 (layerFld r l 49 1) || !slotLoaded s 2 (layerFld r l 50 1) || !slotLoaded s 3 (layerFld r l 51 1)

/-- Cropped size of a source of format `f` at layer `l`. -/
def cropSize (r : Bytes) (l f : Nat) : Int × Int :=
  let g := geomLayer r l
  let n := fun (w a b : Nat) => (w : Int) - (w * a / 65536 : Nat) - (w * b / 65536 : Nat)
  (n (fmtWidth f) (layerFld r g 12 2) (layerFld r g 16 2), n (fmtHeight f) (layerFld r g 14 2) (layerFld r g 18 2))

/-- The crop leaves nothing of a MAX_FMT source. -/
def cropEmpty (r : Bytes) (l : Nat) : Bool := let c := cropSize r l (layerFld r l 2 1); decide (c.1 ≤ 0) || decide (c.2 ≤ 0)

/-- Peak demand of a layer reader for a MAX_FMT source exceeds 20 Gbit/s (R390). -/
def demandOver (s : Dev) (r : Bytes) (l : Nat) : Bool :=
  let c := cropSize r l (layerFld r l 2 1)
  let h := layerFld r (geomLayer r l) 26 2
  decide (20000000000 * linePeriod s (outFmtOf r) <
    c.1.toNat * sampBits (layerSamp r l) * max 1 (cdiv c.2.toNat h) * tickSec)

/-! Line memory (R159). -/

/-- Allocation in KiB of `t` taps at width `w`. -/
def allocKib (t w : Nat) : Nat := cdiv (t * w * 5) 1024

/-- Allocation of picture layer `l` with its key layer, widths given by `w`. -/
def layerAlloc (r : Bytes) (w : Nat → Nat) (t l : Nat) : Nat :=
  allocKib t (w l) + (match keyOf r l with | none => 0 | some k => allocKib t (w k))

/-- Fit width for a source of format `f` (0: none or unknown). -/
def fitWidthOf (r : Bytes) (l f : Nat) : Nat :=
  let f := if f = 0 ∨ bit (layerFld r l 4 1) 6 then layerFld r l 2 1 else f
  min (cropSize r l f).1.toNat (layerFld r (geomLayer r l) 24 2)

/-- Local destination of layer `l` of compositor `c`. -/
def layerDst (c l : Nat) : Nat := 1536 + 8 * c + l

/-- The plane of the source that destination `d` of plane `p` is routed to. -/
def routedPlane (s : Dev) (p d : Nat) : Nat := if s.ctl.pair then (routeOf s (pkey s p d)).srcPlane else p

/-- Fit width at validation: against the source as routed (R159; log entry 21). -/
def fitValid (s : Dev) (p c : Nat) (r : Bytes) (l : Nat) : Nat :=
  let d := layerDst c l
  let n := (routeOf s (pkey s p d)).src
  fitWidthOf r l (if n = 0x7FF then 0 else srcFmt s (routedPlane s p d) n)

/-- The source that the layer's frame store holds, as (plane, source); none while it is transparent (R159). -/
def layerSrc (s : Dev) (p c l : Nat) : Option (Nat × Nat) :=
  let d := layerDst c l
  let x := dstSt s p d
  if x.cause = 0 then
    let n := (routeOf s (pkey s p d)).src
    if n = 0x7FF then none else some (routedPlane s p d, n)
  else if x.shown = 0x7FF then none
  else some (if x.repeated then routedPlane s p d else p, x.shown)

/-- Fit width at a prefetch instant (R159). -/
def fitNow (s : Dev) (p c : Nat) (r : Bytes) (l : Nat) : Nat :=
  match layerSrc s p c l with
  | none => 0
  | some q => fitWidthOf r l (srcFmt s q.1 q.2)

/-- Eight 16-bit widths as one number. -/
def packWidths (w : Nat → Nat) : Nat := (eight.map fun l => w l % 65536 * 2 ^ (16 * l)).sum

/-- Line memory in KiB that a record needs at its configured taps. -/
def lineNeed (r : Bytes) (w : Nat → Nat) : Nat := ((eight.filter (isPic r)).map fun l => layerAlloc r w (vtapsOf r l) l).sum

/-! COMP_SET and COMP_STATE (R150, R151, R162, R165). -/

/-- The record in force at compositor key `k` for the output frame before house frame `n`: the latest COMP_SET that falls
due before it, or the applied one (R151). -/
def recBefore (s : Dev) (k n : Nat) : Bytes :=
  let due := s.ctl.pend.filterMap fun q =>
    if q.op = 0x20 ∧ q.frame < n then (match recOf s q.jsn with
      | some j => if compKey s (le j.desc 36 2) = k then some (q.frame, q.jsn, j.buf) else none
      | none => none)
    else none
  match due with
  | [] => (mechOf s mkComp k).data
  | a :: r => (r.foldl (fun a b => if a.1 < b.1 ∨ (a.1 = b.1 ∧ a.2.1 < b.2.1) then b else a) a).2.2

/-- The output format that times a compositor: OUT_FMT, or the nominal raster (R150). -/
def rasterOf (s : Dev) (r : Bytes) : Nat :=
  if r.isEmpty || !inFamily s.ctl.ref.rate (outFmtOf r % 16) then houseFmt s else outFmtOf r

/-- Lines from the line after the last active line to the frame start (R150; the standards' numbering is log entry 22). -/
def tailLines (f : Nat) : Nat := match f / 16 with | 3 => 5 | 4 => 2 | 5 => 2 | 7 => 8 | _ => 4

/-- Time from the prefetch instant to the output frame's start. -/
def prefetchLead (s : Dev) (f : Nat) : Nat := tailLines f * linePeriod s f

/-- Deadline of a COMP_SET or COMP_STATE at house frame `n` (R151). -/
def compDeadline (s : Dev) (k n : Nat) : Nat :=
  let r := recBefore s k n
  let f := rasterOf s r
  frameStart s n - prefetchLead s f - (if r.isEmpty then 8 else bits (le r 3 1) 0 7) * linePeriod s f

/-- House frame `n` starts an output frame: at half the house rate only even ones do (R149, R151). -/
def compFrameOk (s : Dev) (k n : Nat) : Bool :=
  n % 2 == 0 || !halfRate s.ctl.ref.rate (rasterOf s (recBefore s k n) % 16)

/-- Load a compositor command; `aux` travels with it to its prefetch instant. -/
def scheduleComp (s : Dev) (j : JRec) (k aux : Nat) : Dev :=
  match chooseFrame s j.flags j.target (compDeadline s k) (compFrameOk s k) with
  | none => refuse s j (stLate, 0)
  | some (n, dfr, why) =>
    syncLoads (schedule s { jsn := j.jsn, op := j.op, frame := n, atFrame := bit j.flags 1 && j.target != 0, deferred := dfr,
                            reason := why, lastFrame := aux })

/-- The buffer of `j` has another length than `n`; a length above its cap is a RANGE failure instead (R323). -/
def lenBad (j : JRec) (n : Nat) : Bool := !bufOver j && dBufLen j.desc != n

/-- A handle operand names a compositor output. -/
def isComp (s : Dev) (h : Nat) : Bool := let v := hVal (srcOf s.ctl.pair h); decide (1536 ≤ v.2) && decide (v.2 < 1568)

/-- A handle operand names a generator. -/
def isGen (s : Dev) (h : Nat) : Bool := let v := hVal (srcOf s.ctl.pair h); decide (1568 ≤ v.2) && decide (v.2 < 1600)

/-- The checks of COMP_SET in the order of R342 (R151, R153 to R159, R186 to R188). -/
def compSetChecks (s : Dev) (j : JRec) : Option Refuse :=
  let h := le j.desc 36 2
  let v := hVal (srcOf s.ctl.pair h)
  let c := v.2 - 1536
  let k := compKey s h
  let r := if j.buf.length = 544 then j.buf else []
  let ok := !r.isEmpty
  let f := outFmtOf r
  let low := fun (q : Nat → Bool) => ok && (eight.find? q).isSome
  let at' := fun (why : Nat) (q : Nat → Bool) => compDetail why ((eight.find? q).getD 0) 0
  let badMax := fun l => layerOn r l && (!fmtListed (layerFld r l 2 1) || decide (5 ≤ layerSamp r l))
  let badEnc := fun l => isPic r l && (encPrim (layerFld r l 48 1) == 2 || encRange (layerFld r l 48 1) == 2 || bits (layerFld r l 52 1) 0 2 == 3)
  let badRange := fun l => isPic r l && layerRange s r l
  let badCrop := fun l => layerOn r l && cropEmpty r l
  let badRatio := fun l => layerOn r l && ratioBad r l (fmtWidth (layerFld r l 2 1)) (fmtHeight (layerFld r l 2 1))
  let badDemand := fun l => layerOn r l && demandOver s r l
  let count := (eight.filter (layerOn r)).length
  let w := fitValid s v.1 c r
  let need := lineNeed r w
  let adm := admission s { comps := [(k, r)] }
  checksOf s j (fun _ => 0)
      [(hStatus (srcOf s.ctl.pair h) == stInvalid, stInvalid, 0), (lenBad j 544, stInvalid, 0),
       (ok && clearFields 0 compHdrFields (le r 0 32) != 0, stInvalid, 0),
       (ok && (layerReserved r).isSome, stInvalid, compDetail 0 ((layerReserved r).getD 0) 0),
       (ok && (!fmtListed f || decide (5 ≤ outSampOf r) || encBad (outEncOf r)), stInvalid, 0),
       (ok && bit (le r 17 1) 0 && (le r 18 1 != 0 || le r 19 1 != 0), stInvalid, 0),
       (low badMax, stInvalid, at' 0 badMax), (low badEnc, stInvalid, at' 0 badEnc), (ok && zClash r, stInvalid, 0),
       (ok && (keyBroken r).isSome, stInvalid, compDetail 5 ((keyBroken r).getD 0) 0)]
      [(hStatus (srcOf s.ctl.pair h) == stRange || (hStatus (srcOf s.ctl.pair h) == 0 && !isComp s h), stRange, 0),
       (ok && decide (count < 2), stRange, 0),
       (ok && (bits (le r 3 1) 0 7 == 0 || decide (64 < bits (le r 3 1) 0 7)), stRange, 0),
       (ok && decide (f / 16 < 3), stRange, 0),
       (ok && outSampOf r != 0 && !wideAllowed f, stRange, 0),
       (ok && (!slotLoaded s 2 (le r 18 1) || !slotLoaded s 3 (le r 19 1)), stRange, 0),
       (low badRange, stRange, at' 0 badRange), (ok && !inFamily s.ctl.ref.rate (f % 16), stRange, 0), (low badCrop, stRange, at' 0 badCrop), (low badRatio, stRange, at' 6 badRatio)]
      []
      [(ok && decide (256 < need), stBudget, compDetail 1 0 need), (adm == 2, stBudget, compDetail 2 0 0),
       (low badDemand, stBudget, at' 3 badDemand), (adm != 0, stBudget, compDetail adm 0 0)]

/-- COMP_SET (R151, R153 to R159, R186 to R188). -/
def compSetCmd (s : Dev) (j : JRec) : Dev :=
  let h := le j.desc 36 2
  let v := hVal (srcOf s.ctl.pair h)
  let c := v.2 - 1536
  let k := compKey s h
  let r := if j.buf.length = 544 then j.buf else []
  let w := fitValid s v.1 c r
  let need := lineNeed r w
  match compSetChecks s j with
  | some q => refuse s j q
  | none => scheduleComp s j k (packWidths w + need * 2 ^ 128)

/-- The checks of COMP_STATE in the order of R342 (R165). -/
def compStateChecks (s : Dev) (j : JRec) : Option Refuse :=
  let h := le j.desc 24 2
  let k := compKey s h
  let run := bit (le j.desc 26 1) 0
  let adm := if run then admission s { runs := [k] } else 0
  checksOf s j (fun _ => 0)
      [(hStatus (srcOf s.ctl.pair h) == stInvalid, stInvalid, 0)]
      [(hStatus (srcOf s.ctl.pair h) == stRange || !isComp s h, stRange, 0)]
      [(run && (mechOf s mkComp k).data.isEmpty, stConflict, 0)] [(adm != 0, stBudget, compDetail adm 0 0)]

/-- COMP_STATE (R165). -/
def compStateCmd (s : Dev) (j : JRec) : Dev :=
  let h := le j.desc 24 2
  let k := compKey s h
  match compStateChecks s j with
  | some q => refuse s j q
  | none => scheduleComp s j k 0

/-- Planes on which a mechanism of plane `p` lives: both in Single (R27). -/
def planesOf (s : Dev) (p : Nat) : List Nat := if s.ctl.pair then [p] else [0, 1]

/-- Line memory is released: no taps, nothing in use (R165). -/
def releaseLines (s : Dev) (p c : Nat) : Dev :=
  setFs s (ix p c) [(F.CMP_TAPS_TAPS, 0), (F.CMP_LMEM_IN_USE, 0), (F.CMP_STAT_DROPPED, 0), (F.CMP_STAT_DEGRADED, 0)]

/-- A COMP_SET that falls due (R150, R159, R161): layers that were or become no picture layer start at their configured taps. -/
def applyCompSet (s : Dev) (p c : Nat) (x : Pend) (j : JRec) : Dev :=
  let k := pkey s p c
  let q := fenced s x.jsn (mechOf s mkComp k).jsn fun s =>
    (planesOf s p).foldl (fun s p =>
      let old := compRec s p c
      let e := cmpSt s p c
      let pick := fun (v : List Nat) => eight.map fun l =>
        if isPic old l && isPic j.buf l then v.getD l 0 else (confTaps j.buf).getD l 0
      let s := setCmp s p c { taps := pick e.taps, conf := pick e.conf }
      setFs s (ix p c) [(F.CMP_STAT_CONFIGURED, 1), (F.CMP_STAT_ENABLED, le j.buf 2 1), (F.CMP_LMEM_VALIDATED, x.lastFrame / 2 ^ 128)])
      s |> fun s => setMech s mkComp k { data := j.buf, jsn := x.jsn, aux := x.lastFrame }
  if q.1 then syncLoads (finishFrame q.2 x x.frame) else decideCmd (unpend q.2 x.jsn) x.jsn stCancelled 0 0

/-- A COMP_STATE that falls due (R165). -/
def applyCompState (s : Dev) (p c : Nat) (x : Pend) (j : JRec) : Dev :=
  let k := pkey s p c
  let run := b2n (bit (le j.desc 26 1) 0)
  let m := mechOf s mkComp k
  let q := fenced s x.jsn m.jsn fun s =>
    let was := runOf s k
    let s := setMech (setMech s mkComp k { m with jsn := x.jsn }) mkRun k { aux := run }
    (planesOf s p).foldl (fun s p =>
      let s := setF s F.CMP_STAT_RUN (ix p c) run
      if run = 1 then (if was then s else freshTaps s p c)
      else
        let s := modCtl s fun t => { t with shed := t.shed.filter fun e => !(e.1 == p && e.2.comp && e.2.key == c) }
        releaseLines (setF s F.CMP_STAT_SHED (ix p c) 0) p c) s
  if q.1 then syncLoads (finishFrame q.2 x x.frame) else decideCmd (unpend q.2 x.jsn) x.jsn stCancelled 0 0

/-- The compositor key that a pending COMP_SET or COMP_STATE names. -/
def pendCompKey (s : Dev) (j : JRec) : Nat := compKey s (le j.desc (if j.op = 0x20 then 36 else 24) 2)

/-- Commands due at compositor key `k` for the output frame that starts with house frame `n`, in JSN order (R150). -/
def applyComps (s : Dev) (p c n : Nat) : Dev :=
  let k := pkey s p c
  s.ctl.pend.foldl (fun s x =>
    if (x.op = 0x20 ∨ x.op = 0x21) ∧ x.frame ≤ n then
      match recOf s x.jsn with
      | none => s
      | some j => if pendCompKey s j ≠ k then s else if x.op = 0x20 then applyCompSet s p c x j else applyCompState s p c x j
    else s) s

/-! The prefetch instant (R150, R160, R161). -/

/-- Taps that R160 assigns. -/
def assignTaps (r : Bytes) (w wval : Nat → Nat) : List Nat × Nat :=
  let grown := fun l => decide (wval l < w l) || (match keyOf r l with | none => false | some k => decide (wval k < w k))
  let pics := eight.filter (isPic r)
  let used := ((pics.filter fun l => !grown l).map fun l => layerAlloc r w (vtapsOf r l) l).sum
  let first : List (Nat × Nat) := (pics.filter fun l => !grown l).map fun l => (l, vtapsOf r l)
  let z := (pics.filter grown).foldl (fun (a : List (Nat × Nat) × Nat) l =>
      let cand := ((List.range (vtapsOf r l + 1)).reverse.find? fun t => decide (2 ≤ t) && decide (layerAlloc r w t l ≤ 256 - a.2)).getD 0
      ((l, cand) :: a.1, if cand = 0 then a.2 else a.2 + layerAlloc r w cand l)) (first, used)
  (eight.map fun l => match z.1.find? fun q => q.1 == l with | none => 0 | some q => q.2, z.2)

/-- The events of a change of taps at layer `l` (R161). -/
def tapEvents (s : Dev) (p c l prev was new vt : Nat) : Dev :=
  let ev := fun code entry s => raise s code (21 + p) 0 (layerDetail c l p new vt entry)
  if new = 0 then (if prev ≠ 0 then ev 0x0C 1 s else s)
  else if prev = 0 then
    let s := ev 0x0C 0 s
    if new < vt then ev 0x0B 1 s else s
  else if new < vt then (if new ≠ prev ∨ prev = was then ev 0x0B 1 s else s)
  else if prev < was then ev 0x0B 0 s
  else s

/-- The resolved encoding of layer `l` (R175) and DEFAULTED; a key layer's IN_ENC is ignored (R186), so its source gives all. -/
def layerEnc (s : Dev) (p c : Nat) (r : Bytes) (l : Nat) : Nat × Nat :=
  let e := if isKey r l then 0x3F else layerFld r l 48 1
  let q := layerSrc s p c l
  let src := match q with | none => 0xFF | some q => srcEnc s q.1 q.2
  (resolveEnc e src, b2n (hasAuto e && src == 0xFF && q.isSome))

/-- CMP_ENC (R191). -/
def encReg (s : Dev) (p c : Nat) (r : Bytes) : Nat :=
  (eight.map fun l =>
    (if !isPic r l || (dstSt s p (layerDst c l)).cause == 2 then 3
     else let e := layerEnc s p c r l; e.1 % 32 + e.2 * 32) * 2 ^ (8 * l)).sum

/-- Layer inputs whose routed source has begun or ceased to be one they can carry are evaluated again (R152, R156). -/
def recheckLayers (s : Dev) (p c : Nat) : Dev :=
  eight.foldl (fun s l =>
    let d := layerDst c l
    let n := (routeOf s (pkey s p d)).src
    if destCannot s p d (routedPlane s p d) n != ((dstSt s p d).cause == 2) && decide ((dstSt s p d).cause ≠ 1) then evalDst s p d else s) s

/-- Fit, taps and reports of a running compositor at its prefetch instant (R150 steps 2 to 4). -/
def prefetchFit (s : Dev) (p c : Nat) : Dev :=
  let s := recheckLayers s p c
  let r := compRec s p c
  let w := fitNow s p c r
  let aux := (mechOf s mkComp (pkey s p c)).aux
  let q := assignTaps r w fun l => bits aux (16 * l) 16
  let e := cmpSt s p c
  let s := (eight.filter (isPic r)).foldl (fun s l => tapEvents s p c l (e.taps.getD l 0) (e.conf.getD l 0) (q.1.getD l 0) (vtapsOf r l)) s
  let s := setCmp s p c { taps := q.1, conf := confTaps r }
  let mask := fun (f : Nat → Bool) => ((eight.filter fun l => isPic r l && f l).map fun l => 2 ^ l).sum
  setFs s (ix p c) [(F.CMP_TAPS_TAPS, (eight.map fun l => q.1.getD l 0 * 2 ^ (4 * l)).sum), (F.CMP_LMEM_IN_USE, q.2),
    (F.CMP_STAT_DROPPED, mask fun l => q.1.getD l 0 == 0),
    (F.CMP_STAT_DEGRADED, mask fun l => q.1.getD l 0 != 0 && decide (q.1.getD l 0 < vtapsOf r l)), (F.CMP_ENC_ENC, encReg s p c r)]

/-! Pixels (R173, R182, R183). -/

/-- The colour tables as latched at the prefetch instant for house frame `n` (R190): a load due by then counts. -/
def tablesAt (s : Dev) (n : Nat) : Tables := fun type slot =>
  let due := s.ctl.pend.filterMap fun q =>
    if q.op = 0x22 ∧ q.frame ≤ n then (match recOf s q.jsn with
      | some j => if le j.buf 0 1 = type ∧ le j.buf 1 1 = slot then some (j.buf.drop 16) else none
      | none => none)
    else none
  due.getLastD (mechOf s mkLut (type * 64 + slot)).data

/-- A layer's pixel up to stage 6, or in signal space as the output's normalised R'G'B' (R173, R182, R183). -/
def layerPixel (tb : Tables) (r : Bytes) (l e : Nat) (o : LayPix) : Rgb :=
  let out := outEncOf r
  let samp := layerSamp r l
  let sig := bit (le r 17 1) 0
  let x := stageUnpack e samp o.c0 o.c1 o.c2
  let carried := sig && e == bits out 0 6 && sampRgb samp == sampRgb (outSampOf r) && sampDepth samp == sampDepth (outSampOf r) &&
    layerFld r l 49 1 == 0 && layerFld r l 51 1 == 0 && bits (layerFld r l 52 1) 0 2 == 0
  if carried then x
  else
    let y := stageMatrix tb (layerFld r l 49 1) (encPrim e) (encPrim out) (stageDecode e x)
    let y := stageLut tb (layerFld r l 50 1) (layerFld r l 51 1) y
    let y := stageKnee (kneeOf ((r.drop (32 + 64 * l)).take 64) (encTf e) (encTf out)) y
    if sig then stageEncode out (bit (le r 17 1) 1) y else y

/-- Insert a layer in ascending Z. -/
def insZ (r : Bytes) (l : Nat) : List Nat → List Nat
  | [] => [l]
  | m :: q => if layerZ r l ≤ layerZ r m then l :: m :: q else m :: insZ r l q

/-- One blend step (R182): out = α × layer + (1 − α) × out. -/
def blend (a : Int) (x out : Rgb) : Rgb :=
  { r := out.r + wmul a (x.r - out.r), g := out.g + wmul a (x.g - out.g), b := out.b + wmul a (x.b - out.b) }

/-- A layer's pixel with the alpha that R157 gives it: only a generator playing a still has an embedded one. -/
def pixAlpha (s : Dev) (p c l : Nat) (x : LayPix) : LayPix :=
  let still := match layerSrc s p c l with
    | none => false
    | some q => srcKindOf q.2 == 3 && genPattern (mechOf s mkGen (pkey s q.1 (q.2 - 1568))).data == 3
  if still then x else { x with alpha := 1023 }

/-- One output pixel (R157, R158, R173, R182 to R184): `px` gives each layer's pixel after its scaler. -/
def outPixel (s : Dev) (p c n : Nat) (px : List LayPix) : List Nat :=
  let r := compRec s p c
  let tb := tablesAt s n
  let out := outEncOf r
  let sig := bit (le r 17 1) 0
  let zero : LayPix := { cover := false, c0 := 0, c1 := 0, c2 := 0, alpha := 1023 }
  let at' := fun l => pixAlpha s p c l (px.getD l zero)
  let shows := fun l => isPic r l && (at' l).cover && (cmpSt s p c).taps.getD l 0 != 0 && (layerSrc s p c l).isSome
  let bg := stageUnpack out (if sampRgb (outSampOf r) then 3 else 0) (bits (le r 8 2) 0 10) (bits (le r 10 2) 0 10) (bits (le r 12 2) 0 10)
  let x := ((eight.filter shows).foldr (insZ r) []).foldl (fun acc l =>
    let e := (layerEnc s p c r l).1
    let k := (keyOf r l).getD l
    let y := keyLuma (layerEnc s p c r k).1 (layerSamp r k) (at' k)
    blend (layerAlpha ((r.drop (32 + 64 * l)).take 64) (at' l) y) (layerPixel tb r l e (at' l)) acc) (if sig then bg else stageDecode out bg)
  let x := if sig then x else stageEncode out (bit (le r 17 1) 1) (stageLut tb (le r 18 1) (le r 19 1) x)
  toCodes out (outSampOf r) (bit (le r 17 1) 1) x

/-- Compositor `c` of plane `p` outputs pictures: applied, running, not shed, in the house family (R149, R164). -/
def compLive (s : Dev) (p c : Nat) : Bool :=
  let r := compRec s p c
  !r.isEmpty && runOf s (pkey s p c) && !isShed s p true c && inFamily s.ctl.ref.rate (outFmtOf r % 16)

/-- COMP_PREFETCH (R150): the prefetch instant of compositor `c` of plane `p` at time `t`, in Single on both planes alike;
`px`, where given, is one output pixel's layers. -/
def compPrefetch (s : Dev) (t p c : Nat) (px : List LayPix) : Dev :=
  let s := s.at t
  let f := rasterOf s (compRec s p c)
  let per := framePeriod (f % 16)
  let start := (t + prefetchLead s f + per / 2) / per * per
  let n := hfnAt s start
  let s := if start % framePeriod s.ctl.ref.rate = 0 then applyComps s p c n else s
  (planesOf s p).foldl (fun s p =>
    if compLive s p c then
      let s := prefetchFit s p c
      let s := emit s (.frame p c ((cmpSt s p c).taps))
      if px.isEmpty then s else emit s (.pixel p c (outPixel s p c n px))
    else s) s

/-! LUT_LOAD (R189, R190). -/

/-- Required length by TYPE (R189). -/
def lutLen (type : Nat) : Nat := match type with | 1 => 52 | 2 => 6160 | _ => 215638

/-- The first byte of a 3D LUT node with a reserved bit set (R189). -/
def lutReserved (b : Bytes) : Option Nat :=
  ((List.range 107811).find? fun k => decide (16 ≤ (b.getD (17 + 2 * k) 0).toNat)).map fun k => 17 + 2 * k

/-- The first matrix coefficient outside −65,536 to +65,535 (R189), by its byte. -/
def matrixOver (b : Bytes) : Option Nat :=
  ((List.range 9).find? fun k => let v := sgn 32 (le b (16 + 4 * k) 4); decide (v < -65536) || decide (65535 < v)).map fun k => 16 + 4 * k

/-- The first non-zero byte of `len` bytes from `off` of a buffer, as the detail's offset. -/
def resvAt (b : Bytes) (off len : Nat) : Nat := (firstByte len off (le b off len)).getD off

/-- The compositor record names the slot. -/
def namesSlot (r : Bytes) (type slot : Nat) : Bool :=
  (type == 2 && le r 18 1 == slot) || (type == 3 && le r 19 1 == slot) ||
    eight.any fun l => isPic r l && layerFld r l (48 + type) 1 == slot

/-- Running compositor keys that name a slot. -/
def slotUsers (s : Dev) (type slot : Nat) : List Nat :=
  (mechKeys s mkRun).filter fun k => runOf s k && namesSlot (mechOf s mkComp k).data type slot

/-- The checks of LUT_LOAD in the order of R342 (R189, R190). -/
def lutLoadChecks (s : Dev) (j : JRec) : Option Refuse :=
  let b := j.buf
  let type := le b 0 1
  let slot := le b 1 1
  let ok := !bufOver j && decide (16 ≤ b.length)
  let busy := s.ctl.pend.any fun q => q.op == 0x22 && (match recOf s q.jsn with
    | none => false
    | some i => le i.buf 0 1 == type && le i.buf 1 1 == slot)
  checksOf s j gdet
      [(!bufOver j && decide (dBufLen j.desc < 16), stInvalid, gdet 32), (ok && (type == 0 || decide (3 < type)), stInvalid, genDetail 0 true 0),
       (ok && (slot == 0 || decide (63 < slot)), stInvalid, genDetail 1 true 0), (ok && le b 2 14 != 0, stInvalid, genDetail (resvAt b 2 14) true 0),
       (ok && lenBad j (lutLen type), stInvalid, gdet 32),
       (ok && type == 3 && (lutReserved b).isSome, stInvalid, genDetail ((lutReserved b).getD 0) true 0)]
      [(ok && type == 1 && (matrixOver b).isSome, stRange, genDetail ((matrixOver b).getD 0) true 0)] []
      [(busy, stBusy, genDetail 0 false 1)]

/-- LUT_LOAD (R189, R190). -/
def lutLoadCmd (s : Dev) (j : JRec) : Dev :=
  let b := j.buf
  let type := le b 0 1
  let slot := le b 1 1
  let users := slotUsers s type slot
  let dl := fun n => minTime (frameStart s n) (users.map fun k => compDeadline s k n)
  let okF := fun n => users.all fun k => compFrameOk s k n
  match lutLoadChecks s j with
  | some q => refuse s j q
  | none =>
    match chooseFrame s j.flags j.target dl okF with
    | none => refuse s j (stLate, 0)
    | some (n, dfr, why) =>
      schedule s { jsn := j.jsn, op := j.op, frame := n, atFrame := bit j.flags 1 && j.target != 0, deferred := dfr, reason := why }

/-- A LUT_LOAD has switched on every plane: the slot holds its payload (R190). -/
def applyLut (s : Dev) (x : Pend) (j : JRec) (n : Nat) : Dev :=
  let i := le j.buf 0 1 * 64 + le j.buf 1 1
  let q := fenced s x.jsn (mechOf s mkLut i).jsn fun s => setMech s mkLut i { data := j.buf.drop 16, jsn := x.jsn }
  if q.1 then finishFrame q.2 x n else decideCmd (unpend q.2 x.jsn) x.jsn stCancelled 0 0

/-! Generators (R166, R167). -/

/-- STILL_ID of stored generator operands. -/
def genStill (g : Bytes) : Nat := bits (le g 10 2) 0 10

/-- WIDTH and HEIGHT of still `n` as loaded; (0, 0) where it is not. -/
def stillSize (s : Dev) (n : Nat) : Nat × Nat := let b := (mechOf s mkStill n).data; (le b 0 2, le b 2 2)

/-- The operands in force at generator key `k` before a command of house frame `n` applies: the latest GEN_SET that falls due by then, or
the applied one (R166). -/
def genBefore (s : Dev) (k n : Nat) : Bytes :=
  let due := s.ctl.pend.filterMap fun q =>
    if q.op = 0x23 ∧ q.frame ≤ n then (match recOf s q.jsn with
      | some j => if genKey s (le j.desc 24 2) = k then some (q.frame, q.jsn, (j.desc.drop 24).take 12) else none
      | none => none)
    else none
  match due with
  | [] => (mechOf s mkGen k).data
  | a :: r => (r.foldl (fun a b => if a.1 < b.1 ∨ (a.1 = b.1 ∧ a.2.1 < b.2.1) then b else a) a).2.2

/-- Format that times a generator at house frame `n`: the one then in force, or the nominal raster (R166). -/
def genRaster (s : Dev) (k n : Nat) : Nat :=
  let f := genFmt (genBefore s k n)
  if f = 0 ∨ !inFamily s.ctl.ref.rate (f % 16) then houseFmt s else f

/-- The checks of GEN_SET in the order of R342 (R166). -/
def genSetChecks (s : Dev) (j : JRec) : Option Refuse :=
  let h := le j.desc 24 2
  let k := genKey s h
  let g := (j.desc.drop 24).take 12
  let f := genFmt g
  let still := stillSize s (genStill g)
  let adm := admission s { gens := [(k, g)] }
  checksOf s j gdet
      [srcInvalid s h 24, (!fmtListed f, stInvalid, gdet 26), (decide (5 ≤ genSamp g) || decide (4 ≤ genPattern g), stInvalid, gdet 27)]
      [(hStatus (srcOf s.ctl.pair h) == stRange || !isGen s h, stRange, gdet 24), (!inFamily s.ctl.ref.rate (f % 16), stRange, gdet 26),
       ((genSamp g != 0 && !wideAllowed f) || (genPattern g == 1 && decide (f / 16 ≤ 2)), stRange, gdet 27),
       (genPattern g == 3 && (still.1 == 0 || decide (fmtWidth f < still.1) || decide (fmtHeight f < still.2)), stRange, gdet 34)]
      [] [(adm != 0, stBudget, gdet 26)]

/-- GEN_SET (R166). -/
def genSetCmd (s : Dev) (j : JRec) : Dev :=
  let h := le j.desc 24 2
  let k := genKey s h
  match genSetChecks s j with
  | some q => refuse s j q
  | none => syncLoads (scheduleFrame s j fun n => frameStart s n - 8 * linePeriod s (genRaster s k n))

/-- GEN_STAT of a generator (R172). -/
def syncGen (s : Dev) (p g : Nat) : Dev :=
  let d := (mechOf s mkGen (pkey s p g)).data
  setFs s (ix p g) [(F.GEN_STAT_FORMAT, genFmt d), (F.GEN_STAT_SAMPLING, genSamp d), (F.GEN_STAT_PATTERN, genPattern d),
    (F.GEN_STAT_STILL_ID, if genPattern d = 3 then genStill d else 0)]

/-- A GEN_SET that falls due (R166). -/
def applyGen (s : Dev) (x : Pend) (j : JRec) (n : Nat) : Dev :=
  let v := hVal (srcOf s.ctl.pair (le j.desc 24 2))
  let k := pkey s v.1 (v.2 - 1568)
  let q := fenced s x.jsn (mechOf s mkGen k).jsn fun s =>
    (planesOf s v.1).foldl (fun s p => innerSource (syncGen s p (v.2 - 1568)) p v.2)
      (setMech s mkGen k { data := (j.desc.drop 24).take 12, jsn := x.jsn })
  if q.1 then syncLoads (finishFrame q.2 x n) else decideCmd (unpend q.2 x.jsn) x.jsn stCancelled 0 0

/-! The still library (R168, R169). -/

/-- Blocks of a still of this size (R169). -/
def stillBlocks (w h : Nat) : Nat := cdiv (w * h * 5) 65536

/-- Blocks that loaded stills and waiting loads hold. -/
def blocksUsed (s : Dev) : Nat :=
  ((mechKeys s mkStill).map fun i => let z := stillSize s i; stillBlocks z.1 z.2).sum +
    (s.ctl.pend.map fun q => if q.op = 0x24 then (match recOf s q.jsn with
      | none => 0
      | some j => stillBlocks (le j.buf 0 2) (le j.buf 2 2)) else 0).sum

/-- CMP_STILL of both planes (R172). -/
def syncStills (s : Dev) : Dev :=
  let n := ((mechKeys s mkStill).filter fun i => !(mechOf s mkStill i).data.isEmpty).length
  let free := 32768 - blocksUsed s
  setFs (setFs s 0 [(F.CMP_STILL_COUNT, n), (F.CMP_STILL_FREE, free)]) 1 [(F.CMP_STILL_COUNT, n), (F.CMP_STILL_FREE, free)]

/-- Formats of the generators that play still `n`. -/
def players (s : Dev) (n : Nat) : List Nat :=
  (mechKeys s mkGen).filterMap fun k =>
    let g := (mechOf s mkGen k).data
    if genPattern g = 3 ∧ genStill g = n then some (genFmt g) else none

/-- The opcode-specific conditions of STILL_LOAD (R169), checked at validation and again when the image is moved. -/
def stillConds (s : Dev) (n : Nat) (b : Bytes) (extra : Nat) : Option Refuse :=
  let w := le b 0 2
  let h := le b 2 2
  firstFail [((players s n).any fun f => w == 0 || decide (fmtWidth f < w) || decide (fmtHeight f < h), stConflict, 0),
    (decide (32768 < blocksUsed s + extra), stBudget, genDetail 0 true 0)]

/-- The checks of STILL_LOAD in the order of R342 (R168, R169). -/
def stillLoadChecks (s : Dev) (j : JRec) : Option Refuse :=
  let b := j.buf
  let n := bits (le j.desc 36 2) 0 10
  let w := le b 0 2
  let h := le b 2 2
  let ok := !bufOver j && decide (16 ≤ b.length)
  let del := ok && dBufLen j.desc == 16 && le b 0 16 == 0
  let half := (w == 0) != (h == 0)
  let cond := stillConds s n b (stillBlocks w h)
  checksOf s j gdet
      [(!bufOver j && decide (dBufLen j.desc < 16), stInvalid, gdet 32), (ok && (encBad (le b 4 1 % 64) || decide (128 ≤ le b 4 1)), stInvalid, genDetail 4 true 0),
       (ok && le b 5 11 != 0, stInvalid, genDetail (resvAt b 5 11) true 0), (ok && !del && !half && dBufLen j.desc != 16 + w * h * 5, stInvalid, gdet 32)]
      [(ok && !del && (decide (w < 16) || decide (3840 < w) || w % 2 != 0), stRange, genDetail 0 true 0),
       (ok && !del && (decide (h < 8) || decide (2160 < h)), stRange, genDetail 2 true 0)]
      [] [(cond.isSome, (cond.getD (0, 0)).1, (cond.getD (0, 0)).2)]

/-- STILL_LOAD (R168, R169): untimed; the image is moved at the next frame start, or at TARGET with AT_FRAME (log entry 23). -/
def stillLoadCmd (s : Dev) (j : JRec) : Dev :=
  match stillLoadChecks s j with
  | some q => refuse s j q
  | none =>
    let at' := if bit j.flags 1 then max j.target (hfn s + 1) else hfn s + 1
    syncStills (schedule s { jsn := j.jsn, op := j.op, frame := at', atFrame := bit j.flags 1 && j.target != 0 })

/-- The image is moved into place at a frame start, or the still deleted (R169). -/
def applyStill (s : Dev) (x : Pend) (j : JRec) (_n : Nat) : Dev :=
  let i := bits (le j.desc 36 2) 0 10
  match stillConds s i j.buf 0 with
  | some r => syncStills (decideCmd (unpend s x.jsn) x.jsn r.1 0 r.2)
  | none =>
    let q := fenced s x.jsn (mechOf s mkStill i).jsn fun s =>
      setMech s mkStill i { data := if le j.buf 0 2 = 0 then [] else j.buf, jsn := x.jsn }
    let s := unpend q.2 x.jsn
    let d := if q.1 then (if onePath s then (stOnePath, hfn s) else (stDone, hfn s)) else (stCancelled, 0)
    syncStills (decideCmd s x.jsn d.1 d.2 0)

/-! The flash copy of the library (R169, R190 and the section on the colour library). -/

/-- LIBRARY_FLASH_COPY: the device copies a still (kind 9) or a colour table (kind 8) to each flash channel that takes writes (R415). -/
def libraryCopy (s : Dev) (t kind idx : Nat) : Dev :=
  let s := s.at t
  let m := mechOf s kind idx
  let up := [0, 1].filter fun c => getF s F.FLS_STAT_STATE c == 2 || getF s F.FLS_STAT_STATE c == 3
  if up.isEmpty then s
  else emits { s with library := mset {} s.library (mkey kind idx) m } (up.map fun c => .flash c kind idx (leVal m.data))

/-! The commands of this file. -/

/-- COMP_SET (R153): validation of the accepted command `jsn`. -/
def execCompSet (t jsn : Nat) (s : State) : Host.Outcome State Fault Refusal :=
  .next { s with dev := withCmd s.dev t jsn 0x20 compSetCmd }

/-- COMP_STATE (R165): validation of the accepted command `jsn`. -/
def execCompState (t jsn : Nat) (s : State) : Host.Outcome State Fault Refusal :=
  .next { s with dev := withCmd s.dev t jsn 0x21 compStateCmd }

/-- LUT_LOAD (R189): validation of the accepted command `jsn`. -/
def execLutLoad (t jsn : Nat) (s : State) : Host.Outcome State Fault Refusal :=
  .next { s with dev := withCmd s.dev t jsn 0x22 lutLoadCmd }

/-- GEN_SET (R166): validation of the accepted command `jsn`. -/
def execGenSet (t jsn : Nat) (s : State) : Host.Outcome State Fault Refusal :=
  .next { s with dev := withCmd s.dev t jsn 0x23 genSetCmd }

/-- STILL_LOAD (R168): validation of the accepted command `jsn`. -/
def execStillLoad (t jsn : Nat) (s : State) : Host.Outcome State Fault Refusal :=
  .next { s with dev := withCmd s.dev t jsn 0x24 stillLoadCmd }

/-- COMP_PREFETCH (R150): compositor `c` starts the prefetch of a frame; `px` is what one output pixel holds of each layer. -/
def execCompPrefetch (t : Nat) (p : Fin 2) (c : Fin 32) (px : List LayPix) (s : State) : Host.Outcome State Fault Refusal :=
  .next { s with dev := compPrefetch s.dev t p c px }

/-- LIBRARY_FLASH_COPY (R169, R190): the flash copy of a library slot (0 colour, 1 still) is written. -/
def execLibraryFlashCopy (t : Nat) (kind : Fin 2) (idx : Fin 1024) (s : State) : Host.Outcome State Fault Refusal :=
  .next { s with dev := libraryCopy s.dev t (if kind.val = 0 then mkLut else mkStill) idx }

end Sys2Proof.Machine
end

