-- ==== Sys2Proof/Machine/Tdm.lean ====
section
/-! DEFINITION. The TDM audio ports (R221 to R240): TDM_SET, restarts, slot masks, frames, steering and clock faults. -/

namespace Sys2Proof.Machine

/-- Engine state of TDM port `p`. -/
def tdmSt (s : Dev) (p : Nat) : TdmSt := mget {} s.tdm p

/-- Store the engine state of a TDM port. -/
def setTdm (s : Dev) (p : Nat) (x : TdmSt) : Dev := { s with tdm := mset {} s.tdm p x }

/-- Audio engine state of plane `p`. -/
def audSt (s : Dev) (p : Nat) : AudSt := mget {} s.aud p

/-- Store the audio engine state of plane `p`. -/
def setAud (s : Dev) (p : Nat) (x : AudSt) : Dev := { s with aud := mset {} s.aud p x }

/-- 48 kHz grid index of a time (R50). -/
def gridOf (t : Nat) : Nat := t / samplePeriod

/-- Index of the first 48 kHz grid instant at or after a time (R235, R236). -/
def nextGrid (t : Nat) : Nat := (t + samplePeriod - 1) / samplePeriod

/-! Configurable pins (R457, R519). -/

/-- Input-only pins: TDMp_SDI, RB_N of each flash channel, MISO of each SPI, RX of each UART (R519). -/
def inputOnly (n : Nat) : Bool := (decide (n < 64) && n % 4 == 3) || [116, 148, 166, 173, 179, 181].contains n

/-- Reset state of a pin from the fuse map, as the output levels of `Out.pin` (R457). -/
def pinLevel (s : Dev) (n : Nat) : Nat :=
  let c := bits (getF s F.FUSE_PINMAP_PINS (n / 16)) (2 * (n % 16)) 2
  match (if inputOnly n ∧ 2 ≤ c then 1 else c) with | 0 => 2 | 1 => 3 | 2 => 0 | _ => 1

/-- The pins take their fuse-map states. -/
def fusePins (s : Dev) (l : List Nat) : Dev := emits s (l.map fun n => .pin n (pinLevel s n))

/-! TDM_SET (R233 to R235). -/

/-- A TDM_SET's operand fields in TDM_CFG's terms (R237, R351). -/
def tdmFields (d : Bytes) : List (Fld × Nat) :=
  let a := le d 24 1
  let b := le d 25 1
  [(F.TDM_CFG_ENABLE, bits a 4 1), (F.TDM_CFG_RATE, bits a 7 1), (F.TDM_CFG_CLOCK, bits b 0 1), (F.TDM_CFG_SLOTS, bits (le d 26 1) 0 6),
   (F.TDM_CFG_WIDTH, bits (le d 27 1) 0 6), (F.TDM_CFG_OFFSET, bits (le d 28 1) 0 5), (F.TDM_CFG_FRAME_BCLK, bits (le d 30 2) 0 11),
   (F.TDM_CFG_FS_WIDTH, bits b 1 1), (F.TDM_CFG_FS_POL, bits b 2 1), (F.TDM_CFG_EDGE, bits b 3 1), (F.TDM_CFG_SDO_IDLE, bits b 4 1),
   (F.TDM_CFG_STEER_BW, bits b 5 2), (F.TDM_CFG_STEER_CH, le d 40 2)]

/-- STEER_CH and its slots lie in one source's block (R226). -/
def steerOk (s : Dev) (p ch n : Nat) : Bool :=
  if ch < 0xC000 then decide (ch % 32 + n ≤ 32)
  else match flowOfChan s p 0 ch with
    | none => false
    | some q => decide (ch + n ≤ flowFirst q.2 + flowChans q.2)

/-- An enabled tap in port `p`'s block of destination channels blocks a change of RATE to `rate` (R234). -/
def rateBlocked (s : Dev) (p rate : Nat) : Bool :=
  s.ctl.taps.any fun q =>
    let dc := q.1 / 32
    decide (0xF800 + 32 * p ≤ dc ∧ dc < 0xF800 + 32 * p + 32) && bit q.2 42 && (bit q.2 45 != (rate == 1))

/-- The checks of TDM_SET in the order of R342 (R233, R234). -/
def tdmSetChecks (s : Dev) (j : JRec) : Option Refuse :=
  let d := j.desc
  let a := le d 24 1
  let p := bits a 0 4
  let pl := bits a 5 2
  let rate := bits a 7 1
  let slots := bits (le d 26 1) 0 6
  let w := bits (le d 27 1) 0 6
  let fb := bits (le d 30 2) 0 11
  let vd := le d 42 2
  let v := hVal (dstOf s.ctl.pair vd)
  let steered := bit (le d 25 1) 0
  let maxS := if rate = 1 then 16 else 32
  let chPlane := if s.ctl.pair then pl else 0
  checksOf s j gdet
      [(pl == 3, stInvalid, gdet 24), (bits (le d 25 1) 5 2 == 3, stInvalid, gdet 25),
       (vd != 0xFFFF && hStatus (dstOf s.ctl.pair vd) == stInvalid, stInvalid, gdet 42)]
      [(s.ctl.pair && pl == 2, stRange, gdet 24), (slots == 0 || decide (maxS < slots), stRange, gdet 26),
       (decide (w < 16) || decide (32 < w), stRange, gdet 27),
       (decide (fb < bits (le d 28 1) 0 5 + slots * w) || decide ((if rate = 1 then 512 else 1024) < fb), stRange, gdet 30),
       (decide (2 ^ slots ≤ le d 32 4), stRange, gdet 32), (decide (2 ^ slots ≤ le d 36 4), stRange, gdet 36),
       (steered && !steerOk s chPlane (le d 40 2) (if rate = 1 then 2 * slots else slots), stRange, gdet 40),
       (vd != 0xFFFF && (hStatus (dstOf s.ctl.pair vd) == stRange || dstKind v.2 == 2 || (s.ctl.pair && v.1 != pl)), stRange, gdet 42)]
      [(rate != getF s F.TDM_CFG_RATE p && rateBlocked s p rate, stConflict, 0)] []

/-- TDM_SET (R233, R234). -/
def tdmSetCmd (s : Dev) (j : JRec) : Dev :=
  match tdmSetChecks s j with
  | some q => refuse s j q
  | none => scheduleFrame s j fun n => frameStart s n - 108000000

/-- A pending write of the masks of port `p` has landed (R231): `origin` 0 register, 1 TDM_SET. -/
def landMask (s : Dev) (p tx rx origin : Nat) : Dev :=
  let s := setFs s p [(F.TDM_MASK_TX_PEND, tx), (F.TDM_MASK_RX_PEND, rx)]
  setTdm s p { tdmSt s p with maskPend := true, landAt := s.now, origin := origin, inGuard := false }

/-- The pins of port `p` from a restart on (R235): disabled, all four take their fuse-map states (R457); enabled, FS is inactive and SDO
idles by SDO_IDLE (R221). -/
def restartPins (s : Dev) (p : Nat) : Dev :=
  if getF s F.TDM_CFG_ENABLE p = 0 then fusePins s [4 * p, 4 * p + 1, 4 * p + 2, 4 * p + 3]
  else emits s [.pin (4 * p + 1) (getF s F.TDM_CFG_FS_POL p), .pin (4 * p + 2) (2 * getF s F.TDM_CFG_SDO_IDLE p)]

/-- Start the port afresh with a new format (R235): FS held inactive until 48 grid instants on. -/
def restartPort (s : Dev) (p : Nat) : Dev :=
  let s := restartPins s p
  let x := tdmSt s p
  let s := setTdm s p { x with j0 := nextGrid s.now, firstAt := none, frames := 0, rx := [], fifo := [], lastOut := [],
                               clampAt := none, bitsC := [], inGuard := false }
  setFs s p [(F.TDM_STAT_STATE, getF s F.TDM_CFG_ENABLE p), (F.TDM_STEER_OFFSET, 0), (F.TDM_STEER_FILL, 0), (F.TDM_STAT_STEER_LIMIT, 0),
    (F.TDM_STAT_NO_STEER_SRC, 0)]

/-- A TDM_SET that falls due at a grid instant (R234, R235). -/
def applyTdm (s : Dev) (x : Pend) (j : JRec) : Dev :=
  let d := j.desc
  let p := bits (le d 24 1) 0 4
  let fs := tdmFields d
  let q := fenced s x.jsn (mechOf s mkTdm p).jsn fun s =>
    let changed := fs.any fun f => getF s f.1 p != f.2
    let s := setMech s mkTdm p { data := d, jsn := x.jsn }
    let s := setFs s p ((F.TDM_CFG_PLANE, bits (le d 24 1) 5 2) :: (F.TDM_STAT_VIDEO_DEST, le d 42 2) :: fs)
    let s := if changed then restartPort s p else s
    if getF s F.TDM_MASK_TX_PEND p = le d 32 4 ∧ getF s F.TDM_MASK_RX_PEND p = le d 36 4 ∧ !(tdmSt s p).maskPend ∧ !changed then s
    else landMask s p (le d 32 4) (le d 36 4) 1
  if q.1 then finishFrame q.2 x x.frame else decideCmd (unpend q.2 x.jsn) x.jsn stCancelled 0 0

/-- TDM_SETs due at the grid instant now, of one port or of all, in JSN order (R234). -/
def applyTdms (s : Dev) (only : Option Nat) : Dev :=
  s.ctl.pend.foldl (fun s x =>
    if x.op = 0x32 ∧ frameStart s x.frame ≤ s.now then
      match recOf s x.jsn with
      | none => s
      | some j => if only.isSome && only != some (bits (le j.desc 24 1) 0 4) then s else applyTdm s x j
    else s) s

/-- First grid instant of frames after a restart at `j0` (R235). -/
def firstGrid (j0 : Nat) : Nat := j0 + 48

/-- The port has reached the first FS of its new format. -/
def startPort (s : Dev) (p : Nat) : Dev :=
  let x := tdmSt s p
  if getF s F.TDM_STAT_STATE p = 1 ∧ firstGrid x.j0 ≤ gridOf s.now ∧ !s.mclkOff then
    setF (setTdm s p { x with firstAt := some (gridOf s.now) }) F.TDM_STAT_STATE p 2
  else s

/-- TDM_RESTART (R235): at `j0` the port takes a due TDM_SET; 48 grid instants later the new format starts. -/
def tdmRestart (s : Dev) (t p : Nat) : Dev := startPort (applyTdms (s.at t) (some p)) p

/-- TDM_MASK_WRITE (R231): a write of both halves lands in the port's clock domain. -/
def tdmMaskWrite (s : Dev) (t p tx rx : Nat) : Dev := landMask (s.at t) p (tx % 2 ^ 32) (rx % 2 ^ 32) 0

/-! Channel status (R222, R229, R230). -/

/-- One step of the AES3 CRCC on bit `b`, x⁸ + x⁴ + x³ + x² + 1, least significant first (PRESUMED from AES3, log entry 24). -/
def crccStep (c b : Nat) : Nat := if (c + b) % 2 = 1 then (c / 2) ^^^ 0xB8 else c / 2

/-- CRCC of the first 184 bits of a block. -/
def crccOf (blk : Nat) : Nat := (List.range 184).foldl (fun c k => crccStep c (bits blk k 1)) 0xFF

/-- The block that the engine generates (R201): professional, linear PCM, 48 kHz, no emphasis, 24-bit words. -/
def engineBlock : Nat := let b := 0x85 + 0x2C * 2 ^ 16; b + crccOf b * 2 ^ 184

/-- A professional-use block whose CRCC fails (R230). -/
def blockBad (blk : Nat) : Bool := bit blk 0 && crccOf blk != bits blk 184 8

/-- Bits [31:4] of a word hold an even number of ones (R222). -/
def parityOk (w : Nat) : Bool := ((List.range 28).map fun k => bits w (4 + k) 1).sum % 2 == 0

/-- The slot word of a sample (R222): P makes bits [31:4] even. -/
def slotWord (o : OutSamp) (pos start : Nat) : Nat :=
  let w := usgn 24 o.val * 256 + o.v * 128 + o.u * 64 + bits o.blk (pos % 192) 1 * 32
  w + (if parityOk w then 0 else 16) + start * 8

/-- The bits of a word that WIDTH carries (R222). -/
def clipWord (w width : Nat) : Nat := w / 2 ^ (32 - width) * 2 ^ (32 - width)

/-- The sample of a received word: V, U and C exist from WIDTH 29 on (R222). -/
def wordSample (w width blk : Nat) : OutSamp :=
  { val := sgn 24 (w / 256), v := if 29 ≤ width then bits w 7 1 else 0, u := if 29 ≤ width then bits w 6 1 else 0, blk := blk }

/-! Frames (R224, R228 to R231). -/

/-- Plane `q` serves a TDM port (R228). -/
def serves (s : Dev) (q : Nat) : Bool :=
  let st := planeState s q
  (st == 3 || st == 4) && !bit (getF s F.FLT_STATUS_BITS 0) (23 + q)

/-- Choose the plane that serves port `p` (R228): AUTO moves away from a plane once it has stopped serving for 1 µs. -/
def choosePlane (s : Dev) (p : Nat) : Dev :=
  let sel := getF s F.TDM_CFG_PLANE p
  let act := getF s F.TDM_STAT_PLANE_ACT p
  let x := tdmSt s p
  let s :=
    if sel ≠ 2 then setF s F.TDM_STAT_PLANE_ACT p sel
    else if serves s act then setTdm s p { x with downAt := none }
    else
      let since := x.downAt.getD (if (planeOf s act).since ≤ s.now ∧ planeState s act ≠ 3 ∧ planeState s act ≠ 4 then (planeOf s act).since else s.now)
      let s := setTdm s p { x with downAt := some since }
      if serves s (1 - act) && decide (since + 54000 ≤ s.now) then
        setF (setTdm s p { x with downAt := none }) F.TDM_STAT_PLANE_ACT p (1 - act) else s
  setF s F.TDM_STAT_SILENT p (b2n (!serves s (getF s F.TDM_STAT_PLANE_ACT p)))

/-- Make waiting masks active at this FS edge if the latest write is old enough (R231, R232). -/
def activateMasks (s : Dev) (p : Nat) : Dev :=
  let x := tdmSt s p
  let per := if getF s F.TDM_CFG_RATE p = 1 then samplePeriod / 2 else samplePeriod
  if !x.maskPend then s
  else if x.frames ≠ 0 ∧ (s.now - x.landAt) * getF s F.TDM_CFG_FRAME_BCLK p < 2 * per then setTdm s p { x with inGuard := true }
  else
    let s := setFs s p [(F.TDM_MASK_ACT_TX_ACT, getF s F.TDM_MASK_TX_PEND p), (F.TDM_MASK_ACT_RX_ACT, getF s F.TDM_MASK_RX_PEND p)]
    raise (setTdm s p { x with maskPend := false, inGuard := false }) 0x15 39 (if x.origin = 1 then (mechOf s mkTdm p).jsn else 0)
      (p + b2n x.inGuard * 16 + x.origin * 32)

/-- One received slot (R222, R230): parity, channel status from a slot's B on, and the word that the slot yields. -/
def rxSlot (p width : Nat) (s : Dev) (k w : Nat) : Dev × Nat :=
  let w := clipWord w width
  if width < 29 then (s, w)
  else
    let good := parityOk w
    let s := if good then s else satAdd s F.TDM_ERRCNT_PARITY p 1
    let x := tdmSt s p
    let out := if good then w else mget 0 x.last k
    let g := mget (0, 0) x.bitsC k
    let pos := if bit w 3 then 0 else g.1
    let acc := (if bit w 3 then 0 else g.2) + bits w 5 1 * 2 ^ pos
    let x := { x with last := mset 0 x.last k out }
    if g.1 = 0 ∧ !bit w 3 then (setTdm s p x, out)
    else if pos + 1 < 192 then (setTdm s p { x with bitsC := mset (0, 0) x.bitsC k (pos + 1, acc) }, out)
    else
      let x := { x with bitsC := mset (0, 0) x.bitsC k (0, 0) }
      if blockBad acc then (satAdd (setTdm s p x) F.TDM_ERRCNT_CRCC p 1, out)
      else (setTdm s p { x with blk := mset 0 x.blk k acc }, out)

/-- The received words of a frame: none where the slot is masked off or absent (R222, R231). -/
def rxFrame (s : Dev) (p : Nat) (words : List Nat) : Dev × List (Option Nat) :=
  let width := getF s F.TDM_CFG_WIDTH p
  let mask := getF s F.TDM_MASK_ACT_RX_ACT p
  (List.range (getF s F.TDM_CFG_SLOTS p)).foldl (fun (a : Dev × List (Option Nat)) k =>
    if bit mask k then let q := rxSlot p width a.1 k (words.getD k 0); (q.1, a.2 ++ [some q.2]) else (a.1, a.2 ++ [none])) (s, [])

/-- Weight of a port's samples in 1/48 (R235): ramps down over the 1 ms before a restart, and up from the first frame. -/
def portRamp (s : Dev) (p j lag : Nat) : Nat :=
  let x := tdmSt s p
  let up := match x.firstAt with | none => 0 | some a => min 48 (j + 1 - (a + lag))
  let downs := s.ctl.pend.filterMap fun q =>
    if q.op = 0x32 then (match recOf s q.jsn with
      | some r => if bits (le r.desc 24 1) 0 4 = p ∧ (tdmFields r.desc).any (fun f => getF s f.1 p != f.2) then
          some (gridOf (frameStart s q.frame + samplePeriod - 1)) else none
      | none => none) else none
  downs.foldl (fun w j0 => if j0 ≤ j + 48 then min w (j0 - j) else w) up

/-- Scale a sample by a weight in 1/48. -/
def scale48 (w : Nat) (v : Int) : Int := if 48 ≤ w then v else (2 * v * w + 48) / 96

/-- Silence with V = 1 (R227, R228). -/
def deadSamp : OutSamp := { v := 1 }

/-- The send samples of a HOUSE frame (R224): output sample j − 2 of the port's destination channels. -/
def houseSend (s : Dev) (p j half : Nat) : List OutSamp :=
  let rate := getF s F.TDM_CFG_RATE p
  let q := getF s F.TDM_STAT_PLANE_ACT p
  let hist := ((audSt s q).tdmOut.find? fun h => h.1 + 2 == j).map (·.2)
  (List.range (getF s F.TDM_CFG_SLOTS p)).map fun k =>
    if getF s F.TDM_STAT_SILENT p = 1 then deadSamp
    else
      let o := mget {} (hist.getD []) (0xF800 + 32 * p + (if rate = 1 then 2 * k + half else k))
      { o with val := scale48 (portRamp s p j 0) o.val }

/-- Steered send (R226, R227): samples that arrived enter the 64-frame FIFO, one frame leaves; at 62 frames one is dropped, at 2
the last is repeated. The loop's demand is a free value held within ±200 ppm. An empty `arrived` source is absent. -/
def steerSend (s : Dev) (p : Nat) (arrived : List (List OutSamp)) (absent : Bool) : Dev × List OutSamp :=
  let slots := getF s F.TDM_CFG_SLOTS p
  let dead := List.replicate slots deadSamp
  if absent then
    (setFs (setTdm s p { tdmSt s p with fifo := [], clampAt := none }) p
      [(F.TDM_STAT_SILENT, 1), (F.TDM_STAT_NO_STEER_SRC, 1), (F.TDM_STEER_OFFSET, 0), (F.TDM_STEER_FILL, 0), (F.TDM_STAT_STEER_LIMIT, 0)], dead)
  else
    let back := getF s F.TDM_STAT_NO_STEER_SRC p == 1 || (tdmSt s p).frames == 0
    let x := tdmSt s p
    let f0 := x.fifo ++ arrived
    let f := if back then List.replicate (32 - f0.length) (List.replicate slots ({ val := 0 } : OutSamp)) ++ f0.drop (f0.length - 32) else f0
    let n := f.length
    let slip := decide (62 ≤ n) || decide (n ≤ 2)
    let f := if 62 ≤ n then f.drop 1 else f
    let out := if n ≤ 2 then (if x.lastOut.isEmpty then f.headD dead else x.lastOut) else f.headD dead
    let f := if n ≤ 2 then f else f.drop 1
    let q := takeFree s 32
    let raw := if back then 0 else sgn 32 q.1
    let off := clampI 200000000 raw
    let hit := decide (off = 200000000 ∨ off = -200000000)
    let s := setTdm q.2 p { x with fifo := f, lastOut := out, clampAt := if hit then some (x.clampAt.getD s.now) else none }
    let s := setFs s p [(F.TDM_STAT_SILENT, 0), (F.TDM_STAT_NO_STEER_SRC, 0), (F.TDM_STEER_OFFSET, usgn 32 off), (F.TDM_STEER_FILL, f.length)]
    let s := if hit then s else setF s F.TDM_STAT_STEER_LIMIT p 0
    (if slip then satAdd s F.TDM_ERRCNT_SLIP p 1 else s, out)

/-- A steered frame (R226, R228): silent while the plane that the port is served by does not serve. -/
def steerFrame (s : Dev) (p : Nat) (arrived : List (List OutSamp)) (absent : Bool) : Dev × List OutSamp :=
  let dead := getF s F.TDM_STAT_SILENT p == 1 && !serves s (getF s F.TDM_STAT_PLANE_ACT p)
  let q := steerSend s p arrived absent
  if dead then (setF q.1 F.TDM_STAT_SILENT p 1, q.2.map fun _ => deadSamp) else q

/-- TDM_FRAME (R221 to R231; a high-impedance slot is put out as 2³²): an FS launch edge of port `p` at time `t`, at which a due
TDM_SET applies first (R234): the words received in the frame that it begins, and in STEERED mode the source frames that arrived
since the last. -/
def tdmFrame (s : Dev) (t p : Nat) (words : List Nat) (arrived : List (List OutSamp)) (absent : Bool) : Dev :=
  let s := startPort (applyTdms (s.at t) (some p)) p
  if getF s F.TDM_STAT_STATE p ≠ 2 ∨ s.mclkOff then s
  else
    let rate := getF s F.TDM_CFG_RATE p
    let steered := getF s F.TDM_CFG_CLOCK p == 1
    let i := t / (samplePeriod / 2)
    let j := gridOf t
    let s := choosePlane s p
    let s := activateMasks s p
    let r := rxFrame s p words
    let s := setTdm r.1 p { tdmSt r.1 p with rx := ((if rate = 1 then i else j, r.2) :: (tdmSt r.1 p).rx).take 64 }
    let n := (tdmSt s p).frames
    let o := if steered then steerFrame s p arrived absent else (s, houseSend s p j (i % 2))
    let s := o.1
    let idx := if steered then n else if rate = 1 then i else j
    let x := tdmSt s p
    let lat := if idx % 192 = 0 ∨ n = 0 then
        ((List.range o.2.length).foldl (fun m k => mset 0 m k ((o.2.getD k deadSamp).blk)) x.txBlk) else x.txBlk
    let s := setTdm s p { x with frames := n + 1, txBlk := lat }
    let tx := getF s F.TDM_MASK_ACT_TX_ACT p
    let width := getF s F.TDM_CFG_WIDTH p
    emit s (.tdm p ((List.range o.2.length).map fun k =>
      if bit tx k then clipWord (slotWord (let z : OutSamp := o.2.getD k deadSamp; { z with blk := mget 0 lat k }) idx (b2n (idx % 192 == 0))) width
      else getF s F.TDM_CFG_SDO_IDLE p * 2 ^ 32))

/-- TDM_STEER_LIMIT (R227): the loop has stood at its ±200 ppm clamp for 1 s. -/
def tdmSteerLimit (s : Dev) (t p : Nat) : Dev :=
  let s := s.at t
  match (tdmSt s p).clampAt with
  | none => s
  | some a => if a + tickSec ≤ t then setF s F.TDM_STAT_STEER_LIMIT p 1 else s

/-! Clock faults (R236). -/

/-- TDM_MCLK_LOSS (R236): the audio master clock has been absent for 10 µs. -/
def tdmMclkLoss (s : Dev) (t : Nat) : Dev :=
  let s := s.at t
  if s.mclkOff then s else faultEvent { s with mclkOff := true } 39 0x01 0

/-- TDM_MCLK_RETURN (R236): 1 ms after the clock is back every enabled port restarts. -/
def tdmMclkReturn (s : Dev) (t : Nat) : Dev :=
  let s := { s.at t with mclkOff := false }
  (List.range 16).foldl (fun s p => if getF s F.TDM_CFG_ENABLE p = 1 then restartPort s p else s) s

/-- TDM_BCLK_CHECK (R236): `count` bit clocks in 1 ms against the programmed rate, 1000 ppm allowed. -/
def tdmBclkCheck (s : Dev) (t p count : Nat) : Dev :=
  let s := s.at t
  let want := getF s F.TDM_CFG_FRAME_BCLK p * (if getF s F.TDM_CFG_RATE p = 1 then 96 else 48)
  if getF s F.TDM_STAT_STATE p = 2 ∧ !s.mclkOff ∧ want < 1000 * (((count : Int) - want).natAbs) then faultEvent s 39 0x06 p else s

/-! The commands of this file. -/

/-- TDM_SET (R233): validation of the accepted command `jsn`. -/
def execTdmSet (t jsn : Nat) (s : State) : Host.Outcome State Fault Refusal :=
  .next { s with dev := withCmd s.dev t jsn 0x32 tdmSetCmd }

/-- TDM_FRAME (R224, R229): a frame of TDM port `p`: the words received in it, and the steering source's frames that have arrived;
`absent` where that source is absent or of kind NONE. -/
def execTdmFrame (t : Nat) (p : Fin 16) (words : List Nat) (arrived : List (List OutSamp)) (absent : Bool) (s : State) : Host.Outcome State Fault Refusal :=
  .next { s with dev := tdmFrame s.dev t p words arrived absent }

/-- TDM_MASK_WRITE (R231): both halves of TDM_MASK are written. -/
def execTdmMaskWrite (t : Nat) (p : Fin 16) (tx rx : Nat) (s : State) : Host.Outcome State Fault Refusal :=
  .next { s with dev := tdmMaskWrite s.dev t p tx rx }

/-- TDM_STEER_LIMIT (R227): the steered rate is at its limit. -/
def execTdmSteerLimit (t : Nat) (p : Fin 16) (s : State) : Host.Outcome State Fault Refusal :=
  .next { s with dev := tdmSteerLimit s.dev t p }

/-- TDM_RESTART (R235): a grid instant at which port `p` restarts or starts its new format. -/
def execTdmRestart (t : Nat) (p : Fin 16) (s : State) : Host.Outcome State Fault Refusal :=
  .next { s with dev := tdmRestart s.dev t p }

/-- TDM_MCLK_LOSS (R236): the audio master clock stops. -/
def execTdmMclkLoss (t : Nat) (s : State) : Host.Outcome State Fault Refusal :=
  .next { s with dev := tdmMclkLoss s.dev t }

/-- TDM_MCLK_RETURN (R236): the audio master clock returns. -/
def execTdmMclkReturn (t : Nat) (s : State) : Host.Outcome State Fault Refusal :=
  .next { s with dev := tdmMclkReturn s.dev t }

/-- TDM_BCLK_CHECK (R236): the bit-clock check of port `p` counts `count` edges. -/
def execTdmBclkCheck (t : Nat) (p : Fin 16) (count : Nat) (s : State) : Host.Outcome State Fault Refusal :=
  .next { s with dev := tdmBclkCheck s.dev t p count }

end Sys2Proof.Machine
end

