-- ==== Sys2Proof/Machine/Audio.lean ====
section
/-! DEFINITION. The audio engine (R192 to R220): AUDIO_MAP, AUDIO_FOLLOW, the grid sample with its taps, ramps, crossfades,
mutes and rate converters. Gains and weights are exact rationals. -/

namespace Sys2Proof.Machine

/-! Table entries (R198, R199). -/

/-- SRC of an entry. -/
def tapSrc (e : Nat) : Nat := bits e 0 16
/-- SRC_PLANE. -/
def tapPlane (e : Nat) : Nat := bits e 16 1
/-- GAIN as a signed number of 1/131,072. -/
def tapGainRaw (e : Nat) : Int := sgn 20 (bits e 17 20)
/-- RAMP. -/
def tapRamp (e : Nat) : Nat := bits e 37 5
/-- EN. -/
def tapEn (e : Nat) : Bool := bit e 42
/-- POL. -/
def tapPol (e : Nat) : Bool := bit e 43
/-- FOLLOW. -/
def tapFollow (e : Nat) : Bool := bit e 44
/-- PAIR. -/
def tapPair (e : Nat) : Bool := bit e 45
/-- Gain with the sign of POL applied (R200). -/
def tapGain (e : Nat) : Rat := (if tapPol e then -(tapGainRaw e) else tapGainRaw e) / 131072

/-- Ramp time in samples of a RAMP code (R199); code 0 is the destination's FADE. -/
def rampLen (code fade : Nat) : Nat :=
  match code with
  | 0 => 24 * fade | 1 => 0 | 2 => 24 | 3 => 48 | 4 => 96 | 5 => 240 | 6 => 480 | 7 => 960 | 8 => 2400 | 9 => 4800
  | 10 => 9600 | 11 => 24000 | 12 => 48000 | 13 => 96000 | _ => 240000

/-- Entry `e` of the table: 32 × destination channel + tap slot. -/
def tapAt (s : Dev) (e : Nat) : Nat := mget 0 s.ctl.taps e

/-- The video destination associated with a destination channel (R193), as local index; a TDM port's is the one adopted (R235). -/
def assocDest (s : Dev) (p dc : Nat) : Option Nat :=
  if dc < 0x9000 then some (dc / 32)
  else if dc < 0xC000 then some (1152 + (dc - 0x9000) / 32)
  else if dc < 0xF800 then
    match flowOfChan s p 1 dc with
    | none => none
    | some q => let h := le q.2 58 2; if h = 0xFFFF then none else some (hVal (dstOf s.ctl.pair h)).2
  else
    let h := (tdmSt s ((dc - 0xF800) / 32)).assoc
    if h = 0xFFFF then none else some (hVal (dstOf s.ctl.pair h)).2

/-- FADE of a destination in units of 0.5 ms (R209). -/
def fadeOf (s : Dev) (p d : Nat) : Nat := getF s F.AUD_FOLLOW_FADE (ix p d)

/-- FADE that RAMP code 0 takes at a destination channel; the default where no destination is associated. -/
def chanFade (s : Dev) (p dc : Nat) : Nat := match assocDest s p dc with | none => 4 | some d => fadeOf s p d

/-! AUDIO_MAP (R203 to R206, R215). -/

/-- One block of an AUDIO_MAP buffer: its header fields and where its entries start. -/
structure MapBlk where
  first : Nat
  count : Nat
  tap : Nat
  taps : Nat
  op : Nat
  resv : Nat
  off : Nat
deriving DecidableEq, Repr

/-- Entries of a block. -/
def MapBlk.entries (b : MapBlk) : Nat := if b.op = 0 then b.count * b.taps else 0

/-- The blocks of a buffer from byte `off` on. -/
def mapBlocks (buf : Bytes) : Nat → Nat → List MapBlk
  | 0, _ => []
  | k + 1, off =>
    let h := buf.drop off
    let b : MapBlk := { first := le h 0 2, count := le h 2 2, tap := le h 4 1, taps := le h 5 1, op := le h 6 1, resv := le h 7 1, off := off + 8 }
    b :: mapBlocks buf k (off + 8 + 8 * b.entries)

/-- Entry `i` of a block: table index and value. -/
def blkEntry (buf : Bytes) (b : MapBlk) (i : Nat) : Nat × Nat :=
  (32 * (b.first + i / b.taps) + b.tap + i % b.taps, le buf (b.off + 8 * i) 8)

/-- AUDIO_MAP's detail word (R204). -/
def mapDetail (blk entry : Nat) : Nat := blk % 4096 + entry % 65536 * 4096

/-- An entry breaks an INVALID rule of R204. -/
def entryInvalid (s : Dev) (q : Nat × Nat) : Bool :=
  let e := q.2
  decide (15 ≤ tapRamp e) || decide (2 ^ 46 ≤ e) || (!tapFollow e && decide (0xFA00 ≤ tapSrc e)) ||
    (tapFollow e && decide (32 ≤ tapSrc e)) || (!s.ctl.pair && tapPlane e == 1) ||
    (tapPair e && (q.1 / 32 % 2 == 1 || tapSrc e % 2 == 1))

/-- GAIN beyond ±521,807 (R199). -/
def entryRange (q : Nat × Nat) : Bool := decide (521807 < (tapGainRaw q.2).natAbs)

/-- The first entry of a block that fails a test. -/
def blkFind (buf : Bytes) (b : MapBlk) (f : Nat × Nat → Bool) : Option Nat :=
  (List.range b.entries).find? fun i => f (blkEntry buf b i)

/-- The first block and entry that fail: block tests read entry 0. -/
def mapFind (buf : Bytes) (bs : List MapBlk) (g : MapBlk → Bool) (f : Nat × Nat → Bool) : Option (Nat × Nat) :=
  ((List.range bs.length).zip bs).findSome? fun z => if g z.2 then some (z.1, 0) else (blkFind buf z.2 f).map fun i => (z.1, i)

/-- What a block writes, as (table index, new value) from the table as it stands. -/
def blkWrites (s : Dev) (buf : Bytes) (b : MapBlk) : List (Nat × Nat) :=
  if b.op = 0 then (List.range b.entries).map (blkEntry buf b)
  else if b.op = 1 then
    (List.range (b.count * b.taps)).map fun i =>
      let e := 32 * (b.first + i / b.taps) + b.tap + i % b.taps
      (e, putBits (tapAt s e) 42 1 0)
  else []

/-- Taps of destination channel `dc` after writes `ws`. -/
def tapsAfter (s : Dev) (ws : List (Nat × Nat)) (dc : Nat) : List Nat :=
  (List.range 32).map fun k =>
    let e := 32 * dc + k
    match ws.reverse.find? fun w => w.1 == e with | none => tapAt s e | some w => w.2

/-- A destination would mix enabled taps with and without PAIR (R202). -/
def mixedPair (s : Dev) (ws : List (Nat × Nat)) (dc : Nat) : Bool :=
  let on := (tapsAfter s ws dc).filter tapEn
  on.any tapPair && on.any fun e => !tapPair e

/-- Members of an ASRC set after the blocks (R215). -/
def asrcAfter (set : List Nat) (bs : List MapBlk) : List Nat :=
  bs.foldl (fun a b =>
    let r := (List.range b.count).map fun i => b.first + i
    if b.op = 2 then a ++ r.filter (fun c => !a.contains c) else if b.op = 3 then a.filter (fun c => !r.contains c) else a) set

/-- Blocks of a journalled AUDIO_MAP. -/
def mapOf (j : JRec) : List MapBlk := mapBlocks j.buf (le j.buf 0 2) 16

/-- Source channels assigned to ASRC channels by the applied table and every AUDIO_MAP that waits (R215). -/
def asrcSet (s : Dev) : List Nat :=
  s.ctl.pend.foldl (fun a q => if q.op = 0x30 then (match recOf s q.jsn with | none => a | some j => asrcAfter a (mapOf j)) else a)
    (s.ctl.asrc.map (·.1))

/-- Source channel `ch` is a member of a 96 kHz pair (R202): by its flow's or port's rate, or as last reported. -/
def chanPair (s : Dev) (p ch : Nat) : Bool :=
  if 0xF800 ≤ ch then getF s F.TDM_CFG_RATE ((ch - 0xF800) / 32) == 1
  else match flowOfChan s p 0 ch with
    | none => getF s F.AUD_SRCSTAT_PAIR (ix p ch) == 1
    | some f => bit (le f.2 55 1) 4

/-- A member of a 96 kHz pair is assigned otherwise than as a whole (R215). -/
def asrcParity (s : Dev) (b : MapBlk) : Bool :=
  (b.op == 2) && (b.first % 2 == 1 || b.count % 2 == 1) &&
    (List.range b.count).any fun i => chanPair s 0 (b.first + i) || chanPair s 1 (b.first + i)

/-- The checks of AUDIO_MAP in the order of R342 (R203 to R205). -/
def audioMapChecks (s : Dev) (j : JRec) : Option Refuse :=
  let buf := j.buf
  let n := le buf 0 2
  let ok := !bufOver j && decide (16 ≤ buf.length)
  let bs := if ok then mapOf j else []
  let total := 16 + (bs.map fun b => 8 + 8 * b.entries).sum
  let len := ok && decide (dBufLen j.desc = total)
  let badBlk := fun (b : MapBlk) => decide (4 ≤ b.op) || b.resv != 0 || (decide (2 ≤ b.op) && (b.tap != 0 || b.taps != 0)) ||
    (decide (2 ≤ b.op) && decide (0xFA00 < b.first + b.count)) || asrcParity s b
  let inv := if len then mapFind buf bs badBlk (entryInvalid s) else none
  let badRng := fun (b : MapBlk) => b.count == 0 || decide (4096 < b.count) ||
    (decide (b.op < 2) && (b.taps == 0 || decide (32 < b.tap + b.taps) || decide (0xFA00 < b.first + b.count)))
  let rng := if len then mapFind buf bs badRng entryRange else none
  let ws := if len && inv.isNone && rng.isNone then bs.flatMap (blkWrites s buf) else []
  let mix := if ws.isEmpty then none else mapFind buf bs (fun _ => false) fun q => tapEn q.2 && mixedPair s ws (q.1 / 32)
  let many := len && decide (1024 < (asrcAfter (asrcSet s) bs).length)
  let past := if many then (List.range bs.length).find? fun k => decide (1024 < (asrcAfter (asrcSet s) (bs.take (k + 1))).length) else none
  let det := fun (o : Option (Nat × Nat)) => let v := o.getD (0, 0); mapDetail v.1 v.2
  checksOf s j (fun _ => 0)
      [(ok && le buf 2 14 != 0, stInvalid, 0), (!bufOver j && !len, stInvalid, 0), (inv.isSome, stInvalid, det inv)]
      [(ok && (n == 0 || decide (4096 < n)), stRange, 0), (ok && decide (65536 < (bs.map MapBlk.entries).sum), stRange, 0),
       (rng.isSome, stRange, det rng), (mix.isSome, stRange, det mix)]
      [] [(many, stBudget, mapDetail (past.getD 0) 0), (decide (65536 < pendCount s + 1), stBusy, 0)]

/-- AUDIO_MAP (R203 to R205). -/
def audioMapCmd (s : Dev) (j : JRec) : Dev :=
  match audioMapChecks s j with
  | some q => refuse s j q
  | none => scheduleFrame s j (dlMs s)

/-! Ramps (R206). -/

/-- Present value of a ramp and the ramp one sample on. -/
def rampStep (r : Ramp) : Rat × Ramp :=
  match (r.segs.dropWhile fun q => q.2 == 0), (r.segs.takeWhile fun q => q.2 == 0).getLast? with
  | [], z => let v := (z.map (·.1)).getD r.start; (v, { start := v })
  | (tgt, len) :: rest, z =>
    let st := (z.map (·.1)).getD r.start
    let v : Rat := st + (tgt - st) * (r.k + 1 : Nat) / (len : Nat)
    if r.k + 1 = len then (tgt, { start := tgt, k := 0, segs := rest }) else (v, { start := st, k := r.k + 1, segs := (tgt, len) :: rest })

/-- The gain that a ramp has reached. -/
def rampNow (r : Ramp) : Rat :=
  match r.segs with
  | [] => r.start
  | (tgt, len) :: _ => if len = 0 then r.start else r.start + (tgt - r.start) * (r.k : Nat) / (len : Nat)

/-- Effective gain of an entry of plane `p` now (R206). -/
def gainNow (a : AudSt) (e v : Nat) : Rat :=
  match a.taps.find? fun q => q.1 == e with
  | some q => rampNow q.2.ramp
  | none => if tapEn v then tapGain v else 0

/-- A write of entry `e` from `old` to `new` starts its ramps on plane `p` (R206). -/
def writeTap (s : Dev) (p : Nat) (a : AudSt) (e old new : Nat) : AudSt :=
  let len := rampLen (tapRamp new) (chanFade s p (e / 32))
  let g := gainNow a e old
  let run := a.taps.find? fun q => q.1 == e
  let was := tapEn old
  let out := run.bind fun q => q.2.old
  let put := fun (x : TapRt) => { a with taps := mset {} a.taps e x }
  if was && tapEn new then
    if tapSrc old ≠ tapSrc new ∨ tapPlane old ≠ tapPlane new ∨ tapFollow old ≠ tapFollow new then
      put { ent := new, ramp := { segs := [(tapGain new, len)] }, old := some (old, { start := g, segs := [(0, len)] }) }
    else if tapPol old ≠ tapPol new then put { ent := new, ramp := { start := g, segs := [(0, len), (tapGain new, len)] }, old := out }
    else if tapGainRaw old ≠ tapGainRaw new then put { ent := new, ramp := { start := g, segs := [(tapGain new, len)] }, old := out }
    else a
  else if tapEn new then put { ent := new, ramp := { start := if run.isSome then g else 0, segs := [(tapGain new, len)] }, old := out }
  else if was then put { ent := old, ramp := { start := g, segs := [(0, len)] }, old := out }
  else a

/-- Write one table entry on both planes (R200; log entry 25). -/
def setTap (s : Dev) (w : Nat × Nat) : Dev :=
  let old := tapAt s w.1
  let s := setAud s 0 (writeTap s 0 (audSt s 0) w.1 old w.2)
  let s := setAud s 1 (writeTap s 1 (audSt s 1) w.1 old w.2)
  modCtl s fun c => { c with taps := mset 0 c.taps w.1 w.2 }

/-- AUD_ASRC.FREE of both planes (R216). -/
def syncAsrc (s : Dev) : Dev :=
  let n := 1024 - s.ctl.asrc.length
  setF (setF s F.AUD_ASRC_FREE 0 n) F.AUD_ASRC_FREE 1 n

/-- One block takes effect (R203, R215). -/
def applyBlk (jsn : Nat) (buf : Bytes) (s : Dev) (b : MapBlk) : Dev :=
  let r := (List.range b.count).map fun i => b.first + i
  if b.op = 2 then
    modCtl s fun c => { c with asrc := r.foldl (fun m ch => if m.any (fun q => q.1 == ch) then m else mset 0 m ch jsn) c.asrc }
  else if b.op = 3 then
    let s := modCtl s fun c => { c with asrc := c.asrc.filter fun q => !r.contains q.1 }
    let drop := fun (a : AudSt) => { a with locked := a.locked.filter fun c => !r.contains c, level := a.level.filter fun q => !r.contains q.1 }
    setAud (setAud s 0 (drop (audSt s 0))) 1 (drop (audSt s 1))
  else (blkWrites s buf b).foldl setTap s

/-- An AUDIO_MAP that falls due (R205). -/
def applyMap (s : Dev) (x : Pend) (j : JRec) : Dev :=
  let m := mechOf s mkAudio 0
  let q := fenced s x.jsn m.jsn fun s => syncAsrc ((mapOf j).foldl (applyBlk x.jsn j.buf) (setMech s mkAudio 0 { m with jsn := x.jsn }))
  if q.1 then finishFrame q.2 x x.frame else decideCmd (unpend q.2 x.jsn) x.jsn stCancelled 0 0

/-- AUDIO_MAPs due at the grid instant now, in JSN order (R205). -/
def applyMaps (s : Dev) : Dev :=
  s.ctl.pend.foldl (fun s x =>
    if x.op = 0x30 ∧ frameStart s x.frame ≤ s.now then (match recOf s x.jsn with | none => s | some j => applyMap s x j) else s) s

/-! AUDIO_FOLLOW (R208, R209). -/

/-- The checks of AUDIO_FOLLOW in the order of R342 (R209, R351). -/
def audioFollowChecks (s : Dev) (j : JRec) : Option Refuse :=
  let op := bits (le j.desc 24 1) 0 2
  let cut := bits (le j.desc 24 1) 2 1
  let fade := bits (le j.desc 25 1) 0 6
  let h := le j.desc 26 2
  let src := le j.desc 28 2
  let owner := le j.desc 30 2
  let d := dstOf s.ctl.pair h
  let v := hVal d
  let k := pkey s v.1 v.2
  let so := srcOf s.ctl.pair src
  let sv := hVal so
  let tgt := srcOf s.ctl.pair h
  let unused := (op == 0 && (cut != 0 || src != 0 || owner != 0)) || (op == 1 && fade != 0) || (op == 2 && (cut != 0 || fade != 0 || owner != 0))
  checksOf s j gdet
      [(op == 3, stInvalid, gdet 24), (unused, stInvalid, gdet 24), (decide (op < 2) && hStatus d == stInvalid, stInvalid, gdet 26),
       (op == 2 && hStatus tgt == stInvalid, stInvalid, gdet 26), (op == 1 && hStatus so == stInvalid, stInvalid, gdet 28),
       (op == 2 && src != 0xFFFF && hStatus so == stInvalid, stInvalid, gdet 28), (op == 1 && owner == 0, stInvalid, gdet 30)]
      [(op == 0 && (fade == 0 || decide (40 < fade)), stRange, gdet 25),
       (decide (op < 2) && (hStatus d == stRange || dstKind v.2 == 2), stRange, gdet 26),
       (op == 2 && (hStatus tgt == stRange || decide ((hVal tgt).2 < 1536) || decide (1600 ≤ (hVal tgt).2)), stRange, gdet 26),
       (op == 1 && (hStatus so == stRange || decide (1536 ≤ sv.2)), stRange, gdet 28),
       (op == 2 && src != 0xFFFF && (hStatus so == stRange || decide (1536 ≤ sv.2)), stRange, gdet 28)]
      [] [(op == 1 && takeLocked (routeOf s k) owner, stLocked, gdet 30)]

/-- AUDIO_FOLLOW (R209, R351). -/
def audioFollowCmd (s : Dev) (j : JRec) : Dev :=
  let op := bits (le j.desc 24 1) 0 2
  let cut := bits (le j.desc 24 1) 2 1
  let h := le j.desc 26 2
  let src := le j.desc 28 2
  let owner := le j.desc 30 2
  let d := dstOf s.ctl.pair h
  let v := hVal d
  let k := pkey s v.1 v.2
  let so := srcOf s.ctl.pair src
  let sv := hVal so
  match audioFollowChecks s j with
  | some q => refuse s j q
  | none =>
    if op = 1 then
      match chooseFrame s j.flags j.target (itemsDeadline s [(k, false, 0)]) (fun _ => true) with
      | none => refuse s j (stLate, 0)
      | some (n, dfr, why) =>
        schedule s { jsn := j.jsn, op := j.op, frame := n, atFrame := bit j.flags 1 && j.target != 0, deferred := dfr, reason := why,
                     items := [{ idx := 0, key := k, src := sv.2, srcPlane := sv.1, flags := cut, owner := owner }] }
    else scheduleFrame s j (dlMs s)

/-- OP 0 and OP 2 of AUDIO_FOLLOW fall due at a frame start (R209). -/
def applyFollowSet (s : Dev) (x : Pend) (j : JRec) (n : Nat) : Dev :=
  let h := le j.desc 26 2
  let q := if bits (le j.desc 24 1) 0 2 = 0 then
      let v := hVal (dstOf s.ctl.pair h)
      let k := pkey s v.1 v.2
      let m := mechOf s mkFollow k
      let fade := bits (le j.desc 25 1) 0 6
      fenced s x.jsn m.jsn fun s =>
        (planesOf s v.1).foldl (fun s p => setF s F.AUD_FOLLOW_FADE (ix p v.2) fade)
          (withdraw (setMech (setMech s mkFollow k { m with jsn := x.jsn }) mkFade k { aux := fade }) k x.jsn)
    else
      let v := hVal (srcOf s.ctl.pair h)
      let o := hVal (srcOf s.ctl.pair (le j.desc 28 2))
      let k := pkey s v.1 (v.2 - 1536)
      fenced s x.jsn (mechOf s mkOrigin k).jsn fun s =>
        (planesOf s v.1).foldl (fun s p => setFs s (ix p (v.2 - 1536)) [(F.AUD_ORIGIN_PLANE, o.1), (F.AUD_ORIGIN_SOURCE, o.2)])
          (setMech s mkOrigin k { data := leBytes 4 (o.2 + o.1 * 65536), jsn := x.jsn })
  if q.1 then finishFrame q.2 x n else decideCmd (unpend q.2 x.jsn) x.jsn stCancelled 0 0

/-! Source channels (R192, R194, R212 to R215). -/

/-- Channels that an interface carries (R194). -/
def ifaceChans (i : Nat) : Nat := match i with | 0 => 0 | 1 => 16 | 2 => 16 | 5 => 16 | _ => 32

/-- Channel `ch` of plane `q` is carried by TDM receive slot `k` of a port (R224, R225): the word of house instant j − 24. -/
def tdmWord (s : Dev) (q ch j : Nat) : Option (Nat × Nat) :=
  let p := (ch - 0xF800) / 32
  let c := (ch - 0xF800) % 32
  let rate := getF s F.TDM_CFG_RATE p
  let slot := if rate = 1 then c / 2 else c
  let idx := if rate = 1 then 2 * (j - 24) + c % 2 else j - 24
  let here := !s.ctl.pair || getF s F.TDM_CFG_PLANE p == q
  match (tdmSt s p).rx.find? fun h => h.1 == idx with
  | none => none
  | some h => if here && decide (48 ≤ j) then (h.2.getD slot none).map fun w => (w, slot) else none

/-- Weight in 1/48 of an FSYNC source's samples around its seams (R105): down before each seam and up after it. -/
def seamWeight (s : Dev) (q n j : Nat) : Nat :=
  let per := framePeriod ((srcFmt s q n) % 16)
  (fsSt s q n).seams.foldl (fun w m =>
    let at' := (m * per + samplePeriod - 1) / samplePeriod
    let i := j - 24
    if at' ≤ i then min w (i - at' + 1) else min w (at' - i - 1)) 48

/-- A source channel as its taps read it (R192, R194, R201, R213 to R215): sample, V, U, block, and whether it is non-PCM. `obs`
are the samples of house instant j − 24 that the inputs hold. -/
structure SrcRead where
  val : Int := 0
  v : Nat := 0
  u : Nat := 0
  blk : Nat := 0
deriving DecidableEq, Repr

/-- The sample is marked non-PCM (R201, R230). -/
def SrcRead.nonPcm (x : SrcRead) : Bool := bit x.blk 1

/-- The channel is flagged UNTIMED (R214). -/
def chanUntimed (s : Dev) (q ch : Nat) (o : Option SampObs) : Bool :=
  if ch < 0xC000 then srcKind s q (ch / 32) == 3 || (match o with | none => false | some x => x.async)
  else if ch < 0xF800 then (match flowOfChan s q 0 ch with | none => false | some f => (audSt s q).offClock.contains f.1)
  else getF s F.TDM_CFG_CLOCK ((ch - 0xF800) / 32) == 1

/-- A source fills the channel (R192, R194). -/
def chanPresent (s : Dev) (q ch j : Nat) (o : Option SampObs) : Bool :=
  if ch < 0x9000 then
    o.isSome && srcKind s q (ch / 32) != 0 && decide (ch % 32 < ifaceChans (getF s F.PLN_SRCSTAT_IFACE (ix q (ch / 32))))
  else if ch < 0xC000 then o.isSome && srcKind s q (ch / 32) != 0
  else if ch < 0xF800 then (flowOfChan s q 0 ch).isSome
  else (tdmWord s q ch j).isSome

/-- Read source channel `ch` of plane `q`; a locked ASRC channel's output of any but a synchronous TIMED source is the free value
given for it (R215: conversion is bounded in quality only). -/
def readChan (s : Dev) (obs : List SampObs) (j : Nat) (free : Nat → Nat → Int) (q ch : Nat) : SrcRead :=
  let o := obs.find? fun x => x.plane == q && x.ch == ch
  let a := audSt s q
  let asrc := s.ctl.asrc.any fun x => x.1 == ch
  if 0xFA00 ≤ ch ∨ !chanPresent s q ch j o then {}
  else
    let raw : SrcRead :=
      if 0xF800 ≤ ch then
        match tdmWord s q ch j with
        | none => {}
        | some w =>
          let p := (ch - 0xF800) / 32
          let z := wordSample w.1 (getF s F.TDM_CFG_WIDTH p) (mget 0 (tdmSt s p).blk w.2)
          { val := scale48 (portRamp s p j 1) z.val, v := z.v, u := z.u, blk := z.blk }
      else
        match o with
        | none => { val := mget 0 a.good ch }
        | some x => { val := if x.copy then x.val else mget 0 a.good ch, v := x.v, u := x.u, blk := x.blk }
    let async := match o with | none => false | some x => x.async
    if asrc ∧ !(ch < 0xC000 ∧ srcKind s q (ch / 32) = 1 ∧ !async) then
      if raw.nonPcm then { v := 1 }
      else { val := scale48 (mget 0 a.level ch) (free q ch) }
    else if chanUntimed s q ch o then {}
    else
      let w := if ch < 0xC000 ∧ srcKind s q (ch / 32) = 2 then seamWeight s q (ch / 32) j else 48
      { raw with val := scale48 (min w (48 - mget 0 a.hush ch)) raw.val }

/-- The channel is one of an audio flow, or aliases one at an ST 2110-20 port (R192, R213). -/
def isFlowChan (s : Dev) (p ch : Nat) : Bool :=
  decide (0xC000 ≤ ch ∧ ch < 0xF800) ||
    (decide (0x9000 ≤ ch ∧ ch < 0xC000) && flowEssence (flowRec s (videoFlow s p ((ch - 0x9000) / 32) 0)) == 0)

/-- Bookkeeping of last good samples (R131), IP channels (R213) and ASRC ramps (R215) at one grid instant of plane `p`. -/
def trackObs (s : Dev) (p : Nat) (obs : List SampObs) : Dev :=
  (obs.filter fun o => o.plane == p).foldl (fun s o =>
    let a := audSt s p
    let ip := isFlowChan s p o.ch
    let s := if ip && !o.copy && decide (0xC000 ≤ o.ch) then satAdd s F.AUD_MISSCNT_COUNT p 1 else s
    let a := { a with good := if o.copy then mset 0 a.good o.ch o.val else a.good }
    let n := if o.copy then 0 else mget 0 a.miss o.ch + 1
    let h := mget 0 a.hush o.ch
    let a := if ip then { a with
        miss := mset 0 a.miss o.ch n
        hush := mset 0 a.hush o.ch (if 48 < n then min 48 (h + 1) else h - 1)
        missed := if o.copy ∨ a.missed.contains o.ch then a.missed else o.ch :: a.missed } else a
    let on := a.locked.contains o.ch && o.inRate
    let l := mget 0 a.level o.ch
    let a := { a with
      locked := if o.inRate then a.locked else a.locked.filter fun c => c != o.ch
      level := mset 0 a.level o.ch (if on then min 48 (l + 1) else l - 1) }
    setAud s p a) s

/-! Destinations (R207, R210, R211). -/

/-- The source whose audio a source index lends (R207): a compositor output or generator its origin. -/
def lender (s : Dev) (p : Nat) (q : Nat × Nat) : Nat × Nat :=
  if q.2 < 1536 ∨ 1600 ≤ q.2 then q
  else
    let i := ix (if s.ctl.pair then q.1 else p) (q.2 - 1536)
    (getF s F.AUD_ORIGIN_PLANE i, getF s F.AUD_ORIGIN_SOURCE i)

/-- What destination `d`'s FOLLOW taps should read: its follow source, or the fallback it shows (R211). -/
def wantSrc (s : Dev) (p d : Nat) : Nat × Nat :=
  let x := dstSt s p d
  if x.cause ≠ 0 ∧ !x.repeated ∧ x.shown ≠ 0x7FF then lender s p (p, x.shown) else lender s p (followOf s p d)

/-- The destination's channels are muted (R96, R211): fallback BLACK, or frames held or concealed under team policy. -/
def mutes (s : Dev) (p d : Nat) : Bool :=
  let x := dstSt s p d
  x.cause != 0 && ((!x.repeated && x.shown == 0x7FF) || x.cause == 5 || x.cause == 6)

/-- Bring a destination's audio up to the instant: a change of what it should read starts a crossfade, or a cut with ramps of
1 ms where it is not a follow change with FADE (R208, R210, R211). -/
def stepDest (s : Dev) (p d : Nat) : Dev :=
  let a := audSt s p
  let v := mget {} a.dests d
  let cur := (v.xs.getLast?.map (·.dst)).getD v.base
  let want := wantSrc s p d
  let q := s.pln.audioQ.find? fun e => e.1 == ix p d
  let s := { s with pln := { s.pln with audioQ := s.pln.audioQ.filter fun e => e.1 != ix p d } }
  let cut := match q with | none => true | some e => e.2 == 1
  let len := if cut then 96 else 24 * fadeOf s p d
  let xs := if want = cur then v.xs else v.xs ++ [{ dst := want, cut := cut, len := len }]
  let o := if mutes s p d then v.open' - 1 else min 48 (v.open' + 1)
  setAud s p { audSt s p with dests := mset {} a.dests d { v with xs := xs, open' := o } }

/-- Weights of one crossfade at its present sample (R208, R210): outgoing, incoming. -/
def xWeights (x : Xfade) : Rat × Rat :=
  if x.cut then
    (if x.k < 48 then ((47 - x.k : Nat) : Rat) / 48 else 0, if x.k < 48 then 0 else ((x.k - 47 : Nat) : Rat) / 48)
  else (((x.len - 1 - x.k : Nat) : Rat) / (x.len : Nat), ((x.k + 1 : Nat) : Rat) / (x.len : Nat))

/-- Sources heard at a destination with their weights (R90, R210). -/
def mixOf (v : VidAud) : List ((Nat × Nat) × Rat) :=
  v.xs.foldl (fun l x => let w := xWeights x; (l.map fun q => (q.1, q.2 * w.1)) ++ [(x.dst, w.2)]) [(v.base, 1)]

/-- One sample on: a crossfade that has ended takes everything before it away. -/
def stepX (v : VidAud) : VidAud :=
  let xs := v.xs.map fun x => { x with k := x.k + 1 }
  match (xs.reverse.dropWhile fun x => decide (x.k < x.len)) with
  | [] => { v with xs := xs }
  | z :: _ => { v with base := z.dst, xs := (xs.reverse.takeWhile fun x => decide (x.k < x.len)).reverse }

/-- First source channel of a source's block (R207); none for no source or kind NONE. -/
def blockOf (s : Dev) (p : Nat) (q : Nat × Nat) : Option (Nat × Nat) :=
  let pl := if s.ctl.pair then q.1 else p
  if q.2 < 1536 ∧ srcKind s pl q.2 ≠ 0 then some (pl, 32 * q.2) else none

/-! Destination channels (R200 to R202). -/

/-- The source reads of one tap with their weights: a FOLLOW tap reads the sources heard at its destination; `off` is 1 for the
odd member of a pair. -/
def tapReads (s : Dev) (rd : Nat → Nat → SrcRead) (p dc e off : Nat) : List (SrcRead × Rat) :=
  if tapFollow e then
    match assocDest s p dc with
    | none => []
    | some d =>
      let v := mget {} (audSt s p).dests d
      let last := (v.xs.getLast?.map (·.dst)).getD v.base
      let one' := fun (q : Nat × Nat) => (blockOf s p q).map fun b => rd b.1 (b.2 + tapSrc e + off)
      if (mixOf v).any (fun q => match one' q.1 with | none => false | some r => r.nonPcm) then
        (one' last).toList.map fun r => (r, 1)
      else (mixOf v).filterMap fun (q : (Nat × Nat) × Rat) => (one' q.1).map fun r => (r, q.2)
  else [(rd (if s.ctl.pair && tapPlane e == 1 then 1 - p else p) (tapSrc e + off), 1)]

/-- Round half up to 24 bits and saturate (R200): the sample, and whether it saturated. -/
def roundSat (x : Rat) : Int × Bool :=
  let v := (x + 1 / 2).floor
  if v < -8388608 then (-8388608, true) else if 8388607 < v then (8388607, true) else (v, false)

/-- Muting around a step of house time (R67), in 1/48: down over the 1 ms before a STEP that is due, up over the 1 ms after. -/
def stepMute (s : Dev) (j : Nat) : Nat :=
  let up := match s.tim.stepAt with | none => 48 | some a => min 48 (j + 1 - gridOf (a + samplePeriod - 1))
  let due := s.ctl.pend.filterMap fun q =>
    if q.op = 0x41 then (match recOf s q.jsn with
      | some r => if bit (le r.desc 24 1) 0 then none else some (gridOf (frameStart s q.frame))
      | none => none) else none
  if buildOutNow s = 0 then up else due.foldl (fun w f => if j < f then min w (f - j) else w) up

/-- The output of destination channel `dc` of plane `p`; `off` 1 is the odd channel of a pair led by `dc` (R200 to R202). -/
def chanOut (s : Dev) (rd : Nat → Nat → SrcRead) (p dc off j : Nat) : OutSamp × Bool :=
  let a := audSt s p
  let es := (List.range 32).map fun k => 32 * dc + k
  let on := es.filter fun e => tapEn (tapAt s e)
  let live := es.filter fun e => tapEn (tapAt s e) || a.taps.any fun q => q.1 == e
  let opens := min (stepMute s j) (match assocDest s p dc with | none => 48 | some d => (mget {} a.dests d).open')
  let terms := live.flatMap fun e =>
    match a.taps.find? fun q => q.1 == e with
    | none => (tapReads s rd p dc (tapAt s e) off).map fun r => (r.1, r.2 * tapGain (tapAt s e))
    | some q =>
      ((tapReads s rd p dc q.2.ent off).map fun r => (r.1, r.2 * (rampStep q.2.ramp).1)) ++
        (match q.2.old with
          | none => []
          | some o => (tapReads s rd p dc o.1 off).map fun r => (r.1, r.2 * (rampStep o.2).1))
  let whole := on.length == 1 && live.length == 1 && opens == 48 && live.all fun e =>
    tapGain (tapAt s e) == 1 && !tapPol (tapAt s e) && !a.taps.any fun q => q.1 == e
  match whole && decide (terms.length = 1), terms with
  | true, t :: _ => ({ val := t.1.val, v := t.1.v, u := t.1.u, blk := t.1.blk }, false)
  | _, _ =>
    if terms.any fun t => t.1.nonPcm then ({ v := 1, blk := engineBlock }, false)
    else
      let sum : Rat := (terms.map fun t => (t.1.val : Rat) * t.2).sum * (opens : Nat) / 48
      let r := roundSat sum
      ({ val := r.1, blk := engineBlock }, r.2)

/-- Channels with a tap that is enabled or ramping. -/
def activeChans (s : Dev) (p : Nat) : List Nat :=
  ((s.ctl.taps.map fun (q : Nat × Nat) => q.1 / 32) ++ ((audSt s p).taps.map fun (q : Nat × TapRt) => q.1 / 32)).dedup

/-- A channel has an enabled tap. -/
def chanOn (s : Dev) (dc : Nat) : Bool := (List.range 32).any fun k => tapEn (tapAt s (32 * dc + k))

/-- The even channel leads a sample pair on plane `p`: it has a tap with PAIR, enabled, or ramping out with no tap of the two channels
enabled (R202, R206). -/
def pairLead (s : Dev) (p dc : Nat) : Bool :=
  dc % 2 == 0 &&
    (((List.range 32).any fun k => tapEn (tapAt s (32 * dc + k)) && tapPair (tapAt s (32 * dc + k))) ||
      (!chanOn s dc && !chanOn s (dc + 1) && (audSt s p).taps.any fun q => q.1 / 32 == dc && tapPair q.2.ent))

/-- The channel's video destination carries an UNTIMED source, whose embedded audio passes in its place, or lies beyond what its
interface carries (R195). -/
def noEmbed (s : Dev) (p dc : Nat) : Bool :=
  if dc < 0x9000 then
    let d := dc / 32
    let n := (routeOf s (pkey s p d)).src
    (n != 0x7FF && srcKind s (routedPlane s p d) n == 3 && (dstSt s p d).cause == 0) ||
      decide (ifaceChans (egressIface s p d) ≤ dc % 32 ∧ (dstSt s p d).outFmt ≠ 0)
  else if dc < 0xC000 then
    let b := flowRec s (videoFlow s p ((dc - 0x9000) / 32) 1)
    b.isEmpty || flowEssence b == 0
  else false

/-- Advance every ramp and crossfade of plane `p` by one sample; a ramp that has ended is dropped. -/
def advance (s : Dev) (p : Nat) : Dev :=
  let a := audSt s p
  let taps := a.taps.filterMap fun q =>
    let r := (rampStep q.2.ramp).2
    let o := q.2.old.map fun z => (z.1, (rampStep z.2).2)
    let o := match o with | some z => if z.2.segs.isEmpty then none else some z | none => none
    if r.segs.isEmpty && o.isNone then none else some (q.1, { q.2 with ramp := r, old := o })
  setAud s p { a with taps := taps, dests := (a.dests.map fun q => (q.1, stepX q.2)).filter fun q => decide (q.2 ≠ {}) }

/-- AUD_SRCSTAT of one channel (R220). -/
def syncChan (s : Dev) (obs : List SampObs) (p j ch : Nat) : Dev :=
  let o := obs.find? fun x => x.plane == p && x.ch == ch
  let a := audSt s p
  let r := readChan s obs j (fun _ _ => 0) p ch
  let pair := chanPair s p ch
  setFs s (ix p ch) [(F.AUD_SRCSTAT_PRESENT, b2n (chanPresent s p ch j o)), (F.AUD_SRCSTAT_V, match o with | none => r.v | some x => x.v),
    (F.AUD_SRCSTAT_MISSING, b2n (a.missed.contains ch)), (F.AUD_SRCSTAT_UNTIMED, b2n (chanUntimed s p ch o)), (F.AUD_SRCSTAT_PAIR, b2n pair),
    (F.AUD_SRCSTAT_NONPCM, b2n (match o with | none => r.nonPcm | some x => bit x.blk 1)),
    (F.AUD_SRCSTAT_ASRC, b2n (s.ctl.asrc.any fun x => x.1 == ch)), (F.AUD_SRCSTAT_ASRC_LOCKED, b2n (a.locked.contains ch))]

/-- Source channels that something may fill now: those observed, those of TDM receive slots, those with an ASRC channel. -/
def chansSeen (s : Dev) (obs : List SampObs) (p : Nat) : List Nat :=
  ((obs.filter fun o => o.plane == p).map fun o => o.ch) ++ s.ctl.asrc.map (·.1) ++
    (List.range 16).flatMap fun q => if getF s F.TDM_CFG_ENABLE q = 1 then (List.range 32).map fun k => 0xF800 + 32 * q + k else []

/-- AUD_SRCSTAT is updated every 1 ms (R220). -/
def syncChans (s : Dev) (obs : List SampObs) (p j : Nat) : Dev :=
  if j % 48 ≠ 0 then s
  else
    let now := chansSeen s obs p
    let s := ((audSt s p).present ++ now).dedup.foldl (fun s ch => syncChan s obs p j ch) s
    setAud s p { audSt s p with present := now.dedup, missed := [] }

/-- The output samples of every active destination channel of plane `p`. -/
def allOut (s : Dev) (rd : Nat → Nat → SrcRead) (p j : Nat) : List (Nat × OutSamp × Bool) :=
  (activeChans s p).flatMap fun dc =>
    if dc % 2 = 1 ∧ pairLead s p (dc - 1) then []
    else if pairLead s p dc then [(dc, chanOut s rd p dc 0 j), (dc + 1, chanOut s rd p dc 1 j)]
    else [(dc, chanOut s rd p dc 0 j)]

/-- AUDIO_GRID_SAMPLE (R200): grid instant `t` of plane `p`'s engine, with the samples that the sources give it. -/
def audioGrid (s : Dev) (t p : Nat) (obs : List SampObs) : Dev :=
  let s := applyTdms (applyMaps (s.at t)) none
  let j := gridOf t
  let base := s.freeCtr
  let free := fun (q ch : Nat) => sgn 24 ((Config.freeValue (base + 65536 * q + ch)).toNat % 2 ^ 24)
  let s := trackObs { s with freeCtr := base + 131072 } p obs
  let dests := ((activeChans s p).filterMap (assocDest s p)).dedup
  let s := (dests ++ ((s.pln.audioQ.filter fun (e : Nat × Nat) => e.1 % 2 == p).map fun (e : Nat × Nat) => e.1 / 2)).dedup.foldl (fun s d => stepDest s p d) s
  let rd := readChan s obs j free
  let outs := allOut s rd p j
  let clips := (outs.filter fun o => o.2.2).length
  let s := if clips = 0 then s else satAdd s F.AUD_CLIPCNT_COUNT p clips
  let s := emits s ((outs.filter fun o => !noEmbed s p o.1).map fun o =>
    .audio p o.1 o.2.1.val (o.2.1.v + 2 * o.2.1.u + 4 * bits o.2.1.blk (j % 192) 1))
  let tdm := (outs.filter fun o => decide (0xF800 ≤ o.1)).foldl (fun m o => mset {} m o.1 o.2.1) ([] : SMap OutSamp)
  let s := setAud s p { audSt s p with tdmOut := ((j, tdm) :: (audSt s p).tdmOut).take 4 }
  syncChans (advance s p) obs p j

/-- AUDIO_FLOW_UNTIMED (R213): receive flow `n` of plane `p` has been off its link offset for 1 s. -/
def audioFlowUntimed (s : Dev) (t p n : Nat) : Dev :=
  let s := s.at t
  let a := audSt s p
  let s := if a.offClock.contains n then s else setAud s p { a with offClock := n :: a.offClock }
  match (audioFlows s p 0).find? fun q => q.1 == n with
  | none => s
  | some f => (List.range (flowChans f.2)).foldl (fun s k => setF s F.AUD_SRCSTAT_UNTIMED (ix p (flowFirst f.2 + k)) 1) s

/-- ASRC_LOCK (R215): the ASRC channel of source channel `ch` of plane `p` locks; its output ramps in over 1 ms. -/
def asrcLock (s : Dev) (t p ch : Nat) : Dev :=
  let s := s.at t
  let a := audSt s p
  if !(s.ctl.asrc.any fun q => q.1 == ch) ∨ a.locked.contains ch then s
  else setF (setAud s p { a with locked := ch :: a.locked }) F.AUD_SRCSTAT_ASRC_LOCKED (ix p ch) 1

/-! The commands of this file. -/

/-- AUDIO_MAP (R203): validation of the accepted command `jsn`. -/
def execAudioMap (t jsn : Nat) (s : State) : Host.Outcome State Fault Refusal :=
  .next { s with dev := withCmd s.dev t jsn 0x30 audioMapCmd }

/-- AUDIO_FOLLOW (R209): validation of the accepted command `jsn`. -/
def execAudioFollow (t jsn : Nat) (s : State) : Host.Outcome State Fault Refusal :=
  .next { s with dev := withCmd s.dev t jsn 0x31 audioFollowCmd }

/-- AUDIO_GRID_SAMPLE (R200): a grid instant of plane `p`'s audio engine. -/
def execAudioGridSample (t : Nat) (p : Fin 2) (obs : List SampObs) (s : State) : Host.Outcome State Fault Refusal :=
  .next { s with dev := audioGrid s.dev t p obs }

/-- AUDIO_FLOW_UNTIMED (R213): audio receive flow `n` runs off the house clock. -/
def execAudioFlowUntimed (t : Nat) (p : Fin 2) (n : Fin 2048) (s : State) : Host.Outcome State Fault Refusal :=
  .next { s with dev := audioFlowUntimed s.dev t p n }

/-- ASRC_LOCK (R215): the rate converter of a channel has locked. -/
def execAsrcLock (t : Nat) (p : Fin 2) (ch : Fin 65536) (s : State) : Host.Outcome State Fault Refusal :=
  .next { s with dev := asrcLock s.dev t p ch }

end Sys2Proof.Machine
end

