-- ==== Sys2Proof/Machine/Ethernet.lean ====
section
/-! DEFINITION. Ethernet ports and IP essence (R290 to R314): FLOW_SET, MAC_FILTER, PTP_SET, STATS_SNAPSHOT, the receive path,
the capture queue, IGMP, port configuration and senders. -/

namespace Sys2Proof.Machine

/-! Instances (R290). -/

/-- MODE in force of port `q` of plane `p`. -/
def portMode (s : Dev) (p q : Nat) : Nat := getF s F.MAC_PORTSTAT_MODE_ACT (ix p q)

/-- Instance `i` exists in a port mode. -/
def instIn (mode i : Nat) : Bool := match mode with | 0 => i % 4 == 0 | 1 => decide (i % 4 < 2) | 2 => true | _ => false

/-- Instance `i` of plane `p` exists. -/
def instExists (s : Dev) (p i : Nat) : Bool := instIn (portMode s p (i / 4)) i

/-- Rate of an instance in Mbit/s. -/
def instRate (mode : Nat) : Nat := match mode with | 0 => 800000 | 1 => 400000 | 2 => 200000 | _ => 0

/-- Lanes of an instance, counted from its port's first lane, as a mask. -/
def instLanes (mode i : Nat) : Nat := match mode with | 0 => 15 | 1 => 3 * 4 ^ (i % 4) | 2 => 2 ^ (i % 4) | _ => 0

/-- Engine state of instance `i` of plane `p`. -/
def ethInst (s : Dev) (p i : Nat) : EthInst := mget {} s.eth.insts (ix p i)

/-- Store the engine state of an instance. -/
def setInst (s : Dev) (p i : Nat) (x : EthInst) : Dev := { s with eth := { s.eth with insts := mset {} s.eth.insts (ix p i) x } }

/-- Engine state of receive flow `f` (R314 index) on plane `p`'s network. -/
def ethFlow (s : Dev) (p f : Nat) : EthFlow := mget {} s.eth.flows (ix p f)

/-- Store the engine state of a receive flow. -/
def setEthFlow (s : Dev) (p f : Nat) (x : EthFlow) : Dev := { s with eth := { s.eth with flows := mset {} s.eth.flows (ix p f) x } }

/-- Count in MAC_STAT[i][k] (R313). -/
def macCount (s : Dev) (p i k n : Nat) : Dev := satAdd s F.MAC_STAT_COUNT (ix p (18 * i + k)) n

/-- A frame of `len` bytes that the device sends: counted, and put out (R299, R302). Kinds: 1 ARP reply, 2 gratuitous ARP,
3 IGMP report, 4 Delay_Req, 5 RTP. -/
def ethSend (s : Dev) (p i kind len content : Nat) : Dev :=
  macCount (macCount (emit s (.eth p i kind content)) p i 15 1) p i 16 len

/-- The network that plane `p` faces (R303): 0 red, 1 blue. -/
def netOf (s : Dev) (p : Nat) : Nat := if s.ctl.pair then getF s F.RST_STRAP_PAIR_ID 0 else p

/-! Flow records (R305, R353). -/

/-- DST_IP of network `n`. -/
def flowDst (b : Bytes) (n : Nat) : Nat := le b (4 + 4 * n) 4
/-- SRC_IP of network `n`. -/
def flowSrc (b : Bytes) (n : Nat) : Nat := le b (12 + 4 * n) 4
/-- INSTANCE. -/
def flowInst (b : Bytes) : Nat := bits (le b 2 1) 5 3
/-- UDP_DST. -/
def flowUdp (b : Bytes) : Nat := le b 20 2
/-- ANC. -/
def flowAnc (b : Bytes) : Bool := flowEssence b == 0 && bit (le b 45 1) 6
/-- An IPv4 multicast address. -/
def isMcast (a : Nat) : Bool := a / 2 ^ 28 == 14

/-- One flow as the device holds it: mechanism index, plane it serves (2: both, in Single), direction, record. -/
structure FlowAt where
  idx : Nat
  dir : Nat
  data : Bytes
deriving DecidableEq, Repr

/-- Direction of a flow mechanism. -/
def flowDir (idx : Nat) : Nat := if idx < 4096 then idx % 2 else idx / 4096 - 1

/-- The flow serves plane `p`. -/
def flowOnPlane (s : Dev) (p idx : Nat) : Bool :=
  !s.ctl.pair || (if idx < 4096 then idx / 2 % 2 == p else idx % 4096 / 2048 == p)

/-- Every configured flow. -/
def allFlows (s : Dev) : List FlowAt :=
  s.ctl.mech.filterMap fun q =>
    if q.1 / 65536 = mkFlow ∧ !q.2.data.isEmpty then some { idx := q.1 % 65536, dir := flowDir (q.1 % 65536), data := q.2.data } else none

/-- Enabled flows of plane `p` and direction `dir`. -/
def onFlows (s : Dev) (p dir : Nat) : List FlowAt :=
  (allFlows s).filter fun f => f.dir == dir && flowEnabled f.data && flowOnPlane s p f.idx

/-- Local index of a flow: video port position or audio flow number in its plane. -/
def flowLocal (s : Dev) (idx : Nat) : Nat :=
  if idx < 4096 then idx / 4 else if s.ctl.pair then idx % 2048 else idx % 4096

/-- FLOW_CNT index of a receive flow (R314); `anc` names the associated ST 2110-40 flow. -/
def cntIdx (s : Dev) (f : FlowAt) (anc : Bool) : Nat :=
  if f.idx < 4096 then flowLocal s f.idx + (if anc then 384 else 0) else 768 + flowLocal s f.idx

/-- Classifier entries of a receive flow (R297). -/
def clsEntries (b : Bytes) : Nat := if flowAnc b then 2 else 1

/-- Classifier entries in use on plane `p`. -/
def clsUsed (s : Dev) (p : Nat) : Nat := ((onFlows s p 0).map fun f => clsEntries f.data).sum

/-- UDP ports that a receive flow's entries match. -/
def flowPorts (b : Bytes) : List Nat := flowUdp b :: (if flowAnc b then [flowUdp b + 2] else [])

/-- MAC_CLS of both planes (R312). -/
def syncCls (s : Dev) : Dev := setF (setF s F.MAC_CLS_USED 0 (clsUsed s 0)) F.MAC_CLS_USED 1 (clsUsed s 1)

/-! FLOW_SET (R305 to R307). -/

/-- Mechanism index that a FLOW operand and DIR name. -/
def flowIdx (s : Dev) (b : Bytes) : Nat :=
  let k := le b 0 2 / 4096
  let n := le b 0 2 % 4096
  if k = 1 then (if s.ctl.pair then videoFlow s (n / 384) (n % 384) (bits (le b 2 1) 0 1) else videoFlow s 0 n (bits (le b 2 1) 0 1))
  else audioFlow (k - 8) n

/-- The state with every FLOW_SET that waits taken in. -/
def flowView (s : Dev) : Dev :=
  s.ctl.pend.foldl (fun s q =>
    if q.op = 0x51 then (match recOf s q.jsn with | none => s | some j => setMech s mkFlow (flowIdx s j.buf) { data := j.buf }) else s) s

/-- Defined bits of the FLOW_SET buffer (R353). -/
def flowFields : List (Nat × Nat × Nat) :=
  [(0, 0, 24), (3, 0, 6), (4, 0, 256), (36, 0, 12), (38, 0, 7), (39, 0, 7), (40, 0, 45), (45, 4, 3), (45, 3, 1), (46, 0, 8), (48, 0, 11), (50, 0, 10),
   (52, 0, 16), (54, 0, 7), (55, 0, 6), (56, 0, 10), (58, 0, 16)]

/-- A reserved code in a FLOW_SET buffer: the byte it lies at. -/
def flowReserved (s : Dev) (b : Bytes) : Option Nat :=
  let k := le b 0 2 / 4096
  let enc := le b 46 1
  let f := le b 44 1
  let vd := le b 58 2
  let tests : List (Bool × Nat) :=
    [(k != 1 && k != 8 && k != 9, 0), (decide (4 ≤ flowEssence b), 2), (!fmtListed f && (f != 0 || k == 1), 44),
     (decide (5 ≤ bits (le b 45 1) 0 4), 45), (bits (le b 45 1) 4 2 == 3, 45),
     (enc != 0xFF && (encPrim enc == 2 || encRange enc == 2 || decide (64 ≤ enc)), 46), (decide (6 ≤ bits (le b 55 1) 0 3), 55),
     (vd != 0xFFFF && hStatus (dstOf s.ctl.pair vd) == stInvalid, 58)]
  match firstByte 64 0 (clearFields 0 flowFields (le b 0 64)) with
  | some i => some i
  | none => (tests.find? fun t => t.1).map (·.2)

/-- Pixel-group size in bytes (R305). -/
def pgSize (samp : Nat) : Nat := match samp with | 0 => 5 | 1 => 15 | 3 => 15 | _ => 9

/-- Level, rate, packet time and channel count agree with R196. -/
def levelOk (b : Bytes) : Bool :=
  let lv := bits (le b 55 1) 0 3
  let fast := bit (le b 55 1) 3
  let hi := bit (le b 55 1) 4
  let n := bits (le b 54 1) 0 7
  let cap := match lv, hi, fast with
    | 0, false, false => 8 | 1, false, false => 8 | 1, true, false => 4
    | 2, false, _ => 8 | 3, false, _ => 8 | 3, true, _ => 4
    | 4, false, false => 8 | 4, false, true => 64 | 5, false, false => 8 | 5, false, true => 64
    | 5, true, false => 4 | 5, true, true => 32
    | _, _, _ => 0
  decide (1 ≤ n ∧ n ≤ cap)

/-- A destination address outside R305. -/
def badDst (a : Nat) : Bool := a / 256 == 0xE00000 || a == 0 || decide (0xF0000000 ≤ a)

/-- A value of a FLOW_SET buffer outside its range: the byte it lies at (R305, R306 step 2). -/
def flowRange (s : Dev) (b : Bytes) : Option Nat :=
  let k := le b 0 2 / 4096
  let n := le b 0 2 % 4096
  let video := k == 1
  let send := if video then bit (le b 2 1) 0 else k == 9
  let e := flowEssence b
  let f := le b 44 1
  let samp := bits (le b 45 1) 0 4
  let planes := if s.ctl.pair then [if video then n / 384 % 2 else n / 2048 % 2] else [0, 1]
  let i := flowInst b
  let lim := if video then (if s.ctl.pair then 768 else 384) else (if s.ctl.pair then 4096 else 2048)
  let vlan := bits (le b 36 2) 0 12
  let src := le b 22 2
  let vd := le b 58 2
  let v := hVal (dstOf s.ctl.pair vd)
  let first := flowFirst b
  let tests : List (Bool × Nat) :=
    [(decide (lim ≤ n), 0), (video != decide (e < 2), 2), (planes.any fun p => !instExists s p i, 2),
     (badDst (flowDst b 0), 4), (badDst (flowDst b 1), 8), (decide (flowUdp b < 1024) || decide (65532 < flowUdp b) || flowUdp b % 2 == 1, 20),
     (send && src != 0 && decide (src < 1024), 22), (send && le b 24 6 == 0 && !isMcast (flowDst b 0), 24),
     (send && le b 30 6 == 0 && !isMcast (flowDst b 1), 30),
     (decide (4094 < vlan) || planes.any fun p => getF s F.MAC_INSTCFG_VLAN (ix p i) != vlan, 36),
     (decide (bits (le b 38 1) 0 7 < 96), 38), (e == 0 && decide (bits (le b 39 1) 0 7 < 96), 39),
     (e == 0 && (decide (f / 16 ≤ 2) || (samp != 0 && f / 16 == 7)), 44), (e == 1 && lineRateC f (samp != 0) == 0, 44),
     (e == 1 && decide (6 ≤ fmtIface f (samp != 0)), 44), (e == 0 && send && hasAuto (le b 46 1), 46),
     (e == 0 && (decide (le b 48 2 < 400) || decide (1440 < le b 48 2) || le b 48 2 % pgSize samp != 0), 48),
     (video && !send && decide (500 < le b 50 2), 50), (!video && (decide (first < 0xC000) || decide (0xF800 < first + flowChans b)), 52),
     (!video && !levelOk b, 54), (k == 8 && (decide (le b 56 2 < 6) || decide (960 < le b 56 2)), 56),
     (k == 9 && vd != 0xFFFF && (hStatus (dstOf s.ctl.pair vd) == stRange || dstKind v.2 != 1), 58)]
  (tests.find? fun t => t.1).map (·.2)

/-- Two receive flows on one instance share a classifier key on some network that plane `p` faces (R297). -/
def keyClash (s : Dev) (p : Nat) (a b : Bytes) : Bool :=
  let n := netOf s p
  flowInst a == flowInst b && flowDst a n == flowDst b n && flowSrc a n == flowSrc b n &&
    (flowPorts a).any fun x => (flowPorts b).contains x

/-- Enabled reserved rate of an instance in a direction (R301). -/
def instLoad (s : Dev) (p dir i : Nat) : Nat := (((onFlows s p dir).filter fun f => flowInst f.data == i).map fun f => flowRate f.data).sum

/-- Reserved rate of plane `p` in a direction (R33). -/
def planeLoad (s : Dev) (p dir : Nat) : Nat := ((onFlows s p dir).map fun f => flowRate f.data).sum

/-- Limit of a plane (R33): 99 % of its instances' rates. -/
def planeLimit (s : Dev) (p : Nat) : Nat :=
  (([0, 1, 2, 3, 4, 5, 6, 7].filter (instExists s p)).map fun i => instRate (portMode s p (i / 4)) * 99 / 100).sum

/-- The conflicts of R306 step 3 for record `b` at index `idx`. -/
def flowConflict (s : Dev) (idx : Nat) (b : Bytes) : Bool :=
  let others := (allFlows (flowView s)).filter fun f => f.idx != idx && f.dir == flowDir idx && flowEnabled f.data
  flowEnabled b && [0, 1].any fun p => flowOnPlane s p idx && others.any fun f => flowOnPlane s p f.idx &&
    ((flowDir idx == 0 && keyClash s p f.data b) ||
      (4096 ≤ f.idx && 4096 ≤ idx && decide (flowFirst f.data < flowFirst b + flowChans b) && decide (flowFirst b < flowFirst f.data + flowChans f.data)))

/-- The budgets of R306 step 4. -/
def flowBudget (s : Dev) (idx : Nat) (b : Bytes) : Bool :=
  let old := flowView s
  let new := setMech old mkFlow idx { data := b }
  let dir := flowDir idx
  let i := flowInst b
  [0, 1].any fun p => flowOnPlane s p idx && flowEnabled b &&
    (decide (instRate (portMode s p (i / 4)) * 99 / 100 < instLoad new p dir i) || decide (planeLimit s p < planeLoad new p dir) ||
      (dir == 0 && decide (4096 < clsUsed new p)) ||
      (dir == 0 && decide (idx < 4096) &&
        let a := itemsOf old p s.ctl.ref.rate (pendCand s)
        let z := itemsOf new p s.ctl.ref.rate (pendCand s)
        raises a z && admitRule new p z != 0))

/-- The checks of FLOW_SET in the order of R342 (R305 to R307). BUDGET names the byte of INSTANCE: its reservation decides. -/
def flowSetChecks (s : Dev) (j : JRec) : Option Refuse :=
  let b := j.buf
  let ok := !bufOver j && decide (b.length = 64)
  let idx := flowIdx s b
  let inv := if ok then flowReserved s b else none
  let rng := if ok then flowRange s b else none
  checksOf s j gdet [(lenBad j 64, stInvalid, gdet 32), (inv.isSome, stInvalid, genDetail (inv.getD 0) true 0)]
      [(rng.isSome, stRange, genDetail (rng.getD 0) true 0)] [(ok && flowConflict s idx b, stConflict, 0)]
      [(ok && flowBudget s idx b, stBudget, genDetail 2 true 0)]

/-- FLOW_SET (R305 to R307). -/
def flowSetCmd (s : Dev) (j : JRec) : Dev :=
  match flowSetChecks s j with
  | some q => refuse s j q
  | none => scheduleFrame s j (dlMs s)

/-- Groups that plane `p`'s instance `i` reports (R299). -/
def groupsOf (s : Dev) (p i : Nat) : List Nat :=
  (((onFlows s p 0).filter fun f => flowInst f.data == i && isMcast (flowDst f.data (netOf s p))).map fun f => flowDst f.data (netOf s p)).eraseDups

/-- IGMP reports are due for a group on an instance: two of them (R299). -/
def dueReports (s : Dev) (p i group : Nat) : Dev :=
  let x := ethInst s p i
  setInst s p i { x with reports := (x.reports.filter fun r => r.1 != group) ++ [(group, 2, 0)] }

/-- A receive flow's entry is enabled, changed or removed: reports, and the old key stays matched for TAIL_US (R299, R307). -/
def entryChanged (s : Dev) (p : Nat) (old new : Bytes) (f : Nat) : Dev :=
  let n := netOf s p
  let rep := fun (b : Bytes) s => if flowEnabled b && isMcast (flowDst b n) then dueReports s p (flowInst b) (flowDst b n) else s
  let s := rep new (rep old s)
  let x := ethFlow s p f
  setEthFlow s p f { x with oldRec := if flowEnabled old then old else [], oldUntil := s.now + bits (le old 50 2) 0 10 * 54000, last := none }

/-- A change of address, port or source makes a new source (R307, R44). -/
def newSource (s : Dev) (p n : Nat) : Dev :=
  let x := srcSt s p n
  { s with pln := { s.pln with src := mset {} s.pln.src (ix p n) { x with known := false, newCount := 0 } } }

/-- A FLOW_SET that falls due (R307). -/
def applyFlow (s : Dev) (x : Pend) (j : JRec) (n : Nat) : Dev :=
  let b := j.buf
  let idx := flowIdx s b
  let m := mechOf s mkFlow idx
  let q := fenced s x.jsn m.jsn fun s =>
    let s := setMech s mkFlow idx { data := b, jsn := x.jsn }
    [0, 1].foldl (fun s p =>
      if !flowOnPlane s p idx then s
      else if idx < 4096 then
        if idx % 2 = 1 then s
        else
          let f := idx / 4
          let s := entryChanged s p m.data b f
          if (m.data.drop 2).take 34 = (b.drop 2).take 34 then s else newSource s p (1152 + f)
      else if idx < 8192 then
        let f := flowLocal s idx
        let s := entryChanged s p m.data b (768 + f)
        let a := audSt s p
        setAud s p { a with offClock := a.offClock.filter (· != f) }
      else s) s
  if q.1 then syncLoads (syncCls (finishFrame q.2 x n)) else decideCmd (unpend q.2 x.jsn) x.jsn stCancelled 0 0

/-! MAC_FILTER (R296, R311, R352). -/

/-- Plane that a MAC_FILTER names; none where its network is not carried. -/
def filterPlane (s : Dev) (d : Bytes) : Option Nat :=
  let a := le d 24 1
  let net := bits a 0 1
  let pl := bits a 7 1
  if s.ctl.pair then (if net = getF s F.RST_STRAP_PAIR_ID 0 then some pl else none) else some net

/-- The checks of MAC_FILTER in the order of R342 (R311, R352). -/
def macFilterChecks (s : Dev) (j : JRec) : Option Refuse :=
  let a := le j.desc 24 1
  checksOf s j gdet [(decide (3 ≤ bits a 4 3), stInvalid, gdet 24)]
      [(!s.ctl.pair && bit a 7, stRange, gdet 24), ((filterPlane s j.desc).isNone, stRange, genDetail 24 false 1),
       (bits a 4 3 == 1 && bits (le j.desc 28 2) 0 12 == 4095, stRange, gdet 28)] [] []

/-- MAC_FILTER (R311, R352). -/
def macFilterCmd (s : Dev) (j : JRec) : Dev :=
  match macFilterChecks s j with
  | some q => refuse s j q
  | none => scheduleFrame s j (dlMs s)

/-- The stored form of an instance's filter configuration: MAC_INSTCFG, MAC_INSTADDR and the 16 filters, 8 bytes each. -/
def instImage (s : Dev) (p i : Nat) : Bytes :=
  let c := getF s F.MAC_INSTCFG_PROMISC (ix p i) + getF s F.MAC_INSTCFG_PASS_ALL_GROUPS (ix p i) * 2 +
    getF s F.MAC_INSTCFG_DELIVER_BAD (ix p i) * 4 + getF s F.MAC_INSTCFG_CAPTURE_UNMATCHED (ix p i) * 8 +
    getF s F.MAC_INSTCFG_IGMP_EN (ix p i) * 16 + getF s F.MAC_INSTCFG_VLAN (ix p i) * 2 ^ 20 + getF s F.MAC_INSTCFG_IPV4 (ix p i) * 2 ^ 32
  leBytes 8 c ++ leBytes 8 (getF s F.MAC_INSTADDR_MAC (ix p i)) ++
    (List.range 16).flatMap fun k => leBytes 8 (getF s F.MAC_PMF_ADDR (ix p (16 * i + k)) + getF s F.MAC_PMF_EN (ix p (16 * i + k)) * 2 ^ 48)

/-- A MAC_FILTER that falls due (R311). -/
def applyFilter (s : Dev) (x : Pend) (j : JRec) (n : Nat) : Dev :=
  let d := j.desc
  let a := le d 24 1
  let i := bits a 1 3
  let p := (filterPlane s d).getD 0
  let u := ix p i
  let k := bits (le d 25 1) 0 4
  let f := le d 26 1
  let q := fenced s x.jsn (mechOf s mkMac u).jsn fun s =>
    let s := match bits a 4 3 with
      | 0 => setFs s u [(F.MAC_INSTCFG_PROMISC, bits f 0 1), (F.MAC_INSTCFG_PASS_ALL_GROUPS, bits f 1 1), (F.MAC_INSTCFG_DELIVER_BAD, bits f 2 1),
          (F.MAC_INSTCFG_CAPTURE_UNMATCHED, bits f 3 1), (F.MAC_INSTCFG_IGMP_EN, bits f 4 1)]
      | 1 => setFs s u [(F.MAC_INSTCFG_VLAN, bits (le d 28 2) 0 12), (F.MAC_INSTCFG_IPV4, le d 40 4), (F.MAC_INSTADDR_MAC, le d 32 6)]
      | _ => setFs s (ix p (16 * i + k)) [(F.MAC_PMF_ADDR, le d 32 6), (F.MAC_PMF_EN, bits f 5 1)]
    setMech s mkMac u { data := instImage s p i, jsn := x.jsn }
  if q.1 then finishFrame q.2 x n else decideCmd (unpend q.2 x.jsn) x.jsn stCancelled 0 0

/-! PTP_SET and STATS_SNAPSHOT. -/

/-- The stored operands of PTP instance `n` (R54): INSTANCE and ASSIGN, domain, mode, address. -/
def ptpRec (s : Dev) (n : Nat) : Bytes := (mechOf s mkPtp n).data

/-- PTP instance `n`, of plane `n`, is assigned to MAC instance `i` of its plane (R54). -/
def ptpOn (s : Dev) (n i : Nat) : Bool := let b := ptpRec s n; bit (le b 0 1) 7 && bits (le b 0 1) 0 3 == i

/-- The checks of PTP_SET in the order of R342 (R54, R352, R354). -/
def ptpSetChecks (s : Dev) (j : JRec) : Option Refuse :=
  let n := bits (le j.desc 24 1) 0 1
  let a := le j.desc 25 1
  let m := bits (le j.desc 27 1) 0 2
  checksOf s j gdet [(m == 3, stInvalid, gdet 27)]
      [(bit a 7 && !instExists s n (bits a 0 3), stRange, genDetail 25 false 1), (m == 0 && le j.desc 28 4 != 0, stRange, gdet 28)] [] []

/-- PTP_SET (R54, R352, R354). The MAC instances of PTP0 and PTP1 lie on different planes, so condition 2 never holds. -/
def ptpSetCmd (s : Dev) (j : JRec) : Dev :=
  match ptpSetChecks s j with
  | some q => refuse s j q
  | none => scheduleFrame s j (dlMs s)

/-- A PTP_SET that falls due: an unassigned instance cannot be present as a reference (R55). -/
def applyPtp (s : Dev) (x : Pend) (j : JRec) (n : Nat) : Dev :=
  let i := bits (le j.desc 24 1) 0 1
  let q := fenced s x.jsn (mechOf s mkPtp i).jsn fun s => setMech s mkPtp i { data := (j.desc.drop 25).take 7, jsn := x.jsn }
  if q.1 then finishFrame q.2 x n else decideCmd (unpend q.2 x.jsn) x.jsn stCancelled 0 0

/-- The checks of STATS_SNAPSHOT in the order of R342 (R309, R351). -/
def statsSnapshotChecks (s : Dev) (j : JRec) : Option Refuse :=
  let m := bits (le j.desc 24 1) 0 2
  checksOf s j gdet [(m == 0, stInvalid, gdet 24)] [(!s.ctl.pair && m != 3, stRange, gdet 24)] [] []

/-- STATS_SNAPSHOT (R309, R351). -/
def statsSnapshotCmd (s : Dev) (j : JRec) : Dev :=
  match statsSnapshotChecks s j with
  | some q => refuse s j q
  | none => scheduleFrame s j fun n => frameStart s n - 5400000

/-- Value of a FLOW_CNT register. -/
def flowCntVal (s : Dev) (i : Nat) : Nat :=
  getF s F.FLOW_CNT_PACKETS i + getF s F.FLOW_CNT_SEQ_GAP i * 2 ^ 32 + getF s F.FLOW_CNT_LATE i * 2 ^ 48 + getF s F.FLOW_CNT_OVERRATE i * 2 ^ 63

/-- Copy and clear every live counter of plane `p`'s MAC block (R309). -/
def snapPlane (s : Dev) (p : Nat) : Dev :=
  let s := (List.range 144).foldl (fun s k =>
    setF (setF s F.MAC_SNAP_COUNT (ix p k) (getF s F.MAC_STAT_COUNT (ix p k))) F.MAC_STAT_COUNT (ix p k) 0) s
  (List.range 2816).foldl (fun s k =>
    let i := ix p k
    let s := setF s F.FLOW_SNAP_VALUE i (flowCntVal s i)
    setFs s i [(F.FLOW_CNT_PACKETS, 0), (F.FLOW_CNT_SEQ_GAP, 0), (F.FLOW_CNT_LATE, 0), (F.FLOW_CNT_OVERRATE, 0)]) s

/-- A STATS_SNAPSHOT that falls due (R309). -/
def applyStats (s : Dev) (x : Pend) (j : JRec) (n : Nat) : Dev :=
  let m := bits (le j.desc 24 1) 0 2
  finishFrame ([0, 1].foldl (fun s p => if bit m p then snapPlane s p else s) s) x n

/-! The receive path (R294 to R298). -/

/-- MAX_FRAME in force (R310). -/
def maxFrame (s : Dev) (p i : Nat) : Nat :=
  let v := getF s F.MAC_PORTCFG_MAX_FRAME (ix p (i / 4))
  if v < 1518 then 1518 else if 9216 < v then 9216 else v

/-- ERR flags of a frame (R295). -/
def errFlags (s : Dev) (p i : Nat) (o : EthObs) : Nat :=
  b2n o.fcs + b2n (decide (o.len < 64)) * 2 + b2n (decide (maxFrame s p i < o.len)) * 4 + b2n o.align * 8 + b2n o.symbol * 16

/-- RFC 1112 mapping of a group. -/
def groupMac (a : Nat) : Nat := 0x01005E000000 + a % 2 ^ 23

/-- The address filter (R296). -/
def addrPass (s : Dev) (p i : Nat) (o : EthObs) : Bool :=
  let u := ix p i
  getF s F.MAC_INSTCFG_PROMISC u == 1 || o.dstMac == 2 ^ 48 - 1 || o.dstMac == getF s F.MAC_INSTADDR_MAC u ||
    ((List.range 16).any fun k => getF s F.MAC_PMF_EN (ix p (16 * i + k)) == 1 && getF s F.MAC_PMF_ADDR (ix p (16 * i + k)) == o.dstMac) ||
    (bit o.dstMac 40 && getF s F.MAC_INSTCFG_PASS_ALL_GROUPS u == 1) || (groupsOf s p i).any fun g => groupMac g == o.dstMac

/-- The VLAN test of step 4. -/
def vlanPass (s : Dev) (p i : Nat) (o : EthObs) : Bool :=
  let v := getF s F.MAC_INSTCFG_VLAN (ix p i)
  if v = 0 then !o.tagged else o.tagged && o.vlan == v

/-- One capture slot (R298): `why` 0 bad frame, 1 unmatched. -/
def capture' (s : Dev) (p i why err : Nat) (o : EthObs) : Dev :=
  let h := getF s F.MAC_CAPQ_CFG_HIF p
  let size := ringSize (getF s F.MAC_CAPQ_CFG_LOG2_SIZE p)
  let prod := getF s F.MAC_CAPQ_PROD_PROD p
  let next := (prod + 1) % size
  if getF s F.MAC_CAPQ_CFG_EN p = 0 ∨ next = getF s F.MAC_CAPQ_CONS_CONS p ∨ getF s F.HIF_STAT_STATE h ≠ 3 then macCount s p i 12 1
  else
    let ph := 1 - mget 0 s.eth.phase p
    let stored := min o.len 2016
    let hdr := o.len % 65536 + stored * 2 ^ 16 + ph * 2 ^ 32 + b2n (decide (2016 < o.len)) * 2 ^ 33 + err * 2 ^ 40 + why * 2 ^ 45 + i * 2 ^ 48 +
      p * 2 ^ 51 + nsOf s.now % 2 ^ 64 * 2 ^ 64
    let s := emit s (.dma h (getF s F.MAC_CAPQ_BASE_BASE p * 4096 + 2048 * prod) (32 + stored) (hdr + o.content % 2 ^ (8 * stored) * 2 ^ 256))
    let s := setF s F.MAC_CAPQ_PROD_PROD p next
    { s with eth := { s.eth with wrote := mset 0 s.eth.wrote p 1,
                                 phase := if next = 0 then mset 0 s.eth.phase p (1 - mget 0 s.eth.phase p) else s.eth.phase } }

/-- The receive flow that a frame's key matches (R297): an exact source first, then the wildcard; within TAIL_US of a change the
old key of a flow too (R307). Answers the flow, whether it is its ST 2110-40 part, and whether the old key matched. -/
def classify (s : Dev) (p i : Nat) (o : EthObs) : Option (FlowAt × Bool × Bool) :=
  let n := netOf s p
  let hit := fun (src : Nat) (b : Bytes) => flowInst b == i && flowDst b n == o.dstIp && flowSrc b n == src && (flowPorts b).contains o.udpDst
  let fs := onFlows s p 0
  let anc := fun (b : Bytes) => o.udpDst != flowUdp b
  match fs.find? fun f => hit o.srcIp f.data with
  | some f => some (f, anc f.data, false)
  | none =>
    match fs.find? fun f => hit 0 f.data with
    | some f => some (f, anc f.data, false)
    | none =>
      let olds := (allFlows s).filter fun f => f.dir == 0 && flowOnPlane s p f.idx
      match olds.find? fun f =>
          let x := ethFlow s p (cntIdx s f false)
          !x.oldRec.isEmpty && decide (s.now ≤ x.oldUntil) && (hit o.srcIp x.oldRec || hit 0 x.oldRec) with
      | some f => some (f, false, true)
      | none => none

/-- Merge key and number of a receive flow for the history (R128). -/
def flowMergeN (f : Nat) : Nat := if f < 384 then 1152 + f else 2048 + f

/-- The device takes one RTP packet of a flow: statistics, tail window, merge and, for FSYNC, the frame (R89, R102, R128, R300). -/
def takePacket (s : Dev) (p : Nat) (f : FlowAt) (anc old : Bool) (o : EthObs) : Dev :=
  let c := cntIdx s f anc
  let i := ix p c
  let x := ethFlow s p c
  let video := decide (f.idx < 4096) && !anc
  let w := if flowEssence f.data = 0 ∧ !anc then 32 else 16
  let gap := match x.last with | none => 0 | some a => let d := (o.seq + 2 ^ w - a % 2 ^ w) % 2 ^ w; if 1 < d ∧ d < 2 ^ (w - 1) then d - 1 else 0
  let s := if gap = 0 then s else satAdd s F.FLOW_CNT_SEQ_GAP i gap
  let newer := !x.seen || decide (x.frame < o.frame)
  let wire := o.len + 20 + (if o.tagged then 0 else 4)
  let per := nominalRate (le f.data 44 1 % 16)
  let s := if newer && x.seen && video && decide (flowRate f.data * 1000000 * 101 < x.bytes * 8 * per * 100) then setF s F.FLOW_CNT_OVERRATE i 1 else s
  let q := 1152 + c
  let fsync := video && srcKind s p q == 2
  let tail := bits (le f.data 50 2) 0 10 * 54000
  let late := video && (if fsync then (fsSt s p q).closed.contains o.frame
    else decide (o.frame < x.frame) && (decide (x.frameAt + tail < s.now) || decide (o.frame + 1 < x.frame)))
  let x := { x with last := some o.seq
                    frame := if newer then o.frame else x.frame
                    frameAt := if newer then s.now else x.frameAt }
  let x := { x with seen := true, bytes := if newer then wire else x.bytes + wire }
  let x := { x with done := if o.marker then some o.frame else x.done }
  let s := setEthFlow s p c x
  if late || (old && newer && x.seen && video && decide (x.oldUntil < s.now)) then satAdd s F.FLOW_CNT_LATE i 1
  else
    let s := satAdd s F.FLOW_CNT_PACKETS i 1
    let n := flowMergeN c
    let s := (mergeArrive s (ix p n) p n 1024 o.seq (seqBefore w) true).2
    let s := if s.ctl.pair then s else (mergeArrive s (ix (1 - p) n) (1 - p) n 1024 o.seq (seqBefore w) false).2
    -- the last packet of the frame from each path closes the frame (R102)
    let both := s.ctl.pair || (ethFlow s (1 - p) c).done == some o.frame
    if fsync && o.marker && both then
      (planesOf s p).foldl (fun s r =>
        if srcKind s r q = 2 then
          let z := fsSt s r q
          completeFrame (setFs' s r q { z with closed := (o.frame :: z.closed).take 8 }) r q o.frame
        else s) s
    else s

/-- The Bivouac hold stops the classifier and the packet buffers (R394). -/
def packetsHeld (s : Dev) : Bool := devState s == dvBivouac

/-- ETH_FRAME_RX (R294): the steps of the receive path for a frame on instance `i` of plane `p`. -/
def ethFrameRx (s : Dev) (t p i : Nat) (o : EthObs) : Dev :=
  let s := s.at t
  let u := ix p i
  let err := errFlags s p i o
  if !instExists s p i ∨ (ethInst s p i).state ≠ 2 then s
  else if err ≠ 0 then
    let s := (List.range 5).foldl (fun s k => if bit err k then macCount s p i (if k = 0 then 2 else if k = 1 then 3 else if k = 2 then 4 else if k = 3 then 5 else 6) 1 else s) s
    if getF s F.MAC_INSTCFG_DELIVER_BAD u = 1 ∧ !packetsHeld s then capture' s p i 0 err o else s
  else
    let s := macCount (macCount s p i 0 1) p i 1 o.len
    if o.etype = 0x8808 then macCount s p i 9 1
    else if !addrPass s p i o || !vlanPass s p i o then macCount s p i 7 1
    else if o.etype = 0x0800 ∧ !o.ipOk then macCount s p i 8 1
    else if o.arp ∧ o.dstIp = getF s F.MAC_INSTCFG_IPV4 u ∧ o.dstIp ≠ 0 then ethSend s p i 1 64 o.srcIp
    else if o.query.isSome then
      if getF s F.MAC_INSTCFG_IPV4 u ≠ 0 ∧ getF s F.MAC_INSTCFG_IGMP_EN u = 1 then
        setInst s p i { ethInst s p i with query := (ethInst s p i).query ++ [(t, o.query.getD 0, if o.dstIp = 0xE0000001 then 0 else o.dstIp)] }
      else s
    else if o.ptp && ptpOn s p i then macCount s p i 14 1
    else if packetsHeld s then s
    else
      match (if o.etype = 0x0800 ∧ !o.frag then classify s p i o else none) with
      | some (f, anc, old) => takePacket (macCount s p i 13 1) p f anc old o
      | none =>
        let s := macCount s p i 10 1
        if getF s F.MAC_INSTCFG_CAPTURE_UNMATCHED u = 1 then capture' s p i 1 0 o else s

/-- CAPTURE_IRQ (R298): at most one message every 100 µs after slots have been written. -/
def captureIrq (s : Dev) (t p : Nat) : Dev :=
  let s := s.at t
  let last := mget 0 s.eth.irqAt p
  if mget 0 s.eth.wrote p = 1 ∧ (last = 0 ∨ last + 5400000 ≤ t) then
    let s := sendMsix s (getF s F.MAC_CAPQ_CFG_HIF p) (getF s F.MAC_CAPQ_CFG_CAP_VEC p)
    { s with eth := { s.eth with wrote := mset 0 s.eth.wrote p 0, irqAt := mset 0 s.eth.irqAt p t } }
  else s

/-- PROD and CONS return to 0 and PHASE starts again at 1 (R312). -/
def capReset (s : Dev) (p : Nat) : Dev :=
  let s := setF (setF s F.MAC_CAPQ_PROD_PROD p 0) F.MAC_CAPQ_CONS_CONS p 0
  { s with eth := { s.eth with phase := mset 0 s.eth.phase p 0 } }

/-- MAC_CAPQ_RESET (R312): a write of MAC_CAPQ_BASE (`base`) or of LOG2_SIZE. -/
def macCapqReset (s : Dev) (p : Nat) (base : Bool) (v : Nat) : Dev :=
  capReset (if base then setF s F.MAC_CAPQ_BASE_BASE p v else setF s F.MAC_CAPQ_CFG_LOG2_SIZE p v) p

/-! Links, IGMP and PTP. -/

/-- LINK_STATE of an instance (R292, R262): link number 24 + i, masks of its lanes within its port while it is UP. -/
def instEvent (s : Dev) (p i new old cause : Nat) : Dev :=
  let m := if new = 2 then instLanes (portMode s p (i / 4)) i else 0
  raise s 0x01 (25 + p) 0 (24 + i + p * 32 + new * 64 + old * 512 + m * 4096 + m * 65536 + cause * 2 ^ 21)

/-- An instance enters a state with LINK_STATE; in UP it sends one gratuitous ARP where it has an address (R299). -/
def instGo (s : Dev) (p i new cause : Nat) : Dev :=
  let old := (ethInst s p i).state
  if old = new then s
  else
    let s := instEvent (setInst s p i { ethInst s p i with state := new }) p i new old cause
    if new = 2 ∧ getF s F.MAC_INSTCFG_IPV4 (ix p i) ≠ 0 then ethSend s p i 2 64 (getF s F.MAC_INSTCFG_IPV4 (ix p i)) else s

/-- C2C and C2M types need AN off, or the instance cannot leave TRAINING (R291). -/
def mediumOk (s : Dev) (p i : Nat) : Bool :=
  decide (2 ≤ getF s F.MAC_PORTSTAT_MEDIUM_ACT (ix p (i / 4))) || getF s F.MAC_PORTSTAT_AN_ACT (ix p (i / 4)) == 0

/-- LANE_STAT of an instance's lanes as its link moves (R282): NO_SIGNAL in DOWN, ADAPT in TRAINING, UP in UP (log entry 127). -/
def instStages (s : Dev) (p i new : Nat) : Dev :=
  let st := if new = 2 then 6 else if new = 1 then 5 else 0
  (List.range 4).foldl (fun s k =>
    let l := 72 + i / 4 * 4 + k
    if bit (instLanes (portMode s p (i / 4)) i) k ∧ laneStage s p l ≠ st then enterStage s p l st else s) s

/-- ETH_LINK_CHANGE (R291): PCS lock gained or lost, or the training timeout; `new` 0 DOWN, 1 TRAINING, 2 UP. -/
def ethLinkChange (s : Dev) (t p i new : Nat) (timeout : Bool) : Dev :=
  let s := s.at t
  if !instExists s p i ∨ (new = 2 ∧ !mediumOk s p i) then s else instGo (instStages s p i new) p i new (if timeout then 4 else 1)

/-- An IGMPv3 report for a group of instance `i` (R299): INCLUDE with the entries' sources when every entry names one, else
EXCLUDE of the empty set; a group that no entry names any longer has no source. Content: group, mode and the number of sources. -/
def sendReport (s : Dev) (p i group : Nat) : Dev :=
  let n := netOf s p
  let es := (onFlows s p 0).filter fun f => flowInst f.data == i && flowDst f.data n == group
  let incl := es.all fun f => flowSrc f.data n != 0
  let srcs := if incl then (es.map fun f => flowSrc f.data n).eraseDups else []
  ethSend s p i 3 64 (group + b2n incl * 2 ^ 32 + srcs.length * 2 ^ 33 + leVal (srcs.flatMap (leBytes 4)) * 2 ^ 64)

/-- The instance speaks IGMP. -/
def igmpOn (s : Dev) (p i : Nat) : Bool :=
  getF s F.MAC_INSTCFG_IPV4 (ix p i) != 0 && getF s F.MAC_INSTCFG_IGMP_EN (ix p i) == 1 && (ethInst s p i).state == 2

/-- IGMP_REPORT (R299): the first of two reports at once, the second 100 ms later. -/
def igmpReport (s : Dev) (t p i group : Nat) : Dev :=
  let s := s.at t
  let x := ethInst s p i
  match x.reports.find? fun r => r.1 == group with
  | none => s
  | some (_, left, at') =>
    if !igmpOn s p i ∨ (left < 2 ∧ t < at' + 5400000000) then s
    else
      let rest := x.reports.filter fun r => r.1 != group
      sendReport (setInst s p i { x with reports := if left = 2 then rest ++ [(group, 1, t)] else rest }) p i group

/-- IGMP_QUERY_RESPONSE (R299): the first query whose maximum response time has not run out is answered: a general query with a
report for every group, a group-specific one with that group's. -/
def igmpQueryResponse (s : Dev) (t p i : Nat) : Dev :=
  let s := s.at t
  let x := ethInst s p i
  match x.query.dropWhile fun q => decide (q.1 + q.2.1 < t) with
  | [] => s
  | (_, _, group) :: rest =>
    if !igmpOn s p i then s
    else
      ((groupsOf s p i).filter fun g => group == 0 || g == group).foldl (fun s g => sendReport s p i g)
        (setInst s p i { x with query := rest })

/-- PTP_DELAY_REQ_SEND (R54, R308): PTP instance `n` sends a Delay_Req, timestamped on egress. -/
def ptpDelayReqSend (s : Dev) (t n : Nat) : Dev :=
  let s := s.at t
  let b := ptpRec s n
  let i := bits (le b 0 1) 0 3
  if bit (le b 0 1) 7 ∧ (ethInst s n i).state = 2 then
    macCount (ethSend s n i 4 90 (nsOf t % 2 ^ 64 + le b 1 1 % 128 * 2 ^ 64 + le b 2 1 % 4 * 2 ^ 72 + le b 3 4 * 2 ^ 80)) n i 17 1
  else s

/-! Port configuration (R292). -/

/-- Something names an instance of the port whose lanes or rate a new MODE would change. -/
def portBusy (s : Dev) (p q mode : Nat) : Bool :=
  let moved := [0, 1, 2, 3].filter fun k => instIn (portMode s p q) k &&
    (!instIn mode k || instLanes mode k != instLanes (portMode s p q) k || instRate mode != instRate (portMode s p q))
  let named := fun (i : Nat) => i / 4 == q && moved.contains (i % 4)
  ((allFlows s).any fun f => flowOnPlane s p f.idx && flowEnabled f.data && named (flowInst f.data)) ||
    (bit (le (ptpRec s p) 0 1) 7 && named (bits (le (ptpRec s p) 0 1) 0 3)) ||
    s.ctl.pend.any fun x => match recOf s x.jsn with
      | none => false
      | some j => (x.op == 0x51 && flowOnPlane s p (flowIdx s j.buf) && named (flowInst j.buf)) || (x.op == 0x42 && bits (le j.desc 24 1) 0 1 == p && named (bits (le j.desc 25 1) 0 3)) ||
          (x.op == 0x52 && filterPlane s j.desc == some p && named (bits (le j.desc 24 1) 1 3))

/-- The port's lanes restart from NO_SIGNAL, or rest in DISABLED, and its instances go DOWN with cause 7 (R290, R292). -/
def portRestart (s : Dev) (p q : Nat) : Dev :=
  let s := [0, 1, 2, 3].foldl (fun s k => if (ethInst s p (4 * q + k)).state = 0 then s else instGo s p (4 * q + k) 0 7) s
  [0, 1, 2, 3].foldl (fun s k => enterStage s p (72 + 4 * q + k) (if portMode s p q = 3 then 8 else 0)) s

/-- MAC_PORTCFG_MODE (R292): a write of MODE is stored; it applies where nothing names an instance that would change. -/
def macPortcfgMode (s : Dev) (p q mode : Nat) : Dev :=
  let i := ix p q
  let s := setF s F.MAC_PORTCFG_MODE i mode
  if portBusy s p q mode then setF s F.MAC_PORTCFG_CFG_ERR i 1
  else
    let changed := portMode s p q != mode
    let s := setF (setF s F.MAC_PORTCFG_CFG_ERR i 0) F.MAC_PORTSTAT_MODE_ACT i mode
    if changed then portRestart s p q else s

/-- MAC_PORTCFG_MEDIUM (R292): MEDIUM and AN apply at once; a change of either restarts the port's lanes. -/
def macPortcfgMedium (s : Dev) (p q medium an : Nat) : Dev :=
  let i := ix p q
  let changed := getF s F.MAC_PORTSTAT_MEDIUM_ACT i != medium || getF s F.MAC_PORTSTAT_AN_ACT i != an
  let s := setFs s i [(F.MAC_PORTCFG_MEDIUM, medium), (F.MAC_PORTCFG_AN, an), (F.MAC_PORTSTAT_MEDIUM_ACT, medium), (F.MAC_PORTSTAT_AN_ACT, an)]
  if changed then portRestart s p q else s

/-! Senders (R302 to R304). -/

/-- Packets of one frame of an ST 2110-20 or ST 2022-6 sender. -/
def framePackets (b : Bytes) : Nat :=
  let f := le b 44 1
  if flowEssence b = 0 then fmtHeight f * cdiv (fmtWidth f * sampBits (bits (le b 45 1) 0 4) / 8) (le b 48 2)
  else cdiv (bitsPerLine f (fmtIface f (bits (le b 45 1) 0 4 != 0)) * totalLines f) (8 * 1376)

/-- Samples per channel in one packet of an audio sender (R300). -/
def packetSamples (b : Bytes) : Nat := if bit (le b 55 1) 3 then 6 else 48

/-- RTP timestamp of packet of frame or first sample `n` (R212, R302). -/
def rtpTime (b : Bytes) (n : Nat) : Nat :=
  let start := n * framePeriod (le b 44 1 % 16)
  match flowEssence b with
  | 0 => start * 90000 / tickSec % 2 ^ 32
  | 1 => start * 27000000 / tickSec % 2 ^ 32
  | _ => n % 2 ^ 32

/-- Sequence number of packet `k` of frame or first sample `n` (R302, R303): the same on both networks whatever was withheld
(R132); its start is not given by the spec. -/
def rtpSeq (idx : Nat) (b : Bytes) (n k : Nat) : Nat :=
  let base := (Config.seqBase idx).toNat
  match flowEssence b with
  | 0 => (base + n * framePackets b + k) % 2 ^ 32
  | 1 => (base + n * framePackets b + k) % 2 ^ 16
  | _ => (base + n / packetSamples b) % 2 ^ 16

/-- IP_PACKET_SEND (R132, R302, R303): packet `k` of frame `n` (of an audio flow, the packet whose first sample is `n`) of sender
`idx` on plane `p`. `missing` says that it holds a position that was never accepted; `anc` names the ST 2110-40 part, whose
packets beyond the allowance (`overAllow`) are dropped and counted. -/
def ipPacketSend (s : Dev) (t p idx n k len : Nat) (missing anc overAllow : Bool) : Dev :=
  let s := s.at t
  let b := flowRec s idx
  let i := flowInst b
  let net := netOf s p
  let video := decide (idx < 4096)
  let d := 1152 + idx / 4
  let x := dstSt s p d
  let r := routeOf s (pkey s p d)
  let q := routedPlane s p d
  if b.isEmpty || !flowEnabled b || flowDir idx != 1 || !flowOnPlane s p idx || !planeSends s p || (ethInst s p i).state != 2 then s
  else if anc && overAllow then satAdd s F.FLOW_CNT_LATE (ix p (384 + idx / 4)) 1
  else if video && missing && withholds s p then countGone s q r.src F.PLN_MERGECNT_WITHHELD (2 ^ 64 + n * 65536 + k)
  else
    let s := if video && missing then countGone s q r.src F.PLN_MERGECNT_CONCEALED (2 ^ 64 + n * 65536 + k) else s
    let last := video && k + 1 == framePackets b
    let pt := bits (le b (if anc then 39 else 38) 1) 0 7
    let udp := flowUdp b + (if anc then 2 else 0)
    let sp := if le b 22 2 = 0 then udp else le b 22 2
    let rtp := rtpSeq idx b n k + rtpTime b n * 2 ^ 32 + b2n last * 2 ^ 64 + pt * 2 ^ 65 + le b 40 4 * 2 ^ 72
    let hdr := flowDst b net + udp * 2 ^ 32 + sp * 2 ^ 48 + bits (le b 3 1) 0 6 * 2 ^ 64 +
      (if le b (24 + 6 * net) 6 = 0 then groupMac (flowDst b net) else le b (24 + 6 * net) 6) * 2 ^ 72
    ethSend s p i 5 len (rtp + hdr * 2 ^ 104 + (if video then x.shown else 0x7FF) * 2 ^ 232)

/-! The commands of this file. -/

/-- PTP_SET (R54, R352): validation of the accepted command `jsn`. -/
def execPtpSet (t jsn : Nat) (s : State) : Host.Outcome State Fault Refusal :=
  .next { s with dev := withCmd s.dev t jsn 0x42 ptpSetCmd }

/-- FLOW_SET (R305, R306): validation of the accepted command `jsn`. -/
def execFlowSet (t jsn : Nat) (s : State) : Host.Outcome State Fault Refusal :=
  .next { s with dev := withCmd s.dev t jsn 0x51 flowSetCmd }

/-- MAC_FILTER (R311): validation of the accepted command `jsn`. -/
def execMacFilter (t jsn : Nat) (s : State) : Host.Outcome State Fault Refusal :=
  .next { s with dev := withCmd s.dev t jsn 0x52 macFilterCmd }

/-- STATS_SNAPSHOT (R309): validation of the accepted command `jsn`. -/
def execStatsSnapshot (t jsn : Nat) (s : State) : Host.Outcome State Fault Refusal :=
  .next { s with dev := withCmd s.dev t jsn 0x61 statsSnapshotCmd }

/-- ETH_FRAME_RX (R294): a frame arrives at MAC instance `inst`. -/
def execEthFrameRx (t : Nat) (p : Fin 2) (inst : Fin 8) (o : EthObs) (s : State) : Host.Outcome State Fault Refusal :=
  .next { s with dev := ethFrameRx s.dev t p inst o }

/-- ETH_LINK_CHANGE (R291): PCS lock of an instance is gained or lost, or its training times out. -/
def execEthLinkChange (t : Nat) (p : Fin 2) (inst : Fin 8) (new : Fin 3) (timeout : Bool) (s : State) : Host.Outcome State Fault Refusal :=
  .next { s with dev := ethLinkChange s.dev t p inst new timeout }

/-- IGMP_REPORT (R299): a membership report falls due. -/
def execIgmpReport (t : Nat) (p : Fin 2) (inst : Fin 8) (group : Nat) (s : State) : Host.Outcome State Fault Refusal :=
  .next { s with dev := igmpReport s.dev t p inst group }

/-- IGMP_QUERY_RESPONSE (R299): the response to a query falls due. -/
def execIgmpQueryResponse (t : Nat) (p : Fin 2) (inst : Fin 8) (s : State) : Host.Outcome State Fault Refusal :=
  .next { s with dev := igmpQueryResponse s.dev t p inst }

/-- MAC_PORTCFG_MODE (R292): MODE of port `q` is written. -/
def execMacPortcfgMode (t : Nat) (p q : Fin 2) (mode : Fin 4) (s : State) : Host.Outcome State Fault Refusal :=
  .next { s with dev := macPortcfgMode (s.dev.at t) p q mode }

/-- MAC_PORTCFG_MEDIUM (R292): MEDIUM and AN of port `q` are written. -/
def execMacPortcfgMedium (t : Nat) (p q : Fin 2) (medium : Fin 4) (an : Fin 2) (s : State) : Host.Outcome State Fault Refusal :=
  .next { s with dev := macPortcfgMedium (s.dev.at t) p q medium an }

/-- MAC_CAPQ_RESET (R312): MAC_CAPQ_BASE (`base`) or LOG2_SIZE is written. -/
def execMacCapqReset (t : Nat) (p : Fin 2) (base : Bool) (v : Nat) (s : State) : Host.Outcome State Fault Refusal :=
  .next { s with dev := macCapqReset (s.dev.at t) p base v }

/-- CAPTURE_IRQ (R298): the capture queue's message falls due. -/
def execCaptureIrq (t : Nat) (p : Fin 2) (s : State) : Host.Outcome State Fault Refusal :=
  .next { s with dev := captureIrq s.dev t p }

/-- PTP_DELAY_REQ_SEND (R308): PTP instance `n` sends a Delay_Req. -/
def execPtpDelayReqSend (t : Nat) (n : Fin 2) (s : State) : Host.Outcome State Fault Refusal :=
  .next { s with dev := ptpDelayReqSend s.dev t n }

/-- IP_PACKET_SEND (R302 to R304): packet `k` of frame `n` of a send flow falls due. -/
def execIpPacketSend (t : Nat) (p : Fin 2) (idx n k len : Nat) (missing anc overAllow : Bool) (s : State) : Host.Outcome State Fault Refusal :=
  .next { s with dev := ipPacketSend s.dev t p idx n k len missing anc overAllow }

end Sys2Proof.Machine
end

