-- ==== Sys2Proof/Machine/Flash.lean ====
section
/-! DEFINITION. The flash state store (R402 to R421): mounting, reads and their correction, bad blocks, wear, retention, the
two channels. -/

namespace Sys2Proof.Machine

/-! Channels and pools. -/

/-- Engine state of channel `ch`. -/
def flsSt (s : Dev) (ch : Nat) : FlsSt := mget {} s.fls ch

/-- Store the engine state of a channel. -/
def setFls (s : Dev) (ch : Nat) (x : FlsSt) : Dev := { s with fls := mset {} s.fls ch x }

/-- FLS_STAT.STATE: 0 ABSENT, 1 UNFORMATTED, 2 REBUILDING, 3 HEALTHY, 4 FAILED (R404, R419). -/
def flsState (s : Dev) (ch : Nat) : Nat := getF s F.FLS_STAT_STATE ch

/-- A channel that writes go to (R415). -/
def flsWritten (s : Dev) (ch : Nat) : Bool := flsState s ch == 2 || flsState s ch == 3

/-- The HEALTHY channels. -/
def healthyChans (s : Dev) : List Nat := [0, 1].filter fun c => flsState s c == 3

/-- Enter a channel state; JRN_STAT.FL0 and FL1 read 1 only in HEALTHY (R404). -/
def setFlsState (s : Dev) (ch v : Nat) : Dev :=
  let s := setF s F.FLS_STAT_STATE ch v
  let s := setFls s ch { flsSt s ch with cond := if v = 2 ∨ v = 3 then v else (flsSt s ch).cond }
  syncDegraded (setF s (if ch = 0 then F.JRN_STAT_FL0 else F.JRN_STAT_FL1) 0 (b2n (v == 3)))

/-- A pool of a channel. -/
def poolOf (x : FlsSt) (tlc : Bool) : FlsPool := if tlc then x.tlc else x.slc

/-- Change a pool. -/
def setPool (s : Dev) (ch : Nat) (tlc : Bool) (p : FlsPool) : Dev :=
  let x := flsSt s ch
  setFls s ch (if tlc then { x with tlc := p } else { x with slc := p })

/-- Erase count of a block. -/
def eraseOf (p : FlsPool) (b : Nat) : Nat := mget 0 p.erase b

/-- Highest erase count of a pool. -/
def maxErase (p : FlsPool) : Nat := p.erase.foldl (fun m e => max m e.2) 0

/-- Lowest erase count of a pool: 0 while some good block has never been erased since the format. -/
def minErase (p : FlsPool) : Nat :=
  if p.erase.length < p.good then 0 else match p.erase with | [] => 0 | e :: r => r.foldl (fun m q => min m q.2) e.2

/-- FLS_BLOCKS and FLS_WEAR follow the pools (R420). -/
def syncPools (s : Dev) (ch : Nat) : Dev :=
  let x := flsSt s ch
  setFs s ch [(F.FLS_BLOCKS_SPARE_INIT, x.slc.init + x.tlc.init), (F.FLS_BLOCKS_SPARE_NOW, x.slc.spare + x.tlc.spare),
    (F.FLS_WEAR_PSLC_MAX, maxErase x.slc), (F.FLS_WEAR_PSLC_MIN, minErase x.slc), (F.FLS_WEAR_TLC_MAX, maxErase x.tlc),
    (F.FLS_WEAR_TLC_MIN, minErase x.tlc)]

/-! Bad blocks (R412). -/

/-- A block grows bad: its valid pages move to a spare of its pool and the bad-block table changes. A reserve that falls to half
raises a WARN event, and an empty one fails the channel. -/
def retireBlock (s : Dev) (ch : Nat) (tlc : Bool) (block : Nat) : Dev :=
  let p := poolOf (flsSt s ch) tlc
  if p.spare = 0 then faultEvent s (34 + ch) 0x0F 0
  else
    let q := { p with spare := p.spare - 1, erase := mset 0 p.erase block 0, levels := mset p.start p.levels block p.start,
                      used := p.used.filter (· != block) }
    let s := satAdd (setPool s ch tlc q) F.FLS_BLOCKS_GROWN_BAD ch 1
    let s := setFls s ch { flsSt s ch with dirDue := true }
    let s := syncPools s ch
    if 2 * q.spare ≤ p.init ∧ p.init < 2 * p.spare then faultEvent s (34 + ch) 0x08 0 else s

/-! The flush in progress (R361, R410). -/

/-- A flash copy of R356 is outstanding: a still or colour table whose flash copy differs (R361). -/
def payloadPend (s : Dev) : Bool :=
  (s.ctl.mech.any fun q => (q.1 / 65536 == mkStill || q.1 / 65536 == mkLut) && (mget {} s.library q.1).data != q.2.data) ||
    (s.sec.stage.isSome && s.sec.inFlash == false)

/-- The flush is programmed on every HEALTHY channel and on one at least: its records are durable (R361). With no HEALTHY channel
left it counts for nothing (R415). -/
def flushCheck (s : Dev) : Dev :=
  match s.jrn.flushing with
  | none => s
  | some (img, jsn) =>
    let h := healthyChans s
    if h.isEmpty then { s with jrn := { s.jrn with flushing := none, unflushed := true, fl0w := false, fl1w := false } }
    else if h.any fun c => if c = 0 then s.jrn.fl0w else s.jrn.fl1w then s
    else
      let mask := s.jrn.flMask
      let s := { s with jrn := { s.jrn with flushing := none, durable := img, durJsn := jsn, staging := s.jrn.staging - s.jrn.flBytes } }
      if getF s F.JRN_DURABLE_DURABLE_JSN 0 < jsn then
        let s := setF s F.JRN_DURABLE_DURABLE_JSN 0 jsn
        deliverAll (raise s 0x0D 32 jsn (mask % 4 + b2n (payloadPend s) * 4))
      else s

/-- FLASH_PROGRAM_DONE (R410, R412): the program of the running flush ends on channel `ch` in block `block`; after a failure the
pages are repeated in another block. -/
def flashProgramDone (s : Dev) (t ch block : Nat) (ok : Bool) : Dev :=
  let s := s.at t
  let busy := if ch = 0 then s.jrn.fl0w else s.jrn.fl1w
  if !busy || s.jrn.flushing.isNone then s
  else if ok then
    let jsn := match s.jrn.flushing with | some q => q.2 | none => 0
    let p := (flsSt s ch).slc
    let s := setPool s ch false { p with used := if p.used.contains block then p.used else block :: p.used }
    let s := setFls s ch { flsSt s ch with tail := jsn }
    let m := s.jrn.flMask ||| 2 ^ ch
    flushCheck { s with jrn := { s.jrn with flMask := m, fl0w := if ch = 0 then false else s.jrn.fl0w,
                                            fl1w := if ch = 0 then s.jrn.fl1w else false } }
  else
    let s := retireBlock s ch false block
    if !flsWritten s ch then flushCheck s
    else if s.rst.pwrLowAt.isSome then s
    else emit s (.flash ch 8 0 (getF s F.JRN_HEAD_HEAD_JSN 0))

/-- FLASH_TARGET_TIMEOUT (R415): a target busy for more than 100 ms, or the flush not programmed within 40 ms of its due time,
fails the channel. -/
def flashTargetTimeout (s : Dev) (t ch target : Nat) (flush : Bool) : Dev :=
  let s := s.at t
  let late := s.jrn.flushing.isSome && (if ch = 0 then s.jrn.fl0w else s.jrn.fl1w) && decide (s.jrn.lastFlush + 40 * 54000000 ≤ t)
  if flsWritten s ch && (!flush || late) then flushCheck (faultEvent s (34 + ch) 0x05 target) else s

/-- FLASH_ERASE_DONE (R412, R413). -/
def flashEraseDone (s : Dev) (t ch : Nat) (tlc : Bool) (block : Nat) (ok : Bool) : Dev :=
  let s := s.at t
  if ok then
    let p := poolOf (flsSt s ch) tlc
    let n := min 0xFFFF (eraseOf p block + 1)
    syncPools (setPool s ch tlc { p with erase := mset 0 p.erase block n, used := p.used.filter (· != block) }) ch
  else flushCheck (retireBlock s ch tlc block)

/-! Reading and correction (R411). -/

/-- Insert a read-retry level by its distance from the current one, the lower of two at one distance first. -/
def insLevel (cur l : Nat) : List Nat → List Nat
  | [] => [l]
  | m :: r => if (l - cur) + (cur - l) < (m - cur) + (cur - m) then l :: m :: r else m :: insLevel cur l r

/-- The other read-retry levels in the order in which they are tried. -/
def levelOrder (n cur : Nat) : List Nat := ((List.range n).filter (· != cur)).foldl (fun l k => insLevel cur k l) []

/-- FLASH_READ_DONE (R411, R412): hard decode and soft decode at the block's level, then the other levels; a page that needed more
than a hard decode of 120 bits is relocated, and an uncorrectable one is taken from the other channel. -/
def flashReadDone (s : Dev) (t ch : Nat) (o : ReadObs) : Dev :=
  let s := s.at t
  let x := flsSt s ch
  let p := poolOf x o.tlc
  let cur := mget p.start p.levels o.block
  if o.hard.contains cur then (if 120 < o.corrected then satAdd s F.FLS_ECC_RELOC ch 1 else s)
  else if o.soft.contains cur then satAdd (satAdd s F.FLS_ECC_SOFT ch 1) F.FLS_ECC_RELOC ch 1
  else
    match (levelOrder x.retry cur).find? fun l => o.hard.contains l || o.soft.contains l with
    | some l =>
      let s := setPool s ch o.tlc { p with levels := mset p.start p.levels o.block l }
      let s := if o.hard.contains l then s else satAdd s F.FLS_ECC_SOFT ch 1
      satAdd (satAdd s F.FLS_ECC_RETRY ch 1) F.FLS_ECC_RELOC ch 1
    | none =>
      let s := satAdd s F.FLS_ECC_UNCORR ch 1
      let s := if flsState s (1 - ch) = 3 ∧ flsWritten s ch ∧ s.rst.pwrLowAt.isNone then emit s (.flash ch (if o.tlc then 0x0B else 0x08) o.block 0) else s
      if o.persists then flushCheck (retireBlock s ch o.tlc o.block) else s

/-! Mounting (R403, R405). -/

/-- CRC-16 of R244 over one more bit, most significant first. -/
def crcBit (crc b : Nat) : Nat := if crc / 32768 % 2 = b then crc * 2 % 65536 else (crc * 2 % 65536) ^^^ 0x1021

/-- CRC-16 of R244: polynomial 0x1021, initial value 0xFFFF, each byte most significant bit first. -/
def crc16 (b : Bytes) : Nat :=
  b.foldl (fun crc x => [7, 6, 5, 4, 3, 2, 1, 0].foldl (fun c k => crcBit c (bits x.toNat k 1)) crc) 0xFFFF

/-- A valid card profile (R403). -/
def profileOk (b : Bytes) : Bool := b.length == 32 && le b 0 2 == 0xA51C && le b 30 2 == crc16 (b.take 30)

/-- What a directory says of a channel's pools (R407). -/
def loadDir (s : Dev) (ch : Nat) (d : DirObs) : Dev :=
  let x := flsSt s ch
  let slc := { x.slc with good := d.goodS, init := d.initS, spare := d.spareS }
  let tlc := { x.tlc with good := d.goodT, init := d.initT, spare := d.spareT }
  let s := setFls s ch { x with slc := slc, tlc := tlc, age := d.age * 62914560, dirAt := s.now }
  syncPools (setFs s ch [(F.FLS_BLOCKS_FACTORY_BAD, d.factoryBad), (F.FLS_BLOCKS_GROWN_BAD, d.grownBad),
    (F.FLS_SCRUB_LAST, d.lastScrub), (F.FLS_SCRUB_AGE, d.age)]) ch

/-- Format a channel (R407): fresh pools and a new directory; too few good blocks fail it. -/
def formatChan (s : Dev) (ch : Nat) (scan : Option DirObs) : Dev :=
  match scan with
  | none => faultEvent s (34 + ch) 0x0F 0
  | some d =>
    let s := setFls s ch { retry := (flsSt s ch).retry, fresh := (flsSt s (1 - ch)).cond == 0 || !flsWritten s (1 - ch) }
    setFlsState (emit (loadDir s ch d) (.flash ch 1 0 0)) ch 2

/-- FLASH_MOUNT (R402 to R409): `profile` is what the boot ROM reads from the EEPROM before the first access after COLD. With no
profile nothing mounts. A channel that FAILED and was cleared comes back through a format (R404). -/
def flashMount (s : Dev) (t ch : Nat) (profile : Bytes) (o : MountObs) : Dev :=
  let s := s.at t
  if s.rst.phase ≠ 2 ∨ s.rst.inReset.any (fun d => d.step == 7) then s
  else
    let s := { s with profile := s.profile || profileOk profile }
    if !s.profile then s
    else
      let s := setFs s ch [(F.FLS_STAT_TARGETS, o.targets), (F.FLS_STAT_LUNS, o.luns), (F.FLS_STAT_PROFILE, 1),
        (F.FLS_STAT_SENSOR, b2n o.sensor)]
      let rr := le profile 10 1
      let x := flsSt s ch
      let s := setFls s ch { x with retry := if profileOk profile && rr != 0 then rr else if x.retry = 0 then o.levels else x.retry }
      if o.targets = 0 then setFlsState s ch 0
      else if !o.paramOk || !o.meets then setFlsState s ch 1
      else if bit s.flt.outOfService (34 + ch) || (x.cond == 4 && !o.format) then setFlsState s ch 4
      else if x.cond = 4 then formatChan s ch o.scan
      else
        match o.dir with
        | none => if o.format then formatChan s ch o.scan else setFlsState s ch 1
        | some d =>
          let s := loadDir s ch d
          let s := setFls s ch { flsSt s ch with tail := o.tail }
          let s := setF s F.FLS_STAT_SCRUB ch (b2n (flsSt s ch).scrubbing)
          let behind := flsWritten s (1 - ch) && decide (o.tail < (flsSt s (1 - ch)).tail)
          setFlsState s ch (if x.cond = 2 ∨ behind then 2 else 3)

/-- FLASH_REBUILD_DONE (R404, R416): every partition matches the HEALTHY channel, or there was none to fill from at the format. -/
def flashRebuildDone (s : Dev) (t ch : Nat) : Dev :=
  let s := s.at t
  if flsState s ch = 2 ∧ (flsState s (1 - ch) = 3 ∨ (flsSt s ch).fresh) then
    setFlsState (setFls s ch { flsSt s ch with fresh := false, tail := max (flsSt s ch).tail (flsSt s (1 - ch)).tail }) ch 3
  else s

/-- FLASH_DIR_REWRITE (R407): after a change of block ownership, and in any case every 10 min. -/
def flashDirRewrite (s : Dev) (t ch : Nat) : Dev :=
  let s := s.at t
  let x := flsSt s ch
  if flsWritten s ch && (x.dirDue || decide (x.dirAt + 600 * tickSec ≤ t)) && s.rst.pwrLowAt.isNone then
    emit (setFls s ch { x with dirDue := false, dirAt := t }) (.flash ch 1 0 0)
  else s

/-! Wear (R413). -/

/-- The block of a list with the extreme erase count by `better`. -/
def pickBlock (p : FlsPool) (better : Nat → Nat → Bool) : List Nat → Option Nat
  | [] => none
  | b :: r =>
    match pickBlock p better r with
    | none => some b
    | some c => if better (eraseOf p c) (eraseOf p b) then some c else some b

/-- FLASH_WEAR_LEVEL (R413): with a spread above 500, at most once a minute, the data of the least-erased block goes to the
most-erased free block. Nothing starts with PWRGOOD low (R418). -/
def flashWearLevel (s : Dev) (t ch : Nat) (tlc : Bool) : Dev :=
  let s := s.at t
  let x := flsSt s ch
  let p := poolOf x tlc
  let due := match x.movedAt with | none => true | some a => decide (a + 60 * tickSec ≤ t)
  if due && flsWritten s ch && s.rst.pwrLowAt.isNone && decide (500 < maxErase p - minErase p) then
    match pickBlock p (fun a b => decide (a < b)) p.used,
        pickBlock p (fun a b => decide (b < a)) ((p.erase.map (·.1)).filter fun b => !p.used.contains b) with
    | some a, some b =>
      let s := setPool s ch tlc { p with used := b :: p.used.filter (· != a) }
      emit (setFls s ch { flsSt s ch with movedAt := some t, dirDue := true }) (.flash ch 0x10 a b)
    | _, _ => s
  else s

/-! Retention (R414). -/

/-- floor(2^20 · 2^(n/160)): the equivalent age of one minute at `n` sixteenths of a degree above 40 °C, in minutes times 2^20
(log entry 27). -/
def agePow (n : Nat) : Nat :=
  (List.range 27).foldl (fun a k => if (a + 2 ^ (26 - k)) ^ 160 ≤ 2 ^ (3200 + n) then a + 2 ^ (26 - k) else a) 0

/-- A full scrub starts (R414). -/
def startScrub (s : Dev) (ch : Nat) : Dev :=
  setF (setFls s ch { flsSt s ch with scrubbing := true }) F.FLS_STAT_SCRUB ch 1

/-- NAND_TEMP_READ (R414): the minute's temperature, 70 °C where no sensor answers, ages the store. -/
def nandTempRead (s : Dev) (t ch : Nat) (temp : Option Int) : Dev :=
  let s := s.at t
  let v := match temp with | some v => v | none => 1120
  let n := (clampI 480 (v - 1120) + 480).toNat
  let x := flsSt s ch
  let a := x.age + agePow n
  let s := setFls s ch { x with age := a }
  let s := setFs s ch [(F.FLS_STAT_SENSOR, b2n temp.isSome), (F.FLS_SCRUB_TEMP, usgn 16 v), (F.FLS_SCRUB_AGE, min 0xFFFF (a / 62914560))]
  if 2160 * 62914560 ≤ a && !x.scrubbing && flsWritten s ch then startScrub s ch else s

/-- FLASH_SCRUB_DONE (R414). -/
def flashScrubDone (s : Dev) (t ch : Nat) : Dev :=
  let s := s.at t
  if (flsSt s ch).scrubbing then
    setFs (setFls s ch { flsSt s ch with scrubbing := false, age := 0, dirDue := true }) ch
      [(F.FLS_STAT_SCRUB, 0), (F.FLS_SCRUB_AGE, 0), (F.FLS_SCRUB_LAST, t / tickSec % 2 ^ 32)]
  else s

/-- First entry to SERVICE after COLD (R414): a scrub where the last lies more than 30 days back or house time is not valid. -/
def serviceScrub (s : Dev) (ch : Nat) : Dev :=
  let late := decide (getF s F.FLS_SCRUB_LAST ch + 2592000 < s.now / tickSec) || getF s F.DPLL_STATUS_TOD_VALID 0 == 0
  if late && flsWritten s ch && !(flsSt s ch).scrubbing then startScrub s ch else s

/-! The commands of this file. -/

/-- FLASH_PROGRAM_DONE (R361, R410): the flush's program ends on channel `ch`. -/
def execFlashProgramDone (t : Nat) (ch : Fin 2) (block : Nat) (ok : Bool) (s : State) : Host.Outcome State Fault Refusal :=
  .next { s with dev := flashProgramDone s.dev t ch block ok }

/-- FLASH_MOUNT (R403, R405): a flash channel is mounted. -/
def execFlashMount (t : Nat) (ch : Fin 2) (profile : Bytes) (o : MountObs) (s : State) : Host.Outcome State Fault Refusal :=
  .next { s with dev := flashMount s.dev t ch profile o }

/-- FLASH_READ_DONE (R411, R412): a flash read ends. -/
def execFlashReadDone (t : Nat) (ch : Fin 2) (o : ReadObs) (s : State) : Host.Outcome State Fault Refusal :=
  .next { s with dev := flashReadDone s.dev t ch o }

/-- FLASH_TARGET_TIMEOUT (R415): a flash target gives no status. -/
def execFlashTargetTimeout (t : Nat) (ch : Fin 2) (target : Nat) (flush : Bool) (s : State) : Host.Outcome State Fault Refusal :=
  .next { s with dev := flashTargetTimeout s.dev t ch target flush }

/-- FLASH_REBUILD_DONE (R416): a channel has been rebuilt. -/
def execFlashRebuildDone (t : Nat) (ch : Fin 2) (s : State) : Host.Outcome State Fault Refusal :=
  .next { s with dev := flashRebuildDone s.dev t ch }

/-- FLASH_DIR_REWRITE (R407): the directory falls due to be rewritten. -/
def execFlashDirRewrite (t : Nat) (ch : Fin 2) (s : State) : Host.Outcome State Fault Refusal :=
  .next { s with dev := flashDirRewrite s.dev t ch }

/-- FLASH_WEAR_LEVEL (R413): wear levelling of a pool falls due. -/
def execFlashWearLevel (t : Nat) (ch : Fin 2) (tlc : Bool) (s : State) : Host.Outcome State Fault Refusal :=
  .next { s with dev := flashWearLevel s.dev t ch tlc }

/-- NAND_TEMP_READ (R414): the NAND temperature is read. -/
def execNandTempRead (t : Nat) (ch : Fin 2) (temp : Option Int) (s : State) : Host.Outcome State Fault Refusal :=
  .next { s with dev := nandTempRead s.dev t ch temp }

/-- FLASH_SCRUB_DONE (R414): a full scrub of a channel ends. -/
def execFlashScrubDone (t : Nat) (ch : Fin 2) (s : State) : Host.Outcome State Fault Refusal :=
  .next { s with dev := flashScrubDone s.dev t ch }

/-- FLASH_ERASE_DONE (R412): an erase ends. -/
def execFlashEraseDone (t : Nat) (ch : Fin 2) (tlc : Bool) (block : Nat) (ok : Bool) (s : State) : Host.Outcome State Fault Refusal :=
  .next { s with dev := flashEraseDone s.dev t ch tlc block ok }

end Sys2Proof.Machine
end

