-- ==== Sys2Proof/Machine/Control.lean ====
section
/-! DEFINITION. The journal, checkpoints, the Belay and the untimed control commands (R347 to R349, R355 to R370, R394 to
R397). -/

namespace Sys2Proof.Machine

/-! NOP and BARRIER (R348), and untimed commands (R349). -/

/-- The command names a frame that has not started. -/
def targetAhead (s : Dev) (j : JRec) : Bool := bit j.flags 1 && j.target != 0 && decide (s.now < frameStart s j.target)

/-- Hold a command until the start of its target frame (R348, R349). -/
def holdToFrame (s : Dev) (j : JRec) : Dev :=
  schedule s { jsn := j.jsn, op := j.op, frame := j.target, atFrame := true }

/-- The checks of NOP and BARRIER in the order of R342 (R348). -/
def nopChecks (s : Dev) (j : JRec) : Option Refuse :=
  checksOf s j gdet [] [] [] []

/-- NOP and BARRIER (R348). -/
def nopCmd (s : Dev) (j : JRec) : Dev :=
  match nopChecks s j with
  | some r => refuse s j r
  | none =>
    if targetAhead s j then holdToFrame s j
    else decideCmd s j.jsn stDone (if bit j.flags 1 && j.target != 0 then hfn s else 0) 0

/-- NOP or BARRIER at the start of its frame (R348). -/
def applyNop (s : Dev) (x : Pend) (n : Nat) : Dev := decideCmd (unpend s x.jsn) x.jsn stDone n 0

/-- An untimed command that has passed its checks acts now, or not before its target frame (R349). -/
def actOrHold (s : Dev) (j : JRec) (act : Dev → JRec → Dev) : Dev := if targetAhead s j then holdToFrame s j else act s j

/-- An untimed command's action has ended: APPLIED is the frame in which it did (R330). -/
def endUntimed (s : Dev) (jsn detail : Nat) : Dev := decideCmd (unpend s jsn) jsn stDone (hfn s) detail

/-- An untimed command whose condition fails when its action starts (R349). -/
def failUntimed (s : Dev) (jsn : Nat) (r : Refuse) : Dev := decideCmd (unpend s jsn) jsn r.1 0 r.2

/-- A command whose action runs on: it is validated, and another event completes it. -/
def markRunning (s : Dev) (jsn : Nat) : Dev := modRec (unpend s jsn) jsn fun r => { r with validated := true }

/-! Checkpoints (R363). -/

/-- Write a checkpoint to the older slot of each trained stack, to each healthy flash channel and to the peer. A trained stack whose
ring an uncorrectable error took out counts as a copy again from here (R378, R393). -/
def writeCheckpoint (s : Dev) : Dev :=
  let seq := getF s F.JRN_CKPT_SEQ 0 + 1
  let s := setFs s 0 [(F.JRN_CKPT_SEQ, seq), (F.JRN_CKPT_JSN_JSN, getF s F.JRN_HEAD_HEAD_JSN 0)]
  let s := { s with jrn := { s.jrn with sinceOlder := s.jrn.sinceLast, sinceLast := 0, lastCkpt := s.now } }
  let s := if s.jrn.sinceOlder < 264241152 then setF s F.JRN_STAT_FULL 0 0 else s
  let s := [0, 1].foldl (fun s p => if hbmState s p = 2 then setF s (if p = 0 then F.JRN_STAT_HBM0 else F.JRN_STAT_HBM1) 0 1 else s) s
  let s := if s.rst.pwrLowAt.isNone then emits s ((healthyChans s).map fun c => .flash c 6 0 seq) else s
  if getF s F.JRN_STAT_PEER 0 = 1 then emit s (.peer 5 seq) else s

/-- The action of CHECKPOINT: the detail word is the sequence number (R363). -/
def checkpointAct (s : Dev) (j : JRec) : Dev :=
  let s := writeCheckpoint s
  endUntimed s j.jsn (getF s F.JRN_CKPT_SEQ 0)

/-- The checks of CHECKPOINT in the order of R342 (R354, R363). -/
def checkpointChecks (s : Dev) (j : JRec) : Option Refuse :=
  checksOf s j gdet [] [] [] []

/-- CHECKPOINT (R354, R363). -/
def checkpointCmd (s : Dev) (j : JRec) : Dev :=
  match checkpointChecks s j with
  | some r => refuse s j r
  | none => actOrHold s j checkpointAct

/-- CHECKPOINT_TIMER (R363): every 60 s, or after 64 MiB of journal, while Ilesen runs. -/
def checkpointTimer (s : Dev) (t : Nat) : Dev :=
  let s := s.at t
  if (s.jrn.lastCkpt + 60 * tickSec ≤ t ∨ 67108864 ≤ s.jrn.sinceLast) ∧ s.jrn.outage = false ∧ 2 ≤ devState s ∧ devState s ≤ 5 then
    writeCheckpoint s
  else s

/-! Flushes (R358, R361, R410). -/

/-- Program every record since the last flush on each channel that takes writes. A flush with no new record writes nothing, and
none starts while the last is still being programmed (log entry 28) or with PWRGOOD low (R418). -/
def flushNow (s : Dev) : Dev :=
  let s := { s with jrn := { s.jrn with lastFlush := s.now } }
  if !s.jrn.unflushed || s.jrn.flushing.isSome || s.rst.pwrLowAt.isSome || !([0, 1].any (flsWritten s)) then s
  else
    let jsn := getF s F.JRN_HEAD_HEAD_JSN 0
    let s := emits s (([0, 1].filter (flsWritten s)).map fun c => .flash c 8 0 jsn)
    { s with jrn := { s.jrn with unflushed := false, flushing := some (s.ctl, jsn), flMask := 0, flBytes := s.jrn.staging,
                                 fl0w := flsWritten s 0, fl1w := flsWritten s 1 } }

/-- JOURNAL_FLUSH (R361): at a house frame start, and 5 ms after the last flush. -/
def journalFlush (s : Dev) (t : Nat) : Dev :=
  let s := s.at t
  if t % framePeriod s.ctl.ref.rate = 0 ∨ s.jrn.lastFlush + 270000000 ≤ t then flushNow s else s

/-! The Belay (R366 to R370). -/

/-- BELAY_HB (R366): a heartbeat of processor `n`, taken from the active processor's epoch only. -/
def belayHb (s : Dev) (t n : Nat) : Dev :=
  let s := s.at t
  if getF s F.BELAY_STAT_ACTIVE_PP 0 = n ∧ ppState s n = 0 then setF s F.BELAY_STAT_MISSES 0 0 else s

/-- BELAY_HB_MISS (R366): a millisecond without a heartbeat; the third in a row fences. The processor that a takeover is
starting is not counted (log entry 29). -/
def belayHbMiss (s : Dev) (t : Nat) : Dev :=
  let s := s.at t
  let a := getF s F.BELAY_STAT_ACTIVE_PP 0
  if s.jrn.outage || ppState s a != 0 then s
  else
    let s := satAdd s F.BELAY_STAT_MISSES 0 1
    if 3 ≤ getF s F.BELAY_STAT_MISSES 0 then fence s 1 else s

/-- FENCE_DRAIN_DONE (R366, R367): the fabric is drained of the retired epoch, and replay begins. -/
def fenceDrainDone (s : Dev) (t : Nat) : Dev :=
  let s := s.at t
  match s.jrn.draining with
  | none => s
  | some _ =>
    let a := getF s F.BELAY_STAT_ACTIVE_PP 0
    let s := if ppState s a = 2 then releaseReset s 5 a 9 else s
    setF { s with jrn := { s.jrn with draining := none } } F.JRN_STAT_REPLAY 0 1

/-- A BIST runs while a processor is TESTING (R474). -/
def syncBist (s : Dev) : Dev :=
  syncFltMode { s with flt := { s.flt with bist := ppState s 0 == 3 || ppState s 1 == 3 } }

/-- PP_BIST_DONE (R367, R368): a processor that has been fenced becomes STANDBY when its BIST passes and its FLT_STATUS bit is
clear, and FAILED otherwise. The processor that the Belay has chosen as active becomes ACTIVE, as does one that passes when the
chosen one has failed; with no processor left, the device halts. -/
def ppBistDone (s : Dev) (t n : Nat) (pass : Bool) : Dev :=
  let s := s.at t
  if ppState s n ≠ 3 then s
  else if pass then
    let clear := !bit (getF s F.FLT_STATUS_BITS 0) (29 + n)
    let a := getF s F.BELAY_STAT_ACTIVE_PP 0
    if a = n ∨ ppState s a = 4 then syncBist (syncDegraded (dropReset (setF (setPp s n 0) F.BELAY_STAT_ACTIVE_PP 0 n) 5 n 9))
    else syncBist (syncDegraded (setPp s n (if clear then 1 else 4)))
  else
    let s := syncBist (setPp s n 4)
    let s := syncDegraded (setPp (faultEvent s (29 + n) 0x07 0) n 4)
    if ppState s 0 = 4 ∧ ppState s 1 = 4 then faultHalt s else s

/-- The active role passes to the standby, whose old holder becomes STANDBY; with no standby the active processor restarts
(R369, R435): its epoch is retired as at a fence and the control epoch rises. -/
def handover (s : Dev) : Dev :=
  let a := getF s F.BELAY_STAT_ACTIVE_PP 0
  let standby := ppState s (1 - a) == 1
  let s := writeCheckpoint s
  let s := { s with
    ctl := { s.ctl with epoch := (s.ctl.epoch + 1) % 2 ^ 32 }
    jrn := { s.jrn with outage := true, draining := some s.now, retired := mset 0 s.jrn.retired a (mget 0 s.jrn.retired a + 1) } }
  let s := setFs s 0 [(F.BELAY_EPOCH_EPOCH, s.ctl.epoch), (F.BELAY_STAT_MISSES, 0)]
  let s := journal s 64
  let s := setF s (if a = 0 then F.MTX_CTRL_REMAP_PP0 else F.MTX_CTRL_REMAP_PP1) 0 0
  let s := if standby then dropReset (setF (setPp (setPp s (1 - a) 0) a 1) F.BELAY_STAT_ACTIVE_PP 0 (1 - a)) 5 (1 - a) 9 else s
  historyWindow s

/-- The conditions of PP_SWITCH (R354): Pair, already active, not healthy in standby. -/
def ppSwitchConds (s : Dev) (j : JRec) : List (Bool × Nat × Nat) :=
  let n := bits (le j.desc 24 1) 0 1
  [(s.ctl.pair, stConflict, genDetail 0 false 1), (getF s F.BELAY_STAT_ACTIVE_PP 0 == n, stConflict, genDetail 0 false 2),
    (ppState s n != 1, stConflict, genDetail 0 false 3)]

/-- The action of PP_SWITCH (R369); TAKEOVER_COMPLETE completes it. -/
def ppSwitchAct (s : Dev) (j : JRec) : Dev :=
  match firstFail (ppSwitchConds s j) with
  | some r => failUntimed s j.jsn r
  | none =>
    let s := handover (markRunning s j.jsn)
    let s := satAdd s F.BELAY_FAILOVERS_COUNT 0 1
    let s := raise s 0x0E 31 j.jsn (failoverDetail (getF s F.BELAY_STAT_ACTIVE_PP 0) 5 0 s.ctl.epoch)
    { s with jrn := { s.jrn with ppSwitch := some j.jsn } }

/-- The checks of PP_SWITCH in the order of R342 (R354, R369). -/
def ppSwitchChecks (s : Dev) (j : JRec) : Option Refuse :=
  checksOf s j gdet [] [] (ppSwitchConds s j) []

/-- PP_SWITCH (R354, R369). -/
def ppSwitchCmd (s : Dev) (j : JRec) : Dev :=
  match ppSwitchChecks s j with
  | some r => refuse s j r
  | none => actOrHold s j ppSwitchAct

/-! RING_ADOPT (R333). -/

/-- A ring of HIF `o` may be adopted: not ACTIVE for 100 ms, disabled, or forced, and not adopted already. -/
def adoptable (s : Dev) (o r : Nat) (force : Bool) : Bool :=
  !isAdopted s o r &&
    ((hifState s o != 3 && decide ((hifOf s o).inactiveAt + 5400000000 ≤ s.now)) || getF s F.CRING_CFG_EN (ix o r) == 0 || force)

/-- Rings that a mask names. -/
def maskRings (m : Nat) : List Nat := (List.range 16).filter fun r => bit m r

/-- The refusal of a RING_ADOPT that is not legal. -/
def adoptConds (s : Dev) (j : JRec) : List (Bool × Nat × Nat) :=
  let o := bits (le j.desc 24 1) 0 1
  [((maskRings (le j.desc 26 2)).any fun r => !adoptable s o r (bit (le j.desc 24 1) 1), stConflict, 0)]

/-- Ring `r` of HIF `o` is adopted: its backlog goes to ring `r` of the other HIF in JSN order, with FOREIGN. -/
def adoptRing (s : Dev) (o r : Nat) : Dev :=
  let away := ((ringOf s (1 - o) r).entries ++ (ringOf s (1 - o) r).waiting).map (·.jsn)
  let b := ((backlogOf s o r).filter fun c => !away.contains c.jsn).map fun c => { c with foreign := 1, irq := false }
  let x := ringOf s o r
  let dups := (x.waiting.filter fun c => c.status == stDup).map fun c => { c with foreign := 1 }
  let s := setRing s o r { x with waiting := [], entries := [] }
  let s := modCtl s fun c => { c with adopted := mset 0 c.adopted (16 * o + r) 1 }
  let y := ringOf s (1 - o) r
  deliver (setRing s (1 - o) r { y with waiting := y.waiting ++ b ++ dups }) (1 - o) r

/-- The action of RING_ADOPT. -/
def ringAdoptAct (s : Dev) (j : JRec) : Dev :=
  match firstFail (adoptConds s j) with
  | some r => failUntimed s j.jsn r
  | none =>
    let o := bits (le j.desc 24 1) 0 1
    endUntimed ((maskRings (le j.desc 26 2)).foldl (fun s r => adoptRing s o r) s) j.jsn 0

/-- The checks of RING_ADOPT in the order of R342 (R333, R352). -/
def ringAdoptChecks (s : Dev) (j : JRec) : Option Refuse :=
  checksOf s j gdet [(bits (le j.desc 24 1) 0 1 == j.hif % 2, stInvalid, gdet 24)] [(le j.desc 26 2 == 0, stRange, gdet 26)]
      (adoptConds s j) []

/-- RING_ADOPT (R333, R352): naming the issuing HIF is INVALID and a mask of 0 RANGE. -/
def ringAdoptCmd (s : Dev) (j : JRec) : Dev :=
  match ringAdoptChecks s j with
  | some r => refuse s j r
  | none => actOrHold s j ringAdoptAct

/-! Bivouac (R394 to R397). -/

/-- The detail word of a BIVOUAC completion (R397). -/
def bivouacDetail (enter s0 s1 ms : Nat) : Nat := enter + s0 * 2 + s1 * 4 + (if 0xFFFF < ms then 0xFFFF else ms) * 65536

/-- Milliseconds since `a`. -/
def msSince (s : Dev) (a : Nat) : Nat := (s.now - a) / 54000000

/-- The conditions of a BIVOUAC entry (R354): items pending, a firmware update staged or scheduled. -/
def bivouacConds (s : Dev) (j : JRec) : List (Bool × Nat × Nat) :=
  if bit (le j.desc 24 1) 0 then
    [(pendCount s != 0, stConflict, genDetail 0 false 1),
      ([1, 2, 3].contains (getF s F.SEC_FW_STAT_UPDATE 0), stConflict, genDetail 0 false 2)]
  else []

/-- A survey is abandoned at Bivouac entry (R488): a command that started it completes with CANCELLED. -/
def abandonSurvey (s : Dev) : Dev :=
  match s.age.startedAt with
  | none => s
  | some _ =>
    let j := s.age.jsn
    let s := setF { s with age := { s.age with startedAt := none, jsn := none } } F.AGE_STAT_RUNNING 0 0
    match j with | none => s | some n => decideCmd s n stCancelled 0 0

/-- Bivouac entry at a house frame start (R394): checkpoint, links idle, both planes held and OFF, both stacks toward partial-array
self-refresh. -/
def bivouacEnter (s : Dev) (x : Pend) (j : JRec) : Dev :=
  match firstFail (bivouacConds s j) with
  | some r => failUntimed { s with jrn := { s.jrn with bivIn := none } } j.jsn r
  | none =>
    let s := writeCheckpoint (markRunning s x.jsn)
    let s := abandonSurvey s
    let s := (List.range 36).foldl (fun s k =>
      if linkState s (k / 18) (k % 18) = 2 ∨ linkState s (k / 18) (k % 18) = 3 then linkIdle s (k / 18) (k % 18) x.jsn else s) s
    let s := [0, 1].foldl (fun s p => setPlaneSt (setPlane s p 0 9 x.jsn) p { planeOf s p with since := s.now, routesLoaded := false }) s
    setDev s dvBivouac

/-- BIVOUAC_SELF_REFRESH_DONE (R394, R397): the stacks have reached partial-array self-refresh, and the entry completes. -/
def bivouacSelfRefreshDone (s : Dev) (t : Nat) (ok0 ok1 : Bool) : Dev :=
  let s := s.at t
  match s.jrn.bivIn with
  | none => s
  | some (jsn, a) =>
    if devState s ≠ dvBivouac then s
    else
      let s := if ok0 then setFs s 0 [(F.HBM_STAT_STATE, 4), (F.JRN_STAT_HBM0, 0)] else s
      let s := if ok1 then setF (setF s F.HBM_STAT_STATE 1 4) F.JRN_STAT_HBM1 0 0 else s
      let s := { s with jrn := { s.jrn with bivIn := none } }
      endUntimed s jsn (bivouacDetail 1 (b2n ok0) (b2n ok1) (msSince s a))

/-- Frame pages are lost in Bivouac: every synchroniser of a plane starts empty (R104, R395). -/
def emptySyncs (s : Dev) (p : Nat) : Dev :=
  let dflt : FsSt := {}
  let one := fun (e : Nat × FsSt) =>
    if e.1 % 2 = p then (e.1, { e.2 with empty := true, done := [], read := none, lost := 0 }) else e
  { s with pln := { s.pln with fs := (s.pln.fs.map one).filter (fun e => e.2 != dflt) } }

/-- Bivouac exit (R396): self-refresh exits, both stacks train, both planes are released and each link leaves IDLE. -/
def bivouacExit (s : Dev) (j : JRec) (a : Nat) : Dev :=
  let s := markRunning s j.jsn
  let s := { s with jrn := { s.jrn with bivOut := some (j.jsn, a) } }
  let s := [0, 1].foldl (fun s p =>
    let s := if hbmState s p = 5 then s else setF s F.HBM_STAT_STATE p 1
    emptySyncs (setPlane s p 1 0 j.jsn) p) s
  (List.range 36).foldl (fun s k =>
    let p := k / 18
    let l := k % 18
    if linkState s p l = 4 ∧ (mechOf s mkLink (linkKey s k)).aux % 4 ≠ 1 then linkWake s p l else s) s

/-- The exit completes once the device is in SERVICE: both planes have settled, one of them in service (R396). -/
def bivouacSettle (s : Dev) : Dev :=
  match s.jrn.bivOut with
  | none => s
  | some (jsn, a) =>
    let ok := fun p => 3 ≤ planeState s p
    let up := fun p => planeState s p == 3 || planeState s p == 4
    if ok 0 && ok 1 && (up 0 || up 1) then
      let s := setDev { s with jrn := { s.jrn with bivOut := none } } dvService
      endUntimed s jsn (bivouacDetail 0 (b2n (hbmState s 0 == 2)) (b2n (hbmState s 1 == 2)) (msSince s a))
    else s

/-- The checks of BIVOUAC in the order of R342 (R346, R354, R394, R396). -/
def bivouacChecks (s : Dev) (j : JRec) : Option Refuse :=
  checksOf s j gdet [] [] (bivouacConds s j) []

/-- BIVOUAC (R346, R354, R394, R396): entry waits for the first house frame start after validation. -/
def bivouacCmd (s : Dev) (j : JRec) : Dev :=
  match bivouacChecks s j with
  | some r => refuse s j r
  | none =>
    if bit (le j.desc 24 1) 0 then
      let f := if bit j.flags 1 then max j.target (hfn s + 1) else hfn s + 1
      let s := { s with jrn := { s.jrn with bivIn := some (j.jsn, s.now) } }
      schedule s { jsn := j.jsn, op := j.op, frame := f, atFrame := bit j.flags 1 && j.target != 0 }
    else if targetAhead s j then holdToFrame s j
    else bivouacExit s j s.now

/-! Entering SERVICE (R459, R414). -/

/-- SYNCING becomes SERVICE once a plane is ACTIVE and validation runs; a first entry after COLD starts the scrubs that are due
and fixes the configuration (R354, R414). -/
def tryService (s : Dev) : Dev :=
  if devState s = dvSyncing ∧ s.jrn.outage = false ∧ (planeState s 0 = 3 ∨ planeState s 1 = 3) then
    let first := !s.ctl.served
    let s := setDev (modCtl s fun c => { c with served := true }) dvService
    if first then serviceScrub (serviceScrub s 0) 1 else s
  else s

/-! The commands of this file. -/

/-- NOP (R348): validation of the accepted command `jsn`. -/
def execNop (t jsn : Nat) (s : State) : Host.Outcome State Fault Refusal :=
  .next { s with dev := withCmd s.dev t jsn 0x00 nopCmd }

/-- BARRIER (R347, R348): validation of the accepted command `jsn`. -/
def execBarrier (t jsn : Nat) (s : State) : Host.Outcome State Fault Refusal :=
  .next { s with dev := withCmd s.dev t jsn 0x01 nopCmd }

/-- CHECKPOINT (R363): validation of the accepted command `jsn`. -/
def execCheckpoint (t jsn : Nat) (s : State) : Host.Outcome State Fault Refusal :=
  .next { s with dev := withCmd s.dev t jsn 0x80 checkpointCmd }

/-- PP_SWITCH (R369): validation of the accepted command `jsn`. -/
def execPpSwitch (t jsn : Nat) (s : State) : Host.Outcome State Fault Refusal :=
  .next { s with dev := withCmd s.dev t jsn 0x81 ppSwitchCmd }

/-- RING_ADOPT (R333): validation of the accepted command `jsn`. -/
def execRingAdopt (t jsn : Nat) (s : State) : Host.Outcome State Fault Refusal :=
  .next { s with dev := withCmd s.dev t jsn 0x82 ringAdoptCmd }

/-- BIVOUAC (R394, R396): validation of the accepted command `jsn`. -/
def execBivouac (t jsn : Nat) (s : State) : Host.Outcome State Fault Refusal :=
  .next { s with dev := withCmd s.dev t jsn 0x83 bivouacCmd }

/-- JOURNAL_FLUSH (R361): the 5 ms flush of the journal falls due. -/
def execJournalFlush (t : Nat) (s : State) : Host.Outcome State Fault Refusal :=
  .next { s with dev := journalFlush s.dev t }

/-- CHECKPOINT_TIMER (R363): a periodic checkpoint falls due. -/
def execCheckpointTimer (t : Nat) (s : State) : Host.Outcome State Fault Refusal :=
  .next { s with dev := checkpointTimer s.dev t }

/-- BELAY_HB (R366): processor `n` writes its heartbeat. -/
def execBelayHb (t : Nat) (n : Fin 2) (s : State) : Host.Outcome State Fault Refusal :=
  .next { s with dev := belayHb s.dev t n }

/-- BELAY_HB_MISS (R366): a millisecond has passed without a heartbeat. -/
def execBelayHbMiss (t : Nat) (s : State) : Host.Outcome State Fault Refusal :=
  .next { s with dev := belayHbMiss s.dev t }

/-- FENCE_DRAIN_DONE (R366, R367): the retired epoch has drained. -/
def execFenceDrainDone (t : Nat) (s : State) : Host.Outcome State Fault Refusal :=
  .next { s with dev := fenceDrainDone s.dev t }

/-- PP_BIST_DONE (R367, R368): the self-test of processor `n` ends. -/
def execPpBistDone (t : Nat) (n : Fin 2) (pass : Bool) (s : State) : Host.Outcome State Fault Refusal :=
  .next { s with dev := ppBistDone s.dev t n pass }

/-- BIVOUAC_SELF_REFRESH_DONE (R394, R397): the stacks have reached self-refresh. -/
def execBivouacSelfRefreshDone (t : Nat) (ok0 ok1 : Bool) (s : State) : Host.Outcome State Fault Refusal :=
  .next { s with dev := bivouacSelfRefreshDone s.dev t ok0 ok1 }

end Sys2Proof.Machine
end

