-- ==== Sys2Proof/Machine/Firmware.lean ====
section
/-! DEFINITION. Firmware update and security (R422 to R445): staging, activation, confirmation, reversion, boot selection,
attestation. Slot 0 is A, slot 1 is B. -/

namespace Sys2Proof.Machine

/-! Slots and registers. -/

/-- A firmware slot. -/
def fwSlot (s : Dev) (k : Nat) : FwSlot := if k = 0 then s.sec.slotA else s.sec.slotB

/-- Write a slot and its record. -/
def setSlot (s : Dev) (k : Nat) (x : FwSlot) : Dev :=
  { s with sec := if k = 0 then { s.sec with slotA := x } else { s.sec with slotB := x } }

/-- SEC_FW_STAT.UPDATE: 0 IDLE, 1 STAGING, 2 STAGED, 3 SCHEDULED, 4 TRIAL (R432, R444). -/
def fwUpdate (s : Dev) : Nat := getF s F.SEC_FW_STAT_UPDATE 0

/-- The slot that FW_STAGE writes: the one that is not ACTIVE (R433); A where neither is. -/
def spareSlot (s : Dev) : Nat := if s.sec.slotA.state = 5 then 1 else if s.sec.slotB.state = 5 then 0 else 0

/-- The slot whose image is staged or in trial. -/
def newSlot (s : Dev) : Nat := getF s F.SEC_FW_STAT_STAGED_SLOT 0 % 2

/-- The running image and its registers (R444, R445). -/
def setRunning (s : Dev) (k : Nat) (img : FwImg) : Dev :=
  setFs { s with sec := { s.sec with run := img } } 0
    [(F.SEC_FW_STAT_RUNNING, k), (F.SEC_FW_VER_VERSION, img.version), (F.SEC_KEYSTAT_RUN_SVN, img.secVer)]

/-- OWNER_KEY_HASH in force; 0 blank (R430). -/
def ownerHash (s : Dev) : Nat := match s.sec.owner with | some h => h | none => Config.factoryOwner.toNat

/-- SEC_KEYSTAT follows the fuses (R445). -/
def syncKeys (s : Dev) : Dev :=
  setFs s 0 [(F.SEC_KEYSTAT_SVN, s.sec.svn), (F.SEC_KEYSTAT_OWNER_ONLY, b2n s.sec.ownerOnly),
    (F.SEC_KEYSTAT_OWNER_SET, b2n (ownerHash s != 0))]

/-! Images (R428 to R430). -/

/-- The first `n` bytes of SHAKE256, as a number. -/
def shake (n : Nat) (b : Bytes) : Nat := (Config.shake256 b).toNat % 2 ^ (8 * n)

/-- UNIT_BIND of this device (R11, R430). -/
def ownBind : Nat := shake 32 (leBytes 16 Config.uniqueId.toNat)

/-- LOADER_LEN. -/
def imgLoader (b : Bytes) : Nat := le b 32 4
/-- ILESEN_LEN. -/
def imgIlesen (b : Bytes) : Nat := le b 36 4
/-- SEC_VERSION. -/
def imgSec (b : Bytes) : Nat := le b 24 2
/-- BOUND. -/
def imgBound (b : Bytes) : Bool := bit (le b 8 1) 0
/-- ENROL. -/
def imgEnrol (b : Bytes) : Bool := bit (le b 8 1) 1
/-- The loader section. -/
def loaderSection (b : Bytes) : Bytes := (b.drop 32768).take (imgLoader b)
/-- The Ilesen section. -/
def ilesenSection (b : Bytes) : Bytes := (b.drop (32768 + imgLoader b)).take (imgIlesen b)

/-- What the device keeps of a verified image (R429, R434). -/
def imgOf (b : Bytes) : FwImg :=
  { version := le b 16 8, secVer := imgSec b, schema := le b 26 2, digest := shake 64 b, code := shake 64 (ilesenSection b),
    bound := imgBound b }

/-- An image malformed under R428: length, MAGIC, HDR_VERSION, reserved bytes and padding. -/
def imgMalformed (len : Nat) (b : Bytes) : Bool :=
  decide (len < 512) || len != 32768 + imgLoader b + imgIlesen b || le b 0 4 != 0x4D494651 || le b 4 2 != 1 ||
    decide (8 ≤ le b 8 1) || (bit (le b 8 1) 2 && !imgEnrol b) || le b 9 7 != 0 || le b 28 4 != 0 || le b 40 24 != 0 ||
    le b 288 224 != 0 || (!imgBound b && le b 64 32 != 0) || ((b.drop 30304).take 2464).any (· != 0)

/-- A numeric field of the header out of its range (R428). -/
def imgRange (b : Bytes) : Bool :=
  decide (64 < imgSec b) ||
    (if imgEnrol b then imgLoader b != 0 || imgIlesen b != 0
     else imgLoader b == 0 || decide (8355840 < imgLoader b) || imgIlesen b == 0 || decide (16744448 < imgIlesen b))

/-- PUBKEY is accepted (R430). -/
def keyAccepted (s : Dev) (b : Bytes) : Bool :=
  let h := shake 32 ((b.drop 224).take 64)
  (h == Config.vendorKeyHash.toNat && !s.sec.ownerOnly) || (ownerHash s != 0 && h == ownerHash s)

/-- The signature over the digest of the header verifies (R429). -/
def sigOk (b : Bytes) : Bool :=
  Config.slhdsaVerify ((b.drop 224).take 64) (leBytes 64 (shake 64 (b.take 512))) ((b.drop 512).take 29792)

/-- The refusal reason of an image that does not verify (R429, R430, R440); 0 when it does. -/
def authReason (s : Dev) (b : Bytes) : Nat :=
  if le b 6 2 ≠ 0x1152 then 1
  else if imgEnrol b && ownerHash s != 0 then 8
  else if if imgEnrol b then devState s != dvCamp else !keyAccepted s b then 2
  else if !sigOk b then 3
  else if le b 96 64 ≠ shake 64 (loaderSection b) then 4
  else if le b 160 64 ≠ shake 64 (ilesenSection b) then 5
  else if imgBound b && le b 64 32 != ownBind && (imgEnrol b || !(s.ctl.pair && le b 64 32 == s.jrn.peerBind)) then 6
  else 0

/-- The FW_STAGE detail word (R440). -/
def stageDetail (fl0 fl1 same peer bound enrol reason sec : Nat) : Nat :=
  fl0 + fl1 * 2 + same * 4 + peer * 8 + bound * 16 + enrol * 32 + reason * 256 + sec % 256 * 65536

/-- The detail word of an offer refused for `reason`. -/
def stageRefusal (b : Bytes) (reason : Nat) : Nat := stageDetail 0 0 0 0 (b2n (imgBound b)) 0 reason (imgSec b)

/-- An ENROL image blows the owner fuses (R430). -/
def enrolOwner (s : Dev) (j : JRec) : Dev :=
  let b := j.buf
  let s := { s with sec := { s.sec with owner := some (shake 32 ((b.drop 224).take 64)), ownerOnly := s.sec.ownerOnly || bit (le b 8 1) 2 } }
  endUntimed (syncKeys s) j.jsn (stageDetail 0 0 0 0 (b2n (imgBound b)) 1 0 (imgSec b))

/-- An image takes the staging slot: it is written to the spare slot on every HEALTHY channel (R432, R433). -/
def stageHere (s : Dev) (b : Bytes) : Dev :=
  let img := imgOf b
  let flash := !(healthyChans s).isEmpty
  let k := spareSlot s
  let s := if flash then emits (setSlot s k { state := 2, img := img }) ((healthyChans s).map fun c => .flash c (4 + k) 0 img.digest) else s
  let s := { s with sec := { s.sec with stage := some img, inFlash := flash } }
  setFs s 0 [(F.SEC_FW_STAT_UPDATE, 2), (F.SEC_FW_STAT_STAGED_SLOT, k)]

/-- A verified image takes the staging slot (R432, R433), or runs at once from a host load (R425); in Pair an unbound image is
offered to the peer as well (R434). -/
def stageImage (s : Dev) (j : JRec) : Dev :=
  let b := j.buf
  let img := imgOf b
  let here := !imgBound b || le b 64 32 == ownBind
  let peer := s.ctl.pair && role s == 1 && (!imgBound b || !here)
  let s := if peer then emit s (.peer 8 (shake 64 b)) else s
  if !here then endUntimed s j.jsn (stageDetail 0 0 0 1 1 0 0 (imgSec b))
  else
    let hl := getF s F.SEC_FW_STAT_BASECAMP 0 == 3
    let f := fun c => b2n (!hl && flsState s c == 3)
    let det := stageDetail (f 0) (f 1) 0 (b2n peer) (b2n (imgBound b)) 0 0 (imgSec b)
    if hl then
      let s := setRunning { s with sec := { s.sec with hostLoaded := true } } 0 img
      endUntimed (setDev (setF s F.SEC_FW_STAT_BASECAMP 0 0) dvLoading) j.jsn det
    else endUntimed (stageHere s b) j.jsn det

/-- The offer finds the staging slot held (R434): BUSY, or an identical image already there. -/
def stageHeld (s : Dev) (b : Bytes) : Bool := match s.sec.stage with | none => false | some i => i.digest != shake 64 b || fwUpdate s != 2

/-- The action of FW_STAGE: BUSY, SAME, AUTH and ROLLBACK are decided in that order (R433, R434). -/
def fwStageAct (s : Dev) (j : JRec) : Dev :=
  let b := j.buf
  let held := fwUpdate s != 0 && (stageHeld s b || fwUpdate s == 4 || fwUpdate s == 3)
  if held then failUntimed s j.jsn (stBusy, 0)
  else if fwUpdate s = 2 then endUntimed s j.jsn (stageDetail 0 0 1 0 (b2n (imgBound b)) 0 0 (imgSec b))
  else
    let r := authReason s b
    if r ≠ 0 then failUntimed s j.jsn (stAuth, stageRefusal b r)
    else if imgSec b < s.sec.svn then failUntimed s j.jsn (stRollback, stageRefusal b 7)
    else if imgEnrol b then enrolOwner s j
    else stageImage s j

/-- The checks of FW_STAGE in the order of R342 (R433). -/
def fwStageChecks (s : Dev) (j : JRec) : Option Refuse :=
  let ok := !bufOver j
  checksOf s j (fun _ => 0) [(ok && imgMalformed (dBufLen j.desc) j.buf, stInvalid, 0)]
      [(ok && imgRange j.buf, stRange, 0)] [] []

/-- FW_STAGE (R433): verification and writing end in the same step as validation (log entry 30). -/
def fwStageCmd (s : Dev) (j : JRec) : Dev :=
  match fwStageChecks s j with
  | some r => refuse s j r
  | none => actOrHold s j fwStageAct

/-! Schedule, confirm, abort (R432, R435 to R437). -/

/-- CONFIRM_S of a FW_SCHEDULE, 0 meaning 600 (R352). -/
def confirmSecs (d : Bytes) : Nat := let n := le d 24 2; if n = 0 then 600 else n

/-- In Pair the peer's staged image must have the same code digest and VERSION (R436): the MISMATCH detail, or none. -/
def fwMismatch (s : Dev) : Option Nat :=
  let own := (s.sec.stage.getD {})
  if !s.ctl.pair || role s != 1 then none
  else
    match s.jrn.peerFw with
    | none => some (own.code % 256 + 65536)
    | some (code, ver) =>
      if code = own.code ∧ ver = own.version then none
      else some (own.code % 256 + code % 256 * 256 + b2n (ver != own.version) * 131072)

/-- The schedule is dropped. -/
def dropSched (s : Dev) : Dev :=
  match s.sec.sched with
  | none => s
  | some q => unpend (setF { s with sec := { s.sec with sched := none } } F.SEC_FW_TGT_TARGET 0 0) q.1

/-- A pending FW_SCHEDULE is withdrawn: it completes CANCELLED (R432, R435). -/
def withdrawSched (s : Dev) : Dev :=
  match s.sec.sched with
  | none => s
  | some q => decideCmd (dropSched s) q.1 stCancelled 0 0

/-- The checks of FW_SCHEDULE in the order of R342 (R435, R436). -/
def fwScheduleChecks (s : Dev) (j : JRec) : Option Refuse :=
  let mm := fwMismatch s
  checksOf s j (fun _ => 0) [(!bit j.flags 1 || j.target == 0, stInvalid, 0)] [(decide (3600 < le j.desc 24 2), stRange, 0)]
      [(!(fwUpdate s == 2 || fwUpdate s == 3), stConflict, genDetail 0 false 1)] [(mm.isSome, stMismatch, mm.getD 0)]

/-- FW_SCHEDULE (R435, R436): deadline 10 ms before the target; in Base camp a passed target applies at once (R426). -/
def fwScheduleCmd (s : Dev) (j : JRec) : Dev :=
  match fwScheduleChecks s j with
  | some r => refuse s j r
  | none =>
    let dl := fun n => if devState s = dvCamp then frameStart s n + 1 else frameStart s n - 540000000
    let pick := if devState s = dvCamp then some (max j.target (hfn s), false, 0) else chooseFrame s j.flags j.target dl (fun _ => true)
    match pick with
    | none => refuse s j (stLate, 0)
    | some (n, dfr, why) =>
      let s := withdrawSched s
      let s := { s with sec := { s.sec with sched := some (j.jsn, n, confirmSecs j.desc) } }
      let s := setFs s 0 [(F.SEC_FW_STAT_UPDATE, 3), (F.SEC_FW_TGT_TARGET, n)]
      schedule s { jsn := j.jsn, op := j.op, frame := n, atFrame := true, deferred := dfr, reason := why }

/-- The FW_ACTIVATED detail word (R440). -/
def activatedDetail (slot committed noWin sec secs : Nat) : Nat := slot + committed * 2 + noWin * 4 + sec % 256 * 256 + secs % 65536 * 65536

/-- Activation from Base camp (R426): the staged slot becomes PENDING, or ACTIVE with no window, and the device resets at WARM. -/
def campActivate (s : Dev) (x : Pend) (n : Nat) : Dev :=
  let k := newSlot s
  let other := fwSlot s (1 - k)
  let s := setSlot s k { fwSlot s k with state := if other.state = 0 then 5 else 3 }
  let s := { s with sec := { s.sec with stage := none, confirmS := (match s.sec.sched with | some q => q.2.2 | none => 600), sched := none,
                                        noWindow := other.state == 0 } }
  let s := setFs s 0 [(F.SEC_FW_STAT_UPDATE, 0), (F.SEC_FW_STAT_STAGED_SLOT, 7), (F.SEC_FW_TGT_TARGET, 0)]
  assertReset (decideCmd (unpend s x.jsn) x.jsn (if x.deferred then stDeferred else stDone) n 0) 7 0 11 true

/-- A FW_SCHEDULE at its frame (R435): checkpoint, TRIAL record, and a takeover that starts the staged image. TAKEOVER_COMPLETE
completes the command. -/
def applyFwSchedule (s : Dev) (x : Pend) (n : Nat) : Dev :=
  if devState s = dvCamp then campActivate s x n
  else
    let secs := match s.sec.sched with | some q => q.2.2 | none => 600
    let k := newSlot s
    let s := if s.sec.inFlash then setSlot s k { fwSlot s k with state := 4 } else s
    let s := handover (markRunning s x.jsn)
    let s := { s with sec := { s.sec with sched := none, windowEnd := some (s.now + secs * tickSec), confirmS := secs,
                                          activating := some x.jsn, activatedAt := s.now } }
    setFs (modRec s x.jsn fun r => { r with target := n, flags := if x.deferred then 3 else 2 }) 0
      [(F.SEC_FW_STAT_UPDATE, 4), (F.SEC_FW_STAT_WINDOW_S, min secs 4095), (F.SEC_FW_TGT_TARGET, 0)]

/-- The update ends: nothing is staged (R432). -/
def endUpdate (s : Dev) : Dev :=
  setFs { s with sec := { s.sec with stage := none, inFlash := false, windowEnd := none, activating := none, reverting := none, revertAt := none } } 0
    [(F.SEC_FW_STAT_UPDATE, 0), (F.SEC_FW_STAT_STAGED_SLOT, 7), (F.SEC_FW_STAT_WINDOW_S, 0), (F.SEC_FW_TGT_TARGET, 0)]

/-- The image in trial. -/
def trialImg (s : Dev) : FwImg := s.sec.stage.getD s.sec.run

/-- The trial is committed (R437, R431): the new slot becomes ACTIVE, the old one INACTIVE, and the counter rises. -/
def commitTrial (s : Dev) : Dev :=
  let k := newSlot s
  let img := trialImg s
  let s := setSlot s k { state := 5, img := img }
  let s := setSlot s (1 - k) { fwSlot s (1 - k) with state := if (fwSlot s (1 - k)).state = 0 then 0 else 1 }
  endUpdate (syncKeys { s with sec := { s.sec with svn := max s.sec.svn img.secVer } })

/-- FW_ACTIVATED with COMMITTED, for the slot and image that were in trial in `d` (R437, R440). -/
def raiseCommitted (s d : Dev) (jsn : Nat) : Dev := raise s 0x0F 33 jsn (activatedDetail (newSlot d) 1 0 (trialImg d).secVer 0)

/-- The action of FW_CONFIRM (R437): completion, then FW_ACTIVATED. -/
def fwConfirmAct (s : Dev) (j : JRec) : Dev :=
  if fwUpdate s ≠ 4 ∨ s.sec.hostLoaded then failUntimed s j.jsn (stConflict, genDetail 0 false 1)
  else
    let c := commitTrial s
    raiseCommitted (endUntimed c j.jsn ((trialImg s).secVer - s.sec.svn + c.sec.svn * 256)) s j.jsn

/-- The checks of FW_CONFIRM in the order of R342 (R354, R437). -/
def fwConfirmChecks (s : Dev) (j : JRec) : Option Refuse :=
  checksOf s j (fun _ => 0) [] [] [(fwUpdate s != 4 || s.sec.hostLoaded, stConflict, genDetail 0 false 1)] []

/-- FW_CONFIRM (R354, R437). -/
def fwConfirmCmd (s : Dev) (j : JRec) : Dev :=
  match fwConfirmChecks s j with
  | some r => refuse s j r
  | none => actOrHold s j fwConfirmAct

/-- Reversion (R438): the Belay fences the new firmware and the standby processor boots the old image; TAKEOVER_COMPLETE ends it. -/
def revertNow (s : Dev) (cause : Nat) : Dev :=
  let a := getF s F.BELAY_STAT_ACTIVE_PP 0
  let standby := ppState s (1 - a) == 1
  let s := satAdd (handover (markRevert s cause)) F.BELAY_FAILOVERS_COUNT 0 1
  if standby then assertReset (setPp s a 2) 5 a 9 false else s

/-- The trial firmware reverts: at once, or with the peer at the first frame start 10 ms away (R438). -/
def revert (s : Dev) (cause : Nat) : Dev :=
  if fwUpdate s ≠ 4 ∨ s.sec.reverting ≠ none then s
  else if s.ctl.pair && (role s == 1 || role s == 2) then
    if s.sec.revertAt.isSome then s
    else emit { s with sec := { s.sec with revertAt := some (revertFrame s, cause) } } (.peer 9 (revertFrame s * 16 + cause))
  else revertNow s cause

/-- A reversion that waits for frame `n` or an earlier one begins (R438). -/
def revertDue (s : Dev) (n : Nat) : Dev :=
  match s.sec.revertAt with
  | none => s
  | some (m, c) =>
    if m ≤ n then
      if fwUpdate s = 4 ∧ s.sec.reverting = none then revertNow s c else { s with sec := { s.sec with revertAt := none } }
    else s

/-- What is staged is discarded (R432). -/
def discardStage (s : Dev) : Dev := endUpdate (if s.sec.inFlash then setSlot s (newSlot s) {} else s)

/-- The action of FW_ABORT (R432): SCHEDULED goes back to STAGED, STAGED to IDLE, and TRIAL reverts. -/
def fwAbortAct (s : Dev) (j : JRec) : Dev :=
  match fwUpdate s with
  | 3 => endUntimed (setF (withdrawSched s) F.SEC_FW_STAT_UPDATE 0 2) j.jsn 0
  | 2 => endUntimed (discardStage s) j.jsn 0
  | 4 => revert (endUntimed s j.jsn 0) 2
  | _ => failUntimed s j.jsn (stConflict, genDetail 0 false 1)

/-- The checks of FW_ABORT in the order of R342 (R354, R432). -/
def fwAbortChecks (s : Dev) (j : JRec) : Option Refuse :=
  checksOf s j gdet [] [] [(fwUpdate s == 0, stConflict, genDetail 0 false 1)] []

/-- FW_ABORT (R354, R432). -/
def fwAbortCmd (s : Dev) (j : JRec) : Dev :=
  match fwAbortChecks s j with
  | some r => refuse s j r
  | none => actOrHold s j fwAbortAct

/-- FW_WINDOW_EXPIRE (R438). -/
def fwWindowExpire (s : Dev) (t : Nat) : Dev :=
  let s := s.at t
  match s.sec.windowEnd with
  | none => s
  | some e => if e ≤ t then revert s 1 else setF s F.SEC_FW_STAT_WINDOW_S 0 ((e - t + tickSec - 1) / tickSec)

/-- FW_RESUME_TIMEOUT (R438): validation not resumed within 2 s of activation. -/
def fwResumeTimeout (s : Dev) (t : Nat) : Dev :=
  let s := s.at t
  if s.sec.activating.isSome && decide (s.sec.activatedAt + 2 * tickSec ≤ t) then revert s 4 else s

/-- FW_SELFTEST_FAIL (R438). -/
def fwSelftestFail (s : Dev) (t : Nat) : Dev := revert (s.at t) 5

/-! The end of a takeover (R367, R369, R435, R438). -/

/-- The FW_REVERTED detail word (R440). -/
def revertedDetail (slot cause sec : Nat) : Nat := slot + cause * 2 + sec % 256 * 256

/-- The old slot returns to ACTIVE and the new one to INACTIVE (R438). -/
def finishRevert (s : Dev) (cause : Nat) : Dev :=
  let k := newSlot s
  let old := fwSlot s (1 - k)
  let s := setSlot s k { fwSlot s k with state := if (fwSlot s k).state = 0 then 0 else 1 }
  let s := setSlot s (1 - k) { old with state := if old.state = 0 then 0 else 5 }
  let s := setRunning s (1 - k) old.img
  let q := fwAction (endUpdate s)
  raise q.2 0x10 33 q.1 (revertedDetail (1 - k) cause old.img.secVer)

/-- The staged image runs (R435): FW_ACTIVATED, and FW_SCHEDULE completes with APPLIED at its frame, on one path where the peer
could not be reached (R436). -/
def finishActivate (s : Dev) (jsn : Nat) : Dev :=
  let img := s.sec.stage.getD {}
  let k := newSlot s
  let s := setRunning { s with sec := { s.sec with activating := none } } k img
  let s := raise s 0x0F 33 jsn (activatedDetail k 0 0 img.secVer s.sec.confirmS)
  match recOf s jsn with
  | none => s
  | some j => decideCmd s jsn (if s.ctl.pair && role s == 3 then stOnePath else if bit j.flags 0 then stDeferred else stDone) j.target 0

/-- What the takeover was for: a reversion, an activation, a PP_SWITCH. -/
def finishTakeover (s : Dev) : Dev :=
  let s := match s.sec.activating with
    | some n => if s.sec.reverting.isNone then finishActivate s n
        else decideCmd s n stDone ((match recOf s n with | some j => j.target | none => 0)) 0
    | none => s
  let s := match s.sec.reverting with | some c => finishRevert s c | none => s
  match s.jrn.ppSwitch with
  | none => s
  | some n => endUntimed { s with jrn := { s.jrn with ppSwitch := none } } n 0

/-- A survey restarts from its beginning after a takeover; steps already applied stand (R488). -/
def restartSurvey (s : Dev) : Dev :=
  if s.age.startedAt.isSome then { s with age := { s.age with meas := [], warned := [], eyes := [] } } else s

/-- Validation and acceptance resume (R365, R367): the outage ends, a checkpoint is written, a processor that was fenced goes to
its BIST, and an active one that was scrubbed runs again. -/
def resume (s : Dev) : Dev :=
  let a := getF s F.BELAY_STAT_ACTIVE_PP 0
  let s := if ppState s a = 2 then dropReset (setPp s a 0) 5 a 9 else s
  let s := if ppState s (1 - a) = 2 then syncBist (setPp s (1 - a) 3) else s
  let s := setFs s 0 [(F.JRN_STAT_REPLAY, 0), (F.BELAY_STAT_MISSES, 0)]
  let s := writeCheckpoint { s with jrn := { s.jrn with outage := false, outageEnd := s.now } }
  sweepUnknown (restartSurvey (finishTakeover s))

/-- TAKEOVER_COMPLETE (R367): the new processor has loaded the checkpoint and replayed the journal. -/
def takeoverComplete (s : Dev) (t : Nat) : Dev :=
  let s := s.at t
  if s.jrn.outage && s.jrn.draining.isNone && [3, 4, 5].contains (devState s) && s.rst.phase == 2 then tryService (resume s) else s

/-! Entropy and attestation (R441 to R443). -/

/-- ENTROPY_FAIL (R441). -/
def entropyFail (s : Dev) (t : Nat) : Dev :=
  faultEvent (setF (satAdd (s.at t) F.SEC_ENTROPY_FAILS 0 1) F.SEC_ENTROPY_FAIL 0 1) 33 0x09 0

/-- The 96-byte seed of the identity key (R442): SHAKE256 of DEVICE_SECRET and "QF1152-IDENTITY". -/
def idSeed : BitVec 768 :=
  Config.shake256 (leBytes 32 Config.deviceSecret.toNat ++ [0x51, 0x46, 0x31, 0x31, 0x35, 0x32, 0x2D, 0x49, 0x44, 0x45, 0x4E, 0x54, 0x49, 0x54, 0x59])

/-- The identity public key (R442). -/
def idKey : Nat := (Config.slhdsaPublic idSeed).toNat

/-- The 512-byte body of an ATTEST report (R443). -/
def attestBody (s : Dev) (nonce : Nat) : Bytes :=
  let k := getF s F.SEC_FW_STAT_RUNNING 0
  let o := fwSlot s (1 - k)
  let oi := if o.state = 0 then {} else o.img
  let camp := devState s == dvCamp
  leBytes 4 0x50414651 ++ leBytes 2 1 ++
    leBytes 1 (getF s F.SEC_ENTROPY_FAIL 0 + getF s F.RST_STRAP_PAIR_ID 0 * 2 + b2n camp * 4 + b2n s.sec.hostLoaded * 8) ++
    leBytes 1 (devState s) ++ leBytes 16 Config.uniqueId.toNat ++
    leBytes 4 (getF s F.SYS_REV_STEP 0 * 256 + getF s F.SYS_REV_METAL 0) ++ leBytes 32 Config.vendorKeyHash.toNat ++
    leBytes 32 (ownerHash s) ++ leBytes 1 (b2n s.sec.ownerOnly + s.sec.svn * 2) ++ leBytes 1 (fwUpdate s) ++ leBytes 2 0 ++
    leBytes 8 s.sec.run.version ++ leBytes 2 s.sec.run.secVer ++ leBytes 2 s.sec.run.schema ++ leBytes 64 s.sec.run.digest ++
    leBytes 8 oi.version ++ leBytes 2 oi.secVer ++ leBytes 2 oi.schema ++ leBytes 64 oi.digest ++
    leBytes 8 (nsOf s.now) ++ leBytes 8 (hfn s) ++ leBytes 8 (getF s F.JRN_HEAD_HEAD_JSN 0) ++
    leBytes 8 (getF s F.JRN_DURABLE_DURABLE_JSN 0) ++ leBytes 4 s.ctl.epoch ++ leBytes 24 nonce ++ leBytes 64 idKey ++ leBytes 140 0

/-- The action of ATTEST (R443): body and signature go to the host buffer. -/
def attestAct (s : Dev) (j : JRec) : Dev :=
  let body := attestBody s (le j.desc 40 24)
  let q := takeFree s 64
  let hedge := if getF s F.SEC_ENTROPY_FAIL 0 = 1 then 0 else q.1
  let sig := (Config.slhdsaSign idSeed (BitVec.ofNat 512 (shake 64 body)) (BitVec.ofNat 256 hedge)).toNat
  endUntimed (emit q.2 (.dma (j.hif % 2) (dBufAddr j.desc) 50368 (leVal body + sig * 2 ^ 4096))) j.jsn 0

/-- The checks of ATTEST in the order of R342 (R352, R354, R443). -/
def attestChecks (s : Dev) (j : JRec) : Option Refuse :=
  checksOf s j gdet [] [(decide (dBufLen j.desc < 50368), stRange, gdet 32)] [] []

/-- ATTEST (R352, R354, R443): a buffer shorter than the report is RANGE. -/
def attestCmd (s : Dev) (j : JRec) : Dev :=
  match attestChecks s j with
  | some r => refuse s j r
  | none => actOrHold s j attestAct

/-! Boot selection (R424 to R427). -/

/-- The boot ROM finds nothing to boot (R424), or the strap holds it: Base camp (R426). The planes stay OFF. -/
def enterCamp (s : Dev) (why : Nat) : Dev :=
  let s := setF s F.SEC_FW_STAT_BASECAMP 0 why
  let s := [0, 1].foldl (fun s p => setPlane s p 0 0) s
  let s := { s with jrn := { s.jrn with outage := false, outageEnd := s.now } }
  setDev (if why = 2 then faultEvent s 33 0x0A 0 else s) dvCamp

/-- Verification of a slot's header, signature and loader section by the boot ROM (R424, R429): the stored image still reads whole
(`good`), and its SEC_VERSION is at or above the counter (R431). -/
def slotBoots (s : Dev) (k : Nat) (good : Bool) : Bool :=
  good && (fwSlot s k).state != 0 && decide (s.sec.svn ≤ (fwSlot s k).img.secVer)

/-- A slot found in TRIAL failed its health check (R424, R438 cause 6): it becomes INACTIVE. -/
def dropTrial (s : Dev) (k : Nat) : Dev :=
  if (fwSlot s k).state = 4 then
    let o := fwSlot s (1 - k)
    let s := setSlot s k { fwSlot s k with state := 1 }
    let s := setSlot s (1 - k) { o with state := if o.state = 0 then 0 else 5 }
    let q := fwAction s
    raise q.2 0x10 33 q.1 (revertedDetail (1 - k) 6 o.img.secVer)
  else s

/-- The device leaves BOOT with the image of slot `k` (R459). A slot that was PENDING is in trial, its window opening at SERVICE
(R426). -/
def bootSlot (s : Dev) (k : Nat) (trial : Bool) : Dev :=
  let s := if trial then setFs (setSlot { s with sec := { s.sec with stage := some (fwSlot s k).img, inFlash := true } } k
      { fwSlot s k with state := 4 }) 0 [(F.SEC_FW_STAT_UPDATE, 4), (F.SEC_FW_STAT_STAGED_SLOT, k)] else s
  let s := setRunning { s with sec := { s.sec with hostLoaded := false } } k (fwSlot s k).img
  setDev (setFs s 0 [(F.SEC_FW_STAT_BASECAMP, 0), (F.JRN_STAT_REPLAY, 1)]) dvLoading

/-- The ACTIVE slot failed verification and the boot fell to the other: FW_REVERTED with cause 7 (R424). -/
def bootFallback (s : Dev) (k : Nat) : Dev :=
  let s := setSlot s (1 - k) { fwSlot s (1 - k) with state := 1 }
  let q := fwAction (bootSlot (setSlot s k { fwSlot s k with state := 5 }) k false)
  raise q.2 0x10 33 q.1 (revertedDetail k 7 (fwSlot s k).img.secVer)

/-- The choice of R424 over the mounted channels: `good` tells, per channel and slot (2·channel + slot), whether the image reads
whole. A PENDING slot is tried once, on the first channel, and reads TRIAL from then on. -/
def chooseSlot (s : Dev) (good : List Bool) : Dev :=
  let chans := (if getF s F.RST_STRAP_BOOT_SRC 0 = 1 then [1, 0] else [0, 1]).filter fun c => flsState s c == 2 || flsState s c == 3
  let ok := fun c k => slotBoots s k (good.getD (2 * c + k) false)
  let pend := [0, 1].find? fun k => (fwSlot s k).state == 3
  let act := [0, 1].find? fun k => (fwSlot s k).state == 5
  let cand : List Nat := match act with
    | some k => k :: (if (fwSlot s (1 - k)).state = 1 then [1 - k] else [])
    | none => [0, 1].filter fun k => (fwSlot s k).state == 1
  let pick := fun (cs : List Nat) => ((cs.flatMap fun c => cand.map fun k => (c, k)).find? fun q => ok q.1 q.2).map (·.2)
  match pend, chans with
  | none, _ =>
    match pick chans with
    | none => enterCamp s 2
    | some k => if act = some (1 - k) then bootFallback s k else bootSlot s k false
  | some _, [] => enterCamp s 2
  | some k, c :: rest =>
    if ok c k then bootSlot s k true
    else
      match pick rest with
      | none => enterCamp (setSlot s k { fwSlot s k with state := 4 }) 2
      | some q => bootFallback s q

/-- BOOT_SELECT (R424 to R427, R444, R458): after every reset of WARM reach or wider; the update state is reloaded from the slot
records. With TEST_N low the device stays in BOOT. -/
def bootSelect (s : Dev) (t : Nat) (good : List Bool) : Dev :=
  let s := s.at t
  if devState s ≠ dvBoot ∨ s.rst.phase ≠ 2 ∨ s.rst.inReset.any (fun d => decide (d.step ≤ 8) && d.step != 8) ∨ getF s F.RST_STRAP_TEST_N 0 = 0 ∨
      ppState s (getF s F.BELAY_STAT_ACTIVE_PP 0) ≠ 0 then s
  else
    let s := syncKeys (dropTrial (dropTrial s 0) 1)
    let held := [0, 1].find? fun k => (fwSlot s k).state == 2
    let stage := match held with | some k => some (fwSlot s k).img | none => if s.sec.inFlash then none else s.sec.stage
    let s := setFs { s with sec := { s.sec with stage := stage, inFlash := held.isSome } } 0
      [(F.SEC_FW_STAT_UPDATE, if stage.isNone then 0 else if s.sec.sched.isSome then 3 else 2),
        (F.SEC_FW_STAT_STAGED_SLOT, match held with | some k => k | none => if stage.isNone then 7 else spareSlot s),
        (F.SEC_FW_TGT_TARGET, match s.sec.sched with | some q => q.2.1 | none => 0)]
    let src := getF s F.RST_STRAP_BOOT_SRC 0
    let pend := [0, 1].any fun k => (fwSlot s k).state == 3
    if src = 2 then enterCamp s 3
    else if src = 3 && !pend then enterCamp s 1
    else chooseSlot s good

/-! The commands of this file. -/

/-- FW_STAGE (R433): validation of the accepted command `jsn`. -/
def execFwStage (t jsn : Nat) (s : State) : Host.Outcome State Fault Refusal :=
  .next { s with dev := withCmd s.dev t jsn 0x70 fwStageCmd }

/-- FW_SCHEDULE (R435): validation of the accepted command `jsn`. -/
def execFwSchedule (t jsn : Nat) (s : State) : Host.Outcome State Fault Refusal :=
  .next { s with dev := withCmd s.dev t jsn 0x71 fwScheduleCmd }

/-- FW_CONFIRM (R437): validation of the accepted command `jsn`. -/
def execFwConfirm (t jsn : Nat) (s : State) : Host.Outcome State Fault Refusal :=
  .next { s with dev := withCmd s.dev t jsn 0x72 fwConfirmCmd }

/-- FW_ABORT (R432): validation of the accepted command `jsn`. -/
def execFwAbort (t jsn : Nat) (s : State) : Host.Outcome State Fault Refusal :=
  .next { s with dev := withCmd s.dev t jsn 0x73 fwAbortCmd }

/-- ATTEST (R443): validation of the accepted command `jsn`. -/
def execAttest (t jsn : Nat) (s : State) : Host.Outcome State Fault Refusal :=
  .next { s with dev := withCmd s.dev t jsn 0x74 attestCmd }

/-- FW_WINDOW_EXPIRE (R438): the confirmation window ends. -/
def execFwWindowExpire (t : Nat) (s : State) : Host.Outcome State Fault Refusal :=
  .next { s with dev := fwWindowExpire s.dev t }

/-- FW_RESUME_TIMEOUT (R438): validation has not resumed under new firmware. -/
def execFwResumeTimeout (t : Nat) (s : State) : Host.Outcome State Fault Refusal :=
  .next { s with dev := fwResumeTimeout s.dev t }

/-- FW_SELFTEST_FAIL (R438): new firmware fails its self-test. -/
def execFwSelftestFail (t : Nat) (s : State) : Host.Outcome State Fault Refusal :=
  .next { s with dev := fwSelftestFail s.dev t }

/-- ENTROPY_FAIL (R441): the entropy source fails its health test. -/
def execEntropyFail (t : Nat) (s : State) : Host.Outcome State Fault Refusal :=
  .next { s with dev := entropyFail s.dev t }

end Sys2Proof.Machine
end

