-- ==== Sys2Proof/Machine/Pair.lean ====
section
/-! DEFINITION. Pair operation (R354 PAIR_SET, R371 to R377). HIFs 2 and 3 are the peer's. -/

namespace Sys2Proof.Machine

/-! Roles (R371, R377). -/

/-- The peer link is UP. -/
def peerUp (s : Dev) : Bool := getF s F.PAIR_STAT_PEER_UP 0 == 1

/-- This device's PAIR_ID (R458). -/
def pairId (s : Dev) : Nat := getF s F.RST_STRAP_PAIR_ID 0

/-- The peer counts as a journal copy while this device is active and the peer reachable (R358, R359). -/
def syncPeerCopy (s : Dev) : Dev := setF s F.JRN_STAT_PEER 0 (b2n (role s == 1 && peerUp s))

/-- Enter a role and raise PAIR_STATE (R377); `jsn` is the command that caused it, 0 if none (R334, log entry 114). -/
def setRole (s : Dev) (v cause : Nat) (jsn : Nat := 0) : Dev :=
  let prev := role s
  let s := syncPeerCopy (setF s F.PAIR_STAT_ROLE 0 v)
  raise s 0x13 40 jsn (pairDetail v prev (pairId s) (b2n (peerUp s)) cause s.ctl.epoch)

/-- Take the active role of the Pair (R374): the epoch rises above both, validation stops until TAKEOVER_COMPLETE, and FAILOVER
is raised with PAIR and cause 6. With no peer the device is ALONE (R375). -/
def takeRole (s : Dev) (cause : Nat) : Dev :=
  let s := modCtl s fun c => { c with epoch := (max c.epoch s.jrn.peerEpoch + 1) % 2 ^ 32 }
  let s := journal (setF s F.BELAY_EPOCH_EPOCH 0 s.ctl.epoch) 64
  let s := { s with jrn := { s.jrn with outage := true } }
  let s := historyWindow (setRole s (if peerUp s then 1 else 3) cause)
  raise (setF s F.PAIR_LAG_LAG 0 0) 0x0E 31 0 (failoverDetail (getF s F.BELAY_STAT_ACTIVE_PP 0) 6 1 s.ctl.epoch)

/-- Give the active role up (R374): validation and CFG stop, apply queues run on. Commands not yet validated are now the peer's. -/
def giveRole (s : Dev) (cause : Nat) : Dev :=
  let s := { s with jrn := { s.jrn with outage := false } }
  setRole s 2 cause

/-- The table of R371. A device in JOINING ignores ACTIVE_SEL, and Single has no role. -/
def evalRole (s : Dev) : Dev :=
  if !s.ctl.pair || role s == 5 || role s == 0 then s
  else
    let own := getF s F.PAIR_STAT_ACTIVE_SEL 0 == 1
    let peer := s.jrn.peerSel && peerUp s
    let active := role s == 1 || role s == 3
    if own && !peer then (if active then s else takeRole s 1)
    else if !own && peer then (if active then giveRole s 1 else s)
    else if own && peer then
      if pairId s = 0 then (if active then s else takeRole s 5) else (if active then giveRole s 5 else s)
    else s

/-- ACTIVE_SEL_CHANGE (R371): the filtered levels of the own and the peer's ACTIVE_SEL. -/
def activeSelChange (s : Dev) (t : Nat) (own peer : Bool) : Dev :=
  let s := setF (s.at t) F.PAIR_STAT_ACTIVE_SEL 0 (b2n own)
  evalRole { s with jrn := { s.jrn with peerSel := peer } }

/-- PEER_LOST (R375): the peer link leaves UP, or the peer misses three heartbeats. -/
def peerLost (s : Dev) (t : Nat) : Dev :=
  let s := setF (s.at t) F.PAIR_STAT_PEER_UP 0 0
  let s := { s with jrn := { s.jrn with peerLostAt := some t } }
  if !s.ctl.pair then s
  else
    match role s with
    | 1 => setRole s 3 2
    | 2 => evalRole (setRole s 4 2)
    | _ => syncPeerCopy s

/-- PEER_LINK_RETURN (R375 to R377): the peer link is UP again; `peerActive` says that the peer holds the active role. -/
def peerLinkReturn (s : Dev) (t : Nat) (peerActive : Bool) : Dev :=
  let s := setF (s.at t) F.PAIR_STAT_PEER_UP 0 1
  let s := { s with jrn := { s.jrn with peerLostAt := none } }
  if !s.ctl.pair then s
  else
    match role s with
    | 3 => evalRole (setRole s 1 3)
    | 4 => if peerActive then setRole s 5 3 else evalRole (setRole s 2 3)
    | _ => syncPeerCopy s

/-! BELAY_OUT (R371). -/

/-- A fatal fault is latched: a set FLT_STATUS bit whose latest event was FATAL. -/
def fatalLatched (s : Dev) : Bool :=
  (List.range 48).any fun b => bit (getF s F.FLT_STATUS_BITS 0) b && getF s F.FLT_CAUSE_FATAL b == 1

/-- BELAY_OUT_TOGGLE (R371): in SERVICE, with an active processor whose heartbeats are good and no fatal fault latched. -/
def belayOutToggle (s : Dev) (t : Nat) : Dev :=
  let s := s.at t
  let a := getF s F.BELAY_STAT_ACTIVE_PP 0
  if s.ctl.pair && devState s == dvService && ppState s a == 0 && getF s F.BELAY_STAT_MISSES 0 == 0 && !fatalLatched s &&
      decide (s.jrn.belayAt + 51300000 ≤ t) then
    emit { s with jrn := { s.jrn with belayPin := !s.jrn.belayPin, belayAt := t } } (.pin 184 (b2n (!s.jrn.belayPin)))
  else s

/-! PAIR_SET (R354). -/

/-- Configuration that a PAIR_SET stored: 0 none yet, 1 Single, 2 Pair. -/
def pairCfg (s : Dev) : Nat := (mechOf s mkPair 0).aux

/-- The conditions of PAIR_SET. -/
def pairConds (s : Dev) (j : JRec) : List (Bool × Nat × Nat) :=
  let b := le j.desc 24 1
  [(bits b 1 1 != pairId s, stConflict, genDetail 0 false 1),
    (s.ctl.served && (bit b 0 != s.ctl.pair), stConflict, genDetail 0 false 2)]

/-- The default priority list of a device (R68). -/
def defaultPrio (id : Nat) : List Nat := if id = 0 then [1, 2, 4, 5] else [6, 1, 2, 4, 5]

/-- The role a device takes when Pair is first set (R371, R375, R376; log entry 31). -/
def firstRole (s : Dev) : Nat :=
  let own := getF s F.PAIR_STAT_ACTIVE_SEL 0 == 1
  let peer := s.jrn.peerSel && peerUp s
  if own && (!peer || pairId s == 0) then (if peerUp s then 1 else 3)
  else if !peerUp s then 4
  else if peer then 5
  else 2

/-- The action of PAIR_SET: a repeat has no effect; otherwise the configuration and the default priority lists of R68. -/
def pairSetAct (s : Dev) (j : JRec) : Dev :=
  match firstFail (pairConds s j) with
  | some r => failUntimed s j.jsn r
  | none =>
    let cfg := bits (le j.desc 24 1) 0 1
    if pairCfg s = cfg + 1 then endUntimed s j.jsn 0
    else
      let q := fenced s j.jsn (mechOf s mkPair 0).jsn fun s =>
        let s := setMech s mkPair 0 { jsn := j.jsn, aux := cfg + 1 }
        let s := modCtl s fun c => { c with pair := cfg == 1, ref := { c.ref with prio := defaultPrio (pairId s), jsn := j.jsn } }
        let s := setFs s 0 [(F.PAIR_STAT_CONFIG, cfg), (F.PAIR_STAT_PAIR_ID, pairId s)]
        setRole s (if cfg = 1 then firstRole s else 0) 6 j.jsn
      if q.1 then
        let d : Dec := { status := stDone, applied := hfn q.2, detail := 0 }
        let s := modRec (unpend q.2 j.jsn) j.jsn fun r => { r with dec := some d }
        queueCpls s j.hif j.ring [cplOf s j d]
      else failUntimed q.2 j.jsn (stCancelled, 0)

/-- The checks of PAIR_SET in the order of R342 (R354, R346). -/
def pairSetChecks (s : Dev) (j : JRec) : Option Refuse :=
  checksOf s j gdet [] [] (pairConds s j) []

/-- PAIR_SET (R354, R346). -/
def pairSetCmd (s : Dev) (j : JRec) : Dev :=
  match pairSetChecks s j with
  | some r => refuse s j r
  | none => actOrHold s j pairSetAct

/-! Messages of the peer (R372). -/

/-- A peer's HIF number seen from this device, and back. -/
def swapHif (h : Nat) : Nat := (h + 2) % 4

/-- The active device assigns a JSN to a forwarded command and journals it on both devices (R372). -/
def takeForward (s : Dev) (h r : Nat) (d b : Bytes) : Dev :=
  let k := 16 * (2 + h % 2) + r
  if role s ≠ 1 ∨ s.jrn.outage ∨ dCmdId d ≤ mget 0 s.ctl.lastId k then s
  else
    let q := nextJsn s
    let s := journal q.2 (recBytes d)
    let s := modCtl s fun c => { c with recs := c.recs ++ [mkRec q.1 (2 + h % 2) r d b], lastId := mset 0 c.lastId k (dCmdId d) }
    emit s (.peer 2 q.1)

/-- A mirrored record enters this device's journal and is acknowledged; a command that this device forwarded is then accepted and
its consumer index advances (R359, R372). -/
def takeRecord (s : Dev) (r : JRec) : Dev :=
  if !isFollower s || (recOf s r.jsn).isSome then s
  else
    let h := swapHif r.hif
    let r := { r with hif := h, validated := true, dec := none, consumed := false }
    let s := journal (modCtl s fun c => { c with recs := c.recs ++ [r], lastId := mset 0 c.lastId (16 * h + r.ring) r.cmdId }) (recBytes r.desc)
    let s := setF s F.JRN_HEAD_HEAD_JSN 0 (max (getF s F.JRN_HEAD_HEAD_JSN 0) r.jsn)
    let s := emit s (.peer 6 r.jsn)
    let x := ringOf s h r.ring
    match x.fwd with
    | some q => if decide (h < 2) && dCmdId q.1 == r.cmdId then passCommand (setRing s h r.ring { x with fwd := none }) h r.ring else s
    | none => s

/-- What the follower's own firmware does with a firmware command that the active device has carried out: an image for this device
is staged, and a confirmation and an abort act on both devices (R434, R436 to R438). -/
def followFw (s : Dev) (j : JRec) : Dev :=
  match j.op with
  | 0x70 => if fwUpdate s = 0 && !imgEnrol j.buf && (!imgBound j.buf || le j.buf 64 32 == ownBind) then stageHere s j.buf else s
  | 0x72 => if fwUpdate s = 4 then raiseCommitted (commitTrial s) s j.jsn else s
  | 0x73 =>
    match fwUpdate s with
    | 2 => discardStage s
    | 3 => setF (dropSched s) F.SEC_FW_STAT_UPDATE 0 2
    | 4 => revert s 2
    | _ => s
  | _ => s

/-- A command that the active device has scheduled is loaded here too; a FW_SCHEDULE only where an image is staged (R372, R436). -/
def takeLoad (s : Dev) (x : Pend) : Dev :=
  if !isFollower s || s.ctl.pend.any fun y => y.jsn == x.jsn then s
  else if x.op ≠ 0x71 then schedule s x
  else if fwUpdate s = 2 ∨ fwUpdate s = 3 then
    let secs := match recOf s x.jsn with | some j => confirmSecs j.desc | none => 600
    let s := dropSched s
    let s := setFs { s with sec := { s.sec with sched := some (x.jsn, x.frame, secs) } } 0 [(F.SEC_FW_STAT_UPDATE, 3), (F.SEC_FW_TGT_TARGET, x.frame)]
    schedule s x
  else s

/-- The active device's decision of a command: it is recorded, and the completion of a command of this device's own rings is
written here (R360, R372). -/
def takeDecision (s : Dev) (jsn : Nat) (d : Dec) : Dev :=
  match recOf s jsn with
  | none => s
  | some j =>
    if j.dec.isSome || !isFollower s then s
    else
      let s := journal (modRec s jsn fun r => { r with dec := some d }) 64
      let s := if d.status < 0x100 then followFw s j else s
      let k := 16 * j.hif + j.ring
      let s := if isBarrier j && decide (0x100 ≤ d.status) && mget 0 s.ctl.stop k == 0 then
          modCtl s fun c => { c with stop := mset 0 c.stop k 1 } else s
      if j.hif < 2 then queueCpls s j.hif j.ring [cplOf s j d] else s

/-- PEER_RECORD (R372 to R375). -/
def peerRecord (s : Dev) (t : Nat) (m : PeerMsg) : Dev :=
  let s := s.at t
  if !s.ctl.pair || !peerUp s then s
  else
    match m with
    | .forward h r d b => takeForward s h r d b
    | .record r => takeRecord s r
    | .load x => takeLoad s x
    | .decision jsn d => takeDecision s jsn d
    | .event code entry => offerEvent (offerEvent s 0 code entry) 1 code entry
    | .heartbeat epoch head =>
      let s := { s with jrn := { s.jrn with peerEpoch := epoch } }
      setF s F.PAIR_LAG_LAG 0 (if isFollower s then head - getF s F.JRN_HEAD_HEAD_JSN 0 else 0)
    | .revert n c =>
      if fwUpdate s = 4 ∧ s.sec.reverting = none ∧ s.sec.revertAt = none then { s with sec := { s.sec with revertAt := some (n, c) } } else s
    | .staged code ver bind held =>
      { s with jrn := { s.jrn with peerFw := if held then some (code, ver) else none, peerBind := bind } }

/-! Joining (R376). -/

/-- Ring keys of a peer's control state as this device numbers them. -/
def swapKeys (m : SMap Nat) : SMap Nat := m.foldl (fun a e => mset 0 a ((e.1 + 32) % 64) e.2) []

/-- The active device's control state as this device holds it. -/
def adoptCtl (c : Ctl) : Ctl :=
  { c with recs := c.recs.map fun r => { r with hif := swapHif r.hif, validated := true }
           lastId := swapKeys c.lastId, stop := swapKeys c.stop, adopted := swapKeys c.adopted }

/-- PAIR_RESYNC_DONE (R376): the joining device has loaded the active device's checkpoint and the journal above it, and becomes
STANDBY, with a checkpoint (R363). A firmware activation that passed meanwhile is made up (R436). -/
def pairResyncDone (s : Dev) (t : Nat) (image : Ctl) (head : Nat) : Dev :=
  let s := s.at t
  if role s ≠ 5 ∨ !peerUp s then s
  else
    let served := s.ctl.served
    let s := { s with ctl := { adoptCtl image with served := served } }
    let s := setFs s 0 [(F.JRN_HEAD_HEAD_JSN, head), (F.BELAY_EPOCH_EPOCH, s.ctl.epoch), (F.JRN_STAT_REPLAY, 0), (F.PAIR_LAG_LAG, 0)]
    let s := { s with jrn := { s.jrn with outage := false, outageEnd := t, cold := false } }
    let s := writeCheckpoint ([0, 1].foldl (fun s p => setPlaneSt s p { planeOf s p with routesLoaded := true }) s)
    let s := setRole s 2 4
    let s := if devState s = dvLoading then setDev s dvSyncing else s
    let due := s.ctl.pend.find? fun x => x.op == 0x71 && decide (x.frame ≤ hfn s)
    match due with
    | some x => if fwUpdate s = 3 ∨ fwUpdate s = 2 then applyFwSchedule s x x.frame else s
    | none => s

/-- JOIN_PEER_TIMEOUT (R376): a joining device with ACTIVE_SEL asserted whose peer is unreachable for 1 s becomes active from its
own state. -/
def joinPeerTimeout (s : Dev) (t : Nat) : Dev :=
  let s := s.at t
  match s.jrn.peerLostAt with
  | none => s
  | some a =>
    if role s = 5 ∧ getF s F.PAIR_STAT_ACTIVE_SEL 0 = 1 ∧ a + tickSec ≤ t then
      let s := takeRole s 2
      if devState s = dvLoading then setDev s dvSyncing else s
    else s

/-! The commands of this file. -/

/-- PAIR_SET (R354, R371): validation of the accepted command `jsn`. -/
def execPairSet (t jsn : Nat) (s : State) : Host.Outcome State Fault Refusal :=
  .next { s with dev := withCmd s.dev t jsn 0x90 pairSetCmd }

/-- BELAY_OUT_TOGGLE (R371): BELAY_OUT toggles. -/
def execBelayOutToggle (t : Nat) (s : State) : Host.Outcome State Fault Refusal :=
  .next { s with dev := belayOutToggle s.dev t }

/-- ACTIVE_SEL_CHANGE (R371): ACTIVE_SEL of this device and of its peer as they now stand. -/
def execActiveSelChange (t : Nat) (own peer : Bool) (s : State) : Host.Outcome State Fault Refusal :=
  .next { s with dev := activeSelChange s.dev t own peer }

/-- PEER_LOST (R375): the peer is lost. -/
def execPeerLost (t : Nat) (s : State) : Host.Outcome State Fault Refusal :=
  .next { s with dev := peerLost s.dev t }

/-- PEER_RECORD (R372): a message of the peer link arrives. -/
def execPeerRecord (t : Nat) (m : Machine.PeerMsg) (s : State) : Host.Outcome State Fault Refusal :=
  .next { s with dev := peerRecord s.dev t m }

/-- JOIN_PEER_TIMEOUT (R376): a joining device has waited for its peer. -/
def execJoinPeerTimeout (t : Nat) (s : State) : Host.Outcome State Fault Refusal :=
  .next { s with dev := joinPeerTimeout s.dev t }

/-- PEER_LINK_RETURN (R375 to R377): the peer link is up again. -/
def execPeerLinkReturn (t : Nat) (peerActive : Bool) (s : State) : Host.Outcome State Fault Refusal :=
  .next { s with dev := peerLinkReturn s.dev t peerActive }

end Sys2Proof.Machine
end

