-- ==== Sys2Proof/Machine/Faults.lean ====
section
/-! DEFINITION. Fault collection (R471 to R482), on-die monitors (R483, R484) and supply monitors with AVSBus (R512, R513). -/

namespace Sys2Proof.Machine

/-! Events and clearing. -/

/-- FAULT_EVENT (R472 to R478): an event on the error line of bit `b`. A double-bit error in the firmware region of control SRAM
(`region`) also fences the active processor, whatever the reaction table holds, unless a wider reset takes it (R366, R448,
R477); one in a plane's route table (`region` with its PLN bit) resets the plane (R75, R448). -/
def faultLine (s : Dev) (t b cause sub : Nat) (region : Bool) : Dev :=
  let s := s.at t
  let s := if (b = 19 ∨ b = 20) ∧ cause = 2 ∧ region then planeReaction s (b - 19) 10 else s
  let wide := decide (3 ≤ actionFor s b)
  let s := flushCheck (faultEvent s b cause sub)
  if b = 46 ∧ cause = 2 ∧ region ∧ wide = false then fence s 3 else s

/-- The return of a block that a FATAL event took out of service (R480). -/
def blockReturn (s : Dev) (b : Nat) : Dev :=
  if !bit s.flt.outOfService b then s
  else
    let s := { s with flt := { s.flt with outOfService := s.flt.outOfService - 2 ^ b } }
    if b < 16 then
      let p := b / 8
      let m := getF s F.PLN_STATE_TILE_FAIL p
      let s := setF s F.PLN_STATE_TILE_FAIL p (if bit m (b % 8) then m - 2 ^ (b % 8) else m)
      undegrade (assertReset s 3 b 12 true) p
    else if b < 18 then setF s F.HBM_STAT_STATE (b - 16) 1
    else if b = 18 then undegrade (undegrade (setF (setF s F.PLN_STATE_COL_FAIL 0 0) F.PLN_STATE_COL_FAIL 1 0) 0) 1
    else if b = 34 ∨ b = 35 then setFls s (b - 34) { flsSt s (b - 34) with cond := 4 }
    else s

/-- A cleared bit of a processor that FAILED starts its TESTING again (R367, R480). -/
def ppReturn (s : Dev) (b : Nat) : Dev :=
  if (b = 29 ∨ b = 30) ∧ ppState s (b - 29) = 4 then syncBist (setPp s (b - 29) 3) else s

/-- One bit of FLT_STATUS is cleared (R479, R480, R482): FAULT with SET 0 and the cause of the last event. -/
def clearBit (s : Dev) (b : Nat) : Dev :=
  let st := getF s F.FLT_STATUS_BITS 0
  if !bit st b then s
  else
    let s := setF s F.FLT_STATUS_BITS 0 (st - 2 ^ b)
    let s := { s with flt := { s.flt with checks := if s.flt.checks.contains b then s.flt.checks else b :: s.flt.checks } }
    let cause := getF s F.FLT_CAUSE_CAUSE b
    let s := raise (driveFaultN s) 0x11 b 0
      (faultDetail (getF s F.FLT_CAUSE_SUB b) cause 0 (getF s F.FLT_CAUSE_FATAL b) 0 0 0 0)
    ppReturn (blockReturn s b) b

/-- FLT_STATUS_CLEAR (R479): a W1C write of `mask`. -/
def fltStatusClear (s : Dev) (t mask : Nat) : Dev :=
  ((List.range 48).filter fun b => bit mask b).foldl clearBit (s.at t)

/-- FLT_CLEAR_CHECK (R479): a microsecond after a clear, a cause still reported sets the bit again with PERSIST and no reaction. -/
def fltClearCheck (s : Dev) (t b : Nat) (persists : Bool) : Dev :=
  let s := s.at t
  if !s.flt.checks.contains b then s
  else
    let s := { s with flt := { s.flt with checks := s.flt.checks.filter (· != b) } }
    if !persists then s
    else
      let fatal := getF s F.FLT_CAUSE_FATAL b
      let cause := getF s F.FLT_CAUSE_CAUSE b
      let sub := getF s F.FLT_CAUSE_SUB b
      let s := setF s F.FLT_STATUS_BITS 0 (getF s F.FLT_STATUS_BITS 0 ||| 2 ^ b)
      let s := setF s F.FLT_CLRFAIL_PERSIST 0 (getF s F.FLT_CLRFAIL_PERSIST 0 ||| 2 ^ b)
      let s := logFault s b (faultRecord s b cause sub 0 0 1)
      let s := raise (driveFaultN s) 0x11 b 0 (faultDetail sub cause 1 fatal 0 0 0 1)
      if fatal = 1 then outOfService s b else s

/-- FLT_FIRST_CLEAR (R479): FLT_FIRST, FLT_FIRST_TIME and FLT_OVF are cleared together. -/
def fltFirstClear (s : Dev) (t : Nat) : Dev :=
  setFs (s.at t) 0 [(F.FLT_FIRST_VALID, 0), (F.FLT_FIRST_FATAL, 0), (F.FLT_FIRST_CAUSE, 0), (F.FLT_FIRST_TIME_TIME, 0),
    (F.FLT_FIRST_SUB_BIT, 0), (F.FLT_FIRST_SUB_SUB, 0), (F.FLT_OVF_OVF, 0)]

/-- FLT_REACT_WRITE (R476, R492): a write whose ACTION is not legal for its bit is discarded with WR_ERR. -/
def fltReactWrite (s : Dev) (t b value : Nat) : Dev :=
  let s := s.at t
  if actionLegal b (bits value 4 3) then
    setFs s b [(F.FLT_REACT_ACTION, bits value 4 3), (F.FLT_REACT_FAULT_N, bits value 3 1), (F.FLT_REACT_IRQ, bits value 2 1)]
  else setF s F.FLT_CTRL_WR_ERR 0 1

/-- FLT_MODE_WINDOW (R474): the window's seconds run out and LATCH mode returns. -/
def fltModeWindow (s : Dev) (t : Nat) : Dev :=
  let s := s.at t
  let s := match s.flt.windowAt with
    | some a => if a + 60 * tickSec ≤ t then { s with flt := { s.flt with windowAt := none } } else s
    | none => s
  syncFltMode s

/-- FAULT_LOG_WRITE (R481): the oldest waiting record goes to each HEALTHY channel. -/
def faultLogWrite (s : Dev) (t : Nat) : Dev :=
  let s := s.at t
  match s.flt.buf with
  | [] => s
  | e :: r =>
    let h := healthyChans s
    if h.isEmpty || s.rst.pwrLowAt.isSome then s
    else emits { s with flt := { s.flt with buf := r } } (h.map fun c => .flash c 0x0A 0x0F10 e)

/-! Monitors (R483, R484). -/

/-- MONITOR_SAMPLE (R484): a replica whose slack (0.01 % of the period) falls below 2 % between surveys raises a WARN event. -/
def monitorSample (s : Dev) (t : Nat) (slack : List Nat) : Dev :=
  let s := s.at t
  let low := (List.range 32).filter fun k => decide (slack.getD k 10000 < 200)
  let fresh := low.filter fun k => !s.age.low.contains k
  let s := { s with age := { s.age with low := low } }
  if getF s F.AGE_STAT_RUNNING 0 = 1 then s else fresh.foldl (fun s k => faultEvent s 44 0x08 k) s

/-- The two diodes of tile `k` differ by more than 10 °C. -/
def tileSplit (d : List Int) (k : Nat) : Bool := decide (160 < (d.getD (2 * k) 0 - d.getD (2 * k + 1) 0).natAbs)

/-- THERMAL_SAMPLE (R484): diodes in 1/16 °C, two a tile and eight of the control domain. THERM takes a WARN event when a diode
reaches 150 °C, and when a tile's two differ by more than 10 °C for 1 s (`split`: twice the time of the start plus 2, and 1 once
reported). -/
def thermalSample (s : Dev) (t : Nat) (d : List Int) : Dev :=
  let s := s.at t
  let hot := (List.range 40).filter fun k => decide (2400 ≤ d.getD k 0)
  let fresh := hot.filter fun k => !s.age.hot.contains k
  let apart := (List.range 16).filter (tileSplit d)
  let old := s.age.split
  let due := apart.filter fun k => decide (2 ≤ mget 0 old k) && decide ((mget 0 old k - 2) / 2 + tickSec ≤ t)
  let mark := fun k => if mget 0 old k = 0 then 2 * t + 2 else if due.contains k then 1 else mget 0 old k
  let split := apart.foldl (fun m k => mset 0 m k (mark k)) []
  let s := { s with age := { s.age with hot := hot, split := split } }
  let s := if fresh.isEmpty then s else faultEvent s 43 0x0C 0
  due.foldl (fun s _ => faultEvent s 43 0x0C 0) s

/-! AVSBus and rails (R512, R513). -/

/-- A write of rail `rail` over AVSBus (R512): three invalid responses in a row stop the stepping and raise a WARN event. -/
def avsTry (s : Dev) (rail mv : Nat) (ok : Bool) : Dev :=
  let s := emit s (.avs rail mv)
  let x := s.avs
  if ok then
    let x := { x with bad := mset 0 x.bad rail 0 }
    { s with avs := if rail = 0 then { x with prev := x.core, core := mv, wroteAt := some s.now } else { x with sram := mv } }
  else
    let n := mget 0 x.bad rail + 1
    let s := { s with avs := { x with bad := mset 0 x.bad rail n, stopped := x.stopped || decide (3 ≤ n) } }
    if n = 3 then faultEvent s 47 0x06 (0x10 + rail) else s

/-- VDD_SRAM that goes with a VDD_CORE target (R511). -/
def sramFor (core : Nat) : Nat := max 800 core

/-- Move VDD_CORE to a target: VDD_SRAM before it on a rise and after it on a fall (R512). -/
def avsMove (s : Dev) (mv : Nat) (ok : Bool) : Dev :=
  if s.avs.core < mv then
    let s := if s.avs.sram < sramFor mv then avsTry s 1 (sramFor mv) ok else s
    if s.avs.sram < mv then s else avsTry s 0 mv ok
  else
    let s := avsTry s 0 mv ok
    if sramFor s.avs.core < s.avs.sram then avsTry s 1 (sramFor s.avs.core) ok else s

/-- AVS_WRITE (R512): none before SERVICE, none once stepping has stopped, and never VDD_CORE above VDD_SRAM. -/
def avsWrite (s : Dev) (t rail mv : Nat) (ok : Bool) : Dev :=
  let s := s.at t
  if devState s < dvService ∨ s.avs.stopped ∨ 2 ≤ rail ∨ (rail = 0 ∧ s.avs.sram < mv) ∨ (rail = 1 ∧ mv < s.avs.core) then s
  else avsTry s rail mv ok

/-- The AVS target that the latest checkpoint records (R512): 750 mV before any survey has moved it. -/
def avsTarget (s : Dev) : Nat := let v := (mechOf s mkSurvey 0).aux; if v = 0 then 750 else v

/-- AVS_STEP (R512): after COLD, VDD_CORE steps 5 mV every 10 ms toward the recorded target. -/
def avsStep (s : Dev) (t : Nat) (ok : Bool) : Dev :=
  let s := s.at t
  let due := match s.avs.stepAt with | none => true | some a => decide (a + 540000000 ≤ t)
  let goal := avsTarget s
  if devState s = dvService ∧ s.avs.stopped = false ∧ due = true ∧ s.avs.core ≠ goal then
    let next := if s.avs.core < goal then min goal (s.avs.core + 5) else max goal (s.avs.core - 5)
    let s := avsMove { s with avs := { s.avs with stepAt := some t } } next ok
    setF s F.AGE_STAT_AVS_MV 0 s.avs.core
  else s

/-- A rail's window in 0.1 mV (R511): VDD_CORE and VDD_SRAM follow the target, VDD_CORE only 1 ms after a step. -/
def railWindow (s : Dev) (rail : Nat) : Nat × Nat :=
  let settled := match s.avs.wroteAt with | none => true | some a => decide (a + 54000000 ≤ s.now)
  let core := if settled then s.avs.core else s.avs.prev
  let near := fun mv => (mv * 97 / 10, (mv * 103 + 9) / 10)
  match rail with
  | 0 => near core
  | 1 => near (sramFor core)
  | 2 => (7760, 8240)
  | 3 => (8250, 8750)
  | 4 => (11640, 12360)
  | 5 => (10670, 11330)
  | 6 => (3800, 4200)
  | 7 => (17100, 18900)
  | 8 => (8250, 8750)
  | 9 => (11640, 12360)
  | 10 => (11400, 12600)
  | _ => (17100, 18900)

/-- RAIL_OUT_OF_WINDOW (R513): a rail at `level` (0.1 mV) since `since`, outside its window for 10 µs. -/
def railOutOfWindow (s : Dev) (t rail level since : Nat) : Dev :=
  let s := s.at t
  let w := railWindow s rail
  if rail < 12 ∧ since + 540000 ≤ t ∧ (level < w.1 ∨ w.2 < level) then faultEvent s 47 0x0D rail else s

/-! The commands of this file. -/

/-- FAULT_EVENT (R472 to R478): an event on the error line of bit `b`. -/
def execFaultEvent (t : Nat) (b : Fin 48) (cause sub : Nat) (region : Bool) (s : State) : Host.Outcome State Fault Refusal :=
  .next { s with dev := faultLine s.dev t b cause sub region }

/-- FLT_STATUS_CLEAR (R479): FLT_STATUS is written. -/
def execFltStatusClear (t ones : Nat) (s : State) : Host.Outcome State Fault Refusal :=
  .next { s with dev := fltStatusClear s.dev t ones }

/-- FLT_CLEAR_CHECK (R479): a microsecond after a clear, the cause is checked. -/
def execFltClearCheck (t : Nat) (b : Fin 48) (persists : Bool) (s : State) : Host.Outcome State Fault Refusal :=
  .next { s with dev := fltClearCheck s.dev t b persists }

/-- FLT_FIRST_CLEAR (R479): FLT_FIRST.VALID is written 1. -/
def execFltFirstClear (t : Nat) (s : State) : Host.Outcome State Fault Refusal :=
  .next { s with dev := fltFirstClear s.dev t }

/-- FLT_REACT_WRITE (R476, R492): FLT_REACT of bit `b` is written. -/
def execFltReactWrite (t : Nat) (b : Fin 48) (value : Nat) (s : State) : Host.Outcome State Fault Refusal :=
  .next { s with dev := fltReactWrite s.dev t b value }

/-- FLT_MODE_WINDOW (R474): the HISTORY window advances. -/
def execFltModeWindow (t : Nat) (s : State) : Host.Outcome State Fault Refusal :=
  .next { s with dev := fltModeWindow s.dev t }

/-- FAULT_LOG_WRITE (R481): a buffered fault record goes to flash. -/
def execFaultLogWrite (t : Nat) (s : State) : Host.Outcome State Fault Refusal :=
  .next { s with dev := faultLogWrite s.dev t }

/-- MONITOR_SAMPLE (R483): the path replicas are read. -/
def execMonitorSample (t : Nat) (slack : List Nat) (s : State) : Host.Outcome State Fault Refusal :=
  .next { s with dev := monitorSample s.dev t slack }

/-- THERMAL_SAMPLE (R484): the diodes are read. -/
def execThermalSample (t : Nat) (d : List Int) (s : State) : Host.Outcome State Fault Refusal :=
  .next { s with dev := thermalSample s.dev t d }

/-- AVS_WRITE (R512): a rail's target is written over AVSBus; `ok` is the response. -/
def execAvsWrite (t rail mv : Nat) (ok : Bool) (s : State) : Host.Outcome State Fault Refusal :=
  .next { s with dev := avsWrite s.dev t rail mv ok }

/-- AVS_STEP (R512): VDD_CORE's next step toward its recorded target falls due. -/
def execAvsStep (t : Nat) (ok : Bool) (s : State) : Host.Outcome State Fault Refusal :=
  .next { s with dev := avsStep s.dev t ok }

/-- RAIL_OUT_OF_WINDOW (R513): a rail has stood at `level` (0.1 mV) since `since`. -/
def execRailOutOfWindow (t : Nat) (rail : Fin 12) (level since : Nat) (s : State) : Host.Outcome State Fault Refusal :=
  .next { s with dev := railOutOfWindow s.dev t rail level since }

end Sys2Proof.Machine
end

