-- ==== Sys2Proof/Machine/Ageing.lean ====
section
/-! DEFINITION. The margin survey and its report (R485 to R489). -/

namespace Sys2Proof.Machine

/-- A survey starts (R485): by the command of `jsn`, or as a firmware action. -/
def startSurvey (s : Dev) (jsn : Option Nat) (replan : Bool) : Dev :=
  let s := setFs s 0 [(F.AGE_STAT_RUNNING, 1), (F.AGE_STAT_SEQ, getF s F.AGE_STAT_SEQ 0 + 1), (F.AGE_STAT_LAST, s.now / tickSec % 2 ^ 32)]
  { s with age := { s.age with jsn := jsn, replan := replan, startedAt := some s.now, meas := [], stepped := [],
                               limit := if s.avs.stopped then [0, 1, 2] else [], warned := [], avsSteps := 0, avsAt := none,
                               eyes := [], budget := false } }

/-- A survey runs. -/
def surveyRuns (s : Dev) : Bool := getF s F.AGE_STAT_RUNNING 0 == 1

/-- The action of MARGIN_SURVEY; AGEING_REPORT completes it. -/
def marginSurveyAct (s : Dev) (j : JRec) : Dev :=
  if surveyRuns s then failUntimed s j.jsn (stBusy, genDetail 0 false 1)
  else startSurvey (markRunning s j.jsn) (some j.jsn) (bit (le j.desc 24 1) 0)

/-- The checks of MARGIN_SURVEY in the order of R342 (R354, R485). -/
def marginSurveyChecks (s : Dev) (j : JRec) : Option Refuse :=
  checksOf s j gdet [] [] [] [(surveyRuns s, stBusy, genDetail 0 false 1)]

/-- MARGIN_SURVEY (R354, R485): BUSY during a survey. -/
def marginSurveyCmd (s : Dev) (j : JRec) : Dev :=
  match marginSurveyChecks s j with
  | some r => refuse s j r
  | none => actOrHold s j marginSurveyAct

/-- SURVEY_SCHEDULE (R485): PERIOD_D days after the last start, at the hour HOUR; without a valid time of day the hour is ignored.
It waits for SERVICE and for validation to run. -/
def surveySchedule (s : Dev) (t : Nat) : Dev :=
  let s := s.at t
  let days := min 365 (getF s F.AGE_CFG_PERIOD_D 0)
  let secs := t / tickSec
  let due := decide (getF s F.AGE_STAT_LAST 0 + days * 86400 ≤ secs)
  let hour := getF s F.DPLL_STATUS_TOD_VALID 0 == 0 || secs % 86400 / 3600 == min 23 (getF s F.AGE_CFG_HOUR 0)
  if days != 0 && due && hour && !surveyRuns s && devState s == dvService && !s.jrn.outage then
    startSurvey (fwAction s).2 none (getF s F.AGE_CFG_AUTO_REPLAN 0 == 1)
  else s

/-! Items (R488, R489). -/

/-- The limit of item `k` (R489). -/
def itemLimit (k : Nat) : Int := match k with | 4 => 4 | 5 => 4 | 6 => 4 | 7 => 4 | 11 => 100 | 12 => 100 | _ => 0

/-- Remaining margin of item `k` in % (R489): rounded down, 0 to 100; 100 where the baseline is at the limit. -/
def itemMargin (k : Nat) (v : Int) : Nat :=
  let base := (Config.ageBaseline k).toInt
  let lim := itemLimit k
  if base = lim then 100 else (clampI 50 (Int.fdiv ((v - lim) * 100) (base - lim) - 50) + 50).toNat

/-- A measurement of item `k`: the worst value stands; below AGE_CFG.WARN it raises one WARN event (R486). -/
def measure (s : Dev) (k : Nat) (v : Int) (unit : Nat) : Dev :=
  let old := s.age.meas.find? fun e => e.1 == k
  let keep := match old with | some e => decide (e.2.1 ≤ v) | none => false
  let s := if keep then s else { s with age := { s.age with meas := mins k (v, unit) (mdel s.age.meas k) } }
  if itemMargin k v < getF s F.AGE_CFG_WARN 0 ∧ s.age.warned.contains k = false then
    faultEvent { s with age := { s.age with warned := k :: s.age.warned } } 44 0x08 k
  else s

/-- Mark an item as moved by the survey. -/
def markStepped (s : Dev) (k : Nat) : Dev :=
  if s.age.stepped.contains k then s else { s with age := { s.age with stepped := k :: s.age.stepped } }

/-- Mark an item as at its limit. -/
def markLimit (s : Dev) (k : Nat) : Dev :=
  if s.age.limit.contains k then s else { s with age := { s.age with limit := k :: s.age.limit } }

/-- The stack's items are STALE: its plane's temperature band changed during the survey (R488). -/
def stackStale (s : Dev) (p : Nat) : Bool :=
  match s.age.startedAt with | none => false | some a => decide (a < (planeOf s p).bandAt)

/-- The AVS step of R486: 5 mV, at most four a survey, within 0.70 to 0.85 V, 10 ms after the last. -/
def surveyAvs (s : Dev) (worst : Nat) (ok : Bool) : Dev :=
  let settled := match s.age.avsAt with | none => true | some a => decide (a + 540000000 ≤ s.now)
  let next := if worst < 800 then s.avs.core + 5 else if 1200 < worst then s.avs.core - 5 else s.avs.core
  if next = s.avs.core || !settled || s.avs.stopped then s
  else if 4 ≤ s.age.avsSteps ∨ next < 700 ∨ 850 < next then markLimit (markLimit (markLimit s 0) 1) 2
  else
    let q := fwAction s
    let s := avsMove { q.2 with age := { q.2.age with avsSteps := q.2.age.avsSteps + 1, avsAt := some q.2.now } } next ok
    let s := setMech (setF s F.AGE_STAT_AVS_MV 0 s.avs.core) mkSurvey 0 { aux := s.avs.core, jsn := q.1 }
    let s := if s.avs.stopped then markLimit (markLimit (markLimit s 0) 1) 2 else s
    markStepped (markStepped (markStepped s 0) 1) 2

/-- One code from `code` toward `goal`. -/
def toward (code goal : Nat) : Nat := if code < goal then code + 1 else if goal < code then code - 1 else code

/-- A byte lane is re-planned (R486): write and read delay one code toward the centre of the measured eye, at most 8 codes from the
trained one. -/
def surveyEye (s : Dev) (p lane : Nat) (o : EyeObs) : Dev :=
  let i := ix p lane
  let wr := toward (getF s F.HBM_TRAIN_WR_CODE i) (eyeCentre o.wrStart o.wrLen)
  let wb := mget 0 (hbmSt s p).wrBase lane
  let rd := toward (getF s F.HBM_EYE_RD_CODE i) (eyeCentre o.rdStart o.rdLen)
  let rb := getF s F.HBM_TRAIN_RD_CODE i
  let far := fun a b => decide (b + 8 < a) || decide (a + 8 < b)
  let moved := (wr != getF s F.HBM_TRAIN_WR_CODE i && !far wr wb) || (rd != getF s F.HBM_EYE_RD_CODE i && !far rd rb)
  let s := if moved then (fwAction s).2 else s
  let s := if far wr wb then markLimit s (5 + 2 * p)
    else if wr = getF s F.HBM_TRAIN_WR_CODE i then s else markStepped (setF s F.HBM_TRAIN_WR_CODE i wr) (5 + 2 * p)
  if far rd rb then markLimit s (4 + 2 * p)
  else if rd = getF s F.HBM_EYE_RD_CODE i then s else markStepped (setF s F.HBM_EYE_RD_CODE i rd) (4 + 2 * p)

/-- A lane is re-planned (R486): the CTLE code with the higher FOM of three, not with CTLE_FORCE; LANE_FOM.BASE follows. -/
def surveyLane (s : Dev) (pl lane below here above : Nat) : Dev :=
  let i := if pl = 2 then ix 0 (80 + lane) else ix pl lane
  let s := setF s F.LANE_FOM_BASE i (max here (max below above))
  if getF s F.LANE_RXEQ_CTLE_FORCE i = 1 then setF s F.LANE_FOM_BASE i here
  else
    let c := getF s F.LANE_RXEQ_CTLE i
    let next := if here < below ∧ above ≤ below ∧ c ≠ 0 then c - 1 else if here < above ∧ c < 63 then c + 1 else c
    if next = c then s else markStepped (setF (fwAction s).2 F.LANE_RXEQ_CTLE i next) (8 + pl)

/-- The budgets of a stack's plane (R487): WARM, HIGH and HOT fall by 2 % for each code below 24, at most 20 %. A fall that leaves the
load above the band sheds with reason 3 (R111). -/
def replanBudget (s : Dev) (p : Nat) : Dev :=
  match s.age.eyes.find? fun e => e.1 == p with
  | none => s
  | some e =>
    if stackStale s p then s
    else
      let r := min 20 (2 * (24 - e.2))
      let new := [2, 3, 4].map fun b => (b, resetAt F.PLN_BUDGET_BW (ix p b) * (100 - r) / 100)
      let changed := new.any fun q => getF s F.PLN_BUDGET_BW (ix p q.1) != q.2
      let s := if changed then (fwAction s).2 else s
      let s := new.foldl (fun s q => setF s F.PLN_BUDGET_BW (ix p q.1) q.2) s
      let s := if changed then markStepped { s with age := { s.age with budget := true } } 15 else s
      if bwOver s p then setPlaneSt s p { planeOf s p with shedDue := true, shedReason := 3, shedAt := s.now } else s

/-- Reduction in force on a plane in 0.1 % (R487, R489 item 15), from its WARM budget. -/
def reduction (s : Dev) (p : Nat) : Nat := 10 * (100 - getF s F.PLN_BUDGET_BW (ix p 2) * 100 / resetAt F.PLN_BUDGET_BW (ix p 2))

/-- SURVEY_STEP (R486 to R488). -/
def surveyStep (s : Dev) (t : Nat) (o : SurveyObs) : Dev :=
  let s := s.at t
  if !surveyRuns s || s.jrn.outage then s
  else
    match o with
    | .slack a ua b ub c uc ok =>
      let s := measure (measure (measure s 0 a ua) 1 b ub) 2 c uc
      if s.age.replan then surveyAvs s (min a (min b c)) ok else s
    | .ring loss pair => measure s 3 (80000 - (loss : Int)) pair
    | .eye p lane e =>
      let p := p % 2
      let s := measure (measure s (4 + 2 * p) e.rdLen lane) (5 + 2 * p) e.wrLen lane
      let w := min e.rdLen e.wrLen
      let old := match s.age.eyes.find? fun q => q.1 == p with | some q => min q.2 w | none => w
      let s := { s with age := { s.age with eyes := mins p old (mdel s.age.eyes p) } }
      if s.age.replan && !stackStale s p then surveyEye s p lane e else s
    | .fom pl lane below here above =>
      let i := if pl = 2 then ix 0 (80 + lane) else ix pl lane
      let s := measure s (8 + min pl 2) ((here : Int) - getF s F.LANE_CFG_FOM_MIN i) lane
      if s.age.replan && laneStage s (if pl = 2 then 0 else pl) (if pl = 2 then 80 + lane else lane) == 6 then
        surveyLane s (min pl 2) lane below here above else s
    | .flash ch ls lt ber block =>
      let c := ch % 2
      let s := measure s (11 + c) (if ber = 0 then 1000000 else ((4500000 / ber : Nat) : Int)) block
      let s := measure s (13 + c) (getF s F.FLS_BLOCKS_SPARE_NOW c) 0
      if s.age.replan then
        let x := flsSt (fwAction s).2 c
        markStepped (setFls (fwAction s).2 c { x with slc := { x.slc with start := ls }, tlc := { x.tlc with start := lt } }) (11 + c)
      else s
    | .budget => if s.age.replan then replanBudget (replanBudget s 0) 1 else s

/-- Items that an interruption has made STALE (R488): a stack whose plane changed band, a lane group with a lane that left UP, a flash
channel that left HEALTHY. -/
def staleItems (s : Dev) : List Nat :=
  let a := s.age.startedAt.getD 0
  let band := [0, 1].flatMap fun p => if stackStale s p then [4 + 2 * p, 5 + 2 * p] else []
  let left := fun p l => laneStage s p l != 6 && decide (a < (laneSt s p l).since)
  let lanes := (if (List.range 72).any (left 0) then [8] else []) ++ (if (List.range 72).any (left 1) then [9] else []) ++
    (if [80, 81, 82, 83].any (left 0) then [10] else [])
  let fls := [0, 1].flatMap fun c => if flsState s c != 3 then [11 + c, 13 + c] else []
  band ++ lanes ++ fls ++ (if stackStale s 0 || stackStale s 1 then [15] else [])

/-- Write AGE_ITEM[k] (R489, R492). -/
def writeItem (s : Dev) (stale : List Nat) (k : Nat) : Dev :=
  let flags := [(F.AGE_ITEM_SKIPPED, b2n (!s.age.replan)), (F.AGE_ITEM_STALE, b2n (stale.contains k)),
    (F.AGE_ITEM_AT_LIMIT, b2n (s.age.limit.contains k)), (F.AGE_ITEM_STEPPED, b2n (s.age.stepped.contains k))]
  if k = 15 then
    setFs s 15 ([(F.AGE_ITEM_MEASURED, reduction s 0 + reduction s 1 * 65536), (F.AGE_ITEM_UNIT, 0), (F.AGE_ITEM_MARGIN, 0xFF)] ++ flags)
  else
    match s.age.meas.find? fun e => e.1 == k with
    | none => setFs s k ([(F.AGE_ITEM_MEASURED, 0), (F.AGE_ITEM_UNIT, 0), (F.AGE_ITEM_MARGIN, 0xFF)] ++ flags)
    | some e => setFs s k ([(F.AGE_ITEM_MEASURED, usgn 32 e.2.1), (F.AGE_ITEM_UNIT, e.2.2 % 256), (F.AGE_ITEM_MARGIN, itemMargin k e.2.1)] ++ flags)

/-- The lowest margin among items measured and its item (R489); 0xFF with none. -/
def lowestItem (s : Dev) : Nat × Nat :=
  (List.range 15).foldl (fun best k => let m := getF s F.AGE_ITEM_MARGIN k; if m < best.1 then (m, k) else best) (0xFF, 0)

/-- AGEING_REPORT (R489): the items, the fault-log record, the event, and the completion of the command that started the survey. -/
def ageingReport (s : Dev) (t : Nat) : Dev :=
  let s := s.at t
  if !surveyRuns s || s.jrn.outage then s
  else
    let stale := staleItems s
    let s := (List.range 16).foldl (fun s k => writeItem s stale k) s
    let low := lowestItem s
    let detail := low.1 + low.2 * 256 + b2n s.age.replan * 2 ^ 12 + b2n s.age.budget * 2 ^ 13 + b2n (!s.age.warned.isEmpty) * 2 ^ 14 +
      b2n (!stale.isEmpty) * 2 ^ 15 + getF s F.AGE_STAT_SEQ 0 % 65536 * 65536
    let s := if s.rst.pwrLowAt.isNone then emits s ((healthyChans s).map fun c => .flash c 0x0A 0x0F11 detail) else s
    let j := s.age.jsn
    let s := setF { s with age := { s.age with startedAt := none, jsn := none } } F.AGE_STAT_RUNNING 0 0
    let s := raise s 0x12 44 (j.getD 0) detail
    match j with | none => s | some n => endUntimed s n detail

/-! The commands of this file. -/

/-- MARGIN_SURVEY (R485): validation of the accepted command `jsn`. -/
def execMarginSurvey (t jsn : Nat) (s : State) : Host.Outcome State Fault Refusal :=
  .next { s with dev := withCmd s.dev t jsn 0x84 marginSurveyCmd }

/-- SURVEY_SCHEDULE (R485): the survey schedule is checked. -/
def execSurveySchedule (t : Nat) (s : State) : Host.Outcome State Fault Refusal :=
  .next { s with dev := surveySchedule s.dev t }

/-- SURVEY_STEP (R486): a step of the margin survey measures an item. -/
def execSurveyStep (t : Nat) (o : SurveyObs) (s : State) : Host.Outcome State Fault Refusal :=
  .next { s with dev := surveyStep s.dev t o }

/-- AGEING_REPORT (R489): the survey ends with its report. -/
def execAgeingReport (t : Nat) (s : State) : Host.Outcome State Fault Refusal :=
  .next { s with dev := ageingReport s.dev t }

end Sys2Proof.Machine
end

