-- ==== Sys2Proof/Machine/Reset.lean ====
section
/-! DEFINITION. Resets: reaches, sources, entry and release (R446 to R455), fuse load and pins (R456, R457), straps (R458), power
(R461 to R463), boundary scan (R520), and recovery of the control state (R364, R365). -/

namespace Sys2Proof.Machine

/-! Reaches (R446). -/

/-- The tile that holds a plane's link: three Otira links a tile, both Ethernet ports in the IP tile (R14). -/
def tileOfLink (l : Nat) : Nat := if l < 18 then l / 3 else 6

/-- Sub-domains that a reach covers (R446, R454). Units: LANE 128·plane + lane, peer lanes 80 to 83; LINK 32·plane + link, peer link
64; TILE 8·plane + tile. -/
def covers (reach unit : Nat) (d : Dom) : Bool :=
  let lp := d.unit / 128
  let ll := d.unit % 128
  match reach with
  | 8 => true
  | 7 => (decide (4 ≤ d.step) && decide (d.step ≤ 9)) || decide (11 ≤ d.step)
  | 6 => d.step == 9 && d.unit == unit
  | 4 => (d.step == 11 && d.unit == unit) || (d.step == 12 && d.unit / 8 == unit) || (d.step == 13 && d.unit / 32 == unit) ||
      (d.step == 14 && lp == unit && decide (ll < 80))
  | 3 => (d.step == 12 && d.unit == unit) || (d.step == 13 && d.unit / 32 == unit / 8 && tileOfLink (d.unit % 32) == unit % 8) ||
      (d.step == 14 && lp == unit / 8 && decide (ll < 80) && tileOfLink (ll / 4) == unit % 8)
  | 2 => (d.step == 13 && d.unit == unit) ||
      (d.step == 14 && (if unit = 64 then lp == 0 && decide (80 ≤ ll) else lp == unit / 32 && decide (ll < 80) && ll / 4 == unit % 32))
  | 1 => d.step == 14 && d.unit == unit
  | _ => false

/-- The same with PP reach, which covers step 8 where it names the processor that the Belay has chosen as active (R454). -/
def coversIn (s : Dev) (reach unit : Nat) (d : Dom) : Bool :=
  if reach = 5 then d.step == 8 && getF s F.BELAY_STAT_ACTIVE_PP 0 == unit else covers reach unit d

/-- The reach that covers just a sub-domain and what lies inside it; 0 where none does. -/
def domReach (d : Dom) : Nat := match d.step with | 9 => 6 | 11 => 4 | 12 => 3 | 13 => 2 | 14 => 1 | _ => 0

/-- The register fields that a reset of a reach covers and does not keep (R8, R446). WARM leaves the always-on domain, the fuse
shadow and the DPLL; COLD leaves the reset controller. `c` is a field code, `i` its element. -/
def losesField (reach unit c i : Nat) : Bool :=
  let b := codeBlk c
  let u := i % 2
  let j := i / 2
  match reach with
  | 8 => b != 1
  | 7 => !codeKept c && !([1, 2, 3, 8, 13].contains b)
  | 4 => !codeKept c && decide (14 ≤ b) && u == unit && !(b == 20 && decide (80 ≤ j))
  | 3 => !codeKept c && u == unit / 8 &&
      ((b == 15 && tileOfLink j == unit % 8) || (b == 20 && decide (j < 80) && tileOfLink (j / 4) == unit % 8))
  | 2 => !codeKept c && (if unit = 64 then b == 20 && u == 0 && decide (80 ≤ j)
      else u == unit / 32 && ((b == 15 && j == unit % 32) || (b == 20 && decide (j < 80) && j / 4 == unit % 32)))
  | 1 => !codeKept c && b == 20 && u == unit / 128 && j == unit % 128
  | _ => false

/-- Those fields take their Reset column. -/
def loseFields (s : Dev) (reach unit : Nat) : Dev :=
  { s with regs := s.regs.filter fun e => !(losesField reach unit (e.1 % 262144) (e.1 / 262144)) }

/-! Pins (R457, R519). -/

/-- Fuse-map indices of configurable pins (R519, R523), BELAY_OUT apart. -/
def configPins : List Nat :=
  List.range 117 ++ ((List.range 21).map (128 + ·)) ++ ((List.range 24).map (160 + ·))

/-- Every pin is high-impedance (R456, R461). -/
def floatPins (s : Dev) : Dev := emit { s with rst := { s.rst with pinsFloat := true } } (.pin pinAll 2)

/-! Entry (R446, R453). -/

/-- A lane's engine enters reset (R446). -/
def enterLane (s : Dev) (p l : Nat) : Dev := setLane s p l {}

/-- A link's engine enters reset: the link goes DOWN; CFG numbering and the known unit are kept (R251, R364). -/
def enterLink (s : Dev) (p l : Nat) : Dev :=
  let s := if l < 18 then linkGo s p l 0 0 else s
  let x := lnkSt s p l
  let s := if l < 18 then setLnk s p l { unit := x.unit, cfgSeq := x.cfgSeq, cfg := x.cfg, reqId := x.reqId } else s
  let s := if l < 18 then s else (List.range 4).foldl (fun s i => instGo s p (4 * (l - 18) + i) 0 0) s
  (linkLanes (4 * l)).foldl (fun s k => enterLane s p k) s

/-- A tile's engines enter reset: its links and lanes, the receivers of the IP tile, the engines of the processing tile (R14). -/
def enterTile (s : Dev) (p t : Nat) : Dev :=
  let links := (List.range 20).filter fun l => tileOfLink l == t
  let s := links.foldl (fun s l => enterLink s p l) s
  if t = 6 then { s with eth := { s.eth with flows := s.eth.flows.filter fun e => e.1 % 2 != p } }
  else if t = 7 then { s with cmp := s.cmp.filter (fun e => e.1 % 2 != p), aud := mdel s.aud p }
  else s

/-- The cause of a PLANE_STATE at a plane's reset (R144): 5 double-bit error, 6 clock loss, 4 otherwise. -/
def planeCause (s : Dev) (p src : Nat) : Nat :=
  if src = 10 then 5
  else if src = 5 ∧ bit (getF s F.FLT_STATUS_BITS 0) (19 + p) ∧ getF s F.FLT_CAUSE_CAUSE (19 + p) = 1 then 6
  else 4

/-- A plane's blocks enter reset (R141, R446): it goes OFF, or to FAILED where the third reaction leaves it held (R477); its stack
goes to self-refresh, and its synchronisers start empty (R104). -/
def enterPlane (s : Dev) (p src : Nat) : Dev :=
  let x := planeOf s p
  let st := if x.hold then 5 else 0
  let s := setPlane s p st (planeCause s p src)
  let stack := hbmState s p
  let s := (List.range 7).foldl (fun s t => enterTile s p t) s
  let s := enterTile s p 7
  let other := fun (k : Nat) => k % 2 != p
  let s := { s with
    pln := { s.pln with src := s.pln.src.filter fun e => other e.1, fs := s.pln.fs.filter fun e => other e.1,
                        dst := s.pln.dst.filter fun e => other e.1, merge := s.pln.merge.filter fun e => other e.1,
                        teamSt := s.pln.teamSt.filter fun e => other e.1, audioQ := s.pln.audioQ.filter fun e => other e.1 }
    hbm := mdel s.hbm p
    eth := { s.eth with phase := mdel s.eth.phase p, wrote := mdel s.eth.wrote p, irqAt := mdel s.eth.irqAt p } }
  let s := setPlaneSt s p { resets := x.resets, hold := x.hold, since := s.now }
  let s := setF (loseFields s 4 p) (if p = 0 then F.JRN_STAT_HBM0 else F.JRN_STAT_HBM1) 0 0
  setFs s p [(F.PLN_STATE_STATE, st), (F.HBM_STAT_STATE, if stack = 0 then 0 else 3)]

/-- A policy processor enters reset: its REMAP bit is cleared (R500). -/
def enterPp (s : Dev) (n : Nat) : Dev := setF s (if n = 0 then F.MTX_CTRL_REMAP_PP0 else F.MTX_CTRL_REMAP_PP1) 0 0

/-- Addresses of control SRAM (R497). -/
def inSram (a : Nat) : Bool := decide (0x10000000 ≤ a) && decide (a < 0x11000000)

/-- The PP-reach holds of the Belay and every other narrow pulse end in a wider reset, which scrubs both processors. -/
def dropNarrow (s : Dev) : Dev :=
  { s with rst := { s.rst with reqs := s.rst.reqs.filter fun r => !(r.reach == 5 || (decide (r.reach < 7) && r.pulse)) } }

/-- What WARM and COLD take from the engines of the control domain (R446): firmware actions under way, the survey, memories. -/
def enterControl (s : Dev) : Dev :=
  { s with
    latches := [], holds := [], tdm := [], eth := {},
    host := { s.host with rr := 0, rrTaken := 0 },
    jrn := { s.jrn with flushing := none, staging := 0, fl0w := false, fl1w := false, flMask := 0, flBytes := 0, unflushed := true,
                        outage := true, draining := none, ppSwitch := none, bivIn := none, bivOut := none, peerLostAt := some s.now,
                        belayPin := false },
    sec := { s.sec with windowEnd := none, activating := none, reverting := none, revertAt := none },
    fls := s.fls.map fun e => (e.1, { e.2 with scrubbing := false, movedAt := none }),
    age := { s.age with jsn := none, startedAt := none, replan := false, low := [], hot := [], split := [] },
    mtx := {} }

/-- WARM (R446): the control state is then in the stacks, or where neither holds a copy, in flash alone (R364). -/
def enterWarm (s : Dev) : Dev :=
  let copy := getF s F.JRN_STAT_HBM0 0 == 1 || getF s F.JRN_STAT_HBM1 0 == 1
  let s0 := hbmState s 0
  let s1 := hbmState s 1
  let s := hifEnterReset (hifEnterReset s 0) 1
  let s := enterPlane (enterPlane s 0 0) 1 0
  let s := (List.range 4).foldl (fun s k => enterLane s 0 (80 + k)) s
  let s := enterControl (loseFields (dropNarrow s) 7 0)
  let s := setF (setF s F.HBM_STAT_STATE 0 (if s0 = 0 then 0 else 3)) F.HBM_STAT_STATE 1 (if s1 = 0 then 0 else 3)
  let s := [0, 1].foldl (fun s p => if (planeOf s p).hold then setF s F.PLN_STATE_STATE p 5 else s) s
  let s := { s with jrn := { s.jrn with cold := s.jrn.cold || !copy } }
  syncFltMode (fusePins s configPins)

/-- COLD (R446): only flash keeps its contents, with the always-on supply's reset controller (R465). -/
def enterCold (s : Dev) : Dev :=
  let s := hifEnterReset (hifEnterReset s 0) 1
  let s := enterPlane (enterPlane s 0 0) 1 0
  let s := enterControl (loseFields (dropNarrow s) 8 0)
  let s := { s with rst := { s.rst with reqs := s.rst.reqs.filter fun r => decide (7 ≤ r.reach) || r.src == 3 || r.src == 8 } }
  let drop := fun (e : Nat × HifSt) => (e.1, ({ perst := e.2.perst } : HifSt))
  let s := { s with
    host := { hifs := (s.host.hifs.map drop).filter (fun e => e.2 != ({} : HifSt)) }, ctl := {}, tim := {}, pln := {}, flt := {}, otl := {}, hbm := [],
    cmp := [], aud := [], profile := false, age := {}, avs := {},
    jrn := { durable := s.jrn.durable, durJsn := s.jrn.durJsn, peerLostAt := some s.now },
    sec := { s.sec with run := {}, hostLoaded := false, noWindow := false, stage := if s.sec.inFlash then s.sec.stage else none,
                        sched := none } }
  floatPins s

/-- One narrower source's entry. -/
def enterReq (s : Dev) (r : RstReq) : Dev :=
  match r.reach with
  | 6 => hifEnterReset s r.unit
  | 5 => enterPp s r.unit
  | 4 => enterPlane s r.unit r.src
  | 3 => loseFields (enterTile s (r.unit / 8) (r.unit % 8)) 3 r.unit
  | 2 => loseFields (if r.unit = 64 then (List.range 4).foldl (fun s k => enterLane s 0 (80 + k)) s
      else enterLink s (r.unit / 32) (r.unit % 32)) 2 r.unit
  | 1 => loseFields (enterLane s (r.unit / 128) (r.unit % 128)) 1 r.unit
  | _ => s

/-- The last COLD source is released (R459): the fuse load starts, unless the third failed load keeps the device here (R456). -/
def coldReleased (s : Dev) : Dev :=
  if s.rst.phase = 0 ∧ !(s.rst.reqs.any fun r => r.reach == 8) ∧ s.rst.fuseFailPin = false then { s with rst := { s.rst with phase := 1 } }
  else s

/-- Whether a COLD source is asserted. -/
def coldAsserted (s : Dev) : Bool := s.rst.reqs.any fun r => r.reach == 8

/-- The memories behind the control matrix when a WARM or COLD source enters (R446): control SRAM is scrubbed, the stacks keep
theirs in self-refresh, and COLD loses all. -/
def memEntry (s : Dev) (m : Memory) : Memory :=
  let todo := s.rst.reqs.filter fun r => !r.entered
  if todo.any (fun r => r.reach == 8) then []
  else if todo.any (fun r => r.reach == 7) then m.filter fun e => !inSram e.1
  else m

/-- RESET_ENTRY (R446, R453): 16 edges after assertion every covered domain is in reset; a source that is a pulse is then released. -/
def resetEntry (s : Dev) (t : Nat) : Dev :=
  let s := s.at t
  let todo := s.rst.reqs.filter fun r => !r.entered
  let cold := coldAsserted s
  let doms := allDoms.filter fun d => s.rst.inReset.contains d || todo.any fun r => coversIn s r.reach r.unit d
  let s := { s with rst := { s.rst with inReset := doms, clkWait := s.rst.clkWait.filter fun d => !(todo.any fun r => coversIn s r.reach r.unit d) } }
  let s := if todo.any (fun r => r.reach == 8) then enterCold s
    else if todo.any (fun r => r.reach == 7) then enterWarm s
    else todo.foldl enterReq s
  let s := { s with rst := { s.rst with reqs := (s.rst.reqs.filter fun r => !r.pulse).map fun r => { r with entered := true } } }
  if cold then coldReleased s else s

/-- RESET_CLOCK_FALLBACK (R453): a sub-domain whose clock has not given 16 edges is switched to AONCLK. -/
def resetClockFallback (s : Dev) (t step unit : Nat) : Dev :=
  let s := s.at t
  let d : Dom := { step := step, unit := unit }
  if s.rst.onAon.contains d ∨ !allDoms.contains d then s
  else { s with rst := { s.rst with onAon := allDoms.filter fun e => e == d || s.rst.onAon.contains e } }

/-! Release (R447, R454, R455). -/

/-- A source that still covers a sub-domain, or a domain around it that waits for its clock, keeps it in reset (R447, R453, R455). -/
def stillHeld (s : Dev) (d : Dom) : Bool :=
  s.rst.reqs.any (fun r => coversIn s r.reach r.unit d) ||
    s.rst.clkWait.any (fun w => w == d || covers (domReach w) w.unit d)

/-- Sub-domains that may leave reset, in the order of R454. None leaves before the fuse load is complete (R456). -/
def releasable (s : Dev) : List Dom :=
  if s.rst.phase = 0 ∨ s.rst.inReset.contains { step := 2, unit := 0 } then []
  else s.rst.inReset.filter fun d => !stillHeld s d

/-- Majority of 16 samples of a strap bit; a tie takes the last sample (R458). -/
def strapBit (samples : List Nat) (k : Nat) : Nat :=
  let l := samples.take 16
  let n := (l.map fun v => bits v k 1).sum
  if 2 * n = l.length then bits (l.getLastD 0) k 1 else b2n (decide (l.length < 2 * n))

/-- The straps are sampled (R458); a sample holds BOOT_SRC in bits 0 to 1, CLK_MODE 2 to 3, PAIR_ID 4, TEST_N 5. -/
def sampleStraps (s : Dev) (samples : List Nat) : Dev :=
  setFs s 0 [(F.RST_STRAP_BOOT_SRC, strapBit samples 0 + 2 * strapBit samples 1),
    (F.RST_STRAP_CLK_MODE, strapBit samples 2 + 2 * strapBit samples 3), (F.RST_STRAP_PAIR_ID, strapBit samples 4),
    (F.RST_STRAP_TEST_N, strapBit samples 5)]

/-- The windows that the boot ROM writes (R502): engine window number 8·engine + k, first and last address, W and R. -/
def bootWindows : List (Nat × Nat × Nat × Nat × Nat) :=
  [(0, 0x10800000, 0x10FFFFFF, 1, 1), (1, 0x100400000, 0x1006FFFFF, 1, 1), (2, 0x100C00000, 0x100CFFFFF, 1, 1),
   (3, 0x10001000000, 0x1002CFFFFFF, 1, 1), (4, 0x20001000000, 0x2002CFFFFFF, 1, 1),
   (8, 0x100F00000, 0x100FFFFFF, 0, 1), (9, 0x100700000, 0x1007FFFFF, 1, 1), (10, 0x10000000, 0x107FFFFF, 1, 1),
   (11, 0x10000000000, 0x10000FFFFFF, 1, 1), (12, 0x1002F000000, 0x10032FFFFFF, 0, 1),
   (13, 0x20000000000, 0x20000FFFFFF, 1, 1), (14, 0x2002F000000, 0x20032FFFFFF, 0, 1),
   (16, 0x100800000, 0x1009FFFFF, 1, 1), (17, 0x10000000, 0x10FFFFFF, 1, 1),
   (18, 0x10000000000, 0x100BFFFFFFF, 1, 1), (19, 0x20000000000, 0x200BFFFFFFF, 1, 1)]

/-- The boot ROM writes the windows and sets LOCK before it starts the loader (R502). -/
def writeWindows (s : Dev) : Dev :=
  let s := bootWindows.foldl (fun s w => setFs s w.1 [(F.MTX_WIN_BASE_BASE, w.2.1 / 4096), (F.MTX_WIN_LIM_LAST, w.2.2.1 / 4096),
    (F.MTX_WIN_BASE_W, w.2.2.2.1), (F.MTX_WIN_BASE_R, w.2.2.2.2)]) s
  setF s F.MTX_CTRL_LOCK 0 1

/-- The active processor is released (R454 step 8): after WARM or COLD the device is in BOOT (R459), and a processor that was fenced
has its BIST first (R368). -/
def releasePp (s : Dev) : Dev :=
  if getF s F.MTX_CTRL_LOCK 0 = 1 then s
  else
    let s := writeWindows { s with rst := { s.rst with phase := 2 } }
    let s := [0, 1].foldl (fun s n => if ppState s n = 2 then setPp s n 3 else s) s
    syncBist (setDev s dvBoot)

/-- A plane starts its training (R121, R386). -/
def trainPlane (s : Dev) (p : Nat) : Dev := setPlane (setF s F.HBM_STAT_STATE p 1) p 1 0

/-- A plane is released (R454 step 11): in Base camp the planes stay OFF (R426). -/
def releasePlane (s : Dev) (p : Nat) : Dev :=
  if devState s = dvCamp ∨ (devState s = dvBoot ∧ 2 ≤ getF s F.RST_STRAP_BOOT_SRC 0) then s else trainPlane s p

/-- A lane is released: bring-up starts from NO_SIGNAL (R270, R454 step 14), but for the lanes of a link set DISABLED (R261). -/
def releaseLane (s : Dev) (u : Nat) : Dev :=
  let p := u / 128
  let l := u % 128
  if l < 72 ∧ linkMode s p (l / 4) = 2 then s else enterStage s p l 0

/-- What the release of one sub-domain starts. -/
def releaseDom (s : Dev) (d : Dom) (straps : List Nat) : Dev :=
  let s := { s with rst := { s.rst with inReset := s.rst.inReset.filter (· != d), onAon := s.rst.onAon.filter (· != d) } }
  match d.step with
  | 3 => sampleStraps s straps
  | 8 => releasePp s
  | 9 => hifMove s d.unit
  | 11 => releasePlane s d.unit
  | 14 => releaseLane s d.unit
  | _ => s

/-- The sub-domains of the next step, in order. -/
def nextBatch (s : Dev) : List Dom :=
  match releasable s with
  | [] => []
  | d :: r => d :: r.filter fun e => e.step == d.step

/-- RESET_RELEASE_STEP (R454, R458): the next step whose prerequisites hold (`ready`) is released. A unit in `absent` has no clock and
waits for it (R453). In a COLD sequence step 4 checks the count of REFCLK_SYS against CLK_MODE[0]; a mismatch leaves the device in
COLD_RESET. -/
def resetReleaseStep (s : Dev) (t : Nat) (ready : Bool) (absent straps : List Nat) (refCount : Nat) : Dev :=
  let s := s.at t
  let batch := nextBatch s
  match batch with
  | [] => s
  | d :: _ =>
    if !ready then s
    else if d.step = 4 ∧ s.rst.phase = 1 ∧ countBad (nominalCount s 8) refCount then
      { (faultEvent s 45 0x0E 0) with rst := { (faultEvent s 45 0x0E 0).rst with phase := 0 } }
    else
      let wait := batch.filter fun e => absent.contains e.unit
      let s := { s with rst := { s.rst with clkWait := s.rst.clkWait ++ wait } }
      (batch.filter fun e => !absent.contains e.unit).foldl (fun s e => releaseDom s e straps) s

/-- RESET_CLOCK_RETURN (R453): the clock that a sub-domain waits for counts within 12.5 % of nominal; the sub-domain is released. -/
def resetClockReturn (s : Dev) (t step unit : Nat) : Dev :=
  let s := s.at t
  let d : Dom := { step := step, unit := unit }
  if !s.rst.clkWait.contains d then s
  else
    let s := { s with rst := { s.rst with clkWait := s.rst.clkWait.filter (· != d) } }
    if stillHeld s d || !s.rst.inReset.contains d then s else releaseDom s d []

/-! Sources (R448 to R452). -/

/-- POR (R448): asserted, it resets everything but flash, the reset controller included; released once VDD_AON has been within
limits for 100 µs. -/
def por (s : Dev) (t : Nat) (asserted : Bool) : Dev :=
  if asserted then
    let s := enterCold (s.at t)
    let s := { s with regs := [], rst := { phase := 0, reqs := [{ reach := 8, unit := 0, src := 0, entered := true }], inReset := allDoms } }
    { s with host := {} }
  else
    let s := dropReset (s.at t) 8 0 0
    if s.rst.phase = 0 then coldReleased s else s

/-- PWRGOOD (R448, R456, R461): low asserts COLD, precharges and stops the stacks, idles every transmitter and floats every pin; a low
of 10 µs also leaves the state of a third failed fuse load. -/
def pwrgood (s : Dev) (t : Nat) (high : Bool) : Dev :=
  let s := s.at t
  if !high then
    let s := floatPins (assertReset s 8 0 1 false)
    let s := setF (setF s F.HBM_STAT_STATE 0 0) F.HBM_STAT_STATE 1 0
    { s with rst := { s.rst with pwrLowAt := match s.rst.pwrLowAt with | some a => some a | none => some t } }
  else
    let long := match s.rst.pwrLowAt with | some a => decide (a + 540000 ≤ t) | none => false
    let s := releaseReset { s with rst := { s.rst with pwrLowAt := none } } 8 0 1
    let s := if long && s.rst.fuseFailPin then
        driveFaultN (emit { s with rst := { s.rst with fuseFailPin := false, fuseFails := 0 } } (.pin pinFuseFail 2)) else s
    coldReleased s

/-- RESET_N (R448), as filtered: WARM, or COLD by fuse, and always COLD before BOOT. -/
def resetN (s : Dev) (t : Nat) (low : Bool) : Dev :=
  let s := s.at t
  if low then assertReset s (if s.rst.phase ≠ 2 ∨ getF s F.FUSE_STAT_RESETN_COLD 0 = 1 then 8 else 7) 0 2 false
  else
    let cold := coldAsserted s
    let s := releaseReset (releaseReset s 7 0 2) 8 0 2
    if cold then coldReleased s else s

/-- A discarded write of RST_SW (R452). -/
def swErr (s : Dev) : Dev := setF s F.RST_STAT_SW_ERR 0 1

/-- The unit that INDEX names for a reach (R466), none where it is out of range. -/
def swUnit (reach index : Nat) : Option Nat :=
  let p := index / 128 % 2
  let i := index % 128
  match reach with
  | 1 => if i < 80 then some (128 * p + i) else if i < 84 then some i else none
  | 2 => if i < 20 then some (32 * p + i) else if i = 31 then some 64 else none
  | 3 => if i < 8 then some (8 * p + i) else none
  | 4 => if i = 0 then some p else none
  | 5 => if index < 2 then some index else none
  | 6 => if index < 2 then some index else none
  | 7 => if index = 0 then some 0 else none
  | 8 => if index = 0 then some 0 else none
  | _ => none

/-- RST_STAT's HELD bits follow the holds of software (R467). -/
def syncHeld (s : Dev) : Dev :=
  let held := fun reach n => ((List.range n).map fun u =>
    if s.rst.reqs.any (fun r => r.reach == reach && r.unit == u && r.src == 3 && !r.pulse) then 2 ^ u else 0).sum
  setFs s 0 [(F.RST_STAT_HIF_HELD, held 6 2), (F.RST_STAT_PLANE_HELD, held 4 2), (F.RST_STAT_TILE_HELD, held 3 16)]

/-- A host-initiated plane reset ends the hold of a FAILED plane (R121, R477). -/
def freePlane (s : Dev) (reach u : Nat) : Dev :=
  if reach = 4 then
    let s := { s with rst := { s.rst with reqs := s.rst.reqs.filter fun r => !(r.reach == 4 && r.unit == u && r.src != 3) } }
    setPlaneSt s u { planeOf s u with hold := false }
  else s

/-- RST_SW_PULSE (R452): a PULSE at PP reach on the active processor is also a fence cause (R366). -/
def rstSwPulse (s : Dev) (t key reach index : Nat) : Dev :=
  let s := s.at t
  if key ≠ 0xA5 then swErr s
  else match swUnit reach index with
    | none => swErr s
    | some u =>
      let s := assertReset (freePlane s reach u) reach u 3 true
      if reach = 5 ∧ getF s F.BELAY_STAT_ACTIVE_PP 0 = u ∧ ppState s u = 0 then fence s 4 else s

/-- RST_SW_HOLD (R452): legal for TILE, PLANE and HIF reach. -/
def rstSwHold (s : Dev) (t key reach index : Nat) : Dev :=
  let s := s.at t
  if key ≠ 0xA5 ∨ !([3, 4, 6].contains reach) then swErr s
  else match swUnit reach index with
    | none => swErr s
    | some u => syncHeld (assertReset (freePlane s reach u) reach u 3 false)

/-- RST_SW_RELEASE (R452, R455): a release of a reset that software does not hold does nothing. -/
def rstSwRelease (s : Dev) (t key reach index : Nat) : Dev :=
  let s := s.at t
  if key ≠ 0xA5 ∨ !([3, 4, 6].contains reach) then swErr s
  else match swUnit reach index with
    | none => swErr s
    | some u => syncHeld (releaseReset s reach u 3)

/-- Watchdog events of the last 10 minutes (R449). -/
def wdogEvents (s : Dev) : List Nat := s.rst.wdog.filter fun a => decide (s.now < a + 600 * tickSec)

/-- WATCHDOG (R449, R366): the third event in 10 minutes is WARM and clears the count. -/
def watchdog (s : Dev) (t : Nat) : Dev :=
  let s := s.at t
  let a := getF s F.BELAY_STAT_ACTIVE_PP 0
  let l := wdogEvents s
  if ppState s a ≠ 0 then s
  else if 2 ≤ l.length then assertReset { s with rst := { s.rst with wdog := [] } } 7 0 4 true
  else fence (assertReset { s with rst := { s.rst with wdog := t :: l } } 5 a 4 true) 4

/-- The trip threshold in 1/16 °C: 160 °C, and within ±5 °C of it, untrimmed, until the first good fuse load (R450). -/
def tripLevel (s : Dev) : Int × Dev :=
  if getF s F.FUSE_STAT_VALID 0 = 1 then (2560, s)
  else
    let q := takeFree s 16
    (2480 + ((q.1 % 161 : Nat) : Int), q.2)

/-- THERMAL_TRIP (R450): a diode at or above the threshold asserts and holds COLD and drives FAULT_N. -/
def thermalTrip (s : Dev) (t : Nat) (d : List Int) : Dev :=
  let q := tripLevel (s.at t)
  let s := q.2
  if (d.take 40).any fun v => decide (q.1 ≤ v) then
    let s := if s.rst.phase = 2 then faultEvent s 43 0x0C 0 else s
    driveFaultN (assertReset { s with rst := { s.rst with thermalHold := true } } 8 0 7 false)
  else s

/-- THERMAL_HOLD_END (R450): every diode has been below 140 °C since `since`, for 1 s. -/
def thermalHoldEnd (s : Dev) (t since : Nat) : Dev :=
  let s := s.at t
  if s.rst.thermalHold ∧ since + tickSec ≤ t then
    coldReleased (driveFaultN (releaseReset { s with rst := { s.rst with thermalHold := false } } 8 0 7))
  else s

/-! The fuse load (R456, R469). -/

/-- FUSE_LOAD_DONE (R456): a good load makes the shadow valid and gives the pins their states, a bad one restarts, and the third in a row
leaves the device in COLD_RESET with FUSE_FAIL high and FAULT_N low. Words of the array: 0 to 63 the pin map, bit 0 of word 64
RESETN_COLD (log entry 12). -/
def fuseLoadDone (s : Dev) (t : Nat) (good : Bool) : Dev :=
  let s := s.at t
  if s.rst.phase ≠ 1 ∨ !s.rst.inReset.contains { step := 2, unit := 0 } then s
  else if good then
    let s := setFs s 0 [(F.FUSE_STAT_VALID, 1), (F.FUSE_STAT_FAILS, s.rst.fuseFails), (F.FUSE_STAT_RESETN_COLD, (Config.fuseWord 64).toNat % 2)]
    let s := (List.range 64).foldl (fun s k => setF s F.FUSE_PINMAP_PINS k (Config.fuseWord k).toNat) s
    let s := { s with rst := { s.rst with fuseFails := 0, pinsFloat := false, inReset := s.rst.inReset.filter fun d => d != { step := 2, unit := 0 } } }
    fusePins s (configPins ++ [184])
  else
    let n := s.rst.fuseFails + 1
    if 3 ≤ n then
      let s := { s with rst := { s.rst with fuseFails := n, phase := 0, fuseFailPin := true } }
      driveFaultN (emit s (.pin pinFuseFail 1))
    else { s with rst := { s.rst with fuseFails := n } }

/-- FUSE_PARITY_CHECK (R456, R448): a parity error in the valid shadow asserts COLD. -/
def fuseParityCheck (s : Dev) (t : Nat) (bad : Bool) : Dev :=
  let s := s.at t
  if bad ∧ getF s F.FUSE_STAT_VALID 0 = 1 then faultEvent (assertReset s 8 0 6 true) 42 0x04 0 else s

/-! Boundary scan (R520). -/

/-- JTAG_INSTRUCTION (R520): BYPASS, SAMPLE/PRELOAD, EXTEST, IDCODE, HIGHZ and CLAMP as 0 to 5; IDCODE is then read at TDO, and HIGHZ
floats the pins. The pins are driven under EXTEST and CLAMP alone. -/
def jtagInstruction (s : Dev) (i : Nat) : Dev :=
  let s := { s with rst := { s.rst with jtag := i } }
  if i = 3 then emit s (.rdata 8 4 0x11152B47) else if i = 4 then emit s (.pin pinAll 2) else s

/-! Recovery (R364, R365, R376). -/

/-- The library mechanisms, whose payloads no checkpoint holds (R363). -/
def isLibrary (k : Nat) : Bool := k / 65536 == mkLut || k / 65536 == mkStill

/-- What COLD recovers from flash (R355, R363, R364): the durable image with the flash copy of the libraries; nothing under a
host-loaded image whose schema is below the stored one (R425). -/
def flashCtl (s : Dev) : Ctl :=
  let act := if s.sec.slotA.state = 5 then some s.sec.slotA.img else if s.sec.slotB.state = 5 then some s.sec.slotB.img else none
  let ok := !s.sec.hostLoaded || (match act with | some i => decide (i.schema ≤ s.sec.run.schema) | none => false)
  if !ok then {}
  else
    let c := s.jrn.durable
    let m := c.mech.filter fun e => !isLibrary e.1
    { c with served := false, mech := s.library.foldl (fun m e => mset {} m e.1 e.2) m }

/-- The control state is loaded (R357, R364). -/
def loadCtl (s : Dev) : Dev :=
  if s.jrn.cold then
    let s := { s with ctl := flashCtl s, jrn := { s.jrn with cold := false } }
    setFs s 0 [(F.JRN_DURABLE_DURABLE_JSN, s.jrn.durJsn), (F.JRN_HEAD_HEAD_JSN, s.jrn.durJsn + 1048576)]
  else s

/-- A command that was validated and had neither decided nor entered an apply queue is validated again, and a completion at or
after the last consumed mark is delivered again (R355, R360). -/
def reopenRecs (s : Dev) : Dev :=
  modCtl s fun c => { c with recs := c.recs.map fun r =>
    let r := { r with consumed := r.marked }
    if r.dec.isNone && r.validated && !(c.pend.any fun x => x.jsn == r.jsn) then { r with validated := false } else r }

/-- Deadline of a pending command in frame `n` (R354). -/
def pendDeadline (s : Dev) (x : Pend) (n : Nat) : Nat :=
  if x.items.isEmpty then dlMs s n else itemsDeadline s (x.items.map fun i => (i.key, x.op == 0x10 || x.op == 0x11, 0)) n

/-- A pending command whose frame passed during the outage (R365): LATE if STRICT and nothing of it has applied, else at the first
frame whose deadline follows. An untimed command keeps its frame. -/
def replanPend (s : Dev) (x : Pend) : Dev :=
  if untimed x.op ∨ x.op < 2 ∨ s.now < pendDeadline s x x.frame then s
  else
    let strict := match recOf s x.jsn with | some j => bit j.flags 2 | none => false
    if x.atFrame && strict && !(x.items.any fun i => i.state == 1) then
      decideCmd (unpend s x.jsn) x.jsn stLate 0 (if x.op = 0x10 ∨ x.op = 0x11 then takeDetail (match x.items with | i :: _ => i.idx | [] => 0) 0 8 else 0)
    else
      let n := firstFrame s (pendDeadline s x) (fun _ => true) 64 (hfn s)
      modPend s x.jsn fun z => { z with frame := n, deferred := z.deferred || z.atFrame || (z.items.any fun i => i.state == 1), reason := if z.atFrame then 8 else z.reason }

/-- Every pending command against the frames that have passed. -/
def replanAll (s : Dev) : Dev := s.ctl.pend.foldl replanPend s

/-- Registers of one stored MAC instance (R311), from its image. -/
def loadMac (s : Dev) (p : Nat) (u : Nat) (b : Bytes) : Dev :=
  let i := u / 2
  let c := le b 0 8
  let s := setFs s u [(F.MAC_INSTCFG_PROMISC, bits c 0 1), (F.MAC_INSTCFG_PASS_ALL_GROUPS, bits c 1 1), (F.MAC_INSTCFG_DELIVER_BAD, bits c 2 1),
    (F.MAC_INSTCFG_CAPTURE_UNMATCHED, bits c 3 1), (F.MAC_INSTCFG_IGMP_EN, bits c 4 1), (F.MAC_INSTCFG_VLAN, bits c 20 12),
    (F.MAC_INSTCFG_IPV4, bits c 32 32), (F.MAC_INSTADDR_MAC, le b 8 8)]
  (List.range 16).foldl (fun s k => setFs s (ix p (16 * i + k))
    [(F.MAC_PMF_ADDR, le b (16 + 8 * k) 6), (F.MAC_PMF_EN, bits (le b (22 + 8 * k) 2) 0 1)]) s

/-- One stored mechanism's registers on plane `p` (R364): key and configuration. -/
def loadMech (p : Nat) (s : Dev) (e : Nat × Mech) : Dev :=
  let kind := e.1 / 65536
  let k := e.1 % 65536
  let m := e.2
  if kind = mkMac then (if k % 2 = p then loadMac s p k m.data else s)
  else if !onPlane s p k then s
  else
    let i := ix p (k / 2)
    match kind with
    | 1 => if m.data.isEmpty then s else
        freshTaps (setFs s i [(F.CMP_STAT_CONFIGURED, 1), (F.CMP_STAT_ENABLED, le m.data 2 1), (F.CMP_LMEM_VALIDATED, m.aux / 2 ^ 128)]) p (k / 2)
    | 2 => innerSource (syncGen s p (k / 2)) p (1568 + k / 2)
    | 10 => if m.data.isEmpty then s else
        setFs s i [(F.AUD_FOLLOW_PLANE, le m.data 2 2), (F.AUD_FOLLOW_SOURCE, le m.data 0 2)]
    | 11 => setFs s i [(F.AUD_ORIGIN_PLANE, le m.data 2 2), (F.AUD_ORIGIN_SOURCE, le m.data 0 2)]
    | 16 => setF s F.CMP_STAT_RUN i m.aux
    | 18 => setF s F.AUD_FOLLOW_FADE i m.aux
    | _ => s

/-- A plane's configuration comes back (R75, R198, R364): mechanisms, shed flags, source modes (log entry 118), compositor sources, pending counts and loads. -/
def loadPlane (s : Dev) (p : Nat) : Dev :=
  let s := s.ctl.mech.foldl (loadMech p) s
  let b := (mechOf s mkBudget p).data
  let s := if b.isEmpty then s else setF s F.PLN_BAND_ADMIT p (le b 0 1)
  let s := (s.ctl.shed.filter fun q => q.1 == p).foldl (fun s q => setShedFlag s p q.2.comp q.2.key 1) s
  let s := ((mechKeys s mkRun).filter fun k => onPlane s p k).foldl (fun s k => innerSource s p (1536 + k / 2)) s
  let s := (s.ctl.fsync.filter fun e => onPlane s p e.1).foldl (fun s e => syncFsStat (pendMode s p (e.1 / 2)) p (e.1 / 2)) s
  let s := (s.ctl.pend.flatMap fun x => x.items.map fun i => i.key).foldl (fun s k => syncPending s k) s
  syncLoad (syncCls (syncAsrc (syncStills s))) p

/-- One TDM port's stored TDM_SET is applied again (R236). -/
def loadTdm (s : Dev) (e : Nat × Mech) : Dev :=
  if e.1 / 65536 = mkTdm ∧ !e.2.data.isEmpty then
    let d := e.2.data
    let p := e.1 % 65536
    let s := setFs s p ((F.TDM_CFG_PLANE, bits (le d 24 1) 5 2) :: (F.TDM_STAT_VIDEO_DEST, le d 42 2) :: tdmFields d)
    let s := setTdm s p { tdmSt s p with assoc := le d 42 2 }
    landMask (restartPort s p) p (le d 32 4) (le d 36 4) 1
  else s

/-- Every register that the control state gives (R364). -/
def loadAll (s : Dev) : Dev :=
  let s := setFs s 0 [(F.BELAY_EPOCH_EPOCH, s.ctl.epoch), (F.PAIR_STAT_CONFIG, b2n s.ctl.pair),
    (F.PAIR_STAT_PAIR_ID, if s.ctl.pair then pairId s else 0)]
  let s := s.ctl.mech.foldl loadTdm s
  syncRefs (loadPlane (loadPlane s 0) 1)

/-- The FW_SCHEDULE that is pending (R432, R439): JSN, frame and window. -/
def loadSched (s : Dev) : Dev :=
  let q := s.ctl.pend.find? fun x => x.op == 0x71
  let sched := q.map fun x => (x.jsn, x.frame, match recOf s x.jsn with | some j => confirmSecs j.desc | none => 600)
  { s with sec := { s.sec with sched := sched } }

/-- The trial of an image booted from PENDING begins with SERVICE (R426): its window opens and FW_ACTIVATED is raised. -/
def openTrial (s : Dev) : Dev :=
  if devState s = dvService ∧ fwUpdate s = 4 ∧ s.sec.windowEnd.isNone ∧ s.sec.activating.isNone then
    let n := s.sec.confirmS
    let s := { s with sec := { s.sec with windowEnd := some (s.now + n * tickSec), noWindow := false } }
    let s := setF s F.SEC_FW_STAT_WINDOW_S 0 (min n 4095)
    raise s 0x0F 33 0 (activatedDetail (getF s F.SEC_FW_STAT_RUNNING 0) 0 0 s.sec.run.secVer n)
  else s

/-- The image that booted without a window (R426). -/
def reportNoWindow (s : Dev) : Dev :=
  if s.sec.noWindow ∧ devState s = dvService then
    let s := { s with sec := { s.sec with noWindow := false } }
    raise s 0x0F 33 0 (activatedDetail (getF s F.SEC_FW_STAT_RUNNING 0) 0 1 s.sec.run.secVer 0)
  else s

/-- Entry to SERVICE with what waits for it. -/
def enterService (s : Dev) : Dev := reportNoWindow (openTrial (tryService s))

/-- REPLAY_DONE (R364, R365): the control state is back, its registers are written again, and the device goes to SYNCING. A device of a
Pair joins its peer first (R376). -/
def replayDone (s : Dev) (t : Nat) : Dev :=
  let s := s.at t
  if devState s ≠ dvLoading ∨ role s = 5 then s
  else
    let s := loadAll (reopenRecs (loadCtl s))
    let s := loadSched s
    if s.ctl.pair then setRole (setF s F.JRN_STAT_REPLAY 0 0) 5 3
    else
      let s := replanAll s
      let s := setF s F.JRN_STAT_REPLAY 0 0
      let s := { s with jrn := { s.jrn with outage := false, outageEnd := t } }
      enterService (sweepUnknown (setDev s dvSyncing))

/-- PLANE_TRAINING_DONE (R75, R121): with its stack and a link up, the plane's route table and configuration are reloaded. -/
def planeReturn (s : Dev) (t p : Nat) : Dev :=
  let n := planeTrainingDone s t p
  if planeState n p = 2 ∧ planeState s p ≠ 2 then loadPlane n p else n

/-- PAIR_RESYNC_DONE (R376): the adopted control state's registers are written. -/
def pairJoin (s : Dev) (t : Nat) (image : Ctl) (head : Nat) : Dev :=
  let joined := role s == 5 && peerUp s
  let s := pairResyncDone s t image head
  if joined then enterService (loadAll (loadSched s)) else s

/-- BOOT_SELECT (R424, R459): once an image is chosen, released planes begin their training. -/
def bootDevice (s : Dev) (t : Nat) (good : List Bool) : Dev :=
  let was := devState s
  let s := bootSelect s t good
  if was = dvBoot ∧ devState s = dvLoading then
    [0, 1].foldl (fun s p =>
      if planeState s p = 0 ∧ !s.rst.inReset.contains { step := 11, unit := p } ∧ s.rst.phase = 2 then trainPlane s p else s) s
  else s

/-- TAKEOVER_COMPLETE, with what SERVICE waits for. -/
def takeover (s : Dev) (t : Nat) : Dev := reportNoWindow (openTrial (takeoverComplete s t))

/-! The commands of this file. -/

/-- PLANE_TRAINING_DONE (R75, R121): stack and a link of plane `p` are up after TRAINING. -/
def execPlaneTrainingDone (t : Nat) (p : Fin 2) (s : State) : Host.Outcome State Fault Refusal :=
  .next { s with dev := planeReturn s.dev t p }

/-- TAKEOVER_COMPLETE (R367): the new processor has replayed the journal. -/
def execTakeoverComplete (t : Nat) (s : State) : Host.Outcome State Fault Refusal :=
  .next { s with dev := takeover s.dev t }

/-- PAIR_RESYNC_DONE (R376): resynchronisation ends with the active device's control state. -/
def execPairResyncDone (t : Nat) (image : Machine.Ctl) (head : Nat) (s : State) : Host.Outcome State Fault Refusal :=
  .next { s with dev := pairJoin s.dev t image head }

/-- REPLAY_DONE (R364, R365): the control state is loaded and the journal replayed. -/
def execReplayDone (t : Nat) (s : State) : Host.Outcome State Fault Refusal :=
  .next { s with dev := replayDone s.dev t }

/-- BOOT_SELECT (R424, R459): the boot ROM chooses an image; `good` says which slots verify. -/
def execBootSelect (t : Nat) (good : List Bool) (s : State) : Host.Outcome State Fault Refusal :=
  .next { s with dev := bootDevice s.dev t good }

/-- POR (R447, R448): power-on reset is asserted or released. -/
def execPor (t : Nat) (asserted : Bool) (s : State) : Host.Outcome State Fault Refusal :=
  .next { s with dev := por s.dev t asserted, mem := if asserted then [] else s.mem }

/-- PWRGOOD (R418, R448): PWRGOOD as it now stands. -/
def execPwrgood (t : Nat) (high : Bool) (s : State) : Host.Outcome State Fault Refusal :=
  .next { s with dev := pwrgood s.dev t high }

/-- RESET_N (R448): RESET_N as it now stands, after its filter. -/
def execResetN (t : Nat) (low : Bool) (s : State) : Host.Outcome State Fault Refusal :=
  .next { s with dev := resetN s.dev t low }

/-- RST_SW_PULSE (R452, R466): RST_SW is written with OP PULSE. -/
def execRstSwPulse (t : Nat) (key : Fin 256) (reach : Fin 16) (index : Fin 256) (s : State) : Host.Outcome State Fault Refusal :=
  .next { s with dev := rstSwPulse s.dev t key reach index }

/-- RST_SW_HOLD (R452, R466): RST_SW is written with OP HOLD. -/
def execRstSwHold (t : Nat) (key : Fin 256) (reach : Fin 16) (index : Fin 256) (s : State) : Host.Outcome State Fault Refusal :=
  .next { s with dev := rstSwHold s.dev t key reach index }

/-- RST_SW_RELEASE (R452, R466): RST_SW is written with OP RELEASE. -/
def execRstSwRelease (t : Nat) (key : Fin 256) (reach : Fin 16) (index : Fin 256) (s : State) : Host.Outcome State Fault Refusal :=
  .next { s with dev := rstSwRelease s.dev t key reach index }

/-- WATCHDOG (R449): the watchdog of the active processor runs out. -/
def execWatchdog (t : Nat) (s : State) : Host.Outcome State Fault Refusal :=
  .next { s with dev := watchdog s.dev t }

/-- THERMAL_TRIP (R450): the diodes are read, in 1/16 °C. -/
def execThermalTrip (t : Nat) (d : List Int) (s : State) : Host.Outcome State Fault Refusal :=
  .next { s with dev := thermalTrip s.dev t d }

/-- THERMAL_HOLD_END (R450): every diode has been below the release threshold since `since`. -/
def execThermalHoldEnd (t since : Nat) (s : State) : Host.Outcome State Fault Refusal :=
  .next { s with dev := thermalHoldEnd s.dev t since }

/-- RESET_ENTRY (R453): the asserted sources enter reset. -/
def execResetEntry (t : Nat) (s : State) : Host.Outcome State Fault Refusal :=
  .next { s with dev := resetEntry s.dev t, mem := memEntry s.dev s.mem }

/-- RESET_CLOCK_FALLBACK (R453): a domain's clock does not run at entry. -/
def execResetClockFallback (t step unit : Nat) (s : State) : Host.Outcome State Fault Refusal :=
  .next { s with dev := resetClockFallback s.dev t step unit }

/-- RESET_CLOCK_RETURN (R453): a domain's clock runs again. -/
def execResetClockReturn (t step unit : Nat) (s : State) : Host.Outcome State Fault Refusal :=
  .next { s with dev := resetClockReturn s.dev t step unit }

/-- RESET_RELEASE_STEP (R454, R458): the next step of the release order is due. -/
def execResetReleaseStep (t : Nat) (ready : Bool) (absent straps : List Nat) (refCount : Nat) (s : State) : Host.Outcome State Fault Refusal :=
  .next { s with dev := resetReleaseStep s.dev t ready absent straps refCount }

/-- FUSE_LOAD_DONE (R456): the fuse load ends. -/
def execFuseLoadDone (t : Nat) (good : Bool) (s : State) : Host.Outcome State Fault Refusal :=
  .next { s with dev := fuseLoadDone s.dev t good }

/-- FUSE_PARITY_CHECK (R448, R456): the parity of the fuse shadow is checked. -/
def execFuseParityCheck (t : Nat) (bad : Bool) (s : State) : Host.Outcome State Fault Refusal :=
  .next { s with dev := fuseParityCheck s.dev t bad }

/-- JTAG_INSTRUCTION (R520): the TAP takes an instruction. -/
def execJtagInstruction (t : Nat) (ins : Fin 6) (s : State) : Host.Outcome State Fault Refusal :=
  .next { s with dev := jtagInstruction (s.dev.at t) ins }

end Sys2Proof.Machine
end

