-- ==== Sys2Proof/Machine/Frame.lean ====
section
/-! DEFINITION. The house frame start (R50): the commands that fall due, a reversion in Pair, shedding and restoring, a plane's return to service, the
consumed marks, the journal flush and the TIMING blocks. -/

namespace Sys2Proof.Machine

/-! Commands that fall due at a frame start (R348, R349, R354). -/

/-- Ilesen itself acts on the opcode: the untimed commands, held to their frame, and FW_SCHEDULE (R348, R349, R435). -/
def firmwareActs (op : Nat) : Bool := untimed op || op == 0x71

/-- One pending command at the start of frame `n`. -/
def applyAt (s : Dev) (x : Pend) (j : JRec) (n : Nat) : Dev :=
  match x.op with
  | 0x00 => applyNop s x n
  | 0x01 => applyNop s x n
  | 0x14 => applyFsync s x j n
  | 0x22 => applyLut s x j n
  | 0x23 => applyGen s x j n
  | 0x24 => applyStill s x j n
  | 0x31 => if x.items.isEmpty then applyFollowSet s x j n else s
  | 0x40 => applyRefPolicy s x j n
  | 0x41 => applyRefAlign s x j n
  | 0x42 => applyPtp s x j n
  | 0x50 => applyLinkSet s x j n
  | 0x51 => applyFlow s x j n
  | 0x52 => applyFilter s x j n
  | 0x60 => applyBudgetMode s x j n
  | 0x61 => applyStats s x j n
  | 0x70 => fwStageAct s j
  | 0x71 => applyFwSchedule s x n
  | 0x72 => fwConfirmAct s j
  | 0x73 => fwAbortAct s j
  | 0x74 => attestAct s j
  | 0x80 => checkpointAct s j
  | 0x81 => ppSwitchAct s j
  | 0x82 => ringAdoptAct s j
  | 0x83 => if bit (le j.desc 24 1) 0 then bivouacEnter s x j else bivouacExit s j s.now
  | 0x84 => marginSurveyAct s j
  | 0x90 => pairSetAct s j
  | _ => s

/-- One pending command, if it is still pending and due: work of Ilesen waits out a control outage (R365). -/
def applyOne (s : Dev) (n : Nat) (x : Pend) : Dev :=
  if n < x.frame ∨ !(s.ctl.pend.any fun q => q.jsn == x.jsn) ∨ (firmwareActs x.op && s.jrn.outage) then s
  else match recOf s x.jsn with | none => s | some j => applyAt s x j n

/-- Every pending command that falls due at the start of frame `n`, in JSN order (R82). -/
def applyFrame (s : Dev) (n : Nat) : Dev := s.ctl.pend.foldl (fun s x => applyOne s n x) s

/-! Shedding and restoring (R111 to R114). -/

/-- 2 ms have passed since the band or the budget changed, and since a control outage ended. -/
def shedTime (s : Dev) (p : Nat) : Bool :=
  !s.jrn.outage && decide (max (planeOf s p).shedAt s.jrn.outageEnd + 108000000 ≤ s.now)

/-- The sheds or restores of plane `p` that are due. -/
def shedFrame (s : Dev) (p : Nat) : Dev :=
  let x := planeOf s p
  if !shedTime s p then s
  else
    let s := setPlaneSt s p { x with shedDue := false, restoreDue := false }
    let s := if x.shedDue then shedPlane s p x.shedReason else s
    if x.restoreDue then restorePlane s p else s

/-! The underrun backstop (R115). -/

/-- A frame after an underrun: 2 in the frame of the underrun, 1 in the next, then 0. Synchronisers count at their own cutoff. -/
def ageUnderruns (s : Dev) : Dev :=
  let dst := s.pln.dst.map fun e => (e.1, { e.2 with underrun := e.2.underrun - 1 })
  let fs := s.pln.fs.map fun e => if 1568 ≤ e.1 / 2 then (e.1, { e.2 with underrun := e.2.underrun - 1 }) else e
  let d : DstSt := {}
  let f : FsSt := {}
  { s with pln := { s.pln with dst := dst.filter fun e => e.2 != d, fs := fs.filter fun e => e.2 != f } }

/-! A plane's return (R142). -/

/-- Every synchroniser of plane `p` holds a complete frame, or has been filling for three frames. -/
def syncsReady (s : Dev) (p : Nat) : Bool :=
  decide (3 ≤ (planeOf s p).fillFrames) ||
    s.pln.fs.all fun e => e.1 % 2 != p || !e.2.active || !e.2.done.isEmpty || e.2.read.isSome

/-- Every TIMED source's window has held one complete frame: two frames of the house rate for a source at half of it. -/
def windowsReady (s : Dev) (p : Nat) : Bool :=
  s.pln.src.all fun e => e.1 % 2 != p || e.2.kind != 1 ||
    decide ((if halfRate s.ctl.ref.rate (e.2.fmt % 16) then 2 else 1) ≤ (planeOf s p).fillFrames)

/-- A SYNCING plane enters ACTIVE where R142 lets it, with cause 7; it counts the frames it has been filling. -/
def returnFrame (s : Dev) (p : Nat) : Dev :=
  if planeState s p ≠ 2 then s
  else
    let x := planeOf s p
    if x.routesLoaded && syncsReady s p && windowsReady s p then setPlane s p 3 7
    else setPlaneSt s p { x with fillFrames := x.fillFrames + 1 }

/-! Marks, flush and TIMING (R248, R360, R361). -/

/-- The consumed marks: what the consumer doorbells have passed is journalled. -/
def consumedMarks (s : Dev) : Dev :=
  if s.ctl.recs.all fun r => r.marked == r.consumed then s
  else journal (modCtl s fun c => { c with recs := c.recs.map fun r => { r with marked := r.consumed } }) 32

/-- TIMING on every link that sends. -/
def timingAll (s : Dev) : Dev := (List.range 36).foldl (fun s k => sendTiming s (k / 18) (k % 18)) s

/-- HOUSE_FRAME_START (R50): house time `t` is the start of a frame; `obs` is what the DPLL measures of its references then. -/
def houseFrameStart (s : Dev) (t : Nat) (obs : List RefObs) : Dev :=
  let s := signalReturn (observe (s.at t) obs) obs
  if t % framePeriod s.ctl.ref.rate ≠ 0 then s
  else
    let n := hfn s
    let s := signalLoss (syncRefs (ageUnderruns { s with tim := { s.tim with lastFrame := n } }))
    let s := revertDue (applyFrame s n) n
    let s := shedFrame (shedFrame s 0) 1
    let s := returnFrame (returnFrame s 0) 1
    let s := bivouacSettle (enterService (sweepUnknown s))
    timingAll (flushNow (consumedMarks s))

/-! The commands of this file. -/

/-- HOUSE_FRAME_START (R50): a house frame starts; `obs` is what the DPLL measures of its references. -/
def execHouseFrameStart (t : Nat) (obs : List RefObs) (s : State) : Host.Outcome State Fault Refusal :=
  .next { s with dev := houseFrameStart s.dev t obs }

end Sys2Proof.Machine
end

