-- ==== Sys2Proof/Machine/Registers.lean ====
section
/-! DEFINITION. Register accesses: what a register reads as, what a read or write of it does (R6, R7, R9, R317, R320), and
the commands REGISTER_WRITE, RC_READ, LATCHED_READ and DPLL_SNAPSHOT_READ. -/

namespace Sys2Proof.Machine

/-! What a register reads as. -/

/-- A register is the one that field `f` belongs to. -/
def RegDef.has (d : RegDef) (f : Fld) : Bool :=
  match d.flds with | [] => false | g :: _ => g.code / 256 == f.code / 256

/-- Release steps of which some part is in reset, bit s − 1 (R467). -/
def inResetBits (s : Dev) : Nat :=
  ((List.range 14).filter fun k => s.rst.inReset.any (fun d => d.step == k + 1) ||
    (k == 8 && (hifHeld s 0 || hifHeld s 1))).foldl (fun a k => a + 2 ^ k) 0

/-- CRING_STAT.STATE (R338): 0 DISABLED, 1 RUNNING, 2 STOPPED, 3 ADOPTED. -/
def cringStateView (s : Dev) (h r : Nat) : Nat :=
  if isAdopted s h r then 3 else if getF s F.CRING_CFG_EN (ix h r) = 0 then 0
  else if mget 0 s.ctl.stop (16 * h + r) ≠ 0 then 2 else 1

/-- Seconds of house time (R73). -/
def secNow (s : Dev) : Nat := s.now / tickSec

/-- Fields of PLN_ROUTE of element `d` of plane `p` (R74): their reset values until the plane's table is loaded (R75). -/
def routeView (s : Dev) (p d : Nat) : Route := if (planeOf s p).routesLoaded then routeOf s (pkey s p d) else {}

/-- What a field of element `i` reads as: a view of the engine state where a field has no storage of its own. -/
def readF (s : Dev) (f : Fld) (i : Nat) : Nat :=
  let c := f.code
  let v : Option Nat :=
    if c / 8192 = blkPln then
      let r := routeView s (i % 2) (i / 2)
      if c = F.PLN_ROUTE_JSN.code then some r.jsn
      else if c = F.PLN_ROUTE_PROT.code then some r.prot
      else if c = F.PLN_ROUTE_OWNER.code then some r.owner
      else if c = F.PLN_ROUTE_FB_SOURCE.code then some r.fbSrc
      else if c = F.PLN_ROUTE_FB_KIND.code then some r.fbKind
      else if c = F.PLN_ROUTE_SOURCE.code then some r.src
      else none
    else if c / 8192 = blkHif then
      if c = F.HIF_STAT_ADOPTED.code then
        some (((List.range 16).filter fun r => isAdopted s i r).foldl (fun a r => a + 2 ^ r) 0)
      else if c = F.CRING_STAT_STATE.code then some (cringStateView s (i % 2) (i / 2))
      else if c = F.CRING_STAT_STOP_CAUSE.code then some (mget 0 s.ctl.stop (16 * (i % 2) + i / 2))
      else if c = F.CRING_LASTID_LASTID.code then some (mget 0 s.ctl.lastId (16 * (i % 2) + i / 2))
      else none
    else if c = F.SYS_UID_UID.code then
      some (if getF s F.FUSE_STAT_VALID 0 = 1 then Config.uniqueId.toNat / 2 ^ (32 * i) else 0)
    else if c = F.RST_STAT_IN_RESET.code then some (inResetBits s)
    else if c = F.RST_STAT_CLK_WAIT.code then some (b2n (!s.rst.clkWait.isEmpty))
    else if c = F.RST_STAT_WDOG_EVENTS.code then some (wdogEvents s).length
    else if c = F.JRN_STAT_PAYLOAD_PEND.code then some (b2n (payloadPend s))
    else if c = F.SEC_IDKEY_KEY.code then some (idKey / 2 ^ (64 * i))
    else if c = F.DPLL_HFN_HFN.code then some (hfn s)
    else if c = F.DPLL_TIME_SEC.code then some (secNow s)
    else if c = F.DPLL_TIME_NS.code then some (nsOf s.now % 1000000000)
    else if c = F.DPLL_SECHI_SEC_HI.code then some (secNow s / 2 ^ 34)
    else if c = F.AUD_TAPDATA_ENTRY.code then
      some (if (planeOf s i).routesLoaded then tapAt s (getF s F.AUD_TAPSEL_ENTRY i) else 0)
    else if c = F.LANE_FFE_DATA_COEF.code then
      some (usgn 10 ((laneSt s (i % 2) (i / 2)).ffe.getD (getF s F.LANE_FFE_SEL_TAP i) 0))
    else none
  if f.acc = .wo then 0 else (v.getD (getF s f i)) % 2 ^ f.width

/-- A register's value: its fields at their places, reserved bits 0 (R7). -/
def regVal (s : Dev) (d : RegDef) (i : Nat) : Nat := d.flds.foldl (fun a f => a + readF s f i * 2 ^ f.lo) 0

/-! Reads (R6, R9, R73). -/

/-- The read-to-clear fields of a register that `n` bits from bit `lo` touch are cleared (R6). -/
def clearRc (s : Dev) (d : RegDef) (i lo n : Nat) : Dev :=
  d.flds.foldl (fun s f => if f.acc = .rc ∧ f.lo < lo + n ∧ lo < f.lo + f.width then setF s f i f.reset else s) s

/-- Key of requester `m`'s latch for the register at address `base`. -/
def latchKey (m base : Nat) : Nat := m * 2 ^ 28 + base

/-- The value latched for a requester, if any; a latch of value v is stored as v + 1. -/
def latched (s : Dev) (m base : Nat) : Option Nat := let v := mget 0 s.latches (latchKey m base); if v = 0 then none else some (v - 1)

/-- Store or drop a latch. -/
def setLatch (s : Dev) (m base : Nat) (v : Option Nat) : Dev :=
  { s with latches := mset 0 s.latches (latchKey m base) (match v with | none => 0 | some v => v + 1) }

/-- Address of DPLL_HFN; the snapshot is the five 64-bit registers from here (R73). -/
@[reducible] def dpllHfnAt : Nat := 0xA00008

/-- The snapshot of R73 for requester `m`. -/
def dpllSnapshot (s : Dev) (m : Nat) : Dev :=
  [0, 1, 2, 3, 4].foldl (fun s k =>
    match locateReg (dpllHfnAt + 8 * k) with
    | none => s
    | some h => setLatch s m (dpllHfnAt + 8 * k) (some (regVal s h.d h.idx))) s

/-- A register of the snapshot. -/
def inSnapshot (base : Nat) : Bool := decide (dpllHfnAt ≤ base) && decide (base < dpllHfnAt + 40)

/-- The size and alignment of an access fit the register it meets (R9). -/
def sizeFits (a size : Nat) : Bool :=
  (size == 4 || size == 8) && a % size == 0 &&
    match locateReg a with
    | none => !(size == 8 && (match locateReg (a + 4) with | none => false | some h => h.d.width == 32))
    | some h =>
      if h.d.width = 32 then size == 4 && h.sub == 0
      else if h.d.width = 64 then (size == 8 && h.sub == 0) || (size == 4 && h.sub % 4 == 0)
      else h.sub % size == 0

/-- A read of `size` bytes by requester `m` at a register (R9): its value and the state after. A read of the lowest word latches the
rest; a later read of a higher word answers the latch, which a 64-bit register gives up with it. -/
def readReg (s : Dev) (m base : Nat) (h : RegHit) (size : Nat) : Nat × Dev :=
  let w := 8 * size
  let lo := 8 * h.sub
  let cut := fun v => bits v lo w
  if inSnapshot base then
    let s := if base = dpllHfnAt ∧ h.sub = 0 then dpllSnapshot s m else s
    (cut ((latched s m base).getD (regVal s h.d h.idx)), s)
  else if h.sub = 0 ∧ w < h.d.width then
    let v := regVal s h.d h.idx
    (cut v, setLatch (clearRc s h.d h.idx 0 h.d.width) m base (some v))
  else if h.sub = 0 then (regVal s h.d h.idx, clearRc s h.d h.idx 0 w)
  else
    match latched s m base with
    | some v => (cut v, if h.d.width = 64 then setLatch s m base none else s)
    | none => (cut (regVal s h.d h.idx), clearRc s h.d h.idx lo w)

/-! Writes (R6, R320, R452, R476, R506). -/

/-- Requester `m` is a policy processor (R493). -/
def isPp (m : Nat) : Bool := decide (m < 2)

/-- A control-matrix field that the policy processors alone write (R506 to R508). -/
def ppOnly (f : Fld) : Bool := f.code / 8192 == blkMtx

/-- One field of a generic write: `new` is the register's value with the bits not written kept, `ones` the bits written. -/
def writeF (s : Dev) (m i new ones : Nat) (f : Fld) : Dev :=
  match f.acc with
  | .rw =>
    if ppOnly f && !isPp m then s
    else
      let v := bits new f.lo f.width
      setF s f i (if f.code = F.HIF_EVT_MASK_MASK.code then bits v 1 21 * 2 else v)
  | .w1c =>
    let v := bits ones f.lo f.width
    let old := getF s f i
    setF s f i (old - (old &&& v))
  | _ => s

/-- A write without behaviour of its own: every field by its access type (R6). -/
def writeFields (s : Dev) (m : Nat) (d : RegDef) (i new ones : Nat) : Dev := 
  d.flds.foldl (fun s f => writeF s m i new ones f) s

/-- Store a locked field while its ring is disabled; a change while it is enabled is refused and sets `err` (R320). -/
def lockedField (s : Dev) (en : Bool) (err f : Fld) (i v : Nat) : Dev :=
  if !en then setF s f i v else if getF s f i = v % 2 ^ f.width then s else setF s err i 1

/-- A write of CRING_CFG (R320, R321, R328, R338). -/
def writeCringCfg (s : Dev) (i new : Nat) : Dev :=
  let h := i % 2
  let r := i / 2
  let en := getF s F.CRING_CFG_EN i == 1
  let s := lockedField s en F.CRING_STAT_CFG_ERR F.CRING_CFG_LOG2_SIZE i (bits new 0 5)
  let s := lockedField s en F.CRING_STAT_CFG_ERR F.CRING_CFG_WEIGHT i (bits new 8 2)
  let s := if bit new 10 then cringResume s h r else s
  if bit new 5 then cringEnable s h r else cringDisable s h r

/-- A write of CPL_CFG (R320, R332, R339). -/
def writeCplCfg (s : Dev) (i new : Nat) : Dev :=
  let en := getF s F.CRING_CFG_EN i == 1
  let s := lockedField s en F.CRING_STAT_CFG_ERR F.CPL_CFG_LOG2_SIZE i (bits new 0 5)
  let s := lockedField s en F.CRING_STAT_CFG_ERR F.CPL_CFG_VEC i (bits new 6 6)
  cplCoalesceWrite s (i % 2) (i / 2) (bits new 24 8) (bits new 16 8)

/-- A write of HIF_EVT_CFG (R320, R337). -/
def writeEvtCfg (s : Dev) (i new : Nat) : Dev :=
  let en := getF s F.HIF_EVT_CFG_EN i == 1
  let s := lockedField s en F.HIF_EVT_STAT_CFG_ERR F.HIF_EVT_CFG_LOG2_SIZE i (bits new 0 5)
  let s := lockedField s en F.HIF_EVT_STAT_CFG_ERR F.HIF_EVT_CFG_VEC i (bits new 6 6)
  let s := setF s F.HIF_EVT_CFG_MIN_US i (bits new 16 16)
  if bit new 5 then evtRingEnable s i else setF s F.HIF_EVT_CFG_EN i 0

/-- A write of MAC_PORTCFG (R292, R310). -/
def writePortCfg (s : Dev) (i new : Nat) : Dev :=
  let s := setF s F.MAC_PORTCFG_MAX_FRAME i (bits new 6 14)
  macPortcfgMode (macPortcfgMedium s (i % 2) (i / 2) (bits new 24 2) (bits new 5 1)) (i % 2) (i / 2) (bits new 0 2)

/-- A write of MAC_CAPQ_CFG: LOG2_SIZE resets the queue (R312). -/
def writeCapqCfg (s : Dev) (i new : Nat) : Dev :=
  macCapqReset (setFs s i [(F.MAC_CAPQ_CFG_EN, bits new 31 1), (F.MAC_CAPQ_CFG_CAP_VEC, bits new 9 6), (F.MAC_CAPQ_CFG_HIF, bits new 8 1)])
    i false (bits new 0 5)

/-- A write of RST_SW (R452, R466). -/
def writeRstSw (s : Dev) (t v : Nat) : Dev :=
  match bits v 22 2 with
  | 0 => rstSwPulse s t (bits v 24 8) (bits v 16 4) (bits v 8 8)
  | 1 => rstSwHold s t (bits v 24 8) (bits v 16 4) (bits v 8 8)
  | 2 => rstSwRelease s t (bits v 24 8) (bits v 16 4) (bits v 8 8)
  | _ => swErr s

/-- MTX_CTRL.LOCK written by requester `m` (R503): once 1, a 0 is discarded with LOCK_ERR. -/
def lockWrite (s : Dev) (m v : Nat) : Dev :=
  if !isPp m then s
  else if v % 2 = 1 then setF s F.MTX_CTRL_LOCK 0 1
  else if getF s F.MTX_CTRL_LOCK 0 = 1 then setF s F.MTX_STAT_LOCK_ERR 0 1 else s

/-- The REMAP bit of master `k` written by requester `m` (R500): a processor writes its own, and either processor those of the
HIFs. -/
def remapWrite (s : Dev) (m k v : Nat) : Dev :=
  if k = 0 ∧ m = 0 then setF s F.MTX_CTRL_REMAP_PP0 0 v
  else if k = 1 ∧ m = 1 then setF s F.MTX_CTRL_REMAP_PP1 0 v
  else if k = 2 ∧ isPp m then setF s F.MTX_CTRL_REMAP_HIF0 0 v
  else if k = 3 ∧ isPp m then setF s F.MTX_CTRL_REMAP_HIF1 0 v else s

/-- MTX_WIN_BASE (`lim` false) or MTX_WIN_LIM of element 8·engine + k written by requester `m` (R503, R508). -/
def winWrite (s : Dev) (m i : Nat) (lim : Bool) (v : Nat) : Dev :=
  if !isPp m then s
  else if getF s F.MTX_CTRL_LOCK 0 = 1 then setF s F.MTX_STAT_LOCK_ERR 0 1
  else if lim then setF s F.MTX_WIN_LIM_LAST i (bits v 12 36)
  else setFs s i [(F.MTX_WIN_BASE_BASE, bits v 12 36), (F.MTX_WIN_BASE_W, bits v 1 1), (F.MTX_WIN_BASE_R, bits v 0 1)]

/-- A write of MTX_CTRL (R506). -/
def writeMtxCtrl (s : Dev) (m new : Nat) : Dev :=
  let s := [0, 1, 2, 3].foldl (fun s k => remapWrite s m k (bits new k 1)) s
  let s := if isPp m then setF s F.MTX_CTRL_AGE 0 (bits new 8 8) else s
  lockWrite s m (bits new 31 1)

/-- A write of MTX_ERR_INFO: clearing VALID clears the latch (R509). -/
def writeErrInfo (s : Dev) (ones : Nat) : Dev :=
  if bit ones 31 then
    setFs s 0 [(F.MTX_ERR_INFO_VALID, 0), (F.MTX_ERR_INFO_KIND, 0), (F.MTX_ERR_INFO_WRITE, 0), (F.MTX_ERR_INFO_MASTER, 0), (F.MTX_ERR_ADDR_ADDR, 0)]
  else s

/-- A write of register `d`, element `i`, by requester `m`: `new` with the bits not written kept, `ones` the bits written. -/
def storeReg (s : Dev) (t m : Nat) (d : RegDef) (i new ones : Nat) : Dev :=
  let en := getF s F.CRING_CFG_EN i == 1
  if d.has F.FLT_STATUS_BITS then fltStatusClear s t ones
  else if d.has F.FLT_FIRST_VALID then (if bit ones 31 then fltFirstClear s t else s)
  else if d.has F.FLT_REACT_ACTION then fltReactWrite s t i new
  else if d.has F.RST_SW_KEY then writeRstSw s t new
  else if d.has F.BELAY_HB_HB then (if isPp m then belayHb s t m else s)
  else if d.has F.CRING_BASE_BASE then lockedField s en F.CRING_STAT_CFG_ERR F.CRING_BASE_BASE i (bits new 12 52)
  else if d.has F.CPL_BASE_BASE then lockedField s en F.CRING_STAT_CFG_ERR F.CPL_BASE_BASE i (bits new 12 52)
  else if d.has F.CRING_CFG_EN then writeCringCfg s i new
  else if d.has F.CPL_CFG_COAL_N then writeCplCfg s i new
  else if d.has F.HIF_EVT_BASE_BASE then
    lockedField s (getF s F.HIF_EVT_CFG_EN i == 1) F.HIF_EVT_STAT_CFG_ERR F.HIF_EVT_BASE_BASE i (bits new 12 52)
  else if d.has F.HIF_EVT_CFG_EN then writeEvtCfg s i new
  else if d.has F.MAC_PORTCFG_MODE then writePortCfg s i new
  else if d.has F.MAC_CAPQ_BASE_BASE then macCapqReset s i true (bits new 12 52)
  else if d.has F.MAC_CAPQ_CFG_EN then writeCapqCfg s i new
  else if d.has F.TDM_MASK_TX_PEND then tdmMaskWrite s t i (bits new 0 32) (bits new 32 32)
  else if d.has F.MTX_CTRL_LOCK then writeMtxCtrl s m new
  else if d.has F.MTX_WIN_BASE_BASE then winWrite s m i false new
  else if d.has F.MTX_WIN_LIM_LAST then winWrite s m i true new
  else if d.has F.MTX_ERR_INFO_VALID then writeErrInfo s ones
  else writeFields s m d i new ones

/-- A write of `size` bytes by requester `m` (R9): the low half of a 64-bit register is held for the high half; a high half with none
held lands alone. Every 128-bit register is read-only. -/
def writeReg (s : Dev) (t m base : Nat) (h : RegHit) (size value : Nat) : Dev :=
  let k := latchKey m base
  let v := value % 2 ^ (8 * size)
  if h.d.width = 128 then s
  else if 8 * size = h.d.width then storeReg s t m h.d h.idx v v
  else if h.sub = 0 then { s with holds := mset 0 s.holds k (v + 1) }
  else
    let held := mget 0 s.holds k
    let s := { s with holds := mset 0 s.holds k 0 }
    if held = 0 then storeReg s t m h.d h.idx (regVal s h.d h.idx % 2 ^ 32 + v * 2 ^ 32) (v * 2 ^ 32)
    else storeReg s t m h.d h.idx (held - 1 + v * 2 ^ 32) (held - 1 + v * 2 ^ 32)

/-! Reach (R493, R497, R501). -/

/-- The target of an address with the memory map of R497: 1 boot ROM, 2 control SRAM, 3 register space, 4 and 5 the HBM stacks,
6 the peripheral bridge; 0 the default target. -/
def mtxTarget (a : Nat) : Nat :=
  if a < 0x40000 then 1
  else if 0x10000000 ≤ a ∧ a < 0x11000000 then 2
  else if 0x100000000 ≤ a ∧ a < 0x110000000 then 3
  else if 0x10000000000 ≤ a ∧ a < 0x100C0000000 then 4
  else if 0x20000000000 ≤ a ∧ a < 0x200C0000000 then 5
  else if 0x30000000000 ≤ a ∧ a < 0x30001000000 then 6
  else 0

/-- A range lies wholly within `first` to `last`. -/
def within (a size first last : Nat) : Bool := decide (first ≤ a) && decide (a + size ≤ last + 1)

/-- Where a HIF's DMA reaches (R384, R493): the ring caches, and firmware and still staging of each stack. -/
def hifReach (a size : Nat) : Bool :=
  mtxTarget a == 3 || within a size 0x10C00000 0x10FFFFFF || within a size 0x1002F000000 0x10036FFFFFF ||
    within a size 0x2002F000000 0x20036FFFFFF

/-- A window of engine `e` grants a range for a direction (R501). -/
def windowGrants (s : Dev) (e k a size : Nat) (write : Bool) : Bool :=
  let i := 8 * e + k
  (if write then getF s F.MTX_WIN_BASE_W i == 1 else getF s F.MTX_WIN_BASE_R i == 1) &&
    within a size (getF s F.MTX_WIN_BASE_BASE i * 4096) (getF s F.MTX_WIN_LIM_LAST i * 4096 + 4095)

/-- The master reaches the address, or one of its windows grants it (R493, R501). -/
def reaches (s : Dev) (m a size : Nat) (write : Bool) : Bool :=
  if m < 2 then true
  else if m < 4 then hifReach a size
  else if m < 7 then (List.range 8).any fun k => windowGrants s (m - 4) k a size write
  else (mtxTarget a == 2 || mtxTarget a == 3) && !write

/-! Errors and requesters (R9, R317, R499). -/

/-- All ones in `size` bytes. -/
def allOnes (size : Nat) : Nat := 2 ^ (8 * size) - 1

/-- Latch and count a matrix failure (R499): KIND, master, direction, address; its FLT event follows. -/
def mtxFail (s : Dev) (m addr kind : Nat) (write : Bool) : Dev :=
  let s := satAdd s F.MTX_ERRCNT_COUNT 0 1
  let s := if getF s F.MTX_ERR_INFO_VALID 0 = 1 then s
    else setFs s 0 [(F.MTX_ERR_INFO_VALID, 1), (F.MTX_ERR_INFO_KIND, kind), (F.MTX_ERR_INFO_WRITE, b2n write),
      (F.MTX_ERR_INFO_MASTER, m), (F.MTX_ERR_ADDR_ADDR, addr)]
  let s := faultEvent s 41 (if kind = 4 then 5 else 6) 0
  if m = 4 then faultEvent s 32 6 0 else if m = 5 then faultEvent s 33 6 0 else if m = 6 then faultEvent s 34 6 0
  else if m = 7 then belayHbMiss s s.now else s

/-- A failed transaction is answered (R499): a processor held in reset sees no response (R494), and a read gives all ones. -/
def mtxAnswer (s : Dev) (m size : Nat) (write : Bool) : Dev :=
  let s := if m < 2 ∧ s.rst.reqs.any (fun r => r.reach == 5 && r.unit == m) then s else emit s (.rerr m)
  if write then s else emit s (.rdata m size (allOnes size))

/-- A failed transaction of the matrix (R499). -/
def mtxError (s : Dev) (m addr size kind : Nat) (write : Bool) : Dev := mtxAnswer (mtxFail s m addr kind write) m size write

/-- Register-space address of a requester's address: a HIF names BAR0 offsets (R317), any other an offset in register space. -/
def regSpace (m a : Nat) : Nat :=
  if m = 2 ∨ m = 3 then let o := a % 2 ^ 26; if o / 2 ^ 20 < 0x20 then o else o + 0x2000000 else a % 2 ^ 28

/-- A write that a HIF does not reach (R317): SEC, FUSE, BELAY, JRN and the other HIF's window. -/
def hifBlocked (m a : Nat) : Bool :=
  (m == 2 || m == 3) && ([7, 15, 3, 6].contains (a / 2 ^ 20) || a / 2 ^ 20 == (if m = 2 then 5 else 4))

/-- The matrix-map address of a register-space offset (R497). -/
def mtxAddr (a : Nat) : Nat := 0x100000000 + a

/-- A miss: of a HIF it completes normally and counts in DECODE (R317), of any other requester it is the default target's (R498). -/
def regMiss (s : Dev) (m a size : Nat) (write : Bool) : Dev :=
  if m = 2 ∨ m = 3 then
    let s := satAdd s F.HIF_ERRCNT_DECODE (m - 2) 1
    if write then s else emit s (.rdata m size (allOnes size))
  else mtxError s m (mtxAddr a) size 3 write

/-- The requester can issue accesses: a HIF only with its link in L0 (R318, R319). -/
def canAccess (s : Dev) (m : Nat) : Bool := if m = 2 ∨ m = 3 then decide (2 ≤ hifState s (m - 2)) else true

/-- A register write of requester `m` at register-space address `a`. -/
def accessWrite (s : Dev) (t m a size value : Nat) : Dev :=
  if !sizeFits a size then mtxError s m (mtxAddr a) size 1 true
  else if !reaches s m (mtxAddr a) size true then mtxError s m (mtxAddr a) size 2 true
  else
    match locateReg a with
    | none => regMiss s m a size true
    | some h => if hifBlocked m a then regMiss s m a size true else writeReg s t m (a - h.sub) h size value

/-- A register read of requester `m` at register-space address `a`, answered with its value. -/
def accessRead (s : Dev) (m a size : Nat) : Dev :=
  if !sizeFits a size then mtxError s m (mtxAddr a) size 1 false
  else if !reaches s m (mtxAddr a) size false then mtxError s m (mtxAddr a) size 2 false
  else
    match locateReg a with
    | none => regMiss s m a size false
    | some h => let q := readReg s m (a - h.sub) h size; emit q.2 (.rdata m size q.1)

/-- The BAR that a HIF's address names (log entry 122): 0 BAR0, 1 BAR2, 2 BAR4; 0 for any other requester. -/
def hostBar (m a : Nat) : Nat := if m = 2 ∨ m = 3 then a / 2 ^ 26 else 0

/-- A write of BAR2 by HIF `h` (R318): a doorbell of 4 bytes, or the low half of 8; elsewhere it is discarded and counted. -/
def bar2Write (s : Dev) (h off size value : Nat) : Dev :=
  let v := value % 2 ^ 32
  if off % 4096 ≠ 0 ∨ 0x20000 < off ∨ (size ≠ 4 ∧ size ≠ 8) then satAdd s F.HIF_ERRCNT_DECODE h 1
  else if off < 0x10000 then commandDoorbell s h (off / 4096) v
  else if off < 0x20000 then completionDoorbell s h (off / 4096 - 16) v
  else eventDoorbell s h v

/-- A write of requester `m`: of register space, of a doorbell, or of the MSI-X table (R316). -/
def writeAt (s : Dev) (t m addr size value : Nat) : Dev :=
  match hostBar m addr with
  | 0 => accessWrite s t m (regSpace m addr) size value
  | 1 => bar2Write s (m - 2) (addr % 2 ^ 20) size value
  | _ => msixWrite s (m - 2) (addr % 2 ^ 12) size value

/-- A read of requester `m`; BAR2 reads as 0 (R316, R318). -/
def readAt (s : Dev) (m addr size : Nat) : Dev :=
  match hostBar m addr with
  | 0 => accessRead s m (regSpace m addr) size
  | 1 => emit s (.rdata m size 0)
  | _ => emit s (.rdata m size (msixRead s (m - 2) (addr % 2 ^ 12) size))

/-- REGISTER_WRITE (R6, R9). -/
def registerWrite (s : Dev) (t m addr size value : Nat) : Dev :=
  let s := s.at t
  if canAccess s m then writeAt s t m addr size value else s

/-- RC_READ (R6): a read of a register, whose read-to-clear fields are then cleared. -/
def rcRead (s : Dev) (t m addr size : Nat) : Dev :=
  let s := s.at t
  if canAccess s m then readAt s m addr size else s

/-- LATCHED_READ (R9): a read of a word of a 64-bit or 128-bit register. -/
def latchedRead (s : Dev) (t m addr size : Nat) : Dev :=
  let s := s.at t
  if canAccess s m then readAt s m addr size else s

/-- DPLL_SNAPSHOT_READ (R73): a read of DPLL_HFN from its low half, by 4 bytes or 8. -/
def dpllSnapshotRead (s : Dev) (t m : Nat) (whole : Bool) : Dev :=
  let s := s.at t
  if canAccess s m then accessRead s m dpllHfnAt (if whole then 8 else 4) else s

/-! The commands of this file. -/

/-- REGISTER_WRITE (R6, R9, R317): a write of `size` bytes by requester `m` (R493): a HIF names an offset in its BARs, any other an offset in register space. -/
def execRegisterWrite (t : Nat) (m : Fin 8) (addr size value : Nat) (s : State) : Host.Outcome State Fault Refusal :=
  .next { s with dev := registerWrite s.dev t m addr size value }

/-- RC_READ (R6): a read of a register, whose read-to-clear fields it clears. -/
def execRcRead (t : Nat) (m : Fin 8) (addr size : Nat) (s : State) : Host.Outcome State Fault Refusal :=
  .next { s with dev := rcRead s.dev t m addr size }

/-- LATCHED_READ (R9): a read of a word of a 64-bit or 128-bit register; the lowest word latches the rest. -/
def execLatchedRead (t : Nat) (m : Fin 8) (addr size : Nat) (s : State) : Host.Outcome State Fault Refusal :=
  .next { s with dev := latchedRead s.dev t m addr size }

/-- DPLL_SNAPSHOT_READ (R73): a read of DPLL_HFN: its low half, or all of it. -/
def execDpllSnapshotRead (t : Nat) (m : Fin 8) (whole : Bool) (s : State) : Host.Outcome State Fault Refusal :=
  .next { s with dev := dpllSnapshotRead s.dev t m whole }

end Sys2Proof.Machine
end

