-- ==== Sys2Proof/Machine/Matrix.lean ====
section
/-! DEFINITION. The control matrix (R493 to R504): checks, the address map, arbitration, service and errors, and the commands
MTX_TRANSACTION, MTX_TIMEOUT, MTX_LOCK_WRITE, MTX_REMAP_WRITE and MTX_WIN_WRITE. -/

namespace Sys2Proof.Machine

/-! The address map (R497 to R500). -/

/-- REMAP of master `m` (R500); the engines and the Belay ignore it. -/
def remapOn (s : Dev) (m : Nat) : Bool :=
  match m with
  | 0 => getF s F.MTX_CTRL_REMAP_PP0 0 == 1
  | 1 => getF s F.MTX_CTRL_REMAP_PP1 0 == 1
  | 2 => getF s F.MTX_CTRL_REMAP_HIF0 0 == 1
  | 3 => getF s F.MTX_CTRL_REMAP_HIF1 0 == 1
  | _ => false

/-- Where a master's address reaches (R500): the boot ROM at 0 and the first 256 KiB of control SRAM change places. -/
def physAddr (s : Dev) (m a : Nat) : Nat :=
  if !remapOn s m then a
  else if a < 0x40000 then a + 0x10000000
  else if 0x10000000 ≤ a ∧ a < 0x10040000 then a - 0x10000000 else a

/-- An engine writes this memory in the background, so that what a read gives is not fixed by the transactions (log entry 32): journal
staging and ring caches, and every region of R384 but the reserved one. -/
def engineOwned (a : Nat) : Bool :=
  match mtxTarget a with
  | 2 => decide (0x10800000 ≤ a)
  | 4 => !(decide (0x10037000000 ≤ a) && decide (a < 0x10040000000))
  | 5 => !(decide (0x20037000000 ≤ a) && decide (a < 0x20040000000))
  | _ => false

/-! The checks of R499, in their order. -/

/-- Size and alignment (R9, R493, R504): up to 256 bytes of memory, the register rule, 32-bit accesses of the bridge. -/
def reqSizeOk (a size : Nat) : Bool :=
  match mtxTarget a with
  | 3 => sizeFits (a - 0x100000000) size
  | 6 => size == 4 && a % 4 == 0
  | _ => decide (1 ≤ size) && decide (size ≤ 256)

/-- Only the policy processors reach the bridge (R504), at seven windows of 64 KiB (R505). -/
def peripheralAt (a : Nat) : Bool := decide (a - 0x30000000000 < 0x70000)

/-- The address decodes (R497, R498, R505): the stack trained, the ROM not written, the whole range in one target, a register there. -/
def decodes (s : Dev) (m a size : Nat) (write : Bool) : Bool :=
  mtxTarget (a + (size - 1)) == mtxTarget a &&
    match mtxTarget a with
    | 1 => !write
    | 2 => true
    | 3 => (m == 2 || m == 3) || (locateReg (a - 0x100000000)).isSome
    | 4 => getF s F.HBM_STAT_STATE 0 == 2
    | 5 => getF s F.HBM_STAT_STATE 1 == 2
    | 6 => decide (m < 2) && peripheralAt a
    | _ => false

/-- MTX_ERR_INFO.KIND of the first check of R499 that a transaction fails; 0 when it passes them all. -/
def reqKind (s : Dev) (r : MtxReq) : Nat :=
  let a := physAddr s r.master r.addr
  if !reqSizeOk a r.size then 1
  else if !reaches s r.master a r.size r.write then 2
  else if !decodes s r.master a r.size r.write then 3
  else 0

/-! Service. -/

/-- `n` bytes of memory from an address, least significant first (R5). -/
def readMem (m : Memory) (a : Nat) : Nat → Nat
  | 0 => 0
  | n + 1 => (mget 0 m a).toNat + 256 * readMem m (a + 1) n

/-- Write `n` bytes of memory, least significant first (R5). -/
def writeMem (m : Memory) (a v : Nat) : Nat → Memory
  | 0 => m
  | n + 1 => writeMem (mset 0 m a (BitVec.ofNat 8 v)) (a + 1) (v / 256) n

/-- `n` bytes of the boot ROM. -/
def readRom (a : Nat) : Nat → Nat
  | 0 => 0
  | n + 1 => (Config.bootRom a).toNat + 256 * readRom (a + 1) n

/-- `n` free values of a byte each, the first lowest. -/
def freeBytes (s : Dev) : Nat → Nat × Dev
  | 0 => (0, s)
  | n + 1 =>
    let q := takeFree s 8
    let r := freeBytes q.2 n
    (q.1 + 256 * r.1, r.2)

/-- What a granted transaction does to the device (R497, R504, R505), with the memories as they stand. A peripheral's registers are
not the manual's (R505), so that a read of one gives free values, as does a read of memory that an engine writes. -/
def serve (s : Dev) (t : Nat) (mem : Memory) (r : MtxReq) : Dev :=
  let a := physAddr s r.master r.addr
  let tg := mtxTarget a
  if tg = 3 then
    let o := a - 0x100000000
    if r.write then accessWrite s t r.master o r.size r.value else accessRead s r.master o r.size
  else if r.write then s
  else if tg = 1 then emit s (.rdata r.master r.size (readRom a r.size))
  else if tg = 6 ∨ engineOwned a then let q := freeBytes s r.size; emit q.2 (.rdata r.master r.size q.1)
  else emit s (.rdata r.master r.size (readMem mem a r.size))

/-- What it does to the memories: a write of control SRAM or of a stack. -/
def serveMem (s : Dev) (mem : Memory) (r : MtxReq) : Memory :=
  let a := physAddr s r.master r.addr
  if r.write ∧ (mtxTarget a = 2 ∨ mtxTarget a = 4 ∨ mtxTarget a = 5) then writeMem mem a r.value r.size else mem

/-! Arbitration (R495). -/

/-- The QoS value that a master's port stamps (R507). -/
def stampedQos (s : Dev) (m : Nat) : Nat :=
  match m with
  | 0 => getF s F.MTX_QOS_PP0 0
  | 1 => getF s F.MTX_QOS_PP1 0
  | 2 => getF s F.MTX_QOS_HIF0 0
  | 3 => getF s F.MTX_QOS_HIF1 0
  | 4 => getF s F.MTX_QOS_JRN 0
  | 5 => getF s F.MTX_QOS_SEC 0
  | 6 => getF s F.MTX_QOS_FLS 0
  | _ => getF s F.MTX_QOS_BELAY 0

/-- CCLK cycles after which a transaction is promoted (R495, R506): an AGE of 0 acts as 1. -/
def promoteAfter (s : Dev) : Nat := (if getF s F.MTX_CTRL_AGE 0 = 0 then 1 else getF s F.MTX_CTRL_AGE 0) * 64

/-- Effective QoS of a transaction (R495). -/
def effQos (s : Dev) (r : MtxReq) : Nat := if promoteAfter s ≤ r.waited then 15 else stampedQos s r.master

/-- Place of master `m` in the round-robin after `last` was granted: smaller is sooner. -/
def rrPlace (last m : Nat) : Nat := (m + 7 - last) % 8

/-- `a` is granted before `b` of another master (R495). -/
def grantsBefore (s : Dev) (last : Nat) (a b : MtxReq) : Bool :=
  decide (effQos s b < effQos s a) || (effQos s a == effQos s b && decide (rrPlace last a.master < rrPlace last b.master))

/-- The oldest waiting transaction of each master, in the order given: a master never overtakes itself (R495). -/
def heads : List MtxReq → List MtxReq
  | [] => []
  | r :: l => r :: (heads l).filter fun x => x.master != r.master

/-- The transaction granted among the heads. -/
def granted (s : Dev) (last : Nat) : List MtxReq → Option MtxReq
  | [] => none
  | r :: l =>
    match granted s last l with
    | none => some r
    | some b => some (if grantsBefore s last b r then b else r)

/-- 64-byte beats of a transaction, one each CCLK cycle (R495). -/
def beats (r : MtxReq) : Nat := (r.size + 63) / 64

/-- The transactions waiting at target `tg` are granted one after the other, the others waiting while each takes its beats. -/
def arbitrate (t tg : Nat) : Nat → Dev × Memory → List MtxReq → Dev × Memory
  | 0, q, _ => q
  | n + 1, q, l =>
    match granted q.1 (mget 7 q.1.mtx.last tg) (heads l) with
    | none => q
    | some r =>
      let s := { q.1 with mtx := { q.1.mtx with last := mset 7 q.1.mtx.last tg r.master } }
      arbitrate t tg n (serve s t q.2 r, serveMem s q.2 r) ((l.erase r).map fun x => { x with waited := x.waited + beats r })

/-! The commands. -/

/-- A transaction of a retired epoch, discarded with an error response (R494). -/
def isRetired (s : Dev) (r : MtxReq) : Bool := decide (r.master < 2) && decide (r.epoch < mget 0 s.jrn.retired r.master)

/-- The failed transactions of a cycle, the lowest master first (R499). -/
def failAll (s : Dev) (l : List MtxReq) : Dev :=
  (List.range 8).foldl (fun s m => (l.filter fun r => r.master == m).foldl (fun s r =>
    mtxError s r.master r.addr r.size (reqKind s r) r.write) s) s

/-- MTX_TRANSACTION (R493 to R499): the transactions that wait are checked, the good ones arbitrated and served at their targets. -/
def mtxTransaction (s : Dev) (mem : Memory) (t : Nat) (reqs : List MtxReq) : Dev × Memory :=
  let s := s.at t
  let old := reqs.filter (isRetired s)
  let l := (reqs.filter fun r => decide (r.master < 8)).filter fun r => !isRetired s r
  let good := l.filter fun r => reqKind s r == 0
  let bad := l.filter fun r => reqKind s r != 0
  let at' := fun (tg : Nat) => good.filter fun r => mtxTarget (physAddr s r.master r.addr) == tg
  let s := old.foldl (fun s r => mtxAnswer s r.master r.size r.write) s
  let s := failAll s bad
  [1, 2, 3, 4, 5, 6].foldl (fun q tg => arbitrate t tg (at' tg).length q (at' tg)) (s, mem)

/-- MTX_TIMEOUT (R499): the target of a transaction that passes the first three checks gives no response within 100 µs. -/
def mtxTimeout (s : Dev) (t : Nat) (r : MtxReq) : Dev :=
  let s := s.at t
  if 8 ≤ r.master then s
  else if isRetired s r then mtxAnswer s r.master r.size r.write
  else mtxError s r.master r.addr r.size (if reqKind s r = 0 then 4 else reqKind s r) r.write

/-- MTX_LOCK_WRITE (R503). -/
def mtxLockWrite (s : Dev) (t m v : Nat) : Dev := lockWrite (s.at t) m v

/-- MTX_REMAP_WRITE (R500). -/
def mtxRemapWrite (s : Dev) (t m k v : Nat) : Dev := remapWrite (s.at t) m k v

/-- MTX_WIN_WRITE (R503, R508). -/
def mtxWinWrite (s : Dev) (t m i : Nat) (lim : Bool) (v : Nat) : Dev := if i < 24 then winWrite (s.at t) m i lim v else s

/-! The commands of this file. -/

/-- MTX_TRANSACTION (R493 to R499): transactions wait at the control matrix. -/
def execMtxTransaction (t : Nat) (reqs : List MtxReq) (s : State) : Host.Outcome State Fault Refusal :=
  let q := mtxTransaction s.dev s.mem t reqs
  .next { s with dev := q.1, mem := q.2 }

/-- MTX_TIMEOUT (R499): a target gives no response within 100 µs. -/
def execMtxTimeout (t : Nat) (r : MtxReq) (s : State) : Host.Outcome State Fault Refusal :=
  .next { s with dev := mtxTimeout s.dev t r }

/-- MTX_LOCK_WRITE (R503): MTX_CTRL.LOCK is written by master `m`. -/
def execMtxLockWrite (t : Nat) (m : Fin 8) (v : Fin 2) (s : State) : Host.Outcome State Fault Refusal :=
  .next { s with dev := mtxLockWrite s.dev t m v }

/-- MTX_REMAP_WRITE (R500): the REMAP bit of master `k` is written by master `m`. -/
def execMtxRemapWrite (t : Nat) (m : Fin 8) (k : Fin 4) (v : Fin 2) (s : State) : Host.Outcome State Fault Refusal :=
  .next { s with dev := mtxRemapWrite s.dev t m k v }

/-- MTX_WIN_WRITE (R503, R508): a window register (8·engine + k) is written by master `m`. -/
def execMtxWinWrite (t : Nat) (m : Fin 8) (win : Fin 24) (lim : Bool) (v : Nat) (s : State) : Host.Outcome State Fault Refusal :=
  .next { s with dev := mtxWinWrite s.dev t m win lim v }

end Sys2Proof.Machine
end

