-- ==== Sys2Proof/Machine/Dispatch.lean ====
section
/-! DEFINITION. The effect of every command on everything but the queue: one arm per constructor of Instr. -/

namespace Sys2Proof.Machine

/-- The effect of a command (every arm is one call of its meaning). -/
def exec (i : Instr) (s : State) : Host.Outcome State Fault Refusal :=
  match i with
  | .registerWrite t m addr size value => Sys2Proof.Machine.execRegisterWrite t m addr size value s
  | .rcRead t m addr size => Sys2Proof.Machine.execRcRead t m addr size s
  | .latchedRead t m addr size => Sys2Proof.Machine.execLatchedRead t m addr size s
  | .dpllSnapshotRead t m whole => Sys2Proof.Machine.execDpllSnapshotRead t m whole s
  | .houseTimeSnapshot t => Sys2Proof.Machine.execHouseTimeSnapshot t s
  | .clockMonitorWindow t c count => Sys2Proof.Machine.execClockMonitorWindow t c count s
  | .houseFrameStart t obs => Sys2Proof.Machine.execHouseFrameStart t obs s
  | .houseRateChange t => Sys2Proof.Machine.execHouseRateChange t s
  | .sourceFrameStart t p n o => Sys2Proof.Machine.execSourceFrameStart t p n o s
  | .powerBackstopSample t reading rail => Sys2Proof.Machine.execPowerBackstopSample t reading rail s
  | .powerShedStep t => Sys2Proof.Machine.execPowerShedStep t s
  | .powerRestoreStep t rise => Sys2Proof.Machine.execPowerRestoreStep t rise s
  | .commandDoorbell t h r value => Sys2Proof.Machine.execCommandDoorbell t h r value s
  | .commandAccept t fetch peerAck => Sys2Proof.Machine.execCommandAccept t fetch peerAck s
  | .writebackWrite t h r => Sys2Proof.Machine.execWritebackWrite t h r s
  | .completionDoorbell t h r value => Sys2Proof.Machine.execCompletionDoorbell t h r value s
  | .eventDoorbell t h value => Sys2Proof.Machine.execEventDoorbell t h value s
  | .coalesceTimer t h r => Sys2Proof.Machine.execCoalesceTimer t h r s
  | .eventIrqTimer t h => Sys2Proof.Machine.execEventIrqTimer t h s
  | .cringEnable t h r => Sys2Proof.Machine.execCringEnable t h r s
  | .cringDisable t h r => Sys2Proof.Machine.execCringDisable t h r s
  | .cringResume t h r => Sys2Proof.Machine.execCringResume t h r s
  | .cplCoalesceWrite t h r us n => Sys2Proof.Machine.execCplCoalesceWrite t h r us n s
  | .evtRingEnable t h => Sys2Proof.Machine.execEvtRingEnable t h s
  | .hifPerst t h asserted => Sys2Proof.Machine.execHifPerst t h asserted s
  | .hifLinkChange t h link bme d0 speed width => Sys2Proof.Machine.execHifLinkChange t h link bme d0 speed width s
  | .nop t jsn => Sys2Proof.Machine.execNop t jsn s
  | .barrier t jsn => Sys2Proof.Machine.execBarrier t jsn s
  | .take t jsn => Sys2Proof.Machine.execTake t jsn s
  | .salvo t jsn => Sys2Proof.Machine.execSalvo t jsn s
  | .protect t jsn => Sys2Proof.Machine.execProtect t jsn s
  | .groupSet t jsn => Sys2Proof.Machine.execGroupSet t jsn s
  | .fsyncSet t jsn => Sys2Proof.Machine.execFsyncSet t jsn s
  | .destPolicy t jsn => Sys2Proof.Machine.execDestPolicy t jsn s
  | .compSet t jsn => Sys2Proof.Machine.execCompSet t jsn s
  | .compState t jsn => Sys2Proof.Machine.execCompState t jsn s
  | .lutLoad t jsn => Sys2Proof.Machine.execLutLoad t jsn s
  | .genSet t jsn => Sys2Proof.Machine.execGenSet t jsn s
  | .stillLoad t jsn => Sys2Proof.Machine.execStillLoad t jsn s
  | .audioMap t jsn => Sys2Proof.Machine.execAudioMap t jsn s
  | .audioFollow t jsn => Sys2Proof.Machine.execAudioFollow t jsn s
  | .tdmSet t jsn => Sys2Proof.Machine.execTdmSet t jsn s
  | .refPolicy t jsn => Sys2Proof.Machine.execRefPolicy t jsn s
  | .refAlign t jsn => Sys2Proof.Machine.execRefAlign t jsn s
  | .ptpSet t jsn => Sys2Proof.Machine.execPtpSet t jsn s
  | .linkSet t jsn => Sys2Proof.Machine.execLinkSet t jsn s
  | .flowSet t jsn => Sys2Proof.Machine.execFlowSet t jsn s
  | .macFilter t jsn => Sys2Proof.Machine.execMacFilter t jsn s
  | .budgetMode t jsn => Sys2Proof.Machine.execBudgetMode t jsn s
  | .statsSnapshot t jsn => Sys2Proof.Machine.execStatsSnapshot t jsn s
  | .fwStage t jsn => Sys2Proof.Machine.execFwStage t jsn s
  | .fwSchedule t jsn => Sys2Proof.Machine.execFwSchedule t jsn s
  | .fwConfirm t jsn => Sys2Proof.Machine.execFwConfirm t jsn s
  | .fwAbort t jsn => Sys2Proof.Machine.execFwAbort t jsn s
  | .attest t jsn => Sys2Proof.Machine.execAttest t jsn s
  | .checkpoint t jsn => Sys2Proof.Machine.execCheckpoint t jsn s
  | .ppSwitch t jsn => Sys2Proof.Machine.execPpSwitch t jsn s
  | .ringAdopt t jsn => Sys2Proof.Machine.execRingAdopt t jsn s
  | .bivouac t jsn => Sys2Proof.Machine.execBivouac t jsn s
  | .marginSurvey t jsn => Sys2Proof.Machine.execMarginSurvey t jsn s
  | .pairSet t jsn => Sys2Proof.Machine.execPairSet t jsn s
  | .switchingInstant t p d ecc => Sys2Proof.Machine.execSwitchingInstant t p d ecc s
  | .fsyncCutoff t p n m => Sys2Proof.Machine.execFsyncCutoff t p n m s
  | .fsyncFrameComplete t p n frame => Sys2Proof.Machine.execFsyncFrameComplete t p n frame s
  | .ipHoldExpire t p n frame => Sys2Proof.Machine.execIpHoldExpire t p n frame s
  | .bandSensorRead t p temp => Sys2Proof.Machine.execBandSensorRead t p temp s
  | .underrun t p kind n => Sys2Proof.Machine.execUnderrun t p kind n s
  | .planeTrainingDone t p => Sys2Proof.Machine.execPlaneTrainingDone t p s
  | .planeStateTimeout t p => Sys2Proof.Machine.execPlaneStateTimeout t p s
  | .segmentReceived t p n o => Sys2Proof.Machine.execSegmentReceived t p n o s
  | .mergeHistoryTimeout t p n => Sys2Proof.Machine.execMergeHistoryTimeout t p n s
  | .egressSegment t p d n k missing srcFrame => Sys2Proof.Machine.execEgressSegment t p d n k missing srcFrame s
  | .compPrefetch t p c px => Sys2Proof.Machine.execCompPrefetch t p c px s
  | .libraryFlashCopy t kind idx => Sys2Proof.Machine.execLibraryFlashCopy t kind idx s
  | .audioGridSample t p obs => Sys2Proof.Machine.execAudioGridSample t p obs s
  | .audioFlowUntimed t p n => Sys2Proof.Machine.execAudioFlowUntimed t p n s
  | .asrcLock t p ch => Sys2Proof.Machine.execAsrcLock t p ch s
  | .tdmFrame t p words arrived absent => Sys2Proof.Machine.execTdmFrame t p words arrived absent s
  | .tdmMaskWrite t p tx rx => Sys2Proof.Machine.execTdmMaskWrite t p tx rx s
  | .tdmSteerLimit t p => Sys2Proof.Machine.execTdmSteerLimit t p s
  | .tdmRestart t p => Sys2Proof.Machine.execTdmRestart t p s
  | .tdmMclkLoss t => Sys2Proof.Machine.execTdmMclkLoss t s
  | .tdmMclkReturn t => Sys2Proof.Machine.execTdmMclkReturn t s
  | .tdmBclkCheck t p count => Sys2Proof.Machine.execTdmBclkCheck t p count s
  | .amReceived t p l k period valid skew => Sys2Proof.Machine.execAmReceived t p l k period valid skew s
  | .restripeReq t p l lanes id => Sys2Proof.Machine.execRestripeReq t p l lanes id s
  | .switchRound t p l k period => Sys2Proof.Machine.execSwitchRound t p l k period s
  | .mask t p l lanes id => Sys2Proof.Machine.execMask t p l lanes id s
  | .timing t p l rx => Sys2Proof.Machine.execTiming t p l rx s
  | .delayReq t p l seq t1 t2 => Sys2Proof.Machine.execDelayReq t p l seq t1 t2 s
  | .delayResp t p l seq t1 t2 t3 => Sys2Proof.Machine.execDelayResp t p l seq t1 t2 t3 s
  | .delayMeasureTimer t p l => Sys2Proof.Machine.execDelayMeasureTimer t p l s
  | .presence t p l o => Sys2Proof.Machine.execPresence t p l o s
  | .presenceSend t p l => Sys2Proof.Machine.execPresenceSend t p l s
  | .presenceTimeout t p l => Sys2Proof.Machine.execPresenceTimeout t p l s
  | .cfgRepeat t p l => Sys2Proof.Machine.execCfgRepeat t p l s
  | .laneLoss t p l lanes => Sys2Proof.Machine.execLaneLoss t p l lanes s
  | .laneReturn t p l k => Sys2Proof.Machine.execLaneReturn t p l k s
  | .linkTrainTimeout t p l => Sys2Proof.Machine.execLinkTrainTimeout t p l s
  | .linkIdleTimeout t p l => Sys2Proof.Machine.execLinkIdleTimeout t p l s
  | .laneSignalDetect t p l => Sys2Proof.Machine.execLaneSignalDetect t p l s
  | .trainingFrame t p l o => Sys2Proof.Machine.execTrainingFrame t p l o s
  | .laneStageTimeout t p l => Sys2Proof.Machine.execLaneStageTimeout t p l s
  | .laneLowFom t p l fom => Sys2Proof.Machine.execLaneLowFom t p l fom s
  | .ethFrameRx t p inst o => Sys2Proof.Machine.execEthFrameRx t p inst o s
  | .ethLinkChange t p inst new timeout => Sys2Proof.Machine.execEthLinkChange t p inst new timeout s
  | .igmpReport t p inst group => Sys2Proof.Machine.execIgmpReport t p inst group s
  | .igmpQueryResponse t p inst => Sys2Proof.Machine.execIgmpQueryResponse t p inst s
  | .macPortcfgMode t p q mode => Sys2Proof.Machine.execMacPortcfgMode t p q mode s
  | .macPortcfgMedium t p q medium an => Sys2Proof.Machine.execMacPortcfgMedium t p q medium an s
  | .macCapqReset t p base v => Sys2Proof.Machine.execMacCapqReset t p base v s
  | .captureIrq t p => Sys2Proof.Machine.execCaptureIrq t p s
  | .ptpDelayReqSend t n => Sys2Proof.Machine.execPtpDelayReqSend t n s
  | .refLossOfSignal t r obs => Sys2Proof.Machine.execRefLossOfSignal t r obs s
  | .refQualWindow t nco obs => Sys2Proof.Machine.execRefQualWindow t nco obs s
  | .refWtrExpire t r obs => Sys2Proof.Machine.execRefWtrExpire t r obs s
  | .dpllLocked t since => Sys2Proof.Machine.execDpllLocked t since s
  | .refSlewComplete t => Sys2Proof.Machine.execRefSlewComplete t s
  | .peerTiming t peerTime rtt => Sys2Proof.Machine.execPeerTiming t peerTime rtt s
  | .journalFlush t => Sys2Proof.Machine.execJournalFlush t s
  | .flashProgramDone t ch block ok => Sys2Proof.Machine.execFlashProgramDone t ch block ok s
  | .checkpointTimer t => Sys2Proof.Machine.execCheckpointTimer t s
  | .belayHb t n => Sys2Proof.Machine.execBelayHb t n s
  | .belayHbMiss t => Sys2Proof.Machine.execBelayHbMiss t s
  | .fenceDrainDone t => Sys2Proof.Machine.execFenceDrainDone t s
  | .takeoverComplete t => Sys2Proof.Machine.execTakeoverComplete t s
  | .ppBistDone t n pass => Sys2Proof.Machine.execPpBistDone t n pass s
  | .belayOutToggle t => Sys2Proof.Machine.execBelayOutToggle t s
  | .activeSelChange t own peer => Sys2Proof.Machine.execActiveSelChange t own peer s
  | .peerLost t => Sys2Proof.Machine.execPeerLost t s
  | .peerRecord t m => Sys2Proof.Machine.execPeerRecord t m s
  | .pairResyncDone t image head => Sys2Proof.Machine.execPairResyncDone t image head s
  | .joinPeerTimeout t => Sys2Proof.Machine.execJoinPeerTimeout t s
  | .replayDone t => Sys2Proof.Machine.execReplayDone t s
  | .hbmTrainDone t p eyes => Sys2Proof.Machine.execHbmTrainDone t p eyes s
  | .hbmEyeTrack t p l left right => Sys2Proof.Machine.execHbmEyeTrack t p l left right s
  | .hbmRefreshInterval t p pc b idle held => Sys2Proof.Machine.execHbmRefreshInterval t p pc b idle held s
  | .hbmReqPromote t p pc issued rt => Sys2Proof.Machine.execHbmReqPromote t p pc issued rt s
  | .hbmScrub t p o => Sys2Proof.Machine.execHbmScrub t p o s
  | .bivouacSelfRefreshDone t ok0 ok1 => Sys2Proof.Machine.execBivouacSelfRefreshDone t ok0 ok1 s
  | .flashMount t ch profile o => Sys2Proof.Machine.execFlashMount t ch profile o s
  | .flashReadDone t ch o => Sys2Proof.Machine.execFlashReadDone t ch o s
  | .flashTargetTimeout t ch target flush => Sys2Proof.Machine.execFlashTargetTimeout t ch target flush s
  | .flashRebuildDone t ch => Sys2Proof.Machine.execFlashRebuildDone t ch s
  | .flashDirRewrite t ch => Sys2Proof.Machine.execFlashDirRewrite t ch s
  | .flashWearLevel t ch tlc => Sys2Proof.Machine.execFlashWearLevel t ch tlc s
  | .nandTempRead t ch temp => Sys2Proof.Machine.execNandTempRead t ch temp s
  | .flashScrubDone t ch => Sys2Proof.Machine.execFlashScrubDone t ch s
  | .bootSelect t good => Sys2Proof.Machine.execBootSelect t good s
  | .fwWindowExpire t => Sys2Proof.Machine.execFwWindowExpire t s
  | .fwResumeTimeout t => Sys2Proof.Machine.execFwResumeTimeout t s
  | .fwSelftestFail t => Sys2Proof.Machine.execFwSelftestFail t s
  | .entropyFail t => Sys2Proof.Machine.execEntropyFail t s
  | .por t asserted => Sys2Proof.Machine.execPor t asserted s
  | .pwrgood t high => Sys2Proof.Machine.execPwrgood t high s
  | .resetN t low => Sys2Proof.Machine.execResetN t low s
  | .rstSwPulse t key reach index => Sys2Proof.Machine.execRstSwPulse t key reach index s
  | .rstSwHold t key reach index => Sys2Proof.Machine.execRstSwHold t key reach index s
  | .rstSwRelease t key reach index => Sys2Proof.Machine.execRstSwRelease t key reach index s
  | .watchdog t => Sys2Proof.Machine.execWatchdog t s
  | .thermalTrip t d => Sys2Proof.Machine.execThermalTrip t d s
  | .thermalHoldEnd t since => Sys2Proof.Machine.execThermalHoldEnd t since s
  | .resetEntry t => Sys2Proof.Machine.execResetEntry t s
  | .resetClockFallback t step unit => Sys2Proof.Machine.execResetClockFallback t step unit s
  | .resetClockReturn t step unit => Sys2Proof.Machine.execResetClockReturn t step unit s
  | .resetReleaseStep t ready absent straps refCount => Sys2Proof.Machine.execResetReleaseStep t ready absent straps refCount s
  | .fuseLoadDone t good => Sys2Proof.Machine.execFuseLoadDone t good s
  | .fuseParityCheck t bad => Sys2Proof.Machine.execFuseParityCheck t bad s
  | .faultEvent t b cause sub region => Sys2Proof.Machine.execFaultEvent t b cause sub region s
  | .fltStatusClear t ones => Sys2Proof.Machine.execFltStatusClear t ones s
  | .fltClearCheck t b persists => Sys2Proof.Machine.execFltClearCheck t b persists s
  | .fltFirstClear t => Sys2Proof.Machine.execFltFirstClear t s
  | .fltReactWrite t b value => Sys2Proof.Machine.execFltReactWrite t b value s
  | .fltModeWindow t => Sys2Proof.Machine.execFltModeWindow t s
  | .faultLogWrite t => Sys2Proof.Machine.execFaultLogWrite t s
  | .monitorSample t slack => Sys2Proof.Machine.execMonitorSample t slack s
  | .thermalSample t d => Sys2Proof.Machine.execThermalSample t d s
  | .surveySchedule t => Sys2Proof.Machine.execSurveySchedule t s
  | .surveyStep t o => Sys2Proof.Machine.execSurveyStep t o s
  | .ageingReport t => Sys2Proof.Machine.execAgeingReport t s
  | .mtxTransaction t reqs => Sys2Proof.Machine.execMtxTransaction t reqs s
  | .mtxTimeout t r => Sys2Proof.Machine.execMtxTimeout t r s
  | .mtxLockWrite t m v => Sys2Proof.Machine.execMtxLockWrite t m v s
  | .mtxRemapWrite t m k v => Sys2Proof.Machine.execMtxRemapWrite t m k v s
  | .mtxWinWrite t m win lim v => Sys2Proof.Machine.execMtxWinWrite t m win lim v s
  | .avsWrite t rail mv ok => Sys2Proof.Machine.execAvsWrite t rail mv ok s
  | .avsStep t ok => Sys2Proof.Machine.execAvsStep t ok s
  | .railOutOfWindow t rail level since => Sys2Proof.Machine.execRailOutOfWindow t rail level since s
  | .ipPacketSend t p idx n k len missing anc overAllow => Sys2Proof.Machine.execIpPacketSend t p idx n k len missing anc overAllow s
  | .peerLinkReturn t peerActive => Sys2Proof.Machine.execPeerLinkReturn t peerActive s
  | .uncorrectableCodeword t p l k corrected => Sys2Proof.Machine.execUncorrectableCodeword t p l k corrected s
  | .flashEraseDone t ch tlc block ok => Sys2Proof.Machine.execFlashEraseDone t ch tlc block ok s
  | .jtagInstruction t ins => Sys2Proof.Machine.execJtagInstruction t ins s

end Sys2Proof.Machine
end

