-- ==== Sys2Proof/Safety.lean ====
section
/-! DEFINITION. What a safe state and a safe step are, in the terms the statements use. -/

namespace Sys2Proof

open Sys2Proof.Machine

/-- What every step keeps: the memories behind the control matrix in their canonical form. -/
def Inv (s : State) : Prop := Memory.wf s.mem = true

/-- The front command runs to a next state. -/
def Runs (s : State) : Prop := ∃ s', step s = .next s'

end Sys2Proof
end

