-- ==== Sys2Proof/Certificates/Slice0/Obligations.lean ====
section
/-! DEFINITION. The statements about this model, each a rule of spec/ or what follows from several. `Gives` says that a command
answers a next state and what that state's device holds. -/

namespace Sys2Proof.Claims

open Sys2Proof.Machine

/-- Command `c` answers a next state at `s`, whose device meets `P`. -/
def Gives (c : Instr) (s : State) (P : Dev → Prop) : Prop := ∃ u, exec c s = .next u ∧ P u.dev

/-- The accepted command `j` of opcode `op` is validated now: it is journalled, undecided and not yet scheduled, validation runs, no
barrier holds it, and the device holds the active role (R347, R355, R365, R372). -/
structure Validates (d : Dev) (op : Nat) (j : JRec) : Prop where
  journalled : recOf d j.jsn = some j
  opcode : j.op = op
  undecided : j.dec = none
  fresh : j.validated = false
  runs : d.jrn.outage = false
  leads : isFollower d = false
  free : blocked d j = false

/-- Command `jsn` has the status, APPLIED and detail words given (R330, R341). -/
def Decided (d : Dev) (jsn status applied detail : Nat) : Prop :=
  ∃ j, recOf d jsn = some j ∧ j.dec = some { status := status, applied := applied, detail := detail }

/-- A host command: its constructor, its opcode, and the checks that it must pass (R342). -/
structure HostCmd where
  cmd : Nat → Nat → Instr
  op : Nat
  checks : Dev → JRec → Option Refuse

/-- The host commands of R354, in its order. -/
def hostCmds : List HostCmd :=
  [⟨.nop, 0x00, nopChecks⟩, ⟨.barrier, 0x01, nopChecks⟩, ⟨.take, 0x10, takeChecks⟩, ⟨.salvo, 0x11, salvoCmdChecks⟩,
   ⟨.protect, 0x12, protectChecks⟩,
   ⟨.groupSet, 0x13, groupSetChecks⟩, ⟨.fsyncSet, 0x14, fsyncSetChecks⟩, ⟨.destPolicy, 0x15, destPolicyChecks⟩,
   ⟨.compSet, 0x20, compSetChecks⟩, ⟨.compState, 0x21, compStateChecks⟩, ⟨.lutLoad, 0x22, lutLoadChecks⟩,
   ⟨.genSet, 0x23, genSetChecks⟩, ⟨.stillLoad, 0x24, stillLoadChecks⟩, ⟨.audioMap, 0x30, audioMapChecks⟩,
   ⟨.audioFollow, 0x31, audioFollowChecks⟩, ⟨.tdmSet, 0x32, tdmSetChecks⟩, ⟨.refPolicy, 0x40, refPolicyChecks⟩] ++
  [⟨.refAlign, 0x41, refAlignChecks⟩, ⟨.ptpSet, 0x42, ptpSetChecks⟩, ⟨.linkSet, 0x50, linkSetChecks⟩,
   ⟨.flowSet, 0x51, flowSetChecks⟩, ⟨.macFilter, 0x52, macFilterChecks⟩, ⟨.budgetMode, 0x60, budgetModeChecks⟩,
   ⟨.statsSnapshot, 0x61, statsSnapshotChecks⟩, ⟨.fwStage, 0x70, fwStageChecks⟩, ⟨.fwSchedule, 0x71, fwScheduleChecks⟩,
   ⟨.fwConfirm, 0x72, fwConfirmChecks⟩, ⟨.fwAbort, 0x73, fwAbortChecks⟩, ⟨.attest, 0x74, attestChecks⟩,
   ⟨.checkpoint, 0x80, checkpointChecks⟩, ⟨.ppSwitch, 0x81, ppSwitchChecks⟩, ⟨.ringAdopt, 0x82, ringAdoptChecks⟩,
   ⟨.bivouac, 0x83, bivouacChecks⟩, ⟨.marginSurvey, 0x84, marginSurveyChecks⟩, ⟨.pairSet, 0x90, pairSetChecks⟩]

/-- A host command that waits for a frame: its deadline for a frame, the frames it may apply in (R41, R80, R354), and the items and
the extra word that wait with it. -/
structure QueuedCmd where
  cmd : Nat → Nat → Instr
  op : Nat
  checks : Dev → JRec → Option Refuse
  deadline : Dev → JRec → Nat → Nat
  ok : Dev → JRec → Nat → Bool := fun _ _ _ => true
  items : Dev → JRec → List PItem := fun _ _ => []
  aux : Dev → JRec → Nat := fun _ _ => 0

/-- The commands of 'Frame start' in R354: 1 ms before it, 2 ms for TDM_SET, 100 µs for STATS_SNAPSHOT, 8 lines of the generator for GEN_SET. -/
def frameCmds : List QueuedCmd :=
  [{ cmd := .fsyncSet, op := 0x14, checks := fsyncSetChecks, deadline := fun d _ => dlMs d },
   { cmd := .audioMap, op := 0x30, checks := audioMapChecks, deadline := fun d _ => dlMs d },
   { cmd := .tdmSet, op := 0x32, checks := tdmSetChecks, deadline := fun d _ n => frameStart d n - 108000000 },
   { cmd := .refPolicy, op := 0x40, checks := refPolicyChecks, deadline := fun d _ => dlMs d },
   { cmd := .refAlign, op := 0x41, checks := refAlignChecks, deadline := fun d _ => dlMs d },
   { cmd := .ptpSet, op := 0x42, checks := ptpSetChecks, deadline := fun d _ => dlMs d },
   { cmd := .linkSet, op := 0x50, checks := linkSetChecks, deadline := fun d _ => dlMs d },
   { cmd := .flowSet, op := 0x51, checks := flowSetChecks, deadline := fun d _ => dlMs d },
   { cmd := .macFilter, op := 0x52, checks := macFilterChecks, deadline := fun d _ => dlMs d },
   { cmd := .budgetMode, op := 0x60, checks := budgetModeChecks, deadline := fun d _ => dlMs d },
   { cmd := .statsSnapshot, op := 0x61, checks := statsSnapshotChecks, deadline := fun d _ n => frameStart d n - 5400000 },
   { cmd := .genSet, op := 0x23, checks := genSetChecks,
     deadline := fun d j n => frameStart d n - 8 * linePeriod d (genRaster d (genKey d (le j.desc 24 2)) n) }]

/-- The destination key that the handle at byte `off` of a descriptor names (R27). -/
def destKeyAt (d : Dev) (j : JRec) (off : Nat) : Nat :=
  let v := hVal (dstOf d.ctl.pair (le j.desc off 2))
  pkey d v.1 v.2

/-- The keys of a GROUP_SET's members. -/
def groupKeys (d : Dev) (j : JRec) : List Nat :=
  ((groupMembers j.desc).take 16).map fun h => let v := hVal (dstOf d.ctl.pair h); pkey d v.1 v.2

/-- AUDIO_FOLLOW with OP 1, an audio take (R209). -/
def isAudioTake (j : JRec) : Bool := bits (le j.desc 24 1) 0 2 == 1

/-- The item of an AUDIO_FOLLOW of OP 1 (R209). -/
def audioTakeItem (d : Dev) (j : JRec) : PItem :=
  let v := hVal (srcOf d.ctl.pair (le j.desc 28 2))
  { idx := 0, key := destKeyAt d j 26, src := v.2, srcPlane := v.1, flags := bits (le j.desc 24 1) 2 1, owner := le j.desc 30 2 }

/-- The widths and line memory that a COMP_SET carries to its prefetch instant (R155, R158). -/
def compAux (d : Dev) (j : JRec) : Nat :=
  let v := hVal (srcOf d.ctl.pair (le j.desc 36 2))
  let r := if j.buf.length = 544 then j.buf else []
  let w := fitValid d v.1 (v.2 - 1536) r
  packWidths w + lineNeed r w * 2 ^ 128

/-- The commands that apply at a destination's switching instant or a compositor's prefetch instant (R80, R94, R151, R190, R354). -/
def instantCmds : List QueuedCmd :=
  [{ cmd := .take, op := 0x10, checks := takeChecks, items := fun d j => toItems d (le j.desc 30 2) (takeRaw j),
     deadline := fun d j => takeDeadline d (toItems d (le j.desc 30 2) (takeRaw j)),
     ok := fun d j => takeFrameOk d (toItems d (le j.desc 30 2) (takeRaw j)) },
   { cmd := .salvo, op := 0x11, checks := salvoCmdChecks, items := fun d j => toItems d (le j.desc 38 2) (salvoRaw j),
     deadline := fun d j => takeDeadline d (toItems d (le j.desc 38 2) (salvoRaw j)),
     ok := fun d j => takeFrameOk d (toItems d (le j.desc 38 2) (salvoRaw j)) },
   { cmd := .protect, op := 0x12, checks := protectChecks,
     items := fun d j => [{ idx := 0, key := destKeyAt d j 24, owner := le j.desc 28 2 }],
     deadline := fun d j => itemsDeadline d [(destKeyAt d j 24, false, 0)] },
   { cmd := .destPolicy, op := 0x15, checks := destPolicyChecks,
     items := fun d j => [{ idx := 0, key := destKeyAt d j 24, owner := le j.desc 32 2 }],
     deadline := fun d j => itemsDeadline d [(destKeyAt d j 24, false, 0)] },
   { cmd := .groupSet, op := 0x13, checks := groupSetChecks,
     items := fun d j => (groupKeys d j).map fun k => { idx := le j.desc 24 1, key := k },
     deadline := fun d j => itemsDeadline d ((groupKeys d j ++ (teamOf d (le j.desc 24 1)).members).map fun k => (k, false, 0)) }] ++
  [{ cmd := .audioFollow, op := 0x31, checks := audioFollowChecks,
     items := fun d j => if isAudioTake j then [audioTakeItem d j] else [],
     deadline := fun d j => if isAudioTake j then itemsDeadline d [(destKeyAt d j 26, false, 0)] else dlMs d },
   { cmd := .compSet, op := 0x20, checks := compSetChecks, aux := compAux,
     deadline := fun d j => compDeadline d (compKey d (le j.desc 36 2)), ok := fun d j => compFrameOk d (compKey d (le j.desc 36 2)) },
   { cmd := .compState, op := 0x21, checks := compStateChecks,
     deadline := fun d j => compDeadline d (compKey d (le j.desc 24 2)), ok := fun d j => compFrameOk d (compKey d (le j.desc 24 2)) },
   { cmd := .lutLoad, op := 0x22, checks := lutLoadChecks,
     deadline := fun d j n => minTime (frameStart d n) ((slotUsers d (le j.buf 0 1) (le j.buf 1 1)).map fun k => compDeadline d k n),
     ok := fun d j n => (slotUsers d (le j.buf 0 1) (le j.buf 1 1)).all fun k => compFrameOk d k n }]

/-- Command `j` of `e` waits for frame `n`: its entry has joined the pending list in JSN order, and it is validated and undecided. -/
def IsScheduled (e : QueuedCmd) (s d : Dev) (j : JRec) (n : Nat) (dfr : Bool) (why : Nat) : Prop :=
  d.ctl.pend = insPend { jsn := j.jsn, op := e.op, frame := n, atFrame := bit j.flags 1 && j.target != 0, deferred := dfr,
                         reason := why, items := e.items s j, lastFrame := e.aux s j } s.ctl.pend ∧
  recOf d j.jsn = some { j with validated := true }

/-- No register field changes but those of the blocks `bs` and the fields `fs`, in whatever element. -/
def Only (bs : List Nat) (fs : List Fld) (d u : Dev) : Prop :=
  ∀ f i, (∀ b ∈ bs, codeBlk (f.code % 262144) ≠ b) → (∀ g ∈ fs, f.code % 262144 ≠ g.code) → getF u f i = getF d f i

/-- What raising an event changes of the registers: where the event rings stand (R334). -/
def evtFields : List Fld := [F.HIF_EVT_STAT_PROD, F.HIF_EVT_STAT_LOST]

/-- What writing a completion changes of the registers (R330, R339). -/
def cplFields : List Fld := [F.CPL_PROD_PROD, F.CPL_STAT_BACKLOG]

/-- What a firmware action's JSN and journal record change of the registers (R22, R358). -/
def jrnFields : List Fld := [F.JRN_HEAD_HEAD_JSN, F.JRN_STAT_FULL]

/-- What `exec` does with the commands of `fam` keeps within `K`. -/
def Frames (fam : Instr → Prop) (K : Dev → Dev → Prop) : Prop := ∀ c, fam c → ∀ s u, exec c s = .next u → K s.dev u.dev

end Sys2Proof.Claims

open Sys2Proof Sys2Proof.Machine Sys2Proof.Claims

/-! The machine as a whole. -/

/-- A step with a command at the front of the queue is that command's `exec` on the state with the queue's rest. On an empty queue the
device idles (log entry 2: the model's choice). -/
def Obligations.StepTakesTheFront : Prop :=
  (∀ (s : State) (c : Instr) (rest : List Instr), s.pending = c :: rest → step s = exec c { s with pending := rest }) ∧
  (∀ s : State, s.pending = [] → step s = .next s)

/-- The invariant holds right after reset. -/
def Obligations.ResetMeetsInv : Prop := Inv State.reset

/-- From every state that meets the invariant, a step keeps it: the memories behind the control matrix stay in their canonical form
(addresses strictly rising, no byte that an unlisted address reads as), whatever the command. -/
def Obligations.EveryStepKeepsInv : Prop := ∀ s u : State, Inv s → step s = .next u → Inv u

/-- No command stops: whatever the state, `exec` answers a next state. Every command takes only itself from the queue, and of every
command but MTX_TRANSACTION, RESET_ENTRY and POR every byte of the memories behind the control matrix reads after it as before. -/
def Obligations.CommandsAnswerAndKeepMemory : Prop :=
  ∀ (c : Instr) (s : State), ∃ u, exec c s = .next u ∧ u.pending = s.pending ∧
    ((∀ t reqs, c ≠ .mtxTransaction t reqs) → (∀ t, c ≠ .resetEntry t) → (∀ t b, c ≠ .por t b) →
      ∀ a, mget 0 u.mem a = mget 0 s.mem a)

/-- Right after reset every field of every register reads its Reset column, no command is pending, every sub-domain from step 2 on is
in reset and the fuse load runs (R8, R454, R456). -/
def Obligations.ResetState : Prop :=
  (∀ (f : Fld) (i : Nat), getF State.reset.dev f i = resetAt f i) ∧ State.reset.pending = [] ∧ State.reset.mem = [] ∧
    State.reset.dev.rst.inReset = allDoms ∧ State.reset.dev.rst.phase = 1 ∧ State.reset.dev.ctl = {}

/-! Host commands (R342 to R354). -/

/-- A host command that fails its checks completes with the class and detail of the first that fails, APPLIED 0, and is not
scheduled: the pending list is unchanged (R341, R342, R330). -/
def Obligations.RefusedCommandCompletes : Prop :=
  ∀ e ∈ hostCmds, ∀ (s : State) (t : Nat) (j : JRec) (r : Refuse), Validates s.dev e.op j → e.checks (s.dev.at t) j = some r →
    Gives (e.cmd t j.jsn) s fun d => Decided d j.jsn r.1 0 r.2 ∧ d.ctl.pend = s.dev.ctl.pend

/-- A command of 'Frame start' that passes its checks and makes a frame is scheduled there (R80, R81, R354). TAKE, SALVO and the other
commands of a switching or prefetch instant: one that passes its checks and makes a frame is scheduled there with its items (R80, R81, R84
to R86, R91, R94, R151, R190, R209, R354). -/
def Obligations.ScheduledCommandsWait : Prop :=
  (∀ e ∈ frameCmds, ∀ (s : State) (t n why : Nat) (dfr : Bool) (j : JRec), Validates s.dev e.op j → e.checks (s.dev.at t) j = none →
     chooseFrame (s.dev.at t) j.flags j.target (e.deadline (s.dev.at t) j) (e.ok (s.dev.at t) j) = some (n, dfr, why) →
     Gives (e.cmd t j.jsn) s fun d => IsScheduled e (s.dev.at t) d j n dfr why) ∧
  (∀ e ∈ instantCmds, ∀ (s : State) (t n why : Nat) (dfr : Bool) (j : JRec), Validates s.dev e.op j → e.checks (s.dev.at t) j = none →
     chooseFrame (s.dev.at t) j.flags j.target (e.deadline (s.dev.at t) j) (e.ok (s.dev.at t) j) = some (n, dfr, why) →
     Gives (e.cmd t j.jsn) s fun d => IsScheduled e (s.dev.at t) d j n dfr why)

/-- NOP and BARRIER that pass their checks complete at once with DONE, or wait for the start of a target frame still ahead (R348). -/
def Obligations.NopAndBarrierComplete : Prop :=
  ∀ c ∈ [((Instr.nop : Nat → Nat → Instr), 0x00), (Instr.barrier, 0x01)], ∀ (s : State) (t : Nat) (j : JRec),
    Validates s.dev c.2 j → nopChecks (s.dev.at t) j = none →
    (targetAhead (s.dev.at t) j = false → Gives (c.1 t j.jsn) s fun d =>
      Decided d j.jsn stDone (if bit j.flags 1 && j.target != 0 then hfn (s.dev.at t) else 0) 0 ∧ d.ctl.pend = s.dev.ctl.pend) ∧
    (targetAhead (s.dev.at t) j = true → Gives (c.1 t j.jsn) s fun d =>
      d.ctl.pend = insPend { jsn := j.jsn, op := c.2, frame := j.target, atFrame := true } s.dev.ctl.pend ∧
      recOf d j.jsn = some { j with validated := true })

/-- An untimed control command whose checks pass and whose frame is not ahead acts at once (R349, R354).
CHECKPOINT writes a checkpoint of the next sequence number at the last JSN and completes DONE with that number (R363); ATTEST writes a
report of 50,368 bytes to the host buffer (R443); MARGIN_SURVEY starts a survey of the next number (R485); RING_ADOPT leaves every
ring it names adopted (R333); PAIR_SET to another configuration puts it in force (R354). -/
def Obligations.UntimedCommandsAct : Prop :=
  ∀ (s : State) (t : Nat) (j : JRec), targetAhead (s.dev.at t) j = false →
    (Validates s.dev 0x80 j → checkpointChecks (s.dev.at t) j = none → Gives (.checkpoint t j.jsn) s fun d =>
      getF d F.JRN_CKPT_SEQ 0 = (getF s.dev F.JRN_CKPT_SEQ 0 + 1) % 2 ^ F.JRN_CKPT_SEQ.width ∧ d.jrn.lastCkpt = t ∧ d.jrn.sinceLast = 0 ∧
      getF d F.JRN_CKPT_JSN_JSN 0 = getF s.dev F.JRN_HEAD_HEAD_JSN 0 % 2 ^ F.JRN_CKPT_JSN_JSN.width ∧
      Decided d j.jsn stDone (hfn (s.dev.at t)) (getF d F.JRN_CKPT_SEQ 0)) ∧
    (Validates s.dev 0x74 j → attestChecks (s.dev.at t) j = none → Gives (.attest t j.jsn) s fun d =>
      (∃ v, Out.dma (j.hif % 2) (dBufAddr j.desc) 50368 v ∈ d.out) ∧ Decided d j.jsn stDone (hfn (s.dev.at t)) 0) ∧
    (Validates s.dev 0x84 j → marginSurveyChecks (s.dev.at t) j = none → Gives (.marginSurvey t j.jsn) s fun d =>
      getF d F.AGE_STAT_RUNNING 0 = 1 ∧ getF d F.AGE_STAT_SEQ 0 = (getF s.dev F.AGE_STAT_SEQ 0 + 1) % 2 ^ F.AGE_STAT_SEQ.width ∧
      d.age.startedAt = some t ∧ d.age.jsn = some j.jsn ∧ recOf d j.jsn = some { j with validated := true }) ∧
    (Validates s.dev 0x82 j → ringAdoptChecks (s.dev.at t) j = none → Gives (.ringAdopt t j.jsn) s fun d =>
      (∀ r, r < 16 → bit (le j.desc 26 2) r = true → isAdopted d (bits (le j.desc 24 1) 0 1) r = true) ∧
      Decided d j.jsn stDone (hfn (s.dev.at t)) 0) ∧
    (Validates s.dev 0x90 j → pairSetChecks (s.dev.at t) j = none → pairCfg s.dev ≠ bits (le j.desc 24 1) 0 1 + 1 →
      (mechOf s.dev mkPair 0).jsn < j.jsn → Gives (.pairSet t j.jsn) s fun d =>
      d.ctl.pair = (bits (le j.desc 24 1) 0 1 == 1) ∧ pairCfg d = bits (le j.desc 24 1) 0 1 + 1 ∧ getF d F.PAIR_STAT_CONFIG 0 = bits (le j.desc 24 1) 0 1 ∧
      ∃ n, Decided d j.jsn stDone n 0)

/-- STILL_LOAD, FW_SCHEDULE and BIVOUAC wait with an entry of their own: a still moves at the next frame start, or at a later target; an
update is SCHEDULED for its frame in place of any it had; BIVOUAC's entry falls at the first frame start after validation, and its exit
brings both stacks and planes back up at once (R169, R394, R396, R435). -/
def Obligations.HeldCommandsWait : Prop :=
  ∀ (s : State) (t : Nat) (j : JRec),
    (Validates s.dev 0x24 j → stillLoadChecks (s.dev.at t) j = none → Gives (.stillLoad t j.jsn) s fun d =>
      d.ctl.pend = insPend { jsn := j.jsn, op := 0x24, atFrame := bit j.flags 1 && j.target != 0,
                             frame := if bit j.flags 1 then max j.target (hfn (s.dev.at t) + 1) else hfn (s.dev.at t) + 1 } s.dev.ctl.pend ∧
      recOf d j.jsn = some { j with validated := true }) ∧
    (Validates s.dev 0x71 j → fwScheduleChecks (s.dev.at t) j = none → s.dev.sec.sched = none → devState s.dev ≠ dvCamp →
      ∀ n dfr why, chooseFrame (s.dev.at t) j.flags j.target (fun n => frameStart s.dev n - 540000000) (fun _ => true) = some (n, dfr, why) →
      Gives (.fwSchedule t j.jsn) s fun d =>
        d.sec.sched = some (j.jsn, n, confirmSecs j.desc) ∧ fwUpdate d = 3 ∧
        d.ctl.pend = insPend { jsn := j.jsn, op := 0x71, frame := n, atFrame := true, deferred := dfr, reason := why } s.dev.ctl.pend ∧
        recOf d j.jsn = some { j with validated := true }) ∧
    (Validates s.dev 0x83 j → bivouacChecks (s.dev.at t) j = none → bit (le j.desc 24 1) 0 = true → Gives (.bivouac t j.jsn) s fun d =>
      d.jrn.bivIn = some (j.jsn, t) ∧
      d.ctl.pend = insPend { jsn := j.jsn, op := 0x83, atFrame := bit j.flags 1 && j.target != 0,
                             frame := if bit j.flags 1 then max j.target (hfn (s.dev.at t) + 1) else hfn (s.dev.at t) + 1 } s.dev.ctl.pend) ∧
    (Validates s.dev 0x83 j → bivouacChecks (s.dev.at t) j = none → bit (le j.desc 24 1) 0 = false → targetAhead (s.dev.at t) j = false →
      Gives (.bivouac t j.jsn) s fun d => d.jrn.bivOut = some (j.jsn, t) ∧ planeState d 0 = 1 ∧ planeState d 1 = 1)

/-- The firmware commands and PP_SWITCH, acting at once. FW_STAGE of an unbound image, on a device that is not in host-load Base camp,
is STAGED in the slot that is not active where it verifies, and refused with AUTH and the reason where it does not; FW_CONFIRM makes the trial slot ACTIVE, raises the version counter to the image's and
ends the update; FW_ABORT of a staged update ends it; PP_SWITCH hands the active role to the standby processor with a raised epoch
(R369, R431 to R433, R437). -/
def Obligations.FirmwareCommandsAct : Prop :=
  ∀ (s : State) (t : Nat) (j : JRec), targetAhead (s.dev.at t) j = false →
    (Validates s.dev 0x70 j → fwStageChecks (s.dev.at t) j = none → fwUpdate s.dev = 0 → s.dev.sec.svn ≤ imgSec j.buf →
      imgEnrol j.buf = false → imgBound j.buf = false → s.dev.ctl.pair = false → getF s.dev F.SEC_FW_STAT_BASECAMP 0 ≠ 3 →
      Gives (.fwStage t j.jsn) s fun d =>
        if authReason (s.dev.at t) j.buf = 0 then
          fwUpdate d = 2 ∧ d.sec.stage = some (imgOf j.buf) ∧ newSlot d = spareSlot s.dev ∧ ∃ det, Decided d j.jsn stDone (hfn (s.dev.at t)) det
        else fwUpdate d = 0 ∧ Decided d j.jsn stAuth 0 (stageRefusal j.buf (authReason (s.dev.at t) j.buf))) ∧
    (Validates s.dev 0x72 j → fwConfirmChecks (s.dev.at t) j = none → Gives (.fwConfirm t j.jsn) s fun d =>
      (fwSlot d (newSlot s.dev)).state = 5 ∧ d.sec.svn = max s.dev.sec.svn (s.dev.sec.stage.getD s.dev.sec.run).secVer ∧ fwUpdate d = 0 ∧
      ∃ det, Decided d j.jsn stDone (hfn (s.dev.at t)) det) ∧
    (Validates s.dev 0x73 j → fwAbortChecks (s.dev.at t) j = none → fwUpdate s.dev = 2 → Gives (.fwAbort t j.jsn) s fun d =>
      fwUpdate d = 0 ∧ d.sec.stage = none ∧ Decided d j.jsn stDone (hfn (s.dev.at t)) 0) ∧
    (Validates s.dev 0x81 j → ppSwitchChecks (s.dev.at t) j = none → getF s.dev F.BELAY_STAT_ACTIVE_PP 0 < 2 → Gives (.ppSwitch t j.jsn) s fun d =>
      getF d F.BELAY_STAT_ACTIVE_PP 0 = bits (le j.desc 24 1) 0 1 ∧ ppState d (bits (le j.desc 24 1) 0 1) = 0 ∧
      d.ctl.epoch = (s.dev.ctl.epoch + 1) % 2 ^ 32 ∧ d.jrn.outage = true ∧ d.jrn.ppSwitch = some j.jsn)

/-! Register accesses and the control matrix. -/

namespace Sys2Proof.Claims

/-- Registers whose write does more than store each field by its access type. -/
def ownWrite (r : RegDef) : Bool :=
  [F.FLT_STATUS_BITS, F.FLT_FIRST_VALID, F.FLT_REACT_ACTION, F.RST_SW_KEY, F.BELAY_HB_HB, F.CRING_BASE_BASE, F.CPL_BASE_BASE,
   F.CRING_CFG_EN, F.CPL_CFG_COAL_N, F.HIF_EVT_BASE_BASE, F.HIF_EVT_CFG_EN, F.HIF_EVT_MASK_MASK].any r.has ||
  [F.MAC_PORTCFG_MODE, F.MAC_CAPQ_BASE_BASE, F.MAC_CAPQ_CFG_EN, F.TDM_MASK_TX_PEND, F.MTX_CTRL_LOCK, F.MTX_WIN_BASE_BASE,
   F.MTX_WIN_LIM_LAST, F.MTX_ERR_INFO_VALID].any r.has

/-- What a field holds after a write of `v` to its register (R6): RW stores its bits, W1C clears the ones written, and every other
access type ignores the write. -/
def written (d : Dev) (f : Fld) (i v : Nat) : Nat :=
  match f.acc with
  | .rw => bits v f.lo f.width
  | .w1c => (getF d f i - (getF d f i &&& bits v f.lo f.width)) % 2 ^ f.width
  | _ => getF d f i

/-- Every field of register element `i` of `r` is as `written` gives it for `v`, and no other field has changed. -/
def WrittenTo (d u : Dev) (r : RegDef) (i v : Nat) : Prop :=
  (∀ f ∈ r.flds, getF u f i = written d f i v) ∧
  ∀ g k, (∀ f ∈ r.flds, fkey g k ≠ fkey f i) → getF u g k = getF d g k

/-- Requester `m` reaches register element `h` at its address `addr` with an access of `size` bytes that the register takes (R9, R317,
R493). -/
structure Meets (d : Dev) (m addr size : Nat) (write : Bool) (h : RegHit) : Prop where
  bar : hostBar m addr = 0
  up : canAccess d m = true
  reach : reaches d m (mtxAddr (regSpace m addr)) size write = true
  fits : sizeFits (regSpace m addr) size = true
  found : locateReg (regSpace m addr) = some h

end Sys2Proof.Claims

/-- REGISTER_WRITE of a register with no behaviour of its own, whole or as the high half after its low half: RW fields take the value,
W1C fields are cleared by ones, RO, RC and WO fields and every other register are unchanged; a low half alone changes no field and is
held (R6, R9). The control matrix's registers take a policy processor's write only. -/
def Obligations.RegisterWriteStores : Prop :=
  ∀ (s : State) (t : Nat) (m : Fin 8) (addr v : Nat) (h : RegHit), ownWrite h.d = false → hifBlocked m (regSpace m addr) = false →
    (h.d.blk = blkMtx → isPp m = true) →
    (Meets s.dev m addr 4 true h → h.d.width = 32 → Gives (.registerWrite t m addr 4 v) s fun d => WrittenTo s.dev d h.d h.idx (v % 2 ^ 32)) ∧
    (Meets s.dev m addr 8 true h → h.d.width = 64 → Gives (.registerWrite t m addr 8 v) s fun d => WrittenTo s.dev d h.d h.idx (v % 2 ^ 64)) ∧
    (Meets s.dev m addr 4 true h → h.d.width = 64 → h.sub = 0 → Gives (.registerWrite t m addr 4 v) s fun d =>
      (∀ f i, getF d f i = getF s.dev f i) ∧ mget 0 d.holds (latchKey m (regSpace m addr)) = v % 2 ^ 32 + 1) ∧
    (Meets s.dev m addr 4 true h → h.d.width = 64 → h.sub = 4 → ∀ lo, mget 0 s.dev.holds (latchKey m (regSpace m addr - 4)) = lo + 1 →
      Gives (.registerWrite t m addr 4 v) s fun d => WrittenTo s.dev d h.d h.idx (lo + v % 2 ^ 32 * 2 ^ 32))

/-- RC_READ of a whole register outside the DPLL snapshot answers its value and clears its read-to-clear fields; every other field of
every register is unchanged (R6). LATCHED_READ of a 64-bit register: the low half answers and latches the whole value for its requester;
the high half answers the latched value, whatever the register holds by then, and gives the latch up, with no field changed (R9).
DPLL_SNAPSHOT_READ answers the house frame number, half or whole, and latches all five registers of the snapshot for its requester at the
same instant (R73). -/
def Obligations.RegisterReadsLatchAndClear : Prop :=
  (∀ (s : State) (t : Nat) (m : Fin 8) (addr size : Nat) (h : RegHit), Meets s.dev m addr size false h → 8 * size = h.d.width →
     inSnapshot (regSpace m addr) = false → Gives (.rcRead t m addr size) s fun d =>
       d.out = .rdata m size (regVal (s.dev.at t) h.d h.idx) :: s.dev.out ∧
       (∀ f ∈ h.d.flds, getF d f h.idx = if f.acc = .rc then f.reset % 2 ^ f.width else getF s.dev f h.idx) ∧
       ∀ g k, (∀ f ∈ h.d.flds, fkey g k ≠ fkey f h.idx) → getF d g k = getF s.dev g k) ∧
  (∀ (s : State) (t : Nat) (m : Fin 8) (addr : Nat) (h : RegHit), Meets s.dev m addr 4 false h → h.d.width = 64 →
     inSnapshot (regSpace m addr - h.sub) = false →
     (h.sub = 0 → Gives (.latchedRead t m addr 4) s fun d =>
       d.out = .rdata m 4 (regVal (s.dev.at t) h.d h.idx % 2 ^ 32) :: s.dev.out ∧
       latched d m (regSpace m addr) = some (regVal (s.dev.at t) h.d h.idx)) ∧
     (h.sub = 4 → ∀ v, latched s.dev m (regSpace m addr - 4) = some v → Gives (.latchedRead t m addr 4) s fun d =>
       d.out = .rdata m 4 (v / 2 ^ 32 % 2 ^ 32) :: s.dev.out ∧ latched d m (regSpace m addr - 4) = none ∧
       ∀ f i, getF d f i = getF s.dev f i)) ∧
  (∀ (s : State) (t : Nat) (m : Fin 8) (whole : Bool), canAccess s.dev m = true →
     reaches s.dev m (mtxAddr dpllHfnAt) (if whole then 8 else 4) false = true → Gives (.dpllSnapshotRead t m whole) s fun d =>
     d.out = .rdata m (if whole then 8 else 4) (hfn (s.dev.at t) % 2 ^ (if whole then 64 else 32)) :: s.dev.out ∧
     ∀ k < 5, ∃ h, locateReg (dpllHfnAt + 8 * k) = some h ∧
       latched d m (dpllHfnAt + 8 * k) = some (regVal (s.dev.at t) h.d h.idx))

/-- A HIF access to an offset that holds no register, and a HIF write to the SEC, FUSE, BELAY or JRN window or the other HIF's window,
increments HIF_ERRCNT.DECODE and nothing else: the write is discarded, the read returns all ones, and no FLT_STATUS bit is set (R317). An
access of a size or alignment that the registers do not take, or outside what the requester reaches, returns all ones if it is a read;
write or read, it sets FLT_STATUS.MTX, bit 41 (R9, R499). -/
def Obligations.FailedAccessesAreReported : Prop :=
  (∀ (s : State) (t : Nat) (m : Fin 8) (addr size v : Nat), (m = 2 ∨ m = 3) → canAccess s.dev m = true → hostBar m addr = 0 →
     sizeFits (regSpace m addr) size = true →
     ((locateReg (regSpace m addr) = none ∨ hifBlocked m (regSpace m addr) = true) → Gives (.registerWrite t m addr size v) s fun d =>
       d = satAdd (s.dev.at t) F.HIF_ERRCNT_DECODE (m - 2 : Nat) 1) ∧
     (locateReg (regSpace m addr) = none → Gives (.rcRead t m addr size) s fun d =>
       d = emit (satAdd (s.dev.at t) F.HIF_ERRCNT_DECODE (m - 2 : Nat) 1) (.rdata m size (2 ^ (8 * size) - 1)))) ∧
  (∀ (s : State) (t : Nat) (m : Fin 8) (addr size v : Nat), canAccess s.dev m = true → hostBar m addr = 0 →
     (sizeFits (regSpace m addr) size = false ∨ reaches s.dev m (mtxAddr (regSpace m addr)) size true = false →
       Gives (.registerWrite t m addr size v) s fun d => bit (getF d F.FLT_STATUS_BITS 0) 41 = true) ∧
     (sizeFits (regSpace m addr) size = false ∨ reaches s.dev m (mtxAddr (regSpace m addr)) size false = false →
       Gives (.rcRead t m addr size) s fun d => bit (getF d F.FLT_STATUS_BITS 0) 41 = true ∧ .rdata m size (2 ^ (8 * size) - 1) ∈ d.out))

/-- Writes of the matrix's own registers. A policy processor's write of 1 sets LOCK; once LOCK is 1, a write of 0 to it and a write of a
window are discarded and set MTX_STAT.LOCK_ERR; while it is 0, a window register takes the value. A processor writes its own REMAP
bit, and either of them the HIFs' (R500, R503, R508). -/
def Obligations.MatrixRegistersAreGuarded : Prop :=
  ∀ (s : State) (t : Nat) (m : Fin 8), isPp m = true →
    (Gives (.mtxLockWrite t m 1) s fun d => getF d F.MTX_CTRL_LOCK 0 = 1) ∧
    (getF s.dev F.MTX_CTRL_LOCK 0 = 1 → Gives (.mtxLockWrite t m 0) s fun d =>
      getF d F.MTX_CTRL_LOCK 0 = 1 ∧ getF d F.MTX_STAT_LOCK_ERR 0 = 1) ∧
    (getF s.dev F.MTX_CTRL_LOCK 0 = 1 → ∀ (w : Fin 24) (lim : Bool) (v : Nat), Gives (.mtxWinWrite t m w lim v) s fun d =>
      d = setF (s.dev.at t) F.MTX_STAT_LOCK_ERR 0 1) ∧
    (getF s.dev F.MTX_CTRL_LOCK 0 = 0 → ∀ (w : Fin 24) (v : Nat),
      (Gives (.mtxWinWrite t m w false v) s fun d => getF d F.MTX_WIN_BASE_BASE w = bits v 12 36 ∧
        getF d F.MTX_WIN_BASE_W w = bits v 1 1 ∧ getF d F.MTX_WIN_BASE_R w = bits v 0 1) ∧
      (Gives (.mtxWinWrite t m w true v) s fun d => getF d F.MTX_WIN_LIM_LAST w = bits v 12 36)) ∧
    (∀ v : Fin 2, (m = 0 → Gives (.mtxRemapWrite t m 0 v) s fun d => getF d F.MTX_CTRL_REMAP_PP0 0 = v) ∧
      (m = 1 → Gives (.mtxRemapWrite t m 1 v) s fun d => getF d F.MTX_CTRL_REMAP_PP1 0 = v) ∧
      (Gives (.mtxRemapWrite t m 2 v) s fun d => getF d F.MTX_CTRL_REMAP_HIF0 0 = v) ∧
      (Gives (.mtxRemapWrite t m 3 v) s fun d => getF d F.MTX_CTRL_REMAP_HIF1 0 = v))

/-- One transaction of a policy processor's current epoch that passes the checks of R499: a write of control SRAM stores the value least
significant byte first and leaves every other byte, a read of control SRAM outside the engines' part answers the bytes there, and the
device's registers are unchanged (R5, R497). A failed transaction of the matrix counts in MTX_ERRCNT, and while MTX_ERR_INFO.VALID is
clear it is latched there with its KIND, direction and master; MTX_TIMEOUT gives KIND 4, a transaction that fails a check the KIND of the
first it fails, and either sets FLT_STATUS.MTX (R499). -/
def Obligations.MatrixServesAndReports : Prop :=
  (∀ (s : State) (t : Nat) (r : MtxReq), r.master < 2 → isRetired s.dev r = false → reqKind s.dev r = 0 →
     mtxTarget (physAddr s.dev r.master r.addr) = 2 →
     (r.write = true → ∃ u, exec (.mtxTransaction t [r]) s = .next u ∧
       (∀ k < r.size, mget 0 u.mem (physAddr s.dev r.master r.addr + k) = BitVec.ofNat 8 (r.value / 256 ^ k)) ∧
       (∀ a, a < physAddr s.dev r.master r.addr ∨ physAddr s.dev r.master r.addr + r.size ≤ a → mget 0 u.mem a = mget 0 s.mem a) ∧
       ∀ f i, getF u.dev f i = getF s.dev f i) ∧
     (r.write = false → engineOwned (physAddr s.dev r.master r.addr) = false → ∃ u, exec (.mtxTransaction t [r]) s = .next u ∧
       u.dev.out = .rdata r.master r.size (readMem s.mem (physAddr s.dev r.master r.addr) r.size) :: s.dev.out ∧
       ∀ f i, getF u.dev f i = getF s.dev f i)) ∧
  (∀ (s : State) (t : Nat) (r : MtxReq), r.master < 4 → isRetired s.dev r = false → getF s.dev F.MTX_ERR_INFO_VALID 0 = 0 →
     (reqKind s.dev r = 0 → Gives (.mtxTimeout t r) s fun d => getF d F.MTX_ERR_INFO_VALID 0 = 1 ∧ getF d F.MTX_ERR_INFO_KIND 0 = 4 ∧
       getF d F.MTX_ERR_INFO_MASTER 0 = r.master ∧ getF d F.MTX_ERR_INFO_WRITE 0 = b2n r.write ∧ bit (getF d F.FLT_STATUS_BITS 0) 41 = true) ∧
     (reqKind s.dev r ≠ 0 → ∃ u, exec (.mtxTransaction t [r]) s = .next u ∧ u.mem = s.mem ∧ getF u.dev F.MTX_ERR_INFO_VALID 0 = 1 ∧
       getF u.dev F.MTX_ERR_INFO_KIND 0 = reqKind s.dev r ∧ getF u.dev F.MTX_ERR_INFO_MASTER 0 = r.master ∧
       getF u.dev F.MTX_ERR_INFO_WRITE 0 = b2n r.write ∧ bit (getF u.dev F.FLT_STATUS_BITS 0) 41 = true ∧
       getF u.dev F.MTX_ERRCNT_COUNT 0 = min (getF s.dev F.MTX_ERRCNT_COUNT 0 + 1) (2 ^ F.MTX_ERRCNT_COUNT.width - 1)))

/-! Host interface and rings (R315 to R340). -/

namespace Sys2Proof.Claims

/-- The doorbell value is one that ring `r` of HIF `h` takes: the ring is enabled and not adopted, and the value lies inside it. -/
structure DoorbellTaken (d : Dev) (h r value size : Nat) : Prop where
  enabled : getF d F.CRING_CFG_EN (ix h r) = 1
  own : isAdopted d h r = false
  inside : value < size

/-- The commands of rings, doorbells, timers and the HIF link, acceptance and PERST apart. -/
def isRingCmd : Instr → Prop
  | .commandDoorbell .. | .writebackWrite .. | .completionDoorbell .. | .eventDoorbell .. | .coalesceTimer .. | .eventIrqTimer ..
  | .cringEnable .. | .cringDisable .. | .cringResume .. | .cplCoalesceWrite .. | .evtRingEnable .. | .hifLinkChange .. => True
  | _ => False

/-- The register fields of a HIF that its rings' own working changes: indices, backlog, lost events, error counts, state and link. -/
def ringFields : List Fld :=
  [F.CRING_CFG_EN, F.CRING_PROD_PROD, F.CRING_CONS_CONS, F.CPL_PROD_PROD, F.CPL_CONS_CONS, F.CPL_STAT_BACKLOG, F.CPL_CFG_COAL_US,
   F.CPL_CFG_COAL_N, F.HIF_EVT_CFG_EN, F.HIF_EVT_STAT_PROD, F.HIF_EVT_STAT_CONS, F.HIF_EVT_STAT_LOST, F.HIF_ERRCNT_DB_IGNORED,
   F.HIF_ERRCNT_DB_RANGE, F.HIF_ERRCNT_DMA, F.HIF_STAT_STATE, F.HIF_STAT_SPEED, F.HIF_STAT_WIDTH]

/-- The next command of the round-robin (R329) is command `d`, `b` of ring `r` of HIF `h`. -/
def Offered (s : Dev) (h r : Nat) : Prop := r < 16 ∧ ∃ taken, nextRing s = some (16 * h + r, taken)

end Sys2Proof.Claims

/-- COMMAND_DOORBELL on a ring that takes the value: in ACTIVE the producer index becomes the value, in UP it is latched and no register
changes; in RESET and DOWN nothing happens; on a disabled or adopted ring it is discarded and counted (R318, R321). COMPLETION_DOORBELL in
ACTIVE moves the consumer index, and every completion it passes is consumed; EVENT_DOORBELL in ACTIVE moves the event ring's consumer
index. In UP either is latched (R318, R331, R334). A HIF's write at a doorbell's place in BAR2 is that doorbell with its low 32 bits; a write
elsewhere there is discarded and counted in DECODE, and BAR2 reads as 0 (R316, R318; log entry 122). -/
def Obligations.DoorbellsAct : Prop :=
  (∀ (s : State) (t : Nat) (h : Fin 2) (r : Fin 16) (value : Nat),
     (hifState s.dev h = 3 → DoorbellTaken s.dev h r value (cringSize s.dev h r) → Gives (.commandDoorbell t h r value) s fun d =>
       getF d F.CRING_PROD_PROD (ix h r) = value ∧ Only [] [F.CRING_PROD_PROD] s.dev d) ∧
     (hifState s.dev h = 2 → DoorbellTaken s.dev h r value (cringSize s.dev h r) → Gives (.commandDoorbell t h r value) s fun d =>
       (ringOf d h r).latch = some value ∧ d.regs = s.dev.regs) ∧
     (hifState s.dev h < 2 → Gives (.commandDoorbell t h r value) s fun d => d = s.dev.at t) ∧
     (2 ≤ hifState s.dev h → (getF s.dev F.CRING_CFG_EN (ix h r) = 0 ∨ isAdopted s.dev h r = true) →
       Gives (.commandDoorbell t h r value) s fun d => d = satAdd (s.dev.at t) F.HIF_ERRCNT_DB_IGNORED h 1)) ∧
  (∀ (s : State) (t : Nat) (h : Fin 2) (value : Nat),
     (∀ r : Fin 16, DoorbellTaken s.dev h r value (cplSize s.dev h r) →
       (hifState s.dev h = 3 → Gives (.completionDoorbell t h r value) s fun d =>
         getF d F.CPL_CONS_CONS (ix h r) = value ∧
         ∀ c ∈ (ringOf s.dev h r).entries.take ((value + cplSize s.dev h r - getF s.dev F.CPL_CONS_CONS (ix h r)) % cplSize s.dev h r),
           c.status ≠ stDup → ∀ j ∈ d.ctl.recs, j.jsn = c.jsn → j.consumed = true) ∧
       (hifState s.dev h = 2 → Gives (.completionDoorbell t h r value) s fun d =>
         (ringOf d h r).cplLatch = some value ∧ d.regs = s.dev.regs)) ∧
     (getF s.dev F.HIF_EVT_CFG_EN h = 1 → value < ringSize (getF s.dev F.HIF_EVT_CFG_LOG2_SIZE h) →
       (hifState s.dev h = 3 → Gives (.eventDoorbell t h value) s fun d => getF d F.HIF_EVT_STAT_CONS h = value) ∧
       (hifState s.dev h = 2 → Gives (.eventDoorbell t h value) s fun d => (hifOf d h).evtLatch = some value ∧ d.regs = s.dev.regs))) ∧
  (∀ (s : State) (t : Nat) (h : Fin 2) (m : Fin 8) (addr size v : Nat), (m : Nat) = 2 + h → canAccess s.dev m = true → hostBar m addr = 1 →
     (Gives (.rcRead t m addr size) s fun d => d = emit (s.dev.at t) (.rdata m size 0)) ∧
     ((addr % 2 ^ 20 % 4096 ≠ 0 ∨ 0x20000 < addr % 2 ^ 20) → Gives (.registerWrite t m addr size v) s fun d =>
       d = satAdd (s.dev.at t) F.HIF_ERRCNT_DECODE h 1) ∧
     (size = 4 ∨ size = 8 →
       (∀ r : Fin 16, addr % 2 ^ 20 = 4096 * r → exec (.registerWrite t m addr size v) s = exec (.commandDoorbell t h r (v % 2 ^ 32)) s) ∧
       (∀ r : Fin 16, addr % 2 ^ 20 = 0x10000 + 4096 * r →
         exec (.registerWrite t m addr size v) s = exec (.completionDoorbell t h r (v % 2 ^ 32)) s) ∧
       (addr % 2 ^ 20 = 0x20000 → exec (.registerWrite t m addr size v) s = exec (.eventDoorbell t h (v % 2 ^ 32)) s)))

/-- COMMAND_ACCEPT of the command that the round-robin offers. A new CMD_ID takes the next JSN, enters the journal with its descriptor,
becomes CRING_LASTID, and the consumer index passes it; a CMD_ID at or below CRING_LASTID is passed with no JSN; a failed DMA read stops
the ring with cause 2 and the consumer index stays (R325, R326, R328). -/
def Obligations.CommandAcceptActs : Prop :=
  ∀ (s : State) (t h r : Nat) (ack : Bool) (desc buf : Bytes), Offered (s.dev.at t) h r → role s.dev ≠ 2 →
    (getF s.dev F.JRN_STAT_PEER 0 = 1 → ack = true) →
    (mget 0 s.dev.ctl.lastId (16 * h + r) < dCmdId desc → (∀ j ∈ s.dev.ctl.recs, j.jsn ≤ getF s.dev F.JRN_HEAD_HEAD_JSN 0) →
      getF s.dev F.JRN_HEAD_HEAD_JSN 0 + 1 < 2 ^ F.JRN_HEAD_HEAD_JSN.width → Gives (.commandAccept t (some (desc, buf)) ack) s fun d =>
      getF d F.JRN_HEAD_HEAD_JSN 0 = getF s.dev F.JRN_HEAD_HEAD_JSN 0 + 1 ∧ mget 0 d.ctl.lastId (16 * h + r) = dCmdId desc ∧
      getF d F.CRING_CONS_CONS (ix h r) = (getF s.dev F.CRING_CONS_CONS (ix h r) + 1) % cringSize s.dev h r % 2 ^ F.CRING_CONS_CONS.width ∧
      ∃ j, recOf d (getF s.dev F.JRN_HEAD_HEAD_JSN 0 + 1) = some j ∧ j.desc = desc ∧ j.hif = h ∧ j.ring = r) ∧
    (dCmdId desc ≤ mget 0 s.dev.ctl.lastId (16 * h + r) → Gives (.commandAccept t (some (desc, buf)) ack) s fun d =>
      getF d F.JRN_HEAD_HEAD_JSN 0 = getF s.dev F.JRN_HEAD_HEAD_JSN 0 ∧ d.ctl.lastId = s.dev.ctl.lastId ∧
      getF d F.CRING_CONS_CONS (ix h r) = (getF s.dev F.CRING_CONS_CONS (ix h r) + 1) % cringSize s.dev h r % 2 ^ F.CRING_CONS_CONS.width) ∧
    (Gives (.commandAccept t none ack) s fun d => mget 0 d.ctl.stop (16 * h + r) = 2 ∧
      getF d F.CRING_CONS_CONS (ix h r) = getF s.dev F.CRING_CONS_CONS (ix h r) ∧ d.ctl.lastId = s.dev.ctl.lastId ∧
      getF d F.HIF_ERRCNT_DMA h = min (getF s.dev F.HIF_ERRCNT_DMA h + 1) (2 ^ F.HIF_ERRCNT_DMA.width - 1))

/-- Setting up a ring. CRING_ENABLE from 0 sets EN, zeroes the indices and takes an adopted ring back; CRING_DISABLE clears EN and nothing
else; CRING_RESUME clears this ring's stop and no other; EVT_RING_ENABLE from 0 sets EN and, with no DURABLE held, zeroes the indices and
sets PHASE 1 (R320, R321, R328, R333, R337). Signals and write-backs. WRITEBACK_WRITE writes a waiting consumer index once a microsecond
has passed, before any completion that waits behind it; COALESCE_TIMER and EVENT_IRQ_TIMER send their ring's message once COAL_US or MIN_US have passed; CPL_COALESCE_WRITE sets both
fields, and sends at once what the new COAL_N already covers (R325, R332, R334). A message on a masked vector sets the vector's pending bit
instead, and the unmasking write sends it (R316, R332; the masking is PCIe's, log entry 74). -/
def Obligations.RingsSetUpAndSignal : Prop :=
  (∀ (s : State) (t : Nat) (h : Fin 2) (r : Fin 16),
     (getF s.dev F.CRING_CFG_EN (ix h r) = 0 → Gives (.cringEnable t h r) s fun d =>
       getF d F.CRING_CFG_EN (ix h r) = 1 ∧ getF d F.CRING_PROD_PROD (ix h r) = 0 ∧ getF d F.CRING_CONS_CONS (ix h r) = 0 ∧
       getF d F.CPL_CONS_CONS (ix h r) = 0 ∧ isAdopted d h r = false) ∧
     (Gives (.cringDisable t h r) s fun d => getF d F.CRING_CFG_EN (ix h r) = 0 ∧
       ∀ f i, fkey f i ≠ fkey F.CRING_CFG_EN (ix h r) → getF d f i = getF s.dev f i) ∧
     (Gives (.cringResume t h r) s fun d => mget 0 d.ctl.stop (16 * h + r) = 0 ∧
       (∀ k, k ≠ 16 * (h : Nat) + r → mget 0 d.ctl.stop k = mget 0 s.dev.ctl.stop k) ∧ d.regs = s.dev.regs) ∧
     (getF s.dev F.HIF_EVT_CFG_EN h = 0 → (hifOf s.dev h).heldDur = none → Gives (.evtRingEnable t h) s fun d =>
       getF d F.HIF_EVT_CFG_EN h = 1 ∧ getF d F.HIF_EVT_STAT_PROD h = 0 ∧ getF d F.HIF_EVT_STAT_CONS h = 0 ∧ (hifOf d h).evtPhase = 1)) ∧
  (∀ (s : State) (t : Nat) (h : Fin 2) (r : Fin 16), hifState s.dev h = 3 →
     ((ringOf s.dev h r).wbPend = true → (∀ a, (ringOf s.dev h r).wbAt = some a → a + 54000 ≤ t) →
       getF s.dev F.HIF_WB_BASE_BASE h ≠ 0 → Gives (.writebackWrite t h r) s fun d =>
       .dma h (getF s.dev F.HIF_WB_BASE_BASE h * 128 + 8 * r) 8 (getF s.dev F.CRING_CONS_CONS (ix h r)) ∈ d.out ∧
       (ringOf d h r).wbPend = false ∧ (ringOf d h r).wbAt = some t ∧
       ((ringOf s.dev h r).waiting = [] →
         d.out = .dma h (getF s.dev F.HIF_WB_BASE_BASE h * 128 + 8 * r) 8 (getF s.dev F.CRING_CONS_CONS (ix h r)) :: s.dev.out)) ∧
     (∀ a, (ringOf s.dev h r).coalAt = some a → getF s.dev F.CPL_CFG_COAL_US (ix h r) ≠ 0 →
       a + getF s.dev F.CPL_CFG_COAL_US (ix h r) * 54000 ≤ t → Gives (.coalesceTimer t h r) s fun d =>
       (ringOf d h r).unsig = 0 ∧
       (vecMasked (hifOf s.dev h) (getF s.dev F.CPL_CFG_VEC (ix h r)) = false →
         d.out = .msix h (getF s.dev F.CPL_CFG_VEC (ix h r)) :: s.dev.out) ∧
       (vecMasked (hifOf s.dev h) (getF s.dev F.CPL_CFG_VEC (ix h r)) = true →
         d.out = s.dev.out ∧ bit (hifOf d h).pba (getF s.dev F.CPL_CFG_VEC (ix h r)) = true)) ∧
     ((hifOf s.dev h).evtIrqPend = true → (∀ a, (hifOf s.dev h).evtIrqAt = some a → a + getF s.dev F.HIF_EVT_CFG_MIN_US h * 54000 ≤ t) →
       Gives (.eventIrqTimer t h) s fun d => (hifOf d h).evtIrqAt = some t ∧ (hifOf d h).evtIrqPend = false ∧
       (vecMasked (hifOf s.dev h) (getF s.dev F.HIF_EVT_CFG_VEC h) = false →
         d.out = .msix h (getF s.dev F.HIF_EVT_CFG_VEC h) :: s.dev.out)) ∧
     (∀ us n, Gives (.cplCoalesceWrite t h r us n) s fun d =>
       getF d F.CPL_CFG_COAL_US (ix h r) = us % 2 ^ F.CPL_CFG_COAL_US.width ∧ getF d F.CPL_CFG_COAL_N (ix h r) = n % 2 ^ F.CPL_CFG_COAL_N.width ∧
       (0 < n → n < 2 ^ F.CPL_CFG_COAL_N.width → n ≤ (ringOf s.dev h r).unsig →
         vecMasked (hifOf s.dev h) (getF s.dev F.CPL_CFG_VEC (ix h r)) = false →
         .msix h (getF s.dev F.CPL_CFG_VEC (ix h r)) ∈ d.out ∧ (ringOf d h r).unsig = 0)) ∧
     (∀ (m : Fin 8) (addr : Nat) (v : Fin 64), (m : Nat) = 2 + h → hostBar m addr = 2 → addr % 2 ^ 12 = 16 * v + 12 →
       (Gives (.registerWrite t m addr 4 1) s fun d => vecMasked (hifOf d h) v = true) ∧
       (bit (hifOf s.dev h).pba v = true → Gives (.registerWrite t m addr 4 0) s fun d =>
         vecMasked (hifOf d h) v = false ∧ .msix h v ∈ d.out ∧ bit (hifOf d h).pba v = false)))

/-- HIF_PERST asserted takes the HIF to RESET with every register of it at its reset value, but for the counts of completions held
(CPL_STAT.BACKLOG, log entry 116); released, its request is withdrawn.
HIF_LINK_CHANGE of a HIF not held in reset gives it DOWN, UP or ACTIVE by its link, Bus Master Enable and power state
(R319, R336). -/
def Obligations.HifStatesFollow : Prop :=
  ∀ (s : State) (t : Nat) (h : Fin 2),
    (Gives (.hifPerst t h true) s fun d => (hifOf d h).perst = true ∧ hifState d h = 0 ∧
      ∀ f i, codeBlk (f.code % 262144) = blkHif → f.code ≠ F.CPL_STAT_BACKLOG.code → i % 2 = h → getF d f i = resetAt f i) ∧
    (Gives (.hifPerst t h false) s fun d => (hifOf d h).perst = false) ∧
    ∀ (link bme d0 : Bool) (speed width : Nat), hifHeld s.dev h = false → Gives (.hifLinkChange t h link bme d0 speed width) s fun d =>
      hifState d h = (if link = false then 1 else if bme = true ∧ d0 = true then 3 else 2) ∧
      getF d F.HIF_STAT_SPEED h = (if link then speed else 0) % 2 ^ F.HIF_STAT_SPEED.width

/-! House timing and references (R18 to R70). -/

namespace Sys2Proof.Claims

/-- Every reference of the priority list is one that R52 lists. -/
def PrioListed (d : Dev) : Prop := ∀ r ∈ prioList d, refListed r = true

/-- The commands of the DPLL and its references. -/
def isRefCmd : Instr → Prop
  | .refLossOfSignal .. | .refQualWindow .. | .refWtrExpire .. | .dpllLocked .. | .refSlewComplete .. | .peerTiming .. | .houseTimeSnapshot .. => True
  | _ => False

end Sys2Proof.Claims

/-- HOUSE_TIME_SNAPSHOT reaches planes A and B and the control domain; PEER_TIMING records the peer's time and the round trip; neither
changes anything else (R19, R68). CLOCK_MONITOR_WINDOW: a count within 12.5 % of nominal clears the run of bad windows; the first bad
window sets nothing; the second in a row sets the clock's FLT_STATUS bit with CAUSE 0x01. A standby processor's clock is not counted
(R20). -/
def Obligations.TimeAndClocksAreKept : Prop :=
  (∀ (s : State) (t : Nat),
     (Gives (.houseTimeSnapshot t) s fun d => (∀ k < 3, mget 0 d.tim.snap k = t + 1) ∧
       d = { s.dev.at t with tim := { s.dev.tim with snap := d.tim.snap } }) ∧
     ∀ peerTime rtt, Gives (.peerTiming t peerTime rtt) s fun d => d.tim.peerTime = peerTime ∧ d.tim.peerRtt = rtt ∧
       d = { s.dev.at t with tim := { s.dev.tim with peerTime := peerTime, peerRtt := rtt } }) ∧
  (∀ (s : State) (t count : Nat) (c : Fin 9),
     (((c : Nat) = 5 ∨ (c : Nat) = 6) → getF s.dev F.BELAY_STAT_ACTIVE_PP 0 ≠ (c : Nat) - 5 →
       Gives (.clockMonitorWindow t c count) s fun d => d = s.dev.at t) ∧
     ((((c : Nat) = 5 ∨ (c : Nat) = 6) → getF s.dev F.BELAY_STAT_ACTIVE_PP 0 = (c : Nat) - 5) →
       (countBad (nominalCount s.dev c) count = false → Gives (.clockMonitorWindow t c count) s fun d =>
         mget 0 d.tim.badWin c = 0 ∧ d.regs = s.dev.regs) ∧
       (countBad (nominalCount s.dev c) count = true → mget 0 s.dev.tim.badWin c = 0 → Gives (.clockMonitorWindow t c count) s fun d =>
         mget 0 d.tim.badWin c = 1 ∧ d.regs = s.dev.regs) ∧
       (countBad (nominalCount s.dev c) count = true → mget 0 s.dev.tim.badWin c = 1 → Gives (.clockMonitorWindow t c count) s fun d =>
         mget 0 d.tim.badWin c = 2 ∧ bit (getF d F.FLT_STATUS_BITS 0) (clockBit c) = true ∧ getF d F.FLT_CAUSE_CAUSE (clockBit c) = 1)))

/-- REF_LOSS_OF_SIGNAL: the reference is absent, and ABSENT or DISQUALIFIED; the DPLL leaves it if it was selected, and with no other
reference usable enters holdover (R52, R59, R62, R64). REF_QUAL_WINDOW: the NCO's value is recorded; the third good window in a row of a
reference that qualifies makes it QUALIFIED, and an offset beyond the hard limit makes a QUALIFIED reference FAILED (R59, R60, R64).
REF_WTR_EXPIRE in revertive mode moves the DPLL to the QUALIFIED reference that outranks the selected one once its wait is complete;
DPLL_LOCKED makes an acquiring DPLL LOCKED once the criterion has held for 1/bandwidth; REF_SLEW_COMPLETE ends the slew with no build-out
left (R58, R62, R63, R67). -/
def Obligations.ReferencesAreFollowed : Prop :=
  (∀ (s : State) (t r : Nat) (obs : List RefObs), PrioListed s.dev → r ∈ prioList s.dev → Gives (.refLossOfSignal t r obs) s fun d =>
     (refSt d r).present = false ∧ (refSt d r).state = (if (refSt s.dev r).state ≤ 1 then 0 else 4) ∧
     (selRef s.dev = r → selRef d ≠ r ∧
       ((∀ q ∈ prioList s.dev, q ≠ r → (refSt s.dev q).state ≠ 2 ∧ (refSt s.dev q).state ≠ 3) → dpllMode d = 3 ∧ selRef d = 0))) ∧
  (∀ (s : State) (t : Nat) (nco : Int),
     (Gives (.refQualWindow t nco []) s fun d => getF d F.DPLL_NCO_NCO 0 = usgn 32 (clampI 200000000 nco) % 2 ^ F.DPLL_NCO_NCO.width) ∧
     ∀ o : RefObs, o.ref ∈ prioList s.dev → o.present = true →
       ((refSt s.dev o.ref).state = 1 → (refSt s.dev o.ref).good = 2 → o.offset.natAbs ≤ s.dev.ctl.ref.hard * 10000 →
         Gives (.refQualWindow t nco [o]) s fun d => (refSt d o.ref).state = 2 ∧ (refSt d o.ref).qualAt = some t) ∧
       ((refSt s.dev o.ref).state = 2 → s.dev.ctl.ref.hard * 10000 < o.offset.natAbs →
         Gives (.refQualWindow t nco [o]) s fun d => (refSt d o.ref).state = 4)) ∧
  (∀ (s : State) (t : Nat),
     (∀ (r a : Nat) (obs : List RefObs), PrioListed s.dev → s.dev.ctl.ref.revertive = true → outranks s.dev r = true → selRef s.dev ≠ 0 →
       (refSt s.dev r).state = 2 → (refSt s.dev r).qualAt = some a → a + s.dev.ctl.ref.wtr * tickSec ≤ t →
       Gives (.refWtrExpire t r obs) s fun d => selRef d = r ∧ dpllMode d = 1) ∧
     (∀ since, selRef s.dev ≠ 0 → dpllMode s.dev = 1 → s.dev.tim.selAt ≤ since →
       since + lockSecs (getF s.dev F.DPLL_STATUS_BW 0) * tickSec ≤ t → Gives (.dpllLocked t since) s fun d =>
       dpllMode d = 2 ∧ getF d F.DPLL_STATUS_TRANSFER 0 = 0) ∧
     (getF s.dev F.DPLL_STATUS_SLEWING 0 = 1 → Gives (.refSlewComplete t) s fun d =>
       getF d F.DPLL_STATUS_SLEWING 0 = 0 ∧ getF d F.DPLL_BUILDOUT_BUILDOUT 0 = 0))

/-- HOUSE_FRAME_START counts the frame, and a NOP that waits for it completes in it; HOUSE_RATE_CHANGE at a frame start common to both
rates puts the waiting rate in force and leaves no AT_FRAME command pending (R50, R51, R82, R348). -/
def Obligations.FramesAndRates : Prop :=
  ∀ (s : State) (t : Nat),
    (∀ (obs : List RefObs) (x : Pend) (j : JRec), t % framePeriod s.dev.ctl.ref.rate = 0 → s.dev.ctl.pend = [x] → x.op = 0x00 →
      x.frame ≤ hfnAt s.dev t → recOf s.dev x.jsn = some j → j.dec = none → isFollower s.dev = false →
      s.dev.jrn.outage = false →
      Gives (.houseFrameStart t obs) s fun d => d.tim.lastFrame = hfnAt s.dev t ∧ d.ctl.pend = [] ∧
      Decided d x.jsn stDone (hfnAt s.dev t) 0) ∧
    (∀ r n, s.dev.ctl.rateWait = some (r, n) → frameStart s.dev n ≤ t → t % framePeriod s.dev.ctl.ref.rate = 0 → t % framePeriod r = 0 →
      Gives (.houseRateChange t) s fun d => d.ctl.ref.rate = r ∧ d.ctl.rateWait = none ∧ ∀ q ∈ d.ctl.pend, q.atFrame = false)

/-! Sources, synchronisers and budgets (R42 to R48, R96 to R120, R25). -/

namespace Sys2Proof.Claims

/-- Source `n` of plane `p` shows again the format it already has, `off` ticks from its nominal place, and no mode change waits (R43, R44). -/
structure Steady (d : Dev) (p n : Nat) (o : SrcObs) (off : Int) : Prop where
  outer : n < 1536
  signal : o.signal = true
  place : o.offset = some off
  known : (srcSt d p n).known = true
  fmt : (srcSt d p n).fmt = o.fmt
  iface : (srcSt d p n).iface = o.iface
  frac : (srcSt d p n).frac = o.frac
  samp : (srcSt d p n).sampling = o.samp
  enc : (srcSt d p n).enc = o.enc
  listed : o.fmt ≠ 0
  settled : (srcSt d p n).modeAt = none

/-- The synchroniser of source `n` is reading, has had no underrun, and no GROUP_HOLD team depends on it (R96, R100, R115). -/
structure Reading (d : Dev) (p n : Nat) : Prop where
  active : (fsSt d p n).active = true
  filled : (fsSt d p n).empty = false
  sound : (fsSt d p n).underrun ≠ 2
  alone : ∀ e ∈ teamsFedBy d p n, e.2.policy ≠ 0

/-- The register fields of sources, synchronisers, bands and charges. -/
def srcFields : List Fld :=
  [F.PLN_SRCSTAT_KIND, F.PLN_SRCSTAT_FORMAT, F.PLN_SRCSTAT_IFACE, F.PLN_SRCSTAT_FRAC, F.PLN_SRCSTAT_LINK, F.PLN_SRCSTAT_DS,
   F.PLN_SRCSTAT_RATE_MISMATCH, F.PLN_SRCSTAT_MISTIMED, F.PLN_SRCPOS_OFFSET, F.PLN_SKEW_SKEW, F.PLN_FSSTAT_PRIO, F.PLN_FSSTAT_SHEDDABLE,
   F.PLN_FSSTAT_MODE, F.PLN_FSSTAT_SHED, F.PLN_FSSTAT_PAGES, F.PLN_FSSTAT_FILL, F.PLN_FSSTAT_LAST_SLIP, F.PLN_FSSLIP_DROPS,
   F.PLN_FSSLIP_REPEATS, F.PLN_BAND_TEMP, F.PLN_BAND_BAND, F.HBM_REF_MULT, F.PLN_UNDERRUN_CNT_COUNT,
   F.PLN_LOAD_TOTAL_TOTAL, F.PLN_LOAD_NONSHED_NONSHED, F.PLN_LOAD_ACTIVE_ACTIVE, F.PLN_PAGES_USED, F.PLN_BAND_COMP_RUN]

/-- The commands of sources and synchronisers. -/
def isSyncCmd : Instr → Prop
  | .sourceFrameStart .. | .fsyncCutoff .. | .fsyncFrameComplete .. | .ipHoldExpire .. | .bandSensorRead .. | .underrun .. => True
  | _ => False

/-- The state in which a step of the power backstop chooses what to shed. -/
def shedAt (d : Dev) (t : Nat) : Dev := { d.at t with pln := { d.pln with pwrShed := some t } }

/-- Shed items for power (R25), oldest first. -/
def powerShed (d : Dev) : List (Nat × ShedItem) := d.ctl.shed.filter fun q => q.2.reason == 6

end Sys2Proof.Claims

/-- SOURCE_FRAME_START of a source in steady format gives the kind of R42's table: UNTIMED with RATE_MISMATCH outside the house family;
in mode PASS UNTIMED; in mode FSYNC FSYNC; in mode TIMED TIMED inside the timing window and UNTIMED with MISTIMED outside it; a source
with no signal is NONE from the next house frame start (R42, R44, R47). -/
def Obligations.SourceKindsFollow : Prop :=
  ∀ (s : State) (t : Nat) (p : Fin 2) (n : Fin 1600) (o : SrcObs),
    (∀ off, Steady s.dev p n o off →
      (inFamily s.dev.ctl.ref.rate (o.fmt % 16) = false → Gives (.sourceFrameStart t p n o) s fun d =>
        getF d F.PLN_SRCSTAT_KIND (ix p n) = 3 ∧ getF d F.PLN_SRCSTAT_RATE_MISMATCH (ix p n) = 1) ∧
      (inFamily s.dev.ctl.ref.rate (o.fmt % 16) = true →
        ((srcSt s.dev p n).mode = 2 → Gives (.sourceFrameStart t p n o) s fun d => getF d F.PLN_SRCSTAT_KIND (ix p n) = 3) ∧
        ((srcSt s.dev p n).mode = 1 → Gives (.sourceFrameStart t p n o) s fun d => getF d F.PLN_SRCSTAT_KIND (ix p n) = 2) ∧
        ((srcSt s.dev p n).mode = 0 → off.natAbs ≤ halfWidth s.dev p n (srcSt s.dev p n) → Gives (.sourceFrameStart t p n o) s fun d =>
          getF d F.PLN_SRCSTAT_KIND (ix p n) = 1 ∧ getF d F.PLN_SRCSTAT_MISTIMED (ix p n) = 0) ∧
        ((srcSt s.dev p n).mode = 0 → halfWidth s.dev p n (srcSt s.dev p n) < off.natAbs → Gives (.sourceFrameStart t p n o) s fun d =>
          getF d F.PLN_SRCSTAT_KIND (ix p n) = 3 ∧ getF d F.PLN_SRCSTAT_MISTIMED (ix p n) = 1))) ∧
    ((n : Nat) < 1536 → o.signal = false → t % framePeriod s.dev.ctl.ref.rate = 0 → Gives (.sourceFrameStart t p n o) s fun d =>
      getF d F.PLN_SRCSTAT_KIND (ix p n) = 0)

/-- FSYNC_CUTOFF of a reading synchroniser outside GROUP_HOLD teams: with no new frame it repeats (R104 gives an oversized source its
fallback instead), with one it reads it, with more it reads the newest and drops the rest, and counts repeats and drops. FSYNC_FRAME_COMPLETE adds the frame, overwriting the one that waits
when the reader uses the other buffer; IP_HOLD_EXPIRE closes the frame and counts it complete (R100, R102, R119, R120). -/
def Obligations.SynchronisersRead : Prop :=
  ∀ (s : State) (t m frame : Nat) (p : Fin 2) (n : Fin 1536),
    (Reading s.dev p n →
      ((fsSt s.dev p n).oversize = false → (fsSt s.dev p n).done = [] → (fsSt s.dev p n).lost = 0 → Gives (.fsyncCutoff t p n m) s fun d =>
        (fsSt d p n).slip = 1 ∧ (fsSt d p n).read = (fsSt s.dev p n).read ∧ getF d F.PLN_FSSTAT_LAST_SLIP (ix p n) = 1 ∧
        getF d F.PLN_FSSLIP_REPEATS (ix p n) = min (getF s.dev F.PLN_FSSLIP_REPEATS (ix p n) + 1) (2 ^ F.PLN_FSSLIP_REPEATS.width - 1)) ∧
      (∀ k, (fsSt s.dev p n).done = [k] → (fsSt s.dev p n).lost = 0 → Gives (.fsyncCutoff t p n m) s fun d =>
        (fsSt d p n).read = some k ∧ (fsSt d p n).done = [] ∧ (fsSt d p n).slip = 0 ∧
        getF d F.PLN_FSSLIP_REPEATS (ix p n) = getF s.dev F.PLN_FSSLIP_REPEATS (ix p n) ∧
        getF d F.PLN_FSSLIP_DROPS (ix p n) = getF s.dev F.PLN_FSSLIP_DROPS (ix p n)) ∧
      (2 ≤ fsCount (fsSt s.dev p n) → Gives (.fsyncCutoff t p n m) s fun d =>
        (fsSt d p n).read = (fsSt s.dev p n).done.getLast? ∧ (fsSt d p n).slip = 2 ∧ getF d F.PLN_FSSTAT_LAST_SLIP (ix p n) = 2 ∧
        getF d F.PLN_FSSLIP_DROPS (ix p n) =
          min (getF s.dev F.PLN_FSSLIP_DROPS (ix p n) + (fsCount (fsSt s.dev p n) - 1)) (2 ^ F.PLN_FSSLIP_DROPS.width - 1))) ∧
    ((fsSt s.dev p n).active = true → (fsSt s.dev p n).oversize = false →
      (frame ∉ (fsSt s.dev p n).done → Gives (.fsyncFrameComplete t p n frame) s fun d =>
        (fsSt d p n).done.getLast? = some frame ∧
        (∀ k r, (fsSt s.dev p n).read = some r → (fsSt s.dev p n).done = [k] → (fsSt d p n).done = [frame] ∧
          (fsSt d p n).lost = (fsSt s.dev p n).lost + 1)) ∧
      (frame ∉ (fsSt s.dev p n).closed → Gives (.ipHoldExpire t p n frame) s fun d =>
        frame ∈ (fsSt d p n).closed ∧ frame ∈ (fsSt d p n).done))

/-- BAND_SENSOR_READ records the temperature and moves the band by the bounds and hysteresis of R108, with the band's refresh multiple; a
rise calls for shedding. UNDERRUN counts and marks the reader's item for its fallback (R108, R111, R115, R117). The power backstop, with a
plane in HOT. A sample enters the average, and a rail that gives no reading is a WARN on PWR; while the average exceeds 360 W the next
sheddable item is shed, one in 100 ms; the item shed last for power returns once the plane has left HOT or the average has stayed low
(R25). -/
def Obligations.BudgetsAreKept : Prop :=
  (∀ (s : State) (t : Nat) (p : Fin 2),
     (∀ temp : Int, Gives (.bandSensorRead t p temp) s fun d =>
       getF d F.PLN_BAND_TEMP p = usgn 16 temp % 2 ^ F.PLN_BAND_TEMP.width ∧ bandOf d p = nextBand (bandOf s.dev p) temp ∧
       (nextBand (bandOf s.dev p) temp ≠ bandOf s.dev p → getF d F.HBM_REF_MULT p = refreshMult (bandOf d p)) ∧
       (bandOf s.dev p < nextBand (bandOf s.dev p) temp → (planeOf d p).shedDue = true)) ∧
     ∀ (kind : Fin 3) (n : Fin 1792), Gives (.underrun t p kind n) s fun d =>
       getF d F.PLN_UNDERRUN_CNT_COUNT p = min (getF s.dev F.PLN_UNDERRUN_CNT_COUNT p + 1) (2 ^ F.PLN_UNDERRUN_CNT_COUNT.width - 1) ∧
       (kind ≠ 1 → (fsSt d p n).underrun = 2) ∧ (kind = 1 → (dstSt d p n).underrun = 2)) ∧
  (∀ (s : State) (t : Nat),
     (hotPlanes s.dev ≠ [] →
       (∀ a b rail, Gives (.powerBackstopSample t (some (a, b)) rail) s fun d => d.pln.pwr.head? = some (a + b + 161000) ∧
         d.pln.pwrNone = false) ∧
       (∀ rail, s.dev.pln.pwrNone = false → Gives (.powerBackstopSample t none rail) s fun d => d.pln.pwrNone = true ∧
         bit (getF d F.FLT_STATUS_BITS 0) 47 = true ∧ getF d F.FLT_CAUSE_CAUSE 47 = 6)) ∧
     (hotPlanes s.dev ≠ [] → s.dev.pln.pwrNone = false → 360000 < pwrAvg s.dev → s.dev.pln.pwrShed = none →
       ∀ p i rest, ((pwrPlanes (shedAt s.dev t)).filterMap fun p => (pwrItem (shedAt s.dev t) p).map fun i => (p, i)) = (p, i) :: rest →
       Gives (.powerShedStep t) s fun d =>
         d.ctl.shed = s.dev.ctl.shed ++ [(p, { comp := i.comp, key := i.idx, reason := 6 })] ∧ d.pln.pwrShed = some t ∧
         (i.comp = true → getF d F.CMP_STAT_SHED (ix p i.idx) = 1) ∧ (i.comp = false → getF d F.PLN_FSSTAT_SHED (ix p i.idx) = 1)) ∧
     (∀ p i rise, (powerShed s.dev).getLast? = some (p, i) → s.dev.pln.pwrRest = none →
       (bandOf s.dev p ≠ 4 ∨ ∃ a, s.dev.pln.pwrLow = some a ∧ a + 10 * tickSec ≤ t) →
       (hotPlanes s.dev = [] ∨ pwrAvg s.dev + rise ≤ 350000) →
       Gives (.powerRestoreStep t rise) s fun d =>
         d.ctl.shed = (s.dev.ctl.shed.filter fun x => !(x.1 == p && x.2.comp == i.comp && x.2.key == i.key)) ∧
         (i.comp = true → getF d F.CMP_STAT_SHED (ix p i.key) = 0) ∧ (i.comp = false → getF d F.PLN_FSSTAT_SHED (ix p i.key) = 0)))

/-- The frame of the ring commands: of registers only the rings' own fields change, and beside them only the outputs, the rings' engine
state, and which completions are consumed, which rings adopted or stopped. COMMAND_ACCEPT also changes the journal, its head and
CRING_LASTID; HIF_PERST changes no register outside the HIFs and beside them only the reset requests (R315 to R340). The frame of the
DPLL's commands: of registers only the DPLL's, the journal's head and the event rings' places change, and beside them only the timing
engine, house time, the outputs, the host rings and the journal's counts (R49 to R72). The frame of the commands of sources, synchronisers
and bands: of registers only theirs and the load registers change, and beside them only the planes' engines, the links' CFG items, the outputs and the host rings (R42 to R48, R100 to
R115). -/
def Obligations.RegisterSideCommandsKeepTheRest : Prop :=
  (Frames isRingCmd (fun d u => Only [] ringFields d u ∧
     u = { d with now := u.now, regs := u.regs, out := u.out, host := u.host,
                  ctl := { d.ctl with recs := u.ctl.recs, adopted := u.ctl.adopted, stop := u.ctl.stop } }) ∧
   Frames (fun c => ∃ t f a, c = .commandAccept t f a) (fun d u => Only [] (jrnFields ++ ringFields) d u ∧
     u = { d with now := u.now, regs := u.regs, out := u.out, host := u.host, jrn := u.jrn,
                  ctl := { d.ctl with recs := u.ctl.recs, stop := u.ctl.stop, lastId := u.ctl.lastId } }) ∧
   Frames (fun c => ∃ t h a, c = .hifPerst t h a) (fun d u => Only [blkHif] [] d u ∧
     u = { d with now := u.now, regs := u.regs, out := u.out, host := u.host, rst := { d.rst with reqs := u.rst.reqs },
                  ctl := { d.ctl with recs := u.ctl.recs } })) ∧
  (Frames isRefCmd fun d u => Only [blkDpll] (jrnFields ++ evtFields) d u ∧
     u = { d with now := u.now, regs := u.regs, out := u.out, host := u.host, jrn := u.jrn, tim := u.tim }) ∧
  (Frames isSyncCmd fun d u => Only [] (srcFields ++ evtFields) d u ∧
     u = { d with now := u.now, regs := u.regs, out := u.out, host := u.host, pln := u.pln,
                  otl := { d.otl with links := u.otl.links } } ∧
     ∀ q l, lnkSt u q l = { lnkSt d q l with cfgSeq := (lnkSt u q l).cfgSeq, cfg := (lnkSt u q l).cfg })

/-! Switching, planes, merge and composition (R74 to R172). -/

namespace Sys2Proof.Claims

/-- Command `x`, of record `j`, is the one pending command; its one item waits at destination `d` of plane `p` and falls due by frame
`n`, and the route entry there was last written by an earlier JSN (R80, R82, R362). -/
structure DueAlone (s : Dev) (p d n : Nat) (x : Pend) (i : PItem) (j : JRec) : Prop where
  alone : s.ctl.pend = [x]
  item : x.items = [i]
  here : i.key = pkey s p d
  waits : i.state = 0
  due : x.frame ≤ n
  journalled : recOf s x.jsn = some j
  undecided : j.dec = none
  leads : isFollower s = false
  above : (routeOf s (pkey s p d)).jsn < x.jsn

/-- Egress of segment `k` of frame `n` from destination `d` of plane `p` is due now: the plane sends, the link and the slot carry, the
source is not UNTIMED, and time is within the segment's window (R121, R247, R259). -/
structure SendsNow (s : Dev) (t p d n k : Nat) : Prop where
  sends : planeSends s p = true
  flows : linkFlows s p (d / 64) = true
  kept : slotShed s p (d / 64) (d % 64) = false
  tile : bit (getF s F.PLN_STATE_TILE_FAIL p) (d / 64 / 3) = false
  slot : d % 64 < getF s F.OTL_GB_SLOTS (ix p (d / 64))
  inFrame : k < segCount (dstSt s p d).outFmt (egressIface s p d)
  sent : (dstSt s p d).sent = true
  timed : ∀ q, srcKind s q (dstSt s p d).shown ≠ 3
  from' : segTag s (dstSt s p d).outFmt (egressIface s p d) n k ≤ t
  till : t ≤ segTag s (dstSt s p d).outFmt (egressIface s p d) n k + windowTicks (ifaceRate (egressIface s p d)) false + 108000

/-- Segment `o` of source `n` arrives on plane `p`'s own link in good order: the link is aligned and carries the slot (R244 to R246). -/
structure GoodSegment (s : Dev) (p n : Nat) (o : SegObs) : Prop where
  own : o.own = true
  aligned : (lnkSt s p (n / 64)).needAlign = false
  good : segBad s o p (n / 64) (n % 64) = false
  flows : linkFlows s p (n / 64) = true
  slot : n % 64 < getF s F.OTL_GB_SLOTS (ix p (n / 64))

/-- The history of source `n` of plane `p` is live: something was accepted within the last 1 ms, or nothing yet (R129). -/
def LiveHistory (s : Dev) (t p n : Nat) : Prop := ∀ a, (mergeSt s (ix p n)).last = some a → t < a + 54000000

/-- The register fields of the merge. -/
def mergeFields : List Fld :=
  [F.OTL_CNT_CTL_DISC, F.OTL_CNT_SEG_DISC, F.PLN_MERGECNT_FILLED, F.PLN_MERGECNT_STALE, F.PLN_MERGECNT_WITHHELD, F.PLN_MERGECNT_CONCEALED]

/-- The commands of the merge and the egress. -/
def isMergeCmd : Instr → Prop
  | .segmentReceived .. | .mergeHistoryTimeout .. | .egressSegment .. => True
  | _ => False

end Sys2Proof.Claims

/-- Cairn numbers are ordered by FRAME in serial arithmetic modulo 4096, then by LINE, then by INDEX (R126). -/
def Obligations.CairnOrder : Prop :=
  ∀ fa la ia fb lb ib : Nat, fa < 4096 → la < 4096 → ia < 256 → fb < 4096 → lb < 4096 → ib < 256 →
    (cairnBefore (cairn fa la ia) (cairn fb lb ib) = true ↔
      (1 ≤ ((fb : Int) - fa) % 4096 ∧ ((fb : Int) - fa) % 4096 ≤ 2047) ∨ (fa = fb ∧ (la < lb ∨ (la = lb ∧ ia < ib))))

/-- SWITCHING_INSTANT with one command due at the destination. A TAKE that protection lets through routes the destination to its source,
completes, and is no longer pending; one that protection refuses completes with LOCKED and leaves the route; PROTECT sets the protection.
Every other destination's route is unchanged (R74, R82, R84, R91). SWITCHING_INSTANT with nothing pending evaluates the destination: its
cause is the lowest that holds, and PLN_DSTSTAT shows it; with no cause it shows its routed source, and with no usable fallback and no
repeat it shows black. A corrected error of the route entry is counted; a double-bit error sets the plane's FLT_STATUS bit and leaves the
destination as it was (R75, R82, R92). -/
def Obligations.SwitchingInstantsRun : Prop :=
  (∀ (s : State) (t : Nat) (p : Fin 2) (d : Fin 1792) (x : Pend) (i : PItem) (j : JRec), DueAlone s.dev p d (hfnAt s.dev t) x i j →
     (x.op = 0x10 → takeLocked (routeOf s.dev i.key) i.owner = false → Gives (.switchingInstant t p d 0) s fun u =>
       (routeOf u i.key).src = i.src ∧ (routeOf u i.key).srcPlane = i.srcPlane ∧ (routeOf u i.key).jsn = x.jsn ∧ u.ctl.pend = [] ∧
       Decided u x.jsn (doneStatus s.dev x.deferred) (hfnAt s.dev t) (takeDetail 0 0 x.reason) ∧
       ∀ k, k ≠ i.key → routeOf u k = routeOf s.dev k) ∧
     (x.op = 0x10 → takeLocked (routeOf s.dev i.key) i.owner = true → Gives (.switchingInstant t p d 0) s fun u =>
       Decided u x.jsn stLocked 0 (takeDetail 0 0 4) ∧ u.ctl.pend = [] ∧ u.ctl.routes = s.dev.ctl.routes) ∧
     (x.op = 0x12 → protLocked (routeOf s.dev i.key) i.owner = false → Gives (.switchingInstant t p d 0) s fun u =>
       (routeOf u i.key).prot = bits (le j.desc 26 1) 0 2 ∧ (routeOf u i.key).src = (routeOf s.dev i.key).src ∧ u.ctl.pend = [] ∧
       Decided u x.jsn (doneStatus s.dev x.deferred) (hfnAt s.dev t) 0 ∧ ∀ k, k ≠ i.key → routeOf u k = routeOf s.dev k)) ∧
  (∀ (s : State) (t : Nat) (p : Fin 2) (d : Fin 1792), s.dev.ctl.pend = [] →
     (Gives (.switchingInstant t p d 0) s fun u =>
       (dstSt u p d).cause = (causesOf s.dev p d).headD 0 ∧
       getF u F.PLN_DSTSTAT_CAUSE (ix p d) = (causesOf s.dev p d).headD 0 % 2 ^ F.PLN_DSTSTAT_CAUSE.width ∧
       getF u F.PLN_DSTSTAT_CONCEALING (ix p d) = b2n ((causesOf s.dev p d).headD 0 != 0) ∧
       (causesOf s.dev p d = [] → graceRep s.dev (if s.dev.ctl.pair then (routeOf s.dev (pkey s.dev p d)).srcPlane else p)
         (routeOf s.dev (pkey s.dev p d)).src = false → (dstSt u p d).shown = (routeOf s.dev (pkey s.dev p d)).src) ∧
       ((causesOf s.dev p d).headD 0 = 1 → fallbackOk s.dev p d (routeOf s.dev (pkey s.dev p d)) = false → (dstSt u p d).shown = 0x7FF) ∧
       u.ctl = s.dev.ctl) ∧
     (Gives (.switchingInstant t p d 1) s fun u =>
       getF u F.PLN_ROUTE_CE_COUNT p = min (getF s.dev F.PLN_ROUTE_CE_COUNT p + 1) (2 ^ F.PLN_ROUTE_CE_COUNT.width - 1)) ∧
     (Gives (.switchingInstant t p d 2) s fun u => bit (getF u F.FLT_STATUS_BITS 0) (19 + p) = true ∧ dstSt u p d = dstSt s.dev p d))

/-- PLANE_TRAINING_DONE takes a TRAINING plane with its stack READY and a link UP to SYNCING, its routes loaded; PLANE_STATE_TIMEOUT takes a
plane that has trained for 2 s or synchronised for 5 s to FAILED with its FLT_STATUS bit set (R121, R472). -/
def Obligations.PlanesTrainOrFail : Prop :=
  ∀ (s : State) (t : Nat) (p : Fin 2),
    (planeState s.dev p = 1 → getF s.dev F.HBM_STAT_STATE p = 2 → anyLinkUp s.dev p = true → Gives (.planeTrainingDone t p) s fun d =>
      planeState d p = 2 ∧ (planeOf d p).routesLoaded = true ∧ (planeOf d p).since = t) ∧
    ((planeState s.dev p = 1 ∧ (planeOf s.dev p).since + 2 * tickSec ≤ t ∨ planeState s.dev p = 2 ∧ (planeOf s.dev p).since + 5 * tickSec ≤ t) →
      Gives (.planeStateTimeout t p) s fun d => planeState d p = 5 ∧ bit (getF d F.FLT_STATUS_BITS 0) (19 + p) = true ∧
      getF d F.FLT_CAUSE_CAUSE (19 + p) = 0x0F)

/-- The merge. A good segment of a position not in the live history and not before its oldest is accepted into it; one in the history
changes nothing of it; one before the oldest counts STALE; a bad one is discarded and counted. MERGE_HISTORY_TIMEOUT clears a history that
has accepted nothing for 1 ms (R127 to R129, R245). EGRESS_SEGMENT that is due: a position present launches with its Cairn number and
flags, CONCEALED clear where it is the routed source's; a missing position is withheld and counted where the plane withholds, and
otherwise launched with CONCEALED and counted (R123, R130, R133, R247). -/
def Obligations.MergeAndEgress : Prop :=
  (∀ (s : State) (t : Nat) (p : Fin 2),
     (∀ (n : Fin 1152) (o : SegObs), GoodSegment s.dev p n o → LiveHistory s.dev t p n →
       (o.cairn ∉ (mergeSt s.dev (ix p n)).hist →
         (∀ c, (mergeSt s.dev (ix p n)).hist.getLast? = some c → cairnBefore o.cairn c = false) → Gives (.segmentReceived t p n o) s fun d =>
         (mergeSt d (ix p n)).hist = (o.cairn :: (mergeSt s.dev (ix p n)).hist).take 512 ∧ (mergeSt d (ix p n)).last = some t) ∧
       (o.cairn ∈ (mergeSt s.dev (ix p n)).hist → Gives (.segmentReceived t p n o) s fun d =>
         (mergeSt d (ix p n)).hist = (mergeSt s.dev (ix p n)).hist ∧ (mergeSt d (ix p n)).last = (mergeSt s.dev (ix p n)).last) ∧
       (o.cairn ∉ (mergeSt s.dev (ix p n)).hist → ∀ c, (mergeSt s.dev (ix p n)).hist.getLast? = some c → cairnBefore o.cairn c = true →
         Gives (.segmentReceived t p n o) s fun d => mergeSt d (ix p n) = mergeSt s.dev (ix p n) ∧
         getF d F.PLN_MERGECNT_STALE (ix p n) = min (getF s.dev F.PLN_MERGECNT_STALE (ix p n) + 1) (2 ^ F.PLN_MERGECNT_STALE.width - 1))) ∧
     (∀ (n : Fin 1152) (o : SegObs), o.own = true → (lnkSt s.dev p (n / 64 : Nat)).needAlign = false → o.crcOk = false →
       Gives (.segmentReceived t p n o) s fun d => d.pln = s.dev.pln ∧
       getF d F.OTL_CNT_SEG_DISC (ix p (n / 64 : Nat)) =
         min (getF s.dev F.OTL_CNT_SEG_DISC (ix p (n / 64 : Nat)) + 1) (2 ^ F.OTL_CNT_SEG_DISC.width - 1)) ∧
     (∀ (n : Fin 1536) (a : Nat), (mergeSt s.dev (ix p n)).last = some a → a + 54000000 ≤ t → Gives (.mergeHistoryTimeout t p n) s fun d =>
       mergeSt d (ix p n) = { gone := (mergeSt s.dev (ix p n)).gone })) ∧
  (∀ (s : State) (t n k src : Nat) (p : Fin 2) (d : Fin 1152), SendsNow s.dev t p d n k →
     (Gives (.egressSegment t p d n k false src) s fun u => ∃ fl : Nat,
       u.out = .seg p (d / 64 : Nat) (d % 64 : Nat) (cairn n (segPos (dstSt s.dev p d).outFmt (egressIface s.dev p d) k).1
         (segPos (dstSt s.dev p d).outFmt (egressIface s.dev p d) k).2) fl (dstSt s.dev p d).shown :: s.dev.out ∧
       bit fl 0 = (k == 0) ∧ bit fl 2 = notRouted s.dev p d ∧ bit fl 3 = false ∧ u.regs = s.dev.regs) ∧
     (withholds s.dev p = true → Gives (.egressSegment t p d n k true src) s fun u => u.out = s.dev.out) ∧
     (withholds s.dev p = false → Gives (.egressSegment t p d n k true src) s fun u => ∃ cn fl : Nat,
       u.out = .seg p (d / 64 : Nat) (d % 64 : Nat) cn fl (dstSt s.dev p d).shown :: s.dev.out ∧ bit fl 2 = true))

/-- COMP_PREFETCH of a live compositor puts out its frame with the taps it assigned; a COMP_STATE due at it sets RUN and completes in its
frame. LIBRARY_FLASH_COPY copies a slot to the flash copy of the library when a channel takes writes (R150, R165, R169, R190). -/
def Obligations.CompositorsOutput : Prop :=
  ∀ (s : State) (t : Nat),
    (∀ (p : Fin 2) (c : Fin 32) (px : List LayPix), s.dev.ctl.pend = [] → compLive s.dev p c = true → Gives (.compPrefetch t p c px) s fun d =>
      .frame p c ((cmpSt d p c).taps) ∈ d.out ∧ d.ctl = s.dev.ctl) ∧
    (∀ (p : Fin 2) (c : Fin 32) (px : List LayPix) (x : Pend) (j : JRec), s.dev.ctl.pend = [x] → x.op = 0x21 →
      recOf s.dev x.jsn = some j → j.op = 0x21 → j.dec = none → isFollower s.dev = false →
      pendCompKey s.dev j = pkey s.dev p c → (mechOf s.dev mkComp (pkey s.dev p c)).jsn < x.jsn →
      (t + prefetchLead s.dev (rasterOf s.dev (compRec s.dev p c))) % framePeriod s.dev.ctl.ref.rate = 0 →
      x.frame ≤ hfnAt s.dev (t + prefetchLead s.dev (rasterOf s.dev (compRec s.dev p c))) → Gives (.compPrefetch t p c px) s fun d =>
      runOf d (pkey s.dev p c) = bit (le j.desc 26 1) 0 ∧ getF d F.CMP_STAT_RUN (ix p c) = b2n (bit (le j.desc 26 1) 0) ∧ d.ctl.pend = [] ∧
      Decided d x.jsn (doneStatus s.dev x.deferred) x.frame 0) ∧
    (∀ (kind : Fin 2) (idx : Fin 1024) (ch : Fin 2), getF s.dev F.FLS_STAT_STATE ch = 3 → Gives (.libraryFlashCopy t kind idx) s fun d =>
      mget {} d.library (mkey (if kind.val = 0 then mkLut else mkStill) idx) = mechOf s.dev (if kind.val = 0 then mkLut else mkStill) idx ∧
      .flash ch (if kind.val = 0 then mkLut else mkStill) idx (leVal (mechOf s.dev (if kind.val = 0 then mkLut else mkStill) idx).data) ∈ d.out ∧
      d = { s.dev.at t with out := d.out, library := d.library })

/-! Audio engine and TDM ports (R192 to R240). -/

namespace Sys2Proof.Claims

/-- Destination channel `dc`, with no video destination, is the one with taps; its one tap `e` is enabled, fixed, unpaired, at unity gain
and not ramping, and reads the embedded channel of observation `o`, whose source is TIMED (R194, R200, R201). -/
structure Transparent (d : Dev) (p dc e : Nat) (o : SampObs) : Prop where
  high : 0xC000 ≤ dc
  alone : assocDest d p dc = none
  taps : d.ctl.taps = [(32 * dc, e)]
  still : (audSt d p).taps = []
  enabled : tapEn e = true
  unity : tapGainRaw e = 131072
  positive : tapPol e = false
  fixed : tapFollow e = false
  single : tapPair e = false
  near : (d.ctl.pair && tapPlane e == 1) = false
  reads : tapSrc e = o.ch
  plane : o.plane = p
  embedded : o.ch < 0x9000
  carried : o.ch % 32 < ifaceChans (getF d F.PLN_SRCSTAT_IFACE (ix p (o.ch / 32)))
  timed : srcKind d p (o.ch / 32) = 1
  sync : o.async = false
  present : o.copy = true
  full : mget 0 (audSt d p).hush o.ch = 0
  noAsrc : d.ctl.asrc = []
  settled : d.pln.audioQ = [] ∧ d.tim.stepAt = none ∧ d.ctl.pend = []

/-- The TDM port's running commands. -/
def isTdmCmd : Instr → Prop
  | .tdmFrame .. | .tdmMaskWrite .. | .tdmSteerLimit .. | .tdmMclkReturn .. => True
  | _ => False

end Sys2Proof.Claims

/-- AUDIO_GRID_SAMPLE passes a transparent channel's sample with its V, U and C bits unchanged, and counts a missing sample of an IP
channel. AUDIO_FLOW_UNTIMED flags every channel of the flow UNTIMED; ASRC_LOCK locks an assigned channel (R200, R201, R213,
R215). -/
def Obligations.AudioEngineActs : Prop :=
  ∀ (s : State) (t : Nat) (p : Fin 2),
    (∀ (o : SampObs) (dc e : Nat), Transparent s.dev p dc e o → Gives (.audioGridSample t p [o]) s fun d =>
      .audio p dc o.val (o.v + 2 * o.u + 4 * bits o.blk (gridOf t % 192) 1) ∈ d.out) ∧
    (∀ o : SampObs, s.dev.ctl.pend = [] → o.plane = p → 0xC000 ≤ o.ch → o.ch < 0xF800 → o.copy = false → Gives (.audioGridSample t p [o]) s fun d =>
      getF d F.AUD_MISSCNT_COUNT p = min (getF s.dev F.AUD_MISSCNT_COUNT p + 1) (2 ^ F.AUD_MISSCNT_COUNT.width - 1)) ∧
    (∀ (n : Fin 2048) (f : Nat × Bytes), (audioFlows s.dev p 0).find? (fun q => q.1 == (n : Nat)) = some f →
      Gives (.audioFlowUntimed t p n) s fun d => (n : Nat) ∈ (audSt d p).offClock ∧
      ∀ k < flowChans f.2, getF d F.AUD_SRCSTAT_UNTIMED (ix p (flowFirst f.2 + k)) = 1) ∧
    (∀ ch : Fin 65536, (s.dev.ctl.asrc.any fun q => q.1 == (ch : Nat)) = true → (ch : Nat) ∉ (audSt s.dev p).locked →
      Gives (.asrcLock t p ch) s fun d => (ch : Nat) ∈ (audSt d p).locked ∧ getF d F.AUD_SRCSTAT_ASRC_LOCKED (ix p ch) = 1)

/-- A running TDM port. TDM_FRAME in HOUSE mode sends one word for each slot, the idle level in each slot that the active mask leaves out,
and makes waiting masks active at its first frame; TDM_MASK_WRITE makes both halves wait; TDM_STEER_LIMIT shows a clamp of 1 s (R222,
R224, R227, R231). Restarts and clocks of the TDM ports. TDM_RESTART starts a restarting port 48 grid instants on, and applies a TDM_SET
that is due to its port; TDM_MCLK_LOSS sets TDM_MCLK's bit 39 with CAUSE 0x01; TDM_MCLK_RETURN restarts every enabled port; TDM_BCLK_CHECK
sets bit 39 with CAUSE 0x06 outside 1000 ppm and does nothing inside (R234 to R236). -/
def Obligations.TdmPortsFollow : Prop :=
  (∀ (s : State) (t : Nat) (p : Fin 16),
     (∀ words arrived absent, getF s.dev F.TDM_STAT_STATE p = 2 → s.dev.mclkOff = false → getF s.dev F.TDM_CFG_CLOCK p = 0 →
       (∀ x ∈ s.dev.ctl.pend, x.op = 0x32 → t < frameStart s.dev x.frame) →
       Gives (.tdmFrame t p words arrived absent) s fun d =>
       (∃ ws, d.out.head? = some (.tdm p ws) ∧ ws.length = getF s.dev F.TDM_CFG_SLOTS p ∧
         ∀ k < getF s.dev F.TDM_CFG_SLOTS p, bit (getF d F.TDM_MASK_ACT_TX_ACT p) k = false →
           ws.getD k 0 = getF s.dev F.TDM_CFG_SDO_IDLE p * 2 ^ 32) ∧
       (tdmSt d p).frames = (tdmSt s.dev p).frames + 1 ∧
       ((tdmSt s.dev p).maskPend = true → (tdmSt s.dev p).frames = 0 →
         getF d F.TDM_MASK_ACT_TX_ACT p = getF s.dev F.TDM_MASK_TX_PEND p % 2 ^ F.TDM_MASK_ACT_TX_ACT.width ∧ (tdmSt d p).maskPend = false)) ∧
     (∀ tx rx, Gives (.tdmMaskWrite t p tx rx) s fun d =>
       getF d F.TDM_MASK_TX_PEND p = tx % 2 ^ 32 ∧ getF d F.TDM_MASK_RX_PEND p = rx % 2 ^ 32 ∧ (tdmSt d p).maskPend = true ∧
       (tdmSt d p).landAt = t ∧ getF d F.TDM_MASK_ACT_TX_ACT p = getF s.dev F.TDM_MASK_ACT_TX_ACT p) ∧
     (∀ a, (tdmSt s.dev p).clampAt = some a → a + tickSec ≤ t → Gives (.tdmSteerLimit t p) s fun d =>
       getF d F.TDM_STAT_STEER_LIMIT p = 1)) ∧
  (∀ (s : State) (t : Nat),
     (∀ p : Fin 16, s.dev.ctl.pend = [] → getF s.dev F.TDM_STAT_STATE p = 1 → firstGrid (tdmSt s.dev p).j0 ≤ gridOf t → s.dev.mclkOff = false →
       Gives (.tdmRestart t p) s fun d => getF d F.TDM_STAT_STATE p = 2 ∧ (tdmSt d p).firstAt = some (gridOf t)) ∧
     (∀ (p : Fin 16) (x : Pend) (j : JRec), s.dev.ctl.pend = [x] → x.op = 0x32 → frameStart s.dev x.frame ≤ t →
       recOf s.dev x.jsn = some j → j.dec = none → isFollower s.dev = false → bits (le j.desc 24 1) 0 4 = p →
       (mechOf s.dev mkTdm p).jsn < x.jsn → Gives (.tdmRestart t p) s fun d =>
       (∀ f ∈ tdmFields j.desc, getF d f.1 p = f.2 % 2 ^ f.1.width) ∧ d.ctl.pend = [] ∧ (mechOf d mkTdm p).jsn = x.jsn ∧
       Decided d x.jsn (doneStatus s.dev x.deferred) x.frame 0) ∧
     (s.dev.mclkOff = false → Gives (.tdmMclkLoss t) s fun d => d.mclkOff = true ∧ bit (getF d F.FLT_STATUS_BITS 0) 39 = true ∧
       getF d F.FLT_CAUSE_CAUSE 39 = 1) ∧
     (Gives (.tdmMclkReturn t) s fun d => d.mclkOff = false ∧ ∀ q < 16, getF s.dev F.TDM_CFG_ENABLE q = 1 →
       getF d F.TDM_STAT_STATE q = 1 ∧ (tdmSt d q).j0 = nextGrid t ∧ (tdmSt d q).frames = 0) ∧
     (∀ (p : Fin 16) (count : Nat),
       let want := getF s.dev F.TDM_CFG_FRAME_BCLK p * (if getF s.dev F.TDM_CFG_RATE p = 1 then 96 else 48)
       (getF s.dev F.TDM_STAT_STATE p = 2 → s.dev.mclkOff = false → want < 1000 * ((count : Int) - want).natAbs →
         Gives (.tdmBclkCheck t p count) s fun d => bit (getF d F.FLT_STATUS_BITS 0) 39 = true ∧ getF d F.FLT_CAUSE_CAUSE 39 = 6 ∧
         getF d F.FLT_CAUSE_SUB 39 = p) ∧
       (1000 * ((count : Int) - want).natAbs ≤ want → Gives (.tdmBclkCheck t p count) s fun d => d = s.dev.at t)))

/-! Otira links and SerDes lanes (R241 to R289). -/

namespace Sys2Proof.Claims

/-- The commands of links and lanes, but for the FOM reading that can raise a fault. -/
def isLinkCmd : Instr → Prop
  | .amReceived .. | .restripeReq .. | .switchRound .. | .mask .. | .timing .. | .delayReq .. | .delayResp .. | .delayMeasureTimer ..
  | .presence .. | .presenceSend .. | .presenceTimeout .. | .cfgRepeat .. | .laneLoss .. | .laneReturn .. | .linkTrainTimeout ..
  | .linkIdleTimeout .. | .laneSignalDetect .. | .trainingFrame .. | .laneStageTimeout .. | .uncorrectableCodeword .. => True
  | _ => False

/-- What a link is after its masks change while segments flow: UP with every lane both ways, DEGRADED otherwise (R259). -/
def runState (tx rx : Nat) : Nat := if tx = 15 ∧ rx = 15 then 2 else 3

/-- A lane of Otira or of the peer link. -/
def trainsLane (l : Nat) : Prop := l < 72 ∨ 80 ≤ l

end Sys2Proof.Claims

/-- Delay and timing blocks. DELAY_REQ is answered at once with T1 echoed, T2 and T3; DELAY_RESP to the outstanding request gives the
one-way delay, half of (T4 − T1) − (T3 − T2), and any other is ignored; DELAY_MEASURE_TIMER sends a request; TIMING is sent on a link that
transmits, and one received with REFERENCE gives its listed reference's difference, less the delay (R52, R248, R249). Presence and
configuration blocks. PRESENCE records the far end and, in TRAINING with lanes both ways, takes the link to UP or DEGRADED; PRESENCE_SEND
sends the device form; 3 ms without one take a link that carries segments DOWN with empty masks; CFG_REPEAT sends every item of such a
link (R250, R251, R259). -/
def Obligations.LinksCarryTiming : Prop :=
  (∀ (s : State) (t : Nat) (p : Fin 2) (l : Fin 18),
     (∀ seq t1 t2 : Nat, Gives (.delayReq t p l seq t1 t2) s fun d =>
       d = emit (s.dev.at t) (.ctl p l 0x12 (seq % 256 + t2 % 2 ^ 64 * 2 ^ 8 + nsOf t % 2 ^ 64 * 2 ^ 72 + t1 % 2 ^ 64 * 2 ^ 136))) ∧
     (∀ seq t1 t2 t3 : Nat, (lnkSt s.dev p l).delayOut = some (seq % 256, t1) →
       0 ≤ ((nsOf t : Int) - t1) - ((t3 : Int) - t2) → ((nsOf t : Int) - t1) - ((t3 : Int) - t2) ≤ 8000000 →
       Gives (.delayResp t p l seq t1 t2 t3) s fun d =>
       (getF d F.OTL_DELAY_ONEWAY (ix p l) : Int) = (((nsOf t : Int) - t1) - ((t3 : Int) - t2)) * 500 ∧ (lnkSt d p l).delayOut = none) ∧
     (∀ seq t1 t2 t3 : Nat, (lnkSt s.dev p l).delayOut ≠ some (seq % 256, t1) → Gives (.delayResp t p l seq t1 t2 t3) s fun d => d = s.dev.at t) ∧
     (txMask s.dev p l ≠ 0 → Gives (.delayMeasureTimer t p l) s fun d =>
       (lnkSt d p l).delayOut = some (((lnkSt s.dev p l).delaySeq + 1) % 256, nsOf t) ∧
       d.out = .ctl p l 0x11 (((lnkSt s.dev p l).delaySeq + 1) % 256 + nsOf t % 2 ^ 64 * 2 ^ 8) :: s.dev.out) ∧
     (txMask s.dev p l ≠ 0 → Gives (.timing t p l none) s fun d => ∃ fs : Nat, fs < 2 ∧
       d.out = .ctl p l 0x10 (timingPayload (s.dev.at t) fs) :: s.dev.out) ∧
     (∀ o : TimingObs, o.reference = true → linkRef p l ∈ prioList s.dev → Gives (.timing t p l (some o)) s fun d =>
       (refSt d (linkRef p l)).present = true ∧
       (refSt d (linkRef p l)).diff = ((t : Int) - ((o.time + linkDelay s.dev p l : Nat) : Int)) * 1000 / 54 ∧ d.regs = s.dev.regs)) ∧
  (∀ (s : State) (t : Nat) (p : Fin 2) (l : Fin 18),
     (∀ o : PresObs, Gives (.presence t p l o) s fun d => (lnkSt d p l).lastPres = some t ∧
       getF d F.OTL_GB_SLOTS (ix p l) = o.slots % 2 ^ F.OTL_GB_SLOTS.width ∧
       (linkState s.dev p l = 1 → txMask s.dev p l ≠ 0 → rxMask s.dev p l ≠ 0 →
         linkState d p l = runState (txMask s.dev p l) (rxMask s.dev p l))) ∧
     (txMask s.dev p l ≠ 0 → Gives (.presenceSend t p l) s fun d => ∃ v, d = emit (s.dev.at t) (.ctl p l 0x20 v)) ∧
     (linkFlows s.dev p l = true → (lnkSt s.dev p l).lastPres.getD (lnkSt s.dev p l).since + 162000000 ≤ t →
       Gives (.presenceTimeout t p l) s fun d => linkState d p l = 0 ∧ txMask d p l = 0 ∧ rxMask d p l = 0) ∧
     (linkFlows s.dev p l = true → Gives (.cfgRepeat t p l) s fun d => (∀ c < 67, ∃ v, .ctl p l 0x30 v ∈ d.out) ∧ d.regs = s.dev.regs))

/-- Lanes lost and regained. AM_RECEIVED aligns a lane at the second valid marker one period on and puts it on standby, but no lane beyond
the skew tolerance; LANE_LOSS, of
what an unanswered request still names, and LANE_RETURN request the masks that result, and the loss of the last lane takes the link DOWN; RESTRIPE_REQ holds the far end's request until SWITCH_ROUND answers it with the lanes that
work; MASK that answers our request sets the receive mask; UNCORRECTABLE_CODEWORD is counted and loses alignment (R243, R246, R256, R258).
Link states by time: 500 ms in TRAINING take a link DOWN, to train again 100 ms later; a DOWN, enabled link whose wait is over starts
TRAINING on signal; an idle link still signalled 1 µs on goes DOWN (R259, R281). -/
def Obligations.LinksMoveAndRestripe : Prop :=
  (∀ (s : State) (t : Nat) (p : Fin 2) (l : Fin 18),
     (∀ (k : Fin 4) (n : Nat), laneStage s.dev p (physLane s.dev p l k) = 6 →
       (laneSt s.dev p (physLane s.dev p l k)).amAt = some n → Gives (.amReceived t p l k (n + 1) true false) s fun d =>
       (laneSt d p (physLane s.dev p l k)).aligned = true ∧
       (bit (rxMask s.dev p l) k = false → bit (getF d F.OTL_STAT_STANDBY (ix p l)) k = true)) ∧
     (∀ (k : Fin 4) (n : Nat), laneStage s.dev p (physLane s.dev p l k) = 6 → (laneSt s.dev p (physLane s.dev p l k)).aligned = false →
       Gives (.amReceived t p l k n true true) s fun d => (laneSt d p (physLane s.dev p l k)).aligned = false ∧
       (k : Nat) ∈ (lnkSt d p l).skewed ∧ d.regs = s.dev.regs) ∧
     (∀ lanes : Fin 16, rxMask s.dev p l &&& (lanes : Nat) = rxMask s.dev p l → rxMask s.dev p l ≠ 0 → linkFlows s.dev p l = true →
       Gives (.laneLoss t p l lanes) s fun d => linkState d p l = 0 ∧ rxMask d p l = 0) ∧
     (∀ lanes : Fin 16, wantedRx s.dev p l &&& (lanes : Nat) ≠ 0 →
       wantedRx s.dev p l &&& rxMask s.dev p l &&& (lanes : Nat) ≠ wantedRx s.dev p l &&& rxMask s.dev p l →
       linkState s.dev p l ≠ 0 → Gives (.laneLoss t p l lanes) s fun d =>
       (∃ id, (lnkSt d p l).req = some ((wantedRx s.dev p l &&& rxMask s.dev p l) -
         (wantedRx s.dev p l &&& rxMask s.dev p l &&& (lanes : Nat)), id) ∧ ∃ v, d.out.head? = some (.ctl p l 2 v)) ∧
       (rxMask s.dev p l &&& (lanes : Nat) ≠ 0 → (lnkSt d p l).needAlign = true) ∧
       ∀ k < 4, bit (lanes : Nat) k = true → laneStage s.dev p (physLane s.dev p l k) = 6 → laneStage d p (physLane s.dev p l k) = 0) ∧
     (∀ k : Fin 4, linkState s.dev p l ≠ 0 → bit (getF s.dev F.OTL_STAT_STANDBY (ix p l)) k = true →
       2 ≤ (laneSt s.dev p (physLane s.dev p l k)).amGood → (lnkSt s.dev p l).req = none → Gives (.laneReturn t p l k) s fun d =>
       ∃ id, (lnkSt d p l).req = some (rxMask s.dev p l ||| 2 ^ (k : Nat), id)) ∧
     (∀ lanes id, linkState s.dev p l ≠ 0 → Gives (.restripeReq t p l lanes id) s fun d =>
       (lnkSt d p l).farReq = some (lanes % 16, id % 256) ∧ d.regs = s.dev.regs) ∧
     (∀ k period m id, linkFlows s.dev p l = true → (lnkSt s.dev p l).farReq = some (m, id) → workingTx s.dev p l &&& m ≠ 0 →
       rxMask s.dev p l ≠ 0 → Gives (.switchRound t p l k period) s fun d =>
       txMask d p l = workingTx s.dev p l &&& m ∧ (lnkSt d p l).farReq = none ∧
       linkState d p l = runState (workingTx s.dev p l &&& m) (rxMask s.dev p l) ∧ ∃ v, .ctl p l 3 v ∈ d.out) ∧
     (∀ lanes id m, linkFlows s.dev p l = true → (lnkSt s.dev p l).req = some (m, id % 256) → (lnkSt s.dev p l).upWait = false →
       lanes % 16 ≠ 0 → txMask s.dev p l ≠ 0 → Gives (.mask t p l lanes id) s fun d =>
       rxMask d p l = lanes % 16 ∧ (lnkSt d p l).req = none ∧ linkState d p l = runState (txMask s.dev p l) (lanes % 16)) ∧
     (∀ (k : Fin 4) (corrected : Nat), Gives (.uncorrectableCodeword t p l k corrected) s fun d =>
       getF d F.OTL_CNT_UNCORR (ix p l) = min (getF s.dev F.OTL_CNT_UNCORR (ix p l) + 1) (2 ^ F.OTL_CNT_UNCORR.width - 1) ∧
       (bit (rxMask s.dev p l) k = true → (lnkSt d p l).needAlign = true))) ∧
  (∀ (s : State) (t : Nat) (p : Fin 2) (l : Fin 18),
     (linkState s.dev p l = 1 → (lnkSt s.dev p l).since + 27000000000 ≤ t → Gives (.linkTrainTimeout t p l) s fun d =>
       linkState d p l = 0 ∧ (lnkSt d p l).retryAt = t + 5400000000) ∧
     (linkState s.dev p l = 0 → linkMode s.dev p l = 0 → (lnkSt s.dev p l).retryAt ≤ t → anySignal s.dev p l = true →
       Gives (.linkTrainTimeout t p l) s fun d => linkState d p l = 1 ∧ (lnkSt d p l).since = t) ∧
     (linkState s.dev p l = 4 → linkMode s.dev p l = 1 → (lnkSt s.dev p l).since + 54000 ≤ t → Gives (.linkIdleTimeout t p l) s fun d =>
       linkState d p l = 0))

/-- Lane bring-up. Signal takes a lane from NO_SIGNAL to CDR_LOCK with CTLE code 20, an Ethernet lane to ADAPT; a training frame with the
CDR locked takes it on, the eighth good one in ADAPT to UP, and each is answered by one of its own; a stage that lasts too long
returns to NO_SIGNAL with the stage as ERR; 100 ms below FOM_WARN in UP set LOW_FOM and the lane's FLT_STATUS bit (R270 to R278). -/
def Obligations.LanesTrain : Prop :=
  ∀ (s : State) (t : Nat) (p : Fin 2) (l : Fin 84),
    (laneStage s.dev p l = 0 → trainsLane l → Gives (.laneSignalDetect t p l) s fun d =>
      laneStage d p l = 1 ∧ getF d F.LANE_RXEQ_CTLE (ix p l) = 20 ∧
      getF d F.LANE_CNT_BRINGUPS (ix p l) = min (getF s.dev F.LANE_CNT_BRINGUPS (ix p l) + 1) (2 ^ F.LANE_CNT_BRINGUPS.width - 1)) ∧
    (laneStage s.dev p l = 0 → ¬ trainsLane l → Gives (.laneSignalDetect t p l) s fun d => laneStage d p l = 5) ∧
    (∀ o : TrainObs, trainsLane l → o.crcOk = true → (laneSt s.dev p l).fast = none → linkState s.dev p ((l : Nat) / 4) ≠ 4 →
      (laneStage s.dev p l = 1 → o.cdrLocked = true → Gives (.trainingFrame t p l o) s fun d =>
        laneStage d p l = 2 ∧ ∃ v, d.out = .train (ix p l) v :: s.dev.out) ∧
      (laneStage s.dev p l = 5 → (laneSt s.dev p l).cnt = 7 → bits (laneSt s.dev p l).cfg 16 8 ≤ o.fom → o.adapted = true → o.rxReady = true →
        Gives (.trainingFrame t p l o) s fun d => laneStage d p l = 6 ∧ (laneSt d p l).rxReady = true ∧
        ∃ v, d.out = .train (ix p l) v :: s.dev.out)) ∧
    (∀ m, trainsLane l → stageLimit (laneStage s.dev p l) = some m → (laneSt s.dev p l).since + m ≤ t →
      Gives (.laneStageTimeout t p l) s fun d => laneStage d p l = 0 ∧ getF d F.LANE_STAT_ERR (ix p l) = laneStage s.dev p l) ∧
    (∀ fom a, laneStage s.dev p l = 6 → (laneSt s.dev p l).lowSince = some a → a + 5400000000 ≤ t → fom < bits (laneSt s.dev p l).cfg 24 8 →
      getF s.dev F.LANE_STAT_LOW_FOM (ix p l) = 0 → Gives (.laneLowFom t p l fom) s fun d =>
      getF d F.LANE_STAT_LOW_FOM (ix p l) = 1 ∧ bit (getF d F.FLT_STATUS_BITS 0) (laneBit p l) = true ∧
      getF d F.LANE_FOM_CUR (ix p l) = fom % 2 ^ F.LANE_FOM_CUR.width)

/-! Ethernet ports and IP essence (R290 to R314). -/

namespace Sys2Proof.Claims

/-- Counter `k` of MAC instance `i` of plane `p` (R313). -/
def macVal (d : Dev) (p i k : Nat) : Nat := getF d F.MAC_STAT_COUNT (ix p (18 * i + k))

/-- The counter has gone up by `n`, and stops at its top. -/
def MacUp (d u : Dev) (p i k n : Nat) : Prop := macVal u p i k = min (macVal d p i k + n) (2 ^ F.MAC_STAT_COUNT.width - 1)

/-- Instance `i` of plane `p` exists and is UP (R290, R291). -/
def InstUp (d : Dev) (p i : Nat) : Prop := instExists d p i = true ∧ (ethInst d p i).state = 2

/-- A frame that reaches the classifier: good, through the address and VLAN filters, unfragmented IPv4, and none of the protocols that
the device answers itself (R294). -/
structure Classified (d : Dev) (p i : Nat) (o : EthObs) : Prop where
  good : errFlags d p i o = 0
  passes : addrPass d p i o = true
  vlan : vlanPass d p i o = true
  ipv4 : o.etype = 0x0800
  header : o.ipOk = true
  whole : o.frag = false
  noArp : o.arp = false
  noQuery : o.query = none
  noPtp : o.ptp = false
  awake : devState d ≠ dvBivouac

/-- Send flow `idx` of plane `p` sends: configured, enabled, its plane in service and its instance UP (R302 to R304). -/
structure SendsIp (d : Dev) (p idx : Nat) : Prop where
  set : flowRec d idx ≠ []
  enabled : flowEnabled (flowRec d idx) = true
  dir : flowDir idx = 1
  here : flowOnPlane d p idx = true
  plane : planeSends d p = true
  up : (ethInst d p (flowInst (flowRec d idx))).state = 2

/-- The commands of the Ethernet ports. -/
def isEthCmd : Instr → Prop
  | .ethFrameRx .. | .ethLinkChange .. | .igmpReport .. | .igmpQueryResponse .. | .macPortcfgMode .. | .macPortcfgMedium .. | .macCapqReset ..
  | .captureIrq .. | .ptpDelayReqSend .. | .ipPacketSend .. => True
  | _ => False

end Sys2Proof.Claims

/-- Ports and instances. ETH_LINK_CHANGE moves an instance that exists; one that comes UP with an address announces it.
MAC_PORTCFG_MODE stores MODE and applies it where nothing names an instance that would change, its lanes starting afresh, and
otherwise sets CFG_ERR; MAC_PORTCFG_MEDIUM applies at once; MAC_CAPQ_RESET empties the capture queue; CAPTURE_IRQ sends its
message (R291, R292, R298, R299, R312). -/
def Obligations.PortsAreConfigured : Prop :=
  ∀ (s : State) (t : Nat) (p : Fin 2),
    (∀ (i : Fin 8) (new : Fin 3) (timeout : Bool), instExists s.dev p i = true → ((new : Nat) = 2 → mediumOk s.dev p i = true) →
      Gives (.ethLinkChange t p i new timeout) s fun d => (ethInst d p i).state = new ∧
      ((new : Nat) = 2 → (ethInst s.dev p i).state ≠ 2 → getF s.dev F.MAC_INSTCFG_IPV4 (ix p i) ≠ 0 →
        d.out.head? = some (.eth p i 2 (getF s.dev F.MAC_INSTCFG_IPV4 (ix p i))))) ∧
    (∀ (q : Fin 2) (mode : Fin 4),
      (portBusy s.dev p q mode = false → Gives (.macPortcfgMode t p q mode) s fun d =>
        getF d F.MAC_PORTCFG_MODE (ix p q) = mode ∧ portMode d p q = mode ∧ getF d F.MAC_PORTCFG_CFG_ERR (ix p q) = 0 ∧
        (portMode s.dev p q ≠ mode → ∀ k < 4, laneStage d p (72 + 4 * q + k) = if (mode : Nat) = 3 then 8 else 0)) ∧
      (portBusy s.dev p q mode = true → Gives (.macPortcfgMode t p q mode) s fun d =>
        getF d F.MAC_PORTCFG_MODE (ix p q) = mode ∧ portMode d p q = portMode s.dev p q ∧ getF d F.MAC_PORTCFG_CFG_ERR (ix p q) = 1)) ∧
    (∀ (q : Fin 2) (medium : Fin 4) (an : Fin 2), Gives (.macPortcfgMedium t p q medium an) s fun d =>
      getF d F.MAC_PORTSTAT_MEDIUM_ACT (ix p q) = medium ∧ getF d F.MAC_PORTSTAT_AN_ACT (ix p q) = an ∧
      getF d F.MAC_PORTCFG_MEDIUM (ix p q) = medium ∧ getF d F.MAC_PORTCFG_AN (ix p q) = an) ∧
    (∀ (base : Bool) (v : Nat), Gives (.macCapqReset t p base v) s fun d =>
      getF d F.MAC_CAPQ_PROD_PROD p = 0 ∧ getF d F.MAC_CAPQ_CONS_CONS p = 0 ∧ mget 0 d.eth.phase p = 0 ∧
      (base = true → getF d F.MAC_CAPQ_BASE_BASE p = v % 2 ^ F.MAC_CAPQ_BASE_BASE.width) ∧
      (base = false → getF d F.MAC_CAPQ_CFG_LOG2_SIZE p = v % 2 ^ F.MAC_CAPQ_CFG_LOG2_SIZE.width)) ∧
    (mget 0 s.dev.eth.wrote p = 1 → mget 0 s.dev.eth.irqAt p + 5400000 ≤ t →
      vecMasked (hifOf s.dev (getF s.dev F.MAC_CAPQ_CFG_HIF p)) (getF s.dev F.MAC_CAPQ_CFG_CAP_VEC p) = false → Gives (.captureIrq t p) s fun d =>
      d.out = .msix (getF s.dev F.MAC_CAPQ_CFG_HIF p) (getF s.dev F.MAC_CAPQ_CFG_CAP_VEC p) :: s.dev.out ∧ mget 0 d.eth.wrote p = 0)

/-- ETH_FRAME_RX. An instance that is absent or not UP takes nothing; a frame with a bad FCS is counted there and not as good; a good
frame counts with its length, then one that a filter stops as filtered, and one whose key a flow holds as classified; an ARP request for
the instance's address is answered (R294 to R297, R299). Senders. IGMP_REPORT sends the first report of a group and holds its second;
IGMP_QUERY_RESPONSE reports every group of the instance that the first query asks for within the query's time; PTP_DELAY_REQ_SEND sends and counts a Delay_Req of an
assigned instance; IP_PACKET_SEND sends a present packet with its sequence number, withholds a missing one where the plane withholds, and
counts what the allowance drops (R132, R299, R302, R303, R308). -/
def Obligations.EthernetReceivesAndSends : Prop :=
  (∀ (s : State) (t : Nat) (p : Fin 2) (i : Fin 8) (o : EthObs),
     (¬ InstUp s.dev p i → Gives (.ethFrameRx t p i o) s fun d => d = s.dev.at t) ∧
     (InstUp s.dev p i →
       (o.fcs = true → Gives (.ethFrameRx t p i o) s fun d => MacUp s.dev d p i 2 1 ∧ macVal d p i 0 = macVal s.dev p i 0) ∧
       (errFlags s.dev p i o = 0 → Gives (.ethFrameRx t p i o) s fun d => MacUp s.dev d p i 0 1 ∧ MacUp s.dev d p i 1 o.len) ∧
       (errFlags s.dev p i o = 0 → o.etype ≠ 0x8808 → addrPass s.dev p i o = false → Gives (.ethFrameRx t p i o) s fun d =>
         MacUp s.dev d p i 7 1 ∧ macVal d p i 13 = macVal s.dev p i 13 ∧ d.out = s.dev.out) ∧
       (Classified s.dev p i o → (classify (s.dev.at t) p i o).isSome = true → Gives (.ethFrameRx t p i o) s fun d => MacUp s.dev d p i 13 1) ∧
       (Classified s.dev p i o → classify (s.dev.at t) p i o = none → Gives (.ethFrameRx t p i o) s fun d =>
         MacUp s.dev d p i 10 1 ∧ macVal d p i 13 = macVal s.dev p i 13) ∧
       (errFlags s.dev p i o = 0 → o.etype = 0x0806 → addrPass s.dev p i o = true → vlanPass s.dev p i o = true → o.arp = true →
         o.dstIp = getF s.dev F.MAC_INSTCFG_IPV4 (ix p i) → o.dstIp ≠ 0 → Gives (.ethFrameRx t p i o) s fun d =>
         d.out = .eth p i 1 o.srcIp :: s.dev.out))) ∧
  (∀ (s : State) (t : Nat) (p : Fin 2),
     (∀ (i : Fin 8) (group a : Nat), igmpOn s.dev p i = true → (ethInst s.dev p i).reports.find? (fun r => r.1 == group) = some (group, 2, a) →
       Gives (.igmpReport t p i group) s fun d => (∃ v, d.out = .eth p i 3 v :: s.dev.out ∧ v % 2 ^ 32 = group % 2 ^ 32) ∧
       (group, 1, t) ∈ (ethInst d p i).reports) ∧
     (∀ (i : Fin 8) (a max group : Nat) (rest : List (Nat × Nat × Nat)), igmpOn s.dev p i = true →
       (ethInst s.dev p i).query = (a, max, group) :: rest → t ≤ a + max →
       Gives (.igmpQueryResponse t p i) s fun d => (ethInst d p i).query = rest ∧
       ∀ g ∈ groupsOf s.dev p i, group = 0 ∨ g = group → ∃ v, .eth p i 3 v ∈ d.out ∧ v % 2 ^ 32 = g % 2 ^ 32) ∧
     (bit (le (ptpRec s.dev p) 0 1) 7 = true → (ethInst s.dev p (bits (le (ptpRec s.dev p) 0 1) 0 3)).state = 2 →
       Gives (.ptpDelayReqSend t p) s fun d => (∃ v, d.out = .eth p (bits (le (ptpRec s.dev p) 0 1) 0 3) 4 v :: s.dev.out) ∧
       MacUp s.dev d p (bits (le (ptpRec s.dev p) 0 1) 0 3) 17 1) ∧
     (∀ idx n k len : Nat, SendsIp s.dev p idx →
       (∀ more, Gives (.ipPacketSend t p idx n k len false false more) s fun d =>
         ∃ v, d.out = .eth p (flowInst (flowRec s.dev idx)) 5 v :: s.dev.out ∧ v % 2 ^ 32 = rtpSeq idx (flowRec s.dev idx) n k) ∧
       (idx < 4096 → withholds s.dev p = true → ∀ more, Gives (.ipPacketSend t p idx n k len true false more) s fun d => d.out = s.dev.out) ∧
       (∀ missing, Gives (.ipPacketSend t p idx n k len missing true true) s fun d => d.out = s.dev.out ∧
         getF d F.FLOW_CNT_LATE (ix p (384 + idx / 4)) =
           min (getF s.dev F.FLOW_CNT_LATE (ix p (384 + idx / 4)) + 1) (2 ^ F.FLOW_CNT_LATE.width - 1))))

/-- The frame of the switching and prefetch instants and of the planes' and merge's commands. The merge and the egress change the merge's
and the link's counts and the merge histories alone; a switching or prefetch instant leaves timing, memories' state, lanes, audio,
Ethernet, flash, survey and regulators as they are, a prefetch instant links and TDM ports too, and a switching instant the route of every
other destination and the block state of the links and TDM ports but for their CFG items and VIDEO_DEST; a plane's training or
timeout leaves the control state but its epoch (R74 to R172). The frame of the audio and TDM commands: a TDM port's frames, masks,
steering and restarts leave routes, synchronisers and reference as they are, and while no TDM_SET waits they change of registers only
the TDM block's and the event rings' places; AUDIO_FLOW_UNTIMED and ASRC_LOCK two flags; a
grid instant leaves routes, synchronisers, timing, links, compositors, Ethernet, flash and survey as they are (R192 to R240). The frame of
the link and lane commands: of registers only the links' and lanes' and the event rings' places change, and beside them only the links'
engines, the references, the outputs and the host rings (R241 to R289). The frame of the Ethernet commands: of registers only the MAC
block's, the lanes', the merge's counts, a synchroniser's fill and the event rings' places change, and beside them only the Ethernet
state, the lanes' engines, the merge and the synchronisers, the outputs and the host rings (R290 to R314). -/
def Obligations.DataPathCommandsKeepTheRest : Prop :=
  (Frames isMergeCmd (fun d u => Only [] mergeFields d u ∧
     u = { d with now := u.now, regs := u.regs, out := u.out, pln := { d.pln with merge := u.pln.merge },
                  otl := { d.otl with links := u.otl.links } }) ∧
   (∀ (s u : State) (t : Nat) (p : Fin 2) (d : Fin 1792) (ecc : Fin 3), exec (.switchingInstant t p d ecc) s = .next u →
     (∀ k, k ≠ pkey s.dev p d → routeOf u.dev k = routeOf s.dev k) ∧
     u.dev = { s.dev with now := t, regs := u.dev.regs, out := u.dev.out, host := u.dev.host, ctl := u.dev.ctl, jrn := u.dev.jrn,
                          pln := u.dev.pln, rst := u.dev.rst, flt := u.dev.flt, sec := u.dev.sec, tdm := u.dev.tdm,
                          otl := { s.dev.otl with links := u.dev.otl.links } } ∧
     (∀ q, tdmSt u.dev q = { tdmSt s.dev q with assoc := (tdmSt u.dev q).assoc }) ∧
     ∀ q < 2, ∀ l, lnkSt u.dev q l = { lnkSt s.dev q l with cfgSeq := (lnkSt u.dev q l).cfgSeq, cfg := (lnkSt u.dev q l).cfg } ∧
       (l ≠ (d : Nat) / 64 → lnkSt u.dev q l = lnkSt s.dev q l)) ∧
   Frames (fun c => ∃ t p k px, c = .compPrefetch t p k px) (fun d u => u.ctl.routes = d.ctl.routes ∧
     u = { d with now := u.now, regs := u.regs, out := u.out, host := u.host, ctl := u.ctl, jrn := u.jrn, pln := u.pln, rst := u.rst,
                  flt := u.flt, cmp := u.cmp, sec := u.sec }) ∧
   Frames (fun c => ∃ t p, c = .planeTrainingDone t p ∨ c = .planeStateTimeout t p) (fun d u =>
     u = { d with now := u.now, regs := u.regs, out := u.out, host := u.host, ctl := { d.ctl with epoch := u.ctl.epoch }, jrn := u.jrn,
                  pln := u.pln, rst := u.rst, flt := u.flt, cmp := u.cmp, sec := { d.sec with reverting := u.sec.reverting } })) ∧
  (Frames isTdmCmd (fun d u => u.ctl.routes = d.ctl.routes ∧ u.ctl.fsync = d.ctl.fsync ∧ u.ctl.ref = d.ctl.ref ∧
     u = { d with now := u.now, regs := u.regs, out := u.out, freeCtr := u.freeCtr, host := u.host, ctl := u.ctl, jrn := u.jrn,
                  pln := u.pln, rst := u.rst, flt := u.flt, sec := u.sec, tdm := u.tdm, mclkOff := u.mclkOff } ∧
     ((∀ x ∈ d.ctl.pend, x.op ≠ 0x32) → Only [blkTdm] evtFields d u ∧
       u = { d with now := u.now, regs := u.regs, out := u.out, freeCtr := u.freeCtr, host := u.host, tdm := u.tdm,
                    mclkOff := u.mclkOff })) ∧
   Frames (fun c => ∃ t p n, c = .audioFlowUntimed t p n) (fun d u => Only [] [F.AUD_SRCSTAT_UNTIMED] d u ∧
     u = { d with now := u.now, regs := u.regs, aud := u.aud }) ∧
   Frames (fun c => ∃ t p n, c = .asrcLock t p n) (fun d u => Only [] [F.AUD_SRCSTAT_ASRC_LOCKED] d u ∧
     u = { d with now := u.now, regs := u.regs, aud := u.aud }) ∧
   Frames (fun c => ∃ t p o, c = .audioGridSample t p o) (fun d u => u.ctl.routes = d.ctl.routes ∧ u.ctl.fsync = d.ctl.fsync ∧
     u.ctl.ref = d.ctl.ref ∧
     u = { d with now := u.now, regs := u.regs, out := u.out, freeCtr := u.freeCtr, host := u.host, ctl := u.ctl, jrn := u.jrn,
                  pln := u.pln, rst := u.rst, flt := u.flt, sec := u.sec, tdm := u.tdm, aud := u.aud })) ∧
  (Frames isLinkCmd fun d u => Only [blkTile, blkLane] evtFields d u ∧
     u = { d with now := u.now, regs := u.regs, out := u.out, host := u.host, otl := u.otl, tim := { d.tim with refs := u.tim.refs } }) ∧
  (Frames isEthCmd fun d u => Only [blkMac, blkLane] (F.PLN_FSSTAT_FILL :: mergeFields ++ evtFields) d u ∧
     u = { d with now := u.now, regs := u.regs, out := u.out, host := u.host, eth := u.eth,
                  pln := { d.pln with merge := u.pln.merge, fs := u.pln.fs }, otl := { d.otl with lanes := u.otl.lanes } })

/-! The journal, the Belay, recovery and Pair (R358 to R377, R394 to R397, R424 to R427). -/

namespace Sys2Proof.Claims

/-- The program of the running flush is still under way on channel `ch`. -/
def flushBusy (d : Dev) (ch : Nat) : Bool := if ch = 0 then d.jrn.fl0w else d.jrn.fl1w

/-- A counter field counted up by one, and saturated. -/
def Counted (d u : Dev) (f : Fld) (i : Nat) : Prop := getF u f i = min (getF d f i + 1) (2 ^ f.width - 1)

/-- Bit `b` of FLT_STATUS. -/
def fltBit (d : Dev) (b : Nat) : Bool := bit (getF d F.FLT_STATUS_BITS 0) b

/-- A reset source is asserted (R447). -/
def Asserted (d : Dev) (reach unit src : Nat) : Prop := ∃ r ∈ d.rst.reqs, r.reach = reach ∧ r.unit = unit ∧ r.src = src

/-- The device holds the active processor role `n` in ACTIVE_PP, a legal number. -/
def activePp (d : Dev) : Nat := getF d F.BELAY_STAT_ACTIVE_PP 0

/-- The boot ROM may choose an image: device in BOOT, the release sequence past step 8, TEST_N high, the active processor sound (R424, R459). -/
structure Boots (d : Dev) : Prop where
  inBoot : devState d = dvBoot
  runs : d.rst.phase = 2
  released : ∀ x ∈ d.rst.inReset, 8 ≤ x.step
  free : getF d F.RST_STRAP_TEST_N 0 = 1
  sound : ppState d (activePp d) = 0

end Sys2Proof.Claims

/-- The journal and its checkpoints. A flush that falls due takes every record to each channel that takes writes, and one with nothing
new writes nothing; when the last channel it waits for has it, its records are durable and DURABLE_JSN is its JSN; a failed program
retires the block and is repeated. A due checkpoint takes the next sequence number at the last JSN (R358, R361, R363, R410, R412). -/
def Obligations.JournalIsKept : Prop :=
  ∀ (s : State) (t : Nat),
    (t % framePeriod s.dev.ctl.ref.rate = 0 ∨ s.dev.jrn.lastFlush + 270000000 ≤ t →
      (s.dev.jrn.unflushed = true → s.dev.jrn.flushing = none → s.dev.rst.pwrLowAt = none → (∃ c < 2, flsWritten s.dev c = true) →
        Gives (.journalFlush t) s fun d => d.jrn.flushing = some (s.dev.ctl, getF s.dev F.JRN_HEAD_HEAD_JSN 0) ∧ d.jrn.unflushed = false ∧
          d.jrn.lastFlush = t ∧ ∀ c < 2, flsWritten s.dev c = true → .flash c 8 0 (getF s.dev F.JRN_HEAD_HEAD_JSN 0) ∈ d.out) ∧
      (s.dev.jrn.unflushed = false → Gives (.journalFlush t) s fun d => d.out = s.dev.out ∧ d.jrn.flushing = s.dev.jrn.flushing)) ∧
    (∀ (ch : Fin 2) (block jsn : Nat) (img : Ctl), s.dev.jrn.flushing = some (img, jsn) → flushBusy s.dev ch = true →
      (flsState s.dev ch = 3 → (flsState s.dev (1 - ch) = 3 → flushBusy s.dev (1 - ch) = false) →
        getF s.dev F.JRN_DURABLE_DURABLE_JSN 0 < jsn → Gives (.flashProgramDone t ch block true) s fun d =>
        d.jrn.flushing = none ∧ d.jrn.durable = img ∧ d.jrn.durJsn = jsn ∧
        getF d F.JRN_DURABLE_DURABLE_JSN 0 = jsn % 2 ^ F.JRN_DURABLE_DURABLE_JSN.width) ∧
      (flsWritten s.dev ch = true → (flsSt s.dev ch).slc.spare ≠ 0 → Gives (.flashProgramDone t ch block false) s fun d =>
        d.out.head? = some (.flash ch 8 0 (getF s.dev F.JRN_HEAD_HEAD_JSN 0)) ∧ Counted s.dev d F.FLS_BLOCKS_GROWN_BAD ch ∧
        (flsSt d ch).slc.spare = (flsSt s.dev ch).slc.spare - 1)) ∧
    (s.dev.jrn.lastCkpt + 60 * tickSec ≤ t ∨ 67108864 ≤ s.dev.jrn.sinceLast → s.dev.jrn.outage = false → 2 ≤ devState s.dev → devState s.dev ≤ 5 →
      Gives (.checkpointTimer t) s fun d =>
        getF d F.JRN_CKPT_SEQ 0 = (getF s.dev F.JRN_CKPT_SEQ 0 + 1) % 2 ^ F.JRN_CKPT_SEQ.width ∧ d.jrn.lastCkpt = t ∧ d.jrn.sinceLast = 0 ∧
        getF d F.JRN_CKPT_JSN_JSN 0 = getF s.dev F.JRN_HEAD_HEAD_JSN 0 % 2 ^ F.JRN_CKPT_JSN_JSN.width)

/-- The Belay. A heartbeat of the active processor clears MISSES, another's changes nothing; a miss counts, and the third in a row
fences: the processor is FENCED, the control epoch rises, validation stops, and the standby is active; the drained epoch starts
replay; a processor that ends its BIST is STANDBY if its FLT_STATUS bit is clear, ACTIVE if it is the chosen one, and FAILED with that
bit set if it does not pass (R366 to R368). -/
def Obligations.BelayGuardsTheProcessor : Prop :=
  ∀ (s : State) (t : Nat), activePp s.dev < 2 →
    (∀ n : Fin 2, (activePp s.dev = n → ppState s.dev n = 0 → Gives (.belayHb t n) s fun d => getF d F.BELAY_STAT_MISSES 0 = 0) ∧
      (activePp s.dev ≠ n → Gives (.belayHb t n) s fun d => d = s.dev.at t)) ∧
    (s.dev.jrn.outage = false → ppState s.dev (activePp s.dev) = 0 →
      (getF s.dev F.BELAY_STAT_MISSES 0 < 2 → Gives (.belayHbMiss t) s fun d =>
        getF d F.BELAY_STAT_MISSES 0 = getF s.dev F.BELAY_STAT_MISSES 0 + 1 ∧ d.ctl.epoch = s.dev.ctl.epoch) ∧
      (2 ≤ getF s.dev F.BELAY_STAT_MISSES 0 → Gives (.belayHbMiss t) s fun d =>
        ppState d (activePp s.dev) = 2 ∧ d.ctl.epoch = (s.dev.ctl.epoch + 1) % 2 ^ 32 ∧ d.jrn.outage = true ∧ d.jrn.draining = some t ∧
        getF d F.BELAY_STAT_MISSES 0 = 0 ∧ Counted s.dev d F.BELAY_FAILOVERS_COUNT 0 ∧
        (ppState s.dev (1 - activePp s.dev) = 1 → activePp d = 1 - activePp s.dev ∧ ppState d (1 - activePp s.dev) = 0))) ∧
    (∀ a, s.dev.jrn.draining = some a → Gives (.fenceDrainDone t) s fun d => d.jrn.draining = none ∧ getF d F.JRN_STAT_REPLAY 0 = 1) ∧
    (∀ n : Fin 2, ppState s.dev n = 3 →
      (activePp s.dev ≠ n → ppState s.dev (activePp s.dev) ≠ 4 → Gives (.ppBistDone t n true) s fun d =>
        ppState d n = if fltBit s.dev (29 + n) then 4 else 1) ∧
      (activePp s.dev = n → Gives (.ppBistDone t n true) s fun d => ppState d n = 0 ∧ activePp d = n) ∧
      (Gives (.ppBistDone t n false) s fun d => ppState d n = 4 ∧ fltBit d (29 + n) = true))

/-- Validation comes back. TAKEOVER_COMPLETE, once the retired epoch has drained, ends the outage with a checkpoint and sends the fenced
processor to its BIST; REPLAY_DONE outside Pair ends the outage in SYNCING or SERVICE, and from flash takes up JSNs 2^20 above the
durable one; BIVOUAC_SELF_REFRESH_DONE completes the entry with both stacks' outcome; BOOT_SELECT takes a sound ACTIVE slot to LOADING
and a strap of 2 to Base camp (R357, R364, R365, R367, R394, R397, R424, R426). -/
def Obligations.ControlComesBack : Prop :=
  ∀ (s : State) (t : Nat),
    (s.dev.jrn.outage = true → s.dev.jrn.draining = none → 3 ≤ devState s.dev → devState s.dev ≤ 5 → s.dev.rst.phase = 2 →
      activePp s.dev < 2 → Gives (.takeoverComplete t) s fun d => d.jrn.outage = false ∧ d.jrn.outageEnd = t ∧ d.jrn.lastCkpt = t ∧
        getF d F.JRN_STAT_REPLAY 0 = 0 ∧ getF d F.BELAY_STAT_MISSES 0 = 0 ∧
        (ppState s.dev (1 - activePp s.dev) = 2 → ppState d (1 - activePp s.dev) = 3) ∧
        (ppState s.dev (activePp s.dev) = 2 → ppState d (activePp s.dev) = 0)) ∧
    (devState s.dev = dvLoading → role s.dev ≠ 5 →
      (s.dev.jrn.cold = false → s.dev.ctl.pair = false → Gives (.replayDone t) s fun d => d.jrn.outage = false ∧ d.jrn.outageEnd = t ∧
        getF d F.JRN_STAT_REPLAY 0 = 0 ∧ (devState d = dvSyncing ∨ devState d = dvService)) ∧
      (s.dev.jrn.cold = true → Gives (.replayDone t) s fun d => d.jrn.cold = false ∧
        getF d F.JRN_HEAD_HEAD_JSN 0 = (s.dev.jrn.durJsn + 1048576) % 2 ^ F.JRN_HEAD_HEAD_JSN.width ∧
        getF d F.JRN_DURABLE_DURABLE_JSN 0 = s.dev.jrn.durJsn % 2 ^ F.JRN_DURABLE_DURABLE_JSN.width)) ∧
    (∀ (ok0 ok1 : Bool) (jsn a : Nat) (j : JRec), s.dev.jrn.bivIn = some (jsn, a) → devState s.dev = dvBivouac →
      recOf s.dev jsn = some j → j.dec = none → isFollower s.dev = false → Gives (.bivouacSelfRefreshDone t ok0 ok1) s fun d =>
        d.jrn.bivIn = none ∧ (ok0 = true → hbmState d 0 = 4) ∧ (ok1 = true → hbmState d 1 = 4) ∧
        Decided d jsn stDone (hfn (s.dev.at t)) (bivouacDetail 1 (b2n ok0) (b2n ok1) ((t - a) / 54000000))) ∧
    (Boots s.dev → ∀ good : List Bool,
      (getF s.dev F.RST_STRAP_BOOT_SRC 0 = 2 → Gives (.bootSelect t good) s fun d =>
        devState d = dvCamp ∧ getF d F.SEC_FW_STAT_BASECAMP 0 = 3) ∧
      (∀ k : Fin 2, getF s.dev F.RST_STRAP_BOOT_SRC 0 < 2 → (fwSlot s.dev k).state = 5 → (fwSlot s.dev (1 - k)).state < 2 →
        s.dev.sec.svn ≤ (fwSlot s.dev k).img.secVer → (∀ c < 2, good.getD (2 * c + k) false = true) → (∃ c < 2, flsWritten s.dev c = true) →
        Gives (.bootSelect t good) s fun d => devState d = dvLoading ∧ getF d F.SEC_FW_STAT_RUNNING 0 = k ∧
          d.sec.run = (fwSlot s.dev k).img))

/-- Pair. BELAY_OUT toggles while the active processor is good; ACTIVE_SEL decides the role, and the taking device's epoch rises above
both; a lost peer makes the active device ALONE and a standby ISOLATED; a returned one makes them ACTIVE and, with an active peer,
JOINING; the resynchronised device is STANDBY, and one whose peer stays away for 1 s becomes active (R371, R374 to R376). Messages of the
peer: a heartbeat brings its epoch; a forwarded command of a higher CMD_ID enters the active device's journal under the next JSN; the
decision of the active device is recorded by its follower (R372, R374). -/
def Obligations.PairFollowsItsPeer : Prop :=
  (∀ (s : State) (t : Nat), s.dev.ctl.pair = true →
     (devState s.dev = dvService → ppState s.dev (activePp s.dev) = 0 → getF s.dev F.BELAY_STAT_MISSES 0 = 0 → fatalLatched s.dev = false →
       s.dev.jrn.belayAt + 51300000 ≤ t → Gives (.belayOutToggle t) s fun d =>
         d.out = .pin 184 (b2n (!s.dev.jrn.belayPin)) :: s.dev.out ∧ d.jrn.belayPin = !s.dev.jrn.belayPin) ∧
     (role s.dev = 2 ∨ role s.dev = 4 → Gives (.activeSelChange t true false) s fun d => role d = (if peerUp s.dev then 1 else 3) ∧
       d.ctl.epoch = (max s.dev.ctl.epoch s.dev.jrn.peerEpoch + 1) % 2 ^ 32 ∧ d.jrn.outage = true ∧ getF d F.PAIR_STAT_ACTIVE_SEL 0 = 1) ∧
     (role s.dev = 1 → peerUp s.dev = true → Gives (.activeSelChange t false true) s fun d => role d = 2 ∧ d.jrn.outage = false ∧
       getF d F.PAIR_STAT_ACTIVE_SEL 0 = 0) ∧
     (role s.dev = 1 → Gives (.peerLost t) s fun d => role d = 3 ∧ peerUp d = false ∧ d.jrn.peerLostAt = some t) ∧
     (role s.dev = 2 → getF s.dev F.PAIR_STAT_ACTIVE_SEL 0 = 0 → Gives (.peerLost t) s fun d => role d = 4 ∧ peerUp d = false) ∧
     (role s.dev = 3 → s.dev.jrn.peerSel = false → ∀ act, Gives (.peerLinkReturn t act) s fun d =>
       role d = 1 ∧ peerUp d = true ∧ d.jrn.peerLostAt = none) ∧
     (role s.dev = 4 → Gives (.peerLinkReturn t true) s fun d => role d = 5 ∧ peerUp d = true) ∧
     (role s.dev = 5 → peerUp s.dev = true → ∀ image head, (∀ x ∈ image.pend, x.op ≠ 0x71) → Gives (.pairResyncDone t image head) s fun d =>
       role d = 2 ∧ d.ctl.epoch = image.epoch ∧ d.jrn.outage = false ∧
       getF d F.JRN_HEAD_HEAD_JSN 0 = head % 2 ^ F.JRN_HEAD_HEAD_JSN.width) ∧
     (∀ a, role s.dev = 5 → s.dev.jrn.peerLostAt = some a → getF s.dev F.PAIR_STAT_ACTIVE_SEL 0 = 1 → a + tickSec ≤ t →
       Gives (.joinPeerTimeout t) s fun d => role d = (if peerUp s.dev then 1 else 3) ∧ d.jrn.outage = true)) ∧
  (∀ (s : State) (t : Nat), s.dev.ctl.pair = true → peerUp s.dev = true →
     (∀ epoch head, Gives (.peerRecord t (.heartbeat epoch head)) s fun d => d.jrn.peerEpoch = epoch) ∧
     (∀ h r b buf, role s.dev = 1 → s.dev.jrn.outage = false → mget 0 s.dev.ctl.lastId (16 * (2 + h % 2) + r) < dCmdId b →
       Gives (.peerRecord t (.forward h r b buf)) s fun d =>
         d.ctl.recs = s.dev.ctl.recs ++ [mkRec (getF s.dev F.JRN_HEAD_HEAD_JSN 0 + 1) (2 + h % 2) r b buf] ∧
         mget 0 d.ctl.lastId (16 * (2 + h % 2) + r) = dCmdId b ∧
         getF d F.JRN_HEAD_HEAD_JSN 0 = (getF s.dev F.JRN_HEAD_HEAD_JSN 0 + 1) % 2 ^ F.JRN_HEAD_HEAD_JSN.width) ∧
     (∀ jsn dec j, isFollower s.dev = true → recOf s.dev jsn = some j → j.dec = none → Gives (.peerRecord t (.decision jsn dec)) s fun d =>
       recOf d jsn = some { j with dec := some dec }))

/-! HBM stacks and the flash store (R386 to R421). -/

namespace Sys2Proof.Claims

/-- Eye of byte lane `l` as training found it: a lane not listed has none (R386). -/
def eyeOf (eyes : List EyeObs) (l : Nat) : EyeObs := eyes.getD l { rdStart := 0, rdLen := 0, wrStart := 0, wrLen := 0 }

/-- The eye of lane `l` is at least 16 codes wide, read and write (R386). -/
def eyeGood (eyes : List EyeObs) (l : Nat) : Prop := 16 ≤ (eyeOf eyes l).rdLen ∧ 16 ≤ (eyeOf eyes l).wrLen

/-- Postponed refreshes of bank `b` of pseudo-channel `pc` (R391). -/
def debtOf (d : Dev) (p pc b : Nat) : Nat := mget 0 (hbmSt d p).debt (pc * 48 + b)

/-- The read-retry level in force for a block (R411). -/
def levelOf (d : Dev) (ch : Nat) (o : ReadObs) : Nat :=
  mget (poolOf (flsSt d ch) o.tlc).start (poolOf (flsSt d ch) o.tlc).levels o.block

/-- Channel `ch` may be mounted now: the device runs, the flash domain is out of reset, a card profile is known, and no FATAL event
holds the channel (R403, R404). -/
structure Mounts (d : Dev) (ch : Nat) : Prop where
  runs : d.rst.phase = 2
  released : ∀ x ∈ d.rst.inReset, x.step ≠ 7
  profile : d.profile = true
  kept : bit d.flt.outOfService (34 + ch) = false
  sound : (flsSt d ch).cond ≠ 4

end Sys2Proof.Claims

/-- Training sets every byte lane to the centre of its eye; with every eye 16 codes wide the stack is READY and a journal copy, and
otherwise FAILED with the first bad lane and its FLT_STATUS bit. The tracker moves a delay one code toward the wider side of an eye that
is short of margin, and stops 8 codes from the trained one (R386, R387). Refresh and reads of a READY stack: an idle bank pays its debt at
once, a bank of a real-time burst postpones at most 8 and is then pre-empted, any other is refreshed; a request older than 2 µs is
promoted, and the longest real-time wait is kept; a corrected error counts, an uncorrectable one counts and latches its address (R388,
R391 to R393). -/
def Obligations.StacksTrainAndServe : Prop :=
  (∀ (s : State) (t : Nat) (p : Fin 2),
     (hbmState s.dev p = 1 → ∀ eyes : List EyeObs,
       ((∀ l < 128, eyeGood eyes l) → Gives (.hbmTrainDone t p eyes) s fun d => hbmState d p = 2 ∧
         getF d (if (p : Nat) = 0 then F.JRN_STAT_HBM0 else F.JRN_STAT_HBM1) 0 = 1 ∧ getF d F.PLN_STATE_HBM_FAIL p = 0 ∧
         ∀ l < 128, getF d F.HBM_EYE_RD_CODE (ix p l) =
           eyeCentre (eyeOf eyes l).rdStart (eyeOf eyes l).rdLen % 2 ^ F.HBM_EYE_RD_CODE.width) ∧
       (∀ l < 128, ¬ eyeGood eyes l → (∀ k < l, eyeGood eyes k) → Gives (.hbmTrainDone t p eyes) s fun d => hbmState d p = 5 ∧
         getF d F.HBM_STAT_FAIL_LANE p = l ∧ fltBit d (16 + p) = true)) ∧
     (hbmState s.dev p = 2 → ∀ (l : Fin 128) (left right new : Nat), left < 4 ∨ right < 4 → left ≠ right →
       new = (if left < right then getF s.dev F.HBM_EYE_RD_CODE (ix p l) + 1 else getF s.dev F.HBM_EYE_RD_CODE (ix p l) - 1) →
       (new ≤ getF s.dev F.HBM_TRAIN_RD_CODE (ix p l) + 8 → getF s.dev F.HBM_TRAIN_RD_CODE (ix p l) ≤ new + 8 →
         Gives (.hbmEyeTrack t p l left right) s fun d =>
           getF d F.HBM_EYE_RD_CODE (ix p l) = new % 2 ^ F.HBM_EYE_RD_CODE.width ∧ d.hbm = s.dev.hbm) ∧
       (getF s.dev F.HBM_TRAIN_RD_CODE (ix p l) + 8 < new → (l : Nat) ∉ (hbmSt s.dev p).limited → Gives (.hbmEyeTrack t p l left right) s fun d =>
         getF d F.HBM_EYE_RD_CODE (ix p l) = getF s.dev F.HBM_EYE_RD_CODE (ix p l) ∧ getF d F.HBM_STAT_TRACK_LIMIT p = 1 ∧
         fltBit d (16 + p) = true))) ∧
  (∀ (s : State) (t : Nat) (p : Fin 2),
     (hbmState s.dev p = 2 → ∀ (pc : Fin 32) (b : Fin 48),
       (∀ held, Gives (.hbmRefreshInterval t p pc b true held) s fun d => debtOf d p pc b = 0) ∧
       (Gives (.hbmRefreshInterval t p pc b false false) s fun d => debtOf d p pc b = debtOf s.dev p pc b) ∧
       (debtOf s.dev p pc b < 7 → Gives (.hbmRefreshInterval t p pc b false true) s fun d =>
         debtOf d p pc b = debtOf s.dev p pc b + 1 ∧ getF d F.HBM_REF_PREEMPT p = getF s.dev F.HBM_REF_PREEMPT p) ∧
       (7 ≤ debtOf s.dev p pc b → Gives (.hbmRefreshInterval t p pc b false true) s fun d =>
         debtOf d p pc b = 7 ∧ Counted s.dev d F.HBM_REF_PREEMPT p) ∧
       (∀ issued rt, issued + 108000 < t → Gives (.hbmReqPromote t p pc issued rt) s fun d =>
         issued ∈ mget [] (hbmSt d p).promo pc ∧
         (rt = true → (t - issued) / 54 < 2 ^ F.HBM_RTLAT_MAX_NS.width →
           getF d F.HBM_RTLAT_MAX_NS p = max (getF s.dev F.HBM_RTLAT_MAX_NS p) ((t - issued) / 54)))) ∧
     (∀ o : HbmRead, (o.res = 0 → o.sev = 0 → Gives (.hbmScrub t p o) s fun d => d = s.dev.at t) ∧
       (o.res = 1 → Gives (.hbmScrub t p o) s fun d => Counted s.dev d F.HBM_ECC_HOST_CE p) ∧
       (2 ≤ o.res → Gives (.hbmScrub t p o) s fun d => Counted s.dev d F.HBM_ECC_HOST_UE p ∧
         (getF s.dev F.HBM_ECC_ADDR_VALID p = 0 → getF d F.HBM_ECC_ADDR_VALID p = 1 ∧
           getF d F.HBM_ECC_ADDR_ADDR p = o.addr / 64 % 2 ^ F.HBM_ECC_ADDR_ADDR.width))))

/-- Flash channels. A mount finds ABSENT, UNFORMATTED or, from a valid directory, HEALTHY; a timeout FAILS a written channel; a rebuilt
one beside a HEALTHY one is HEALTHY; the directory is rewritten when due; wear levelling moves the least-erased block's data (R402 to
R407, R413 to R416). Reads, erases and retention of a channel. A page that decodes at the block's level changes nothing while at most 120
bits are corrected; soft decode and another level count and relocate, the other level staying in force; a page that none decodes counts as
uncorrectable; an erase counts toward its block, a failed one retires it; the age grows by 2^((T−40)/10) a minute, 70 °C with no sensor; a
finished scrub clears it (R411 to R414). -/
def Obligations.FlashStoreFollows : Prop :=
  (∀ (s : State) (t : Nat) (ch : Fin 2),
     (Mounts s.dev ch → ∀ (profile : Bytes) (o : MountObs),
       (o.targets = 0 → Gives (.flashMount t ch profile o) s fun d => flsState d ch = 0) ∧
       (o.targets ≠ 0 → o.paramOk = false ∨ o.meets = false → Gives (.flashMount t ch profile o) s fun d => flsState d ch = 1) ∧
       (o.targets ≠ 0 → o.paramOk = true → o.meets = true → ∀ dir, o.dir = some dir → (flsSt s.dev ch).cond ≠ 2 → flsWritten s.dev (1 - ch) = false →
         Gives (.flashMount t ch profile o) s fun d => flsState d ch = 3 ∧
           getF d (if (ch : Nat) = 0 then F.JRN_STAT_FL0 else F.JRN_STAT_FL1) 0 = 1 ∧
           getF d F.FLS_BLOCKS_GROWN_BAD ch = dir.grownBad % 2 ^ F.FLS_BLOCKS_GROWN_BAD.width)) ∧
     (flsWritten s.dev ch = true → ∀ target, Gives (.flashTargetTimeout t ch target false) s fun d =>
       flsState d ch = 4 ∧ fltBit d (34 + ch) = true) ∧
     (flsState s.dev ch = 2 → flsState s.dev (1 - ch) = 3 → Gives (.flashRebuildDone t ch) s fun d => flsState d ch = 3) ∧
     (flsWritten s.dev ch = true → s.dev.rst.pwrLowAt = none → (flsSt s.dev ch).dirDue = true ∨ (flsSt s.dev ch).dirAt + 600 * tickSec ≤ t →
       Gives (.flashDirRewrite t ch) s fun d => d.out = .flash ch 1 0 0 :: s.dev.out ∧ (flsSt d ch).dirDue = false ∧ (flsSt d ch).dirAt = t) ∧
     (flsWritten s.dev ch = true → (flsSt s.dev ch).movedAt = none → ∀ (tlc : Bool) (pool : FlsPool), pool = poolOf (flsSt s.dev ch) tlc →
       (maxErase pool - minErase pool ≤ 500 → Gives (.flashWearLevel t ch tlc) s fun d => d = s.dev.at t) ∧
       (500 < maxErase pool - minErase pool → ∀ a b, pickBlock pool (fun a b => decide (a < b)) pool.used = some a →
         pickBlock pool (fun a b => decide (b < a)) ((pool.erase.map (·.1)).filter fun b => !pool.used.contains b) = some b →
         Gives (.flashWearLevel t ch tlc) s fun d => d.out = .flash ch 0x10 a b :: s.dev.out ∧ (flsSt d ch).movedAt = some t))) ∧
  (∀ (s : State) (t : Nat) (ch : Fin 2),
     (∀ o : ReadObs,
       (levelOf s.dev ch o ∈ o.hard → o.corrected ≤ 120 → Gives (.flashReadDone t ch o) s fun d => d = s.dev.at t) ∧
       (levelOf s.dev ch o ∉ o.hard → levelOf s.dev ch o ∈ o.soft → Gives (.flashReadDone t ch o) s fun d =>
         Counted s.dev d F.FLS_ECC_SOFT ch ∧ Counted s.dev d F.FLS_ECC_RELOC ch) ∧
       (levelOf s.dev ch o ∉ o.hard → levelOf s.dev ch o ∉ o.soft → ∀ l,
         ((levelOrder (flsSt s.dev ch).retry (levelOf s.dev ch o)).find? fun l => o.hard.contains l || o.soft.contains l) = some l →
         Gives (.flashReadDone t ch o) s fun d => levelOf d ch o = l ∧ Counted s.dev d F.FLS_ECC_RETRY ch ∧ Counted s.dev d F.FLS_ECC_RELOC ch) ∧
       (o.hard = [] → o.soft = [] → Gives (.flashReadDone t ch o) s fun d => Counted s.dev d F.FLS_ECC_UNCORR ch)) ∧
     (∀ (tlc : Bool) (block : Nat),
       (Gives (.flashEraseDone t ch tlc block true) s fun d =>
         eraseOf (poolOf (flsSt d ch) tlc) block = min 0xFFFF (eraseOf (poolOf (flsSt s.dev ch) tlc) block + 1)) ∧
       ((poolOf (flsSt s.dev ch) tlc).spare ≠ 0 → Gives (.flashEraseDone t ch tlc block false) s fun d =>
         Counted s.dev d F.FLS_BLOCKS_GROWN_BAD ch ∧ (poolOf (flsSt d ch) tlc).spare = (poolOf (flsSt s.dev ch) tlc).spare - 1)) ∧
     (∀ temp : Int, 640 ≤ temp → temp ≤ 1600 → Gives (.nandTempRead t ch (some temp)) s fun d =>
       (flsSt d ch).age = (flsSt s.dev ch).age + agePow (temp - 640).toNat ∧ getF d F.FLS_STAT_SENSOR ch = 1) ∧
     (Gives (.nandTempRead t ch none) s fun d =>
       (flsSt d ch).age = (flsSt s.dev ch).age + agePow 480 ∧ getF d F.FLS_STAT_SENSOR ch = 0 ∧
       (2160 * 62914560 ≤ (flsSt d ch).age → (flsSt s.dev ch).scrubbing = false → flsWritten s.dev ch = true → getF d F.FLS_STAT_SCRUB ch = 1)) ∧
     ((flsSt s.dev ch).scrubbing = true → Gives (.flashScrubDone t ch) s fun d => (flsSt d ch).scrubbing = false ∧ (flsSt d ch).age = 0 ∧
       getF d F.FLS_STAT_SCRUB ch = 0 ∧ getF d F.FLS_SCRUB_LAST ch = t / tickSec % 2 ^ 32))

/-! Firmware trials, resets, fuses and straps (R424 to R458). -/

namespace Sys2Proof.Claims

/-- Reversion of the trial firmware has begun with `cause`: the control epoch has risen and validation has stopped (R365, R438). -/
def Reverting (d : Dev) (cause : Nat) (u : Dev) : Prop :=
  u.sec.reverting = some cause ∧ u.ctl.epoch = (d.ctl.epoch + 1) % 2 ^ 32 ∧ u.jrn.outage = true

end Sys2Proof.Claims

/-- A trial that fails reverts: when its window ends, when validation has not resumed 2 s after activation, when a self-test fails; the
control epoch rises and validation stops for the takeover. In Pair the reversion waits for the first house frame that starts at least
10 ms later. A failed entropy test counts and sets FLT_STATUS.SEC (R438, R441). -/
def Obligations.TrialsRevert : Prop :=
  ∀ (s : State) (t : Nat),
    (fwUpdate s.dev = 4 → s.dev.sec.reverting = none → s.dev.ctl.pair = false →
      (∀ e, s.dev.sec.windowEnd = some e → e ≤ t → Gives (.fwWindowExpire t) s (Reverting s.dev 1)) ∧
      (∀ n, s.dev.sec.activating = some n → s.dev.sec.activatedAt + 2 * tickSec ≤ t → Gives (.fwResumeTimeout t) s (Reverting s.dev 4)) ∧
      Gives (.fwSelftestFail t) s (Reverting s.dev 5)) ∧
    (fwUpdate s.dev = 4 → s.dev.sec.reverting = none → s.dev.ctl.pair = true → (role s.dev = 1 ∨ role s.dev = 2) → s.dev.sec.revertAt = none →
      Gives (.fwSelftestFail t) s fun d => d.sec.revertAt = some (cdiv (t + 540000000) (framePeriod s.dev.ctl.ref.rate), 5) ∧
        d.ctl.epoch = s.dev.ctl.epoch) ∧
    (∀ e, s.dev.sec.windowEnd = some e → t < e → Gives (.fwWindowExpire t) s fun d => d.sec.reverting = s.dev.sec.reverting ∧
      getF d F.SEC_FW_STAT_WINDOW_S 0 = ((e - t + tickSec - 1) / tickSec) % 2 ^ F.SEC_FW_STAT_WINDOW_S.width) ∧
    Gives (.entropyFail t) s fun d => getF d F.SEC_ENTROPY_FAIL 0 = 1 ∧ Counted s.dev d F.SEC_ENTROPY_FAILS 0 ∧ fltBit d 33 = true

/-- The pins' reset sources. POR leaves every register at its Reset column and every domain in reset; PWRGOOD low asserts COLD with its
cause, stops both stacks and floats the pins; RESET_N low asserts WARM, or COLD by fuse or before BOOT; released, each of them stays only
until its entry is done (R446 to R448, R451, R461, R465). Software resets. A write of RST_SW with the key and a unit in range pulses,
holds (TILE, PLANE and HIF reach) or releases its reset; a wrong key, a unit out of range, or a hold or release of another reach is
discarded with SW_ERR; a pulse on the active processor is also a fence (R366, R452, R455, R466). -/
def Obligations.ResetSourcesAssert : Prop :=
  (∀ (s : State) (t : Nat),
     (∃ u, exec (.por t true) s = .next u ∧ u.mem = [] ∧ u.dev.rst.phase = 0 ∧ u.dev.rst.inReset = allDoms ∧ u.dev.ctl = {} ∧
       ∀ f i, getF u.dev f i = resetAt f i) ∧
     (s.dev.rst.phase = 0 → s.dev.rst.fuseFailPin = false → (∀ r ∈ s.dev.rst.reqs, r.reach = 8 → r.unit = 0 ∧ r.src = 0) →
       Gives (.por t false) s fun d => d.rst.phase = 1 ∧ ¬ Asserted d 8 0 0) ∧
     (Gives (.pwrgood t false) s fun d => Asserted d 8 0 1 ∧ getF d F.RST_CAUSE_PWRGOOD 0 = 1 ∧ getF d F.FUSE_STAT_VALID 0 = 0 ∧
       hbmState d 0 = 0 ∧ hbmState d 1 = 0 ∧ .pin pinAll 2 ∈ d.out ∧ d.jrn.outage = true ∧ d.rst.pwrLowAt ≠ none) ∧
     (Gives (.pwrgood t true) s fun d => d.rst.pwrLowAt = none ∧
       ∀ r ∈ d.rst.reqs, r.reach = 8 → r.unit = 0 → r.src = 1 → r.pulse = true ∧ r.entered = false) ∧
     (∀ reach, reach = (if s.dev.rst.phase ≠ 2 ∨ getF s.dev F.FUSE_STAT_RESETN_COLD 0 = 1 then 8 else 7) →
       Gives (.resetN t true) s fun d => Asserted d reach 0 2 ∧ getF d F.RST_CAUSE_RESET_N 0 = 1 ∧ getF d F.RST_CAUSE_LAST_REACH 0 = reach) ∧
     (Gives (.resetN t false) s fun d =>
       ∀ r ∈ d.rst.reqs, r.reach = 7 ∨ r.reach = 8 → r.unit = 0 → r.src = 2 → r.pulse = true ∧ r.entered = false)) ∧
  (∀ (s : State) (t : Nat) (key : Fin 256) (reach : Fin 16) (index : Fin 256),
     (∀ u, (key : Nat) = 0xA5 → swUnit reach index = some u →
       (Gives (.rstSwPulse t key reach index) s fun d => Asserted d reach u 3) ∧
       ((reach : Nat) = 5 → activePp s.dev = u → ppState s.dev u = 0 → Gives (.rstSwPulse t key reach index) s fun d =>
         d.ctl.epoch = (s.dev.ctl.epoch + 1) % 2 ^ 32) ∧
       ((reach : Nat) ∈ [3, 4, 6] →
         (Gives (.rstSwHold t key reach index) s fun d =>
           ∃ r ∈ d.rst.reqs, r.reach = reach ∧ r.unit = u ∧ r.src = 3 ∧ r.pulse = false) ∧
         (Gives (.rstSwRelease t key reach index) s fun d =>
           ∀ r ∈ d.rst.reqs, r.reach = reach → r.unit = u → r.src = 3 → r.pulse = true ∧ r.entered = false))) ∧
     ((key : Nat) ≠ 0xA5 ∨ swUnit reach index = none →
       Gives (.rstSwPulse t key reach index) s fun d => d = setF (s.dev.at t) F.RST_STAT_SW_ERR 0 1) ∧
     ((key : Nat) ≠ 0xA5 ∨ (reach : Nat) ∉ [3, 4, 6] ∨ swUnit reach index = none →
       (Gives (.rstSwHold t key reach index) s fun d => d = setF (s.dev.at t) F.RST_STAT_SW_ERR 0 1) ∧
       Gives (.rstSwRelease t key reach index) s fun d => d = setF (s.dev.at t) F.RST_STAT_SW_ERR 0 1))

/-- The device's own sources. The first two watchdog events in 10 minutes fence the active processor, the third is WARM, sets WDOG_WARM
and clears the count; a diode at 160 °C asserts and holds COLD with FAULT_N low, and below the trip nothing happens; the hold ends 1 s
after the diodes fell; a parity error in the valid fuse shadow asserts COLD (R449, R450, R456). -/
def Obligations.WatchdogAndTripAct : Prop :=
  ∀ (s : State) (t : Nat),
    (activePp s.dev < 2 → ppState s.dev (activePp s.dev) = 0 →
      ((wdogEvents (s.dev.at t)).length < 2 → Gives (.watchdog t) s fun d => d.rst.wdog = t :: wdogEvents (s.dev.at t) ∧
        Asserted d 5 (activePp s.dev) 4 ∧ ppState d (activePp s.dev) = 2 ∧ d.ctl.epoch = (s.dev.ctl.epoch + 1) % 2 ^ 32) ∧
      (2 ≤ (wdogEvents (s.dev.at t)).length → Gives (.watchdog t) s fun d => d.rst.wdog = [] ∧ Asserted d 7 0 4 ∧
        getF d F.RST_CAUSE_WDOG_WARM 0 = 1 ∧ d.ctl.epoch = s.dev.ctl.epoch)) ∧
    (∀ temps : List Int,
      ((∃ v ∈ temps.take 40, 2640 ≤ v ∨ (2560 ≤ v ∧ getF s.dev F.FUSE_STAT_VALID 0 = 1)) → Gives (.thermalTrip t temps) s fun d =>
        Asserted d 8 0 7 ∧ d.rst.thermalHold = true ∧ getF d F.RST_CAUSE_THERMAL 0 = 1 ∧ d.out.head? = some (.pin pinFaultN 0)) ∧
      ((∀ v ∈ temps.take 40, v < 2480 ∨ (v < 2560 ∧ getF s.dev F.FUSE_STAT_VALID 0 = 1)) → Gives (.thermalTrip t temps) s fun d =>
        d.rst = s.dev.rst ∧ d.out = s.dev.out ∧ ∀ f i, getF d f i = getF s.dev f i)) ∧
    (∀ since, s.dev.rst.thermalHold = true → since + tickSec ≤ t → Gives (.thermalHoldEnd t since) s fun d => d.rst.thermalHold = false ∧
      ∀ r ∈ d.rst.reqs, r.reach = 8 → r.unit = 0 → r.src = 7 → r.pulse = true ∧ r.entered = false) ∧
    (getF s.dev F.FUSE_STAT_VALID 0 = 1 → Gives (.fuseParityCheck t true) s fun d =>
      Asserted d 8 0 6 ∧ getF d F.RST_CAUSE_FUSE_PARITY 0 = 1 ∧ fltBit d 42 = true)

/-- Entry and release. RESET_ENTRY puts every domain that a source covers in reset and ends the pulses; WARM loses control SRAM and nothing
else of the memories, and COLD all of them and the control state. A released domain's step leaves reset as one, and no other domain
does; a domain without a clock waits, and follows when its clock returns; one whose clock does not run is switched to AONCLK (R446,
R447, R453, R454). -/
def Obligations.ResetsEnterAndLeave : Prop :=
  ∀ (s : State) (t : Nat),
    (∃ u, exec (.resetEntry t) s = .next u ∧ (∀ r ∈ u.dev.rst.reqs, r.pulse = false ∧ r.entered = true) ∧
      (∀ r ∈ s.dev.rst.reqs, r.entered = false → ∀ x ∈ allDoms, coversIn s.dev r.reach r.unit x = true → x ∈ u.dev.rst.inReset) ∧
      ((∃ r ∈ s.dev.rst.reqs, r.entered = false ∧ r.reach = 8) → u.mem = [] ∧ u.dev.ctl = {}) ∧
      ((∃ r ∈ s.dev.rst.reqs, r.entered = false ∧ r.reach = 7) → (∀ r ∈ s.dev.rst.reqs, r.entered = false → r.reach ≠ 8) →
        u.dev.jrn.outage = true ∧ ∀ a, mget 0 u.mem a = if inSram a then 0 else mget 0 s.mem a)) ∧
    (∀ x rest, nextBatch s.dev = x :: rest → x.step ≠ 4 → ∀ straps count, Gives (.resetReleaseStep t true [] straps count) s fun d =>
      ∀ y, y ∈ d.rst.inReset ↔ y ∈ s.dev.rst.inReset ∧ y ∉ x :: rest) ∧
    (∀ absent straps count, Gives (.resetReleaseStep t false absent straps count) s fun d => d = s.dev.at t) ∧
    (∀ x ∈ s.dev.rst.inReset, s.dev.rst.clkWait = [x] → (∀ r ∈ s.dev.rst.reqs, coversIn s.dev r.reach r.unit x = false) →
      Gives (.resetClockReturn t x.step x.unit) s fun d => d.rst.clkWait = [] ∧ x ∉ d.rst.inReset) ∧
    (∀ x ∈ allDoms, x ∉ s.dev.rst.onAon → Gives (.resetClockFallback t x.step x.unit) s fun d => x ∈ d.rst.onAon)

/-- The fuse load and boundary scan. A good load makes the shadow valid and takes step 2 out of reset; a bad one is tried again, and the
third leaves the device in COLD_RESET with FUSE_FAIL high and FAULT_N low. A strap takes the majority of its samples; IDCODE shifts the
device's code out (R456, R458, R520). -/
def Obligations.FusesLoadAndStrapsSample : Prop :=
  ∀ (s : State) (t : Nat),
    (s.dev.rst.phase = 1 → ({ step := 2, unit := 0 } : Dom) ∈ s.dev.rst.inReset →
      (Gives (.fuseLoadDone t true) s fun d => getF d F.FUSE_STAT_VALID 0 = 1 ∧ ({ step := 2, unit := 0 } : Dom) ∉ d.rst.inReset ∧
        d.rst.fuseFails = 0 ∧ getF d F.FUSE_STAT_FAILS 0 = s.dev.rst.fuseFails % 2 ^ F.FUSE_STAT_FAILS.width) ∧
      (s.dev.rst.fuseFails < 2 → Gives (.fuseLoadDone t false) s fun d => d.rst.fuseFails = s.dev.rst.fuseFails + 1 ∧ d.rst.phase = 1 ∧
        d.rst.inReset = s.dev.rst.inReset) ∧
      (2 ≤ s.dev.rst.fuseFails → Gives (.fuseLoadDone t false) s fun d => d.rst.phase = 0 ∧ d.rst.fuseFailPin = true ∧
        .pin pinFuseFail 1 ∈ d.out ∧ d.out.head? = some (.pin pinFaultN 0))) ∧
    (∀ x rest, nextBatch s.dev = x :: rest → x.step = 3 → ∀ straps count, Gives (.resetReleaseStep t true [] straps count) s fun d =>
      getF d F.RST_STRAP_PAIR_ID 0 = strapBit straps 4 ∧ getF d F.RST_STRAP_TEST_N 0 = strapBit straps 5 ∧
      getF d F.RST_STRAP_BOOT_SRC 0 = strapBit straps 0 + 2 * strapBit straps 1) ∧
    (∀ i : Fin 6, Gives (.jtagInstruction t i) s fun d => d.rst.jtag = i ∧ ∀ f k, getF d f k = getF s.dev f k) ∧
    Gives (.jtagInstruction t 3) s fun d => d.out = .rdata 8 4 0x11152B47 :: s.dev.out

/-! Fault collection, monitors, rails and the margin survey (R471 to R489, R511 to R513). -/

namespace Sys2Proof.Claims

/-- The fields of FLT_FIRST and FLT_FIRST_TIME, and FLT_OVF (R474, R479). -/
def firstFields : List Fld :=
  [F.FLT_FIRST_VALID, F.FLT_FIRST_FATAL, F.FLT_FIRST_CAUSE, F.FLT_FIRST_TIME_TIME, F.FLT_FIRST_SUB_BIT, F.FLT_FIRST_SUB_SUB, F.FLT_OVF_OVF]

/-- The survey schedule is due: its period has passed and its hour has come, or the time of day is not valid (R485). -/
def surveyDue (d : Dev) (t : Nat) : Prop :=
  getF d F.AGE_CFG_PERIOD_D 0 ≠ 0 ∧ getF d F.AGE_STAT_LAST 0 + min 365 (getF d F.AGE_CFG_PERIOD_D 0) * 86400 ≤ t / tickSec ∧
    (getF d F.DPLL_STATUS_TOD_VALID 0 = 0 ∨ t / tickSec % 86400 / 3600 = min 23 (getF d F.AGE_CFG_HOUR 0))

end Sys2Proof.Claims

/-- An event on a block's error line sets its FLT_STATUS bit and its FLT_CAUSE; in LATCH mode the first is latched in FLT_FIRST and a later
one only sets its FLT_OVF bit, in HISTORY mode it takes the next entry; a FATAL event applies its bit's reaction: WARM, COLD, or a
fence (R473 to R477). -/
def Obligations.FaultsAreCollected : Prop :=
  ∀ (s : State) (t : Nat) (b : Fin 48) (cause sub : Nat) (region : Bool),
    (Gives (.faultEvent t b cause sub region) s fun d => fltBit d b = true ∧
      getF d F.FLT_CAUSE_CAUSE b = cause % 2 ^ F.FLT_CAUSE_CAUSE.width ∧ getF d F.FLT_CAUSE_SUB b = sub % 2 ^ F.FLT_CAUSE_SUB.width ∧
      getF d F.FLT_CAUSE_FATAL b = b2n (isFatal cause) ∧ Counted s.dev d F.FLT_CAUSE_COUNT b) ∧
    (getF s.dev F.FLT_MODE_MODE 0 ≠ 1 →
      (getF s.dev F.FLT_FIRST_VALID 0 = 0 → Gives (.faultEvent t b cause sub region) s fun d => getF d F.FLT_FIRST_VALID 0 = 1 ∧
        getF d F.FLT_FIRST_SUB_BIT 0 = b ∧ getF d F.FLT_FIRST_CAUSE 0 = cause % 2 ^ F.FLT_FIRST_CAUSE.width ∧
        getF d F.FLT_FIRST_TIME_TIME 0 = nsOf t % 2 ^ F.FLT_FIRST_TIME_TIME.width ∧ getF d F.FLT_OVF_OVF 0 = getF s.dev F.FLT_OVF_OVF 0) ∧
      (getF s.dev F.FLT_FIRST_VALID 0 ≠ 0 → Gives (.faultEvent t b cause sub region) s fun d => bit (getF d F.FLT_OVF_OVF 0) b = true ∧
        ∀ f ∈ firstFields, f ≠ F.FLT_OVF_OVF → getF d f 0 = getF s.dev f 0)) ∧
    (getF s.dev F.FLT_MODE_MODE 0 = 1 → getF s.dev F.FLT_HIST_PTR_NEXT 0 < 32 → Gives (.faultEvent t b cause sub region) s fun d =>
      getF d F.FLT_HISTORY_BIT (getF s.dev F.FLT_HIST_PTR_NEXT 0) = b ∧
      getF d F.FLT_HIST_PTR_NEXT 0 = (getF s.dev F.FLT_HIST_PTR_NEXT 0 + 1) % 32 ∧ ∀ f ∈ firstFields, getF d f 0 = getF s.dev f 0) ∧
    (isFatal cause = true → region = false →
      (actionFor (s.dev.at t) b = 2 → Gives (.faultEvent t b cause sub region) s fun d =>
        d.ctl.epoch = (s.dev.ctl.epoch + 1) % 2 ^ 32 ∧ d.jrn.outage = true) ∧
      (actionFor (s.dev.at t) b = 3 → Gives (.faultEvent t b cause sub region) s fun d => Asserted d 7 0 5 ∧ getF d F.RST_CAUSE_FLT_WARM 0 = 1) ∧
      (actionFor (s.dev.at t) b = 4 → Gives (.faultEvent t b cause sub region) s fun d => Asserted d 8 0 5 ∧ getF d F.RST_CAUSE_FLT_COLD 0 = 1))

/-- Clearing and the collector's own writes. A clear clears the bits written, waits for their checks and changes no latched record; a
cause still there sets the bit again with its FLT_CLRFAIL bit; FLT_FIRST, its time and FLT_OVF clear together; a legal reaction is
stored and another is WR_ERR; the window ends in LATCH mode; the oldest record goes to each HEALTHY channel (R474, R476, R479, R481). -/
def Obligations.FaultsAreCleared : Prop :=
  ∀ (s : State) (t : Nat),
    (∀ ones, Gives (.fltStatusClear t ones) s fun d =>
      (∀ b < 48, fltBit d b = (fltBit s.dev b && !bit ones b)) ∧ (∀ b < 48, fltBit s.dev b = true → bit ones b = true → b ∈ d.flt.checks) ∧
      ∀ f ∈ firstFields, getF d f 0 = getF s.dev f 0) ∧
    (∀ b : Fin 48, (b : Nat) ∈ s.dev.flt.checks →
      (Gives (.fltClearCheck t b true) s fun d => fltBit d b = true ∧ bit (getF d F.FLT_CLRFAIL_PERSIST 0) b = true ∧ (b : Nat) ∉ d.flt.checks) ∧
      (Gives (.fltClearCheck t b false) s fun d => (∀ f i, getF d f i = getF s.dev f i) ∧ (b : Nat) ∉ d.flt.checks)) ∧
    (Gives (.fltFirstClear t) s fun d => ∀ f ∈ firstFields, getF d f 0 = 0) ∧
    (∀ (b : Fin 48) (v : Nat),
      (actionLegal b (bits v 4 3) = true → Gives (.fltReactWrite t b v) s fun d => getF d F.FLT_REACT_ACTION b = bits v 4 3 ∧
        getF d F.FLT_REACT_FAULT_N b = bits v 3 1 ∧ getF d F.FLT_REACT_IRQ b = bits v 2 1) ∧
      (actionLegal b (bits v 4 3) = false → Gives (.fltReactWrite t b v) s fun d => d = setF (s.dev.at t) F.FLT_CTRL_WR_ERR 0 1)) ∧
    (∀ a, s.dev.flt.windowAt = some a → s.dev.flt.bist = false → devState s.dev = dvService →
      (a + 60 * tickSec ≤ t → Gives (.fltModeWindow t) s fun d => getF d F.FLT_MODE_MODE 0 = 0 ∧ getF d F.FLT_MODE_WINDOW_S 0 = 0) ∧
      (t < a + 60 * tickSec → Gives (.fltModeWindow t) s fun d => getF d F.FLT_MODE_MODE 0 = 1)) ∧
    (∀ e rest, s.dev.flt.buf = e :: rest → healthyChans s.dev ≠ [] → s.dev.rst.pwrLowAt = none → Gives (.faultLogWrite t) s fun d =>
      d.flt.buf = rest ∧ ∀ c ∈ healthyChans s.dev, .flash c 0x0A 0x0F10 e ∈ d.out)

/-- Monitors and rails. A replica under 2 % of slack, a diode at 150 °C and a rail outside its window for 10 µs each raise a WARN or
FATAL event of AGE, THERM or PWR, and readings in range change no register; AVS writes move a rail while VDD_CORE stays at or below
VDD_SRAM, three invalid responses stop them, and AVS steps 5 mV toward the recorded target (R484, R511 to R513). -/
def Obligations.MonitorsAndRailsAct : Prop :=
  ∀ (s : State) (t : Nat),
    (∀ slack : List Nat,
      (getF s.dev F.AGE_STAT_RUNNING 0 ≠ 1 → (∃ k < 32, slack.getD k 10000 < 200 ∧ k ∉ s.dev.age.low) → Gives (.monitorSample t slack) s fun d =>
        fltBit d 44 = true) ∧
      ((∀ k < 32, 200 ≤ slack.getD k 10000) → Gives (.monitorSample t slack) s fun d => d.age.low = [] ∧
        ∀ f i, getF d f i = getF s.dev f i)) ∧
    (∀ temps : List Int,
      ((∃ k < 40, 2400 ≤ temps.getD k 0 ∧ k ∉ s.dev.age.hot) → Gives (.thermalSample t temps) s fun d => fltBit d 43 = true) ∧
      ((∀ k < 40, temps.getD k 0 < 2400) → (∀ k < 16, tileSplit temps k = false) → Gives (.thermalSample t temps) s fun d =>
        d.age.hot = [] ∧ ∀ f i, getF d f i = getF s.dev f i)) ∧
    (∀ (rail : Fin 12) (level since : Nat),
      (since + 540000 ≤ t → level < (railWindow (s.dev.at t) rail).1 ∨ (railWindow (s.dev.at t) rail).2 < level →
        Gives (.railOutOfWindow t rail level since) s fun d => fltBit d 47 = true ∧ getF d F.FLT_CAUSE_CAUSE 47 = 0x0D ∧
          getF d F.FLT_CAUSE_SUB 47 = rail) ∧
      ((railWindow (s.dev.at t) rail).1 ≤ level → level ≤ (railWindow (s.dev.at t) rail).2 →
        Gives (.railOutOfWindow t rail level since) s fun d => d = s.dev.at t)) ∧
    (dvService ≤ devState s.dev → s.dev.avs.stopped = false → ∀ mv,
      (mv ≤ s.dev.avs.sram → Gives (.avsWrite t 0 mv true) s fun d => d.avs.core = mv ∧ d.out = .avs 0 mv :: s.dev.out) ∧
      (s.dev.avs.core ≤ mv → Gives (.avsWrite t 1 mv true) s fun d => d.avs.sram = mv ∧ d.out = .avs 1 mv :: s.dev.out) ∧
      (mv ≤ s.dev.avs.sram → mget 0 s.dev.avs.bad 0 = 2 → Gives (.avsWrite t 0 mv false) s fun d =>
        d.avs.stopped = true ∧ d.avs.core = s.dev.avs.core ∧ fltBit d 47 = true) ∧
      (s.dev.avs.sram < mv → ∀ ok, Gives (.avsWrite t 0 mv ok) s fun d => d = s.dev.at t)) ∧
    (devState s.dev = dvService → s.dev.avs.stopped = false → (∀ a, s.dev.avs.stepAt = some a → a + 540000000 ≤ t) →
      (s.dev.avs.core < avsTarget s.dev → Gives (.avsStep t true) s fun d =>
        d.avs.core = min (avsTarget s.dev) (s.dev.avs.core + 5) ∧ d.avs.core ≤ d.avs.sram ∧ d.avs.stepAt = some t) ∧
      (avsTarget s.dev < s.dev.avs.core → Gives (.avsStep t true) s fun d => d.avs.core = max (avsTarget s.dev) (s.dev.avs.core - 5)))

/-- The margin survey. It starts when its schedule is due in SERVICE; a measurement of a step becomes the item's value; its report ends it,
writes 0xFF as the margin of what was not measured, and completes the command that started it (R485, R486, R489). -/
def Obligations.SurveysRun : Prop :=
  ∀ (s : State) (t : Nat),
    (surveyDue s.dev t → getF s.dev F.AGE_STAT_RUNNING 0 ≠ 1 → devState s.dev = dvService → s.dev.jrn.outage = false →
      Gives (.surveySchedule t) s fun d => getF d F.AGE_STAT_RUNNING 0 = 1 ∧ d.age.startedAt = some t ∧ d.age.jsn = none ∧
        getF d F.AGE_STAT_SEQ 0 = (getF s.dev F.AGE_STAT_SEQ 0 + 1) % 2 ^ F.AGE_STAT_SEQ.width) ∧
    (getF s.dev F.AGE_STAT_RUNNING 0 = 1 → s.dev.jrn.outage = false →
      (∀ loss pair, (∀ e ∈ s.dev.age.meas, e.1 ≠ 3) → Gives (.surveyStep t (.ring loss pair)) s fun d =>
        (d.age.meas.find? fun e => e.1 == 3) = some (3, 80000 - (loss : Int), pair)) ∧
      (s.dev.age.replan = false → Gives (.surveyStep t .budget) s fun d => d = s.dev.at t) ∧
      (Gives (.ageingReport t) s fun d => getF d F.AGE_STAT_RUNNING 0 = 0 ∧ d.age.startedAt = none ∧ d.age.jsn = none ∧
        ∀ k < 15, (∀ e ∈ s.dev.age.meas, e.1 ≠ k) → getF d F.AGE_ITEM_MARGIN k = 0xFF) ∧
      (∀ n j, s.dev.age.jsn = some n → recOf s.dev n = some j → j.dec = none → isFollower s.dev = false → Gives (.ageingReport t) s fun d =>
        ∃ det, Decided d n stDone (hfn (s.dev.at t)) det))

/-! What the remaining commands leave alone, and what holds of the whole machine. -/

namespace Sys2Proof.Claims

/-- Commands of the always-on domain, the stacks, the flash store and the monitors: whatever they raise, they stay within that domain. -/
def isManagementCmd : Instr → Prop
  | .hbmTrainDone .. | .hbmEyeTrack .. | .hbmRefreshInterval .. | .hbmReqPromote .. | .hbmScrub .. => True
  | .flashMount .. | .flashReadDone .. | .flashTargetTimeout .. | .flashRebuildDone .. | .flashDirRewrite .. | .flashWearLevel .. => True
  | .nandTempRead .. | .flashScrubDone .. | .flashEraseDone .. | .flashProgramDone .. | .journalFlush .. | .checkpointTimer .. => True
  | .faultEvent .. | .fltStatusClear .. | .fltClearCheck .. | .fltFirstClear .. | .fltReactWrite .. | .fltModeWindow .. => True
  | .faultLogWrite .. | .monitorSample .. | .thermalSample .. | .avsWrite .. | .avsStep .. | .railOutOfWindow .. | .surveySchedule .. => True
  | .belayHb .. | .belayHbMiss .. | .fenceDrainDone .. | .ppBistDone .. | .watchdog .. | .thermalTrip .. | .thermalHoldEnd .. => True
  | .resetN .. | .pwrgood .. | .rstSwPulse .. | .rstSwHold .. | .rstSwRelease .. | .fuseParityCheck .. | .fuseLoadDone .. => True
  | .jtagInstruction .. | .resetClockFallback .. | .entropyFail .. | .fwWindowExpire .. | .fwResumeTimeout .. | .fwSelftestFail .. => True
  | .belayOutToggle .. | .activeSelChange .. | .peerLost .. | .peerLinkReturn .. => True
  | _ => False

/-- The fields outside their own blocks that those commands may change: the planes' states, the processors' REMAP bits, and what events
and completions change. -/
def managementFields : List Fld :=
  [F.PLN_STATE_STATE, F.PLN_STATE_TILE_FAIL, F.PLN_STATE_HBM_FAIL, F.PLN_STATE_COL_FAIL, F.PLN_UNDERRUN_CNT_COUNT, F.MTX_CTRL_REMAP_PP0,
   F.MTX_CTRL_REMAP_PP1] ++ evtFields ++ cplFields

/-- A reset of WARM or COLD reach is about to enter. -/
def WideEntry (d : Dev) : Prop := ∃ r ∈ d.rst.reqs, r.entered = false ∧ 7 ≤ r.reach

/-- Windows of the engines (R501, R508). -/
def windowFields : List Fld := [F.MTX_WIN_BASE_BASE, F.MTX_WIN_BASE_W, F.MTX_WIN_BASE_R, F.MTX_WIN_LIM_LAST]

/-- Row of the table of R40 that a rate code stands in: 25 and 50, 29.97 and 59.94, 30 and 60, 24, 23.98. -/
def familyRow (code : Nat) : Nat := match code with | 3 => 0 | 6 => 0 | 4 => 1 | 7 => 1 | 5 => 2 | 8 => 2 | 2 => 3 | _ => 4

end Sys2Proof.Claims

/-- The frame of the commands of the always-on domain, the stacks, the flash store and the monitors: of registers only those of the
system, reset, fault, Belay, journal, security, flash, peer, ageing, fuse and HBM blocks change, and a plane's state; beside them only
the engines of those blocks, the control epoch, the planes' own state, the outputs and the host rings. No route, compositor, link,
lane, audio, TDM, Ethernet, timing or pending command changes (R386 to R393, R402 to R421, R446 to R484). -/
def Obligations.ManagementCommandsKeepTheRest : Prop :=
  Frames isManagementCmd fun d u =>
    Only [blkSys, blkRst, blkFlt, blkBelay, blkJrn, blkSec, blkFls, blkPeer, blkAge, blkFuse, blkHbm] managementFields d u ∧
    u = { d with now := u.now, regs := u.regs, out := u.out, host := u.host, jrn := u.jrn, rst := u.rst, flt := u.flt, fls := u.fls,
                 hbm := u.hbm, avs := u.avs, age := u.age, freeCtr := u.freeCtr, profile := u.profile,
                 sec := { d.sec with reverting := u.sec.reverting, revertAt := u.sec.revertAt }, ctl := { d.ctl with epoch := u.ctl.epoch },
                 pln := { d.pln with planes := u.pln.planes, fs := u.pln.fs, dst := u.pln.dst } }

/-- Once LOCK is 1, no command but POR and the entry of a WARM or COLD reset clears it, and no other changes a window (R503). -/
def Obligations.OnlyResetsUnlock : Prop :=
  ∀ (c : Instr) (s u : State), getF s.dev F.MTX_CTRL_LOCK 0 = 1 → exec c s = .next u → (∀ t, c ≠ .por t true) →
    (∀ t, c = .resetEntry t → ¬ WideEntry s.dev) →
    getF u.dev F.MTX_CTRL_LOCK 0 = 1 ∧ ∀ f ∈ windowFields, ∀ i, getF u.dev f i = getF s.dev f i

/-- A rate is in the house family exactly when it stands in the house rate's row of R40's table; rate codes are those of HOUSE_RATE. -/
def Obligations.HouseFamily : Prop :=
  ∀ h r : Nat, 1 ≤ h → h ≤ 8 → (inFamily h r = true ↔ 1 ≤ r ∧ r ≤ 8 ∧ familyRow r = familyRow h)

/-- An engine's transaction is permitted exactly when it lies wholly within one of its eight windows that grants its direction: journal,
security and flash are engines 0, 1 and 2 (R501). -/
def Obligations.EngineWindowsGrant : Prop :=
  ∀ (d : Dev) (e : Fin 3) (a size : Nat) (write : Bool), reaches d (4 + e) a size write = true ↔
    ∃ k < 8, (if write then getF d F.MTX_WIN_BASE_W (8 * e + k) = 1 else getF d F.MTX_WIN_BASE_R (8 * e + k) = 1) ∧
      getF d F.MTX_WIN_BASE_BASE (8 * e + k) * 4096 ≤ a ∧ a + size ≤ (getF d F.MTX_WIN_LIM_LAST (8 * e + k) + 1) * 4096
end

