-- ==== Sys2Proof/Laws/Maps.lean ====
section
/-! SUPPORT. Sparse maps: what a key reads as after a write, and that every operation keeps the canonical form. -/

namespace Sys2Proof.Machine

theorem mget_mdel_same {α : Type} (d : α) (m : SMap α) (k : Nat) : mget d (mdel m k) k = d := by
  induction m with
  | nil => rfl
  | cons e r ih => obtain ⟨j, w⟩ := e; by_cases h : j = k <;> simp [mdel, mget, h, ih]

theorem mget_mdel_ne {α : Type} (d : α) (m : SMap α) (k j : Nat) (h : j ≠ k) : mget d (mdel m k) j = mget d m j := by
  induction m with
  | nil => rfl
  | cons e r ih =>
    obtain ⟨i, w⟩ := e
    by_cases hk : i = k
    · subst hk; simp [mdel, mget, ih, Ne.symm h]
    · by_cases hj : i = j
      · subst hj; simp [mdel, mget, hk]
      · simp [mdel, mget, hk, hj, ih]

theorem mget_mins_same {α : Type} (d v : α) (m : SMap α) (k : Nat) (h : mget d m k = d) (hm : ∀ e ∈ m, e.1 ≠ k) :
    mget d (mins k v m) k = v := by
  induction m with
  | nil => simp [mins, mget]
  | cons e r ih =>
    obtain ⟨j, w⟩ := e
    have hj : j ≠ k := hm _ List.mem_cons_self
    by_cases hl : k < j
    · simp [mins, mget, hl]
    · simp only [mins, hl, if_false, mget, hj]
      exact ih (by simpa [mget, hj] using h) (fun e he => hm e (List.mem_cons_of_mem _ he))

theorem mget_mins_ne {α : Type} (d v : α) (m : SMap α) (k j : Nat) (h : j ≠ k) : mget d (mins k v m) j = mget d m j := by
  induction m with
  | nil => simp [mins, mget, Ne.symm h]
  | cons e r ih =>
    obtain ⟨i, w⟩ := e
    by_cases hl : k < i
    · simp [mins, mget, hl, Ne.symm h]
    · by_cases hj : i = j
      · subst hj; simp [mins, mget, hl]
      · simp [mins, mget, hl, hj, ih]

theorem mdel_ne {α : Type} (m : SMap α) (k : Nat) : ∀ e ∈ mdel m k, e.1 ≠ k := by
  induction m with
  | nil => simp [mdel]
  | cons e r ih =>
    obtain ⟨j, w⟩ := e
    by_cases h : j = k
    · simpa [mdel, h] using ih
    · simp only [mdel, h, if_false]
      intro e he
      rcases List.mem_cons.mp he with rfl | he
      · exact h
      · exact ih e he

/-- A key reads what was last written to it. -/
@[simp] theorem mget_mset_same {α : Type} [DecidableEq α] (d v : α) (m : SMap α) (k : Nat) : mget d (mset d m k v) k = v := by
  unfold mset
  split
  · next h => rw [mget_mdel_same, h]
  · exact mget_mins_same d v _ k (mget_mdel_same d m k) (mdel_ne m k)

/-- A write leaves every other key alone. -/
theorem mget_mset_ne {α : Type} [DecidableEq α] (d v : α) (m : SMap α) (k j : Nat) (h : j ≠ k) :
    mget d (mset d m k v) j = mget d m j := by
  unfold mset
  split
  · exact mget_mdel_ne d m k j h
  · rw [mget_mins_ne d v _ k j h, mget_mdel_ne d m k j h]

/-- The same with two defaults: what key `j` reads does not depend on the value that key `k` is removed for. -/
theorem mget_mset_other {α : Type} [DecidableEq α] {d e v : α} {m : SMap α} {k j : Nat} (h : j ≠ k) :
    mget d (mset e m k v) j = mget d m j := by
  unfold mset
  split
  · exact mget_mdel_ne d m k j h
  · rw [mget_mins_ne d v _ k j h, mget_mdel_ne d m k j h]

theorem mwfFrom_mono {α : Type} [DecidableEq α] (d : α) (m : SMap α) (a b : Option Nat)
    (hab : ∀ x, b = some x → ∃ y, a = some y ∧ x ≤ y) (h : mwfFrom d a m = true) : mwfFrom d b m = true := by
  cases m with
  | nil => rfl
  | cons e r =>
    obtain ⟨j, w⟩ := e
    simp only [mwfFrom, Bool.and_eq_true] at h ⊢
    refine ⟨⟨?_, h.1.2⟩, h.2⟩
    cases b with
    | none => rfl
    | some x =>
      obtain ⟨y, rfl, hy⟩ := hab x rfl
      have := h.1.1
      simp only [decide_eq_true_eq] at this ⊢
      omega

theorem mwfFrom_mdel {α : Type} [DecidableEq α] (d : α) (m : SMap α) (k : Nat) (a : Option Nat)
    (h : mwfFrom d a m = true) : mwfFrom d a (mdel m k) = true := by
  induction m generalizing a with
  | nil => rfl
  | cons e r ih =>
    obtain ⟨j, w⟩ := e
    simp only [mwfFrom, Bool.and_eq_true] at h
    by_cases hk : j = k
    · simp only [mdel, hk, if_true]
      refine mwfFrom_mono d _ (some j) a ?_ (ih _ h.2)
      intro x hx; subst hx
      exact ⟨j, rfl, by have := h.1.1; simp only [decide_eq_true_eq] at this; omega⟩
    · simp only [mdel, hk, if_false, mwfFrom, Bool.and_eq_true]
      exact ⟨h.1, ih _ h.2⟩

theorem mwfFrom_mins {α : Type} [DecidableEq α] (d v : α) (m : SMap α) (k : Nat) (a : Option Nat) (hv : v ≠ d)
    (ha : ∀ x, a = some x → x < k) (hm : ∀ e ∈ m, e.1 ≠ k) (h : mwfFrom d a m = true) : mwfFrom d a (mins k v m) = true := by
  induction m generalizing a with
  | nil =>
    cases a with
    | none => simp [mins, mwfFrom, hv]
    | some x => simp [mins, mwfFrom, hv, ha x rfl]
  | cons e r ih =>
    obtain ⟨j, w⟩ := e
    have hj : j ≠ k := hm _ List.mem_cons_self
    simp only [mwfFrom, Bool.and_eq_true] at h
    by_cases hl : k < j
    · simp only [mins, hl, if_true, mwfFrom, Bool.and_eq_true]
      refine ⟨⟨?_, by simp [hv]⟩, ⟨by simp, h.1.2⟩, h.2⟩
      cases a with
      | none => rfl
      | some x => simp [ha x rfl]
    · simp only [mins, hl, if_false, mwfFrom, Bool.and_eq_true]
      exact ⟨h.1, ih (some j) (by intro x hx; cases hx; omega) (fun e he => hm e (List.mem_cons_of_mem _ he)) h.2⟩

/-- A write keeps the canonical form. -/
theorem mwf_mset {α : Type} [DecidableEq α] (d v : α) (m : SMap α) (k : Nat) (h : mwf d m = true) : mwf d (mset d m k v) = true := by
  unfold mset mwf at *
  split
  · exact mwfFrom_mdel d m k none h
  · next hv => exact mwfFrom_mins d v _ k none hv (by simp) (mdel_ne m k) (mwfFrom_mdel d m k none h)

/-- Keeping some of the entries keeps the canonical form. -/
theorem mwfFrom_filter {α : Type} [DecidableEq α] (d : α) (q : Nat × α → Bool) (m : SMap α) (a : Option Nat)
    (h : mwfFrom d a m = true) : mwfFrom d a (m.filter q) = true := by
  induction m generalizing a with
  | nil => rfl
  | cons e r ih =>
    obtain ⟨j, w⟩ := e
    simp only [mwfFrom, Bool.and_eq_true] at h
    by_cases hq : q (j, w) = true
    · simp only [List.filter_cons, hq, if_true, mwfFrom, Bool.and_eq_true]
      exact ⟨h.1, ih _ h.2⟩
    · simp only [List.filter_cons, hq]
      refine mwfFrom_mono d _ (some j) a ?_ (ih _ h.2)
      intro x hx; subst hx
      exact ⟨j, rfl, by have := h.1.1; simp only [decide_eq_true_eq] at this; omega⟩

end Sys2Proof.Machine
end

