-- ==== Sys2Proof/Laws/State.lean ====
section
/-! SUPPORT. What each update of the device leaves as it was: one lemma per field and update, true by definition. -/

namespace Sys2Proof.Machine

@[simp] theorem setF_now (s : Dev) (f : Fld) (i v : Nat) : (setF s f i v).now = s.now := rfl
@[simp] theorem setF_out (s : Dev) (f : Fld) (i v : Nat) : (setF s f i v).out = s.out := rfl
@[simp] theorem setF_freeCtr (s : Dev) (f : Fld) (i v : Nat) : (setF s f i v).freeCtr = s.freeCtr := rfl
@[simp] theorem setF_latches (s : Dev) (f : Fld) (i v : Nat) : (setF s f i v).latches = s.latches := rfl
@[simp] theorem setF_holds (s : Dev) (f : Fld) (i v : Nat) : (setF s f i v).holds = s.holds := rfl
@[simp] theorem setF_host (s : Dev) (f : Fld) (i v : Nat) : (setF s f i v).host = s.host := rfl
@[simp] theorem setF_ctl (s : Dev) (f : Fld) (i v : Nat) : (setF s f i v).ctl = s.ctl := rfl
@[simp] theorem setF_jrn (s : Dev) (f : Fld) (i v : Nat) : (setF s f i v).jrn = s.jrn := rfl
@[simp] theorem setF_tim (s : Dev) (f : Fld) (i v : Nat) : (setF s f i v).tim = s.tim := rfl
@[simp] theorem setF_pln (s : Dev) (f : Fld) (i v : Nat) : (setF s f i v).pln = s.pln := rfl
@[simp] theorem setF_rst (s : Dev) (f : Fld) (i v : Nat) : (setF s f i v).rst = s.rst := rfl
@[simp] theorem setF_flt (s : Dev) (f : Fld) (i v : Nat) : (setF s f i v).flt = s.flt := rfl
@[simp] theorem setF_otl (s : Dev) (f : Fld) (i v : Nat) : (setF s f i v).otl = s.otl := rfl
@[simp] theorem setF_hbm (s : Dev) (f : Fld) (i v : Nat) : (setF s f i v).hbm = s.hbm := rfl
@[simp] theorem setF_cmp (s : Dev) (f : Fld) (i v : Nat) : (setF s f i v).cmp = s.cmp := rfl
@[simp] theorem setF_library (s : Dev) (f : Fld) (i v : Nat) : (setF s f i v).library = s.library := rfl
@[simp] theorem setF_tdm (s : Dev) (f : Fld) (i v : Nat) : (setF s f i v).tdm = s.tdm := rfl
@[simp] theorem setF_mclkOff (s : Dev) (f : Fld) (i v : Nat) : (setF s f i v).mclkOff = s.mclkOff := rfl
@[simp] theorem setF_aud (s : Dev) (f : Fld) (i v : Nat) : (setF s f i v).aud = s.aud := rfl
@[simp] theorem setF_eth (s : Dev) (f : Fld) (i v : Nat) : (setF s f i v).eth = s.eth := rfl
@[simp] theorem setF_fls (s : Dev) (f : Fld) (i v : Nat) : (setF s f i v).fls = s.fls := rfl
@[simp] theorem setF_profile (s : Dev) (f : Fld) (i v : Nat) : (setF s f i v).profile = s.profile := rfl
@[simp] theorem setF_sec (s : Dev) (f : Fld) (i v : Nat) : (setF s f i v).sec = s.sec := rfl
@[simp] theorem setF_age (s : Dev) (f : Fld) (i v : Nat) : (setF s f i v).age = s.age := rfl
@[simp] theorem setF_mtx (s : Dev) (f : Fld) (i v : Nat) : (setF s f i v).mtx = s.mtx := rfl
@[simp] theorem setF_avs (s : Dev) (f : Fld) (i v : Nat) : (setF s f i v).avs = s.avs := rfl

@[simp] theorem at_regs (s : Dev) (t : Nat) : (s.at t).regs = s.regs := rfl
@[simp] theorem at_out (s : Dev) (t : Nat) : (s.at t).out = s.out := rfl
@[simp] theorem at_freeCtr (s : Dev) (t : Nat) : (s.at t).freeCtr = s.freeCtr := rfl
@[simp] theorem at_latches (s : Dev) (t : Nat) : (s.at t).latches = s.latches := rfl
@[simp] theorem at_holds (s : Dev) (t : Nat) : (s.at t).holds = s.holds := rfl
@[simp] theorem at_host (s : Dev) (t : Nat) : (s.at t).host = s.host := rfl
@[simp] theorem at_ctl (s : Dev) (t : Nat) : (s.at t).ctl = s.ctl := rfl
@[simp] theorem at_jrn (s : Dev) (t : Nat) : (s.at t).jrn = s.jrn := rfl
@[simp] theorem at_tim (s : Dev) (t : Nat) : (s.at t).tim = s.tim := rfl
@[simp] theorem at_pln (s : Dev) (t : Nat) : (s.at t).pln = s.pln := rfl
@[simp] theorem at_rst (s : Dev) (t : Nat) : (s.at t).rst = s.rst := rfl
@[simp] theorem at_flt (s : Dev) (t : Nat) : (s.at t).flt = s.flt := rfl
@[simp] theorem at_otl (s : Dev) (t : Nat) : (s.at t).otl = s.otl := rfl
@[simp] theorem at_hbm (s : Dev) (t : Nat) : (s.at t).hbm = s.hbm := rfl
@[simp] theorem at_cmp (s : Dev) (t : Nat) : (s.at t).cmp = s.cmp := rfl
@[simp] theorem at_library (s : Dev) (t : Nat) : (s.at t).library = s.library := rfl
@[simp] theorem at_tdm (s : Dev) (t : Nat) : (s.at t).tdm = s.tdm := rfl
@[simp] theorem at_mclkOff (s : Dev) (t : Nat) : (s.at t).mclkOff = s.mclkOff := rfl
@[simp] theorem at_aud (s : Dev) (t : Nat) : (s.at t).aud = s.aud := rfl
@[simp] theorem at_eth (s : Dev) (t : Nat) : (s.at t).eth = s.eth := rfl
@[simp] theorem at_fls (s : Dev) (t : Nat) : (s.at t).fls = s.fls := rfl
@[simp] theorem at_profile (s : Dev) (t : Nat) : (s.at t).profile = s.profile := rfl
@[simp] theorem at_sec (s : Dev) (t : Nat) : (s.at t).sec = s.sec := rfl
@[simp] theorem at_age (s : Dev) (t : Nat) : (s.at t).age = s.age := rfl
@[simp] theorem at_mtx (s : Dev) (t : Nat) : (s.at t).mtx = s.mtx := rfl
@[simp] theorem at_avs (s : Dev) (t : Nat) : (s.at t).avs = s.avs := rfl

@[simp] theorem emit_regs (s : Dev) (o : Out) : (emit s o).regs = s.regs := rfl
@[simp] theorem emit_now (s : Dev) (o : Out) : (emit s o).now = s.now := rfl
@[simp] theorem emit_freeCtr (s : Dev) (o : Out) : (emit s o).freeCtr = s.freeCtr := rfl
@[simp] theorem emit_latches (s : Dev) (o : Out) : (emit s o).latches = s.latches := rfl
@[simp] theorem emit_holds (s : Dev) (o : Out) : (emit s o).holds = s.holds := rfl
@[simp] theorem emit_host (s : Dev) (o : Out) : (emit s o).host = s.host := rfl
@[simp] theorem emit_ctl (s : Dev) (o : Out) : (emit s o).ctl = s.ctl := rfl
@[simp] theorem emit_jrn (s : Dev) (o : Out) : (emit s o).jrn = s.jrn := rfl
@[simp] theorem emit_tim (s : Dev) (o : Out) : (emit s o).tim = s.tim := rfl
@[simp] theorem emit_pln (s : Dev) (o : Out) : (emit s o).pln = s.pln := rfl
@[simp] theorem emit_rst (s : Dev) (o : Out) : (emit s o).rst = s.rst := rfl
@[simp] theorem emit_flt (s : Dev) (o : Out) : (emit s o).flt = s.flt := rfl
@[simp] theorem emit_otl (s : Dev) (o : Out) : (emit s o).otl = s.otl := rfl
@[simp] theorem emit_hbm (s : Dev) (o : Out) : (emit s o).hbm = s.hbm := rfl
@[simp] theorem emit_cmp (s : Dev) (o : Out) : (emit s o).cmp = s.cmp := rfl
@[simp] theorem emit_library (s : Dev) (o : Out) : (emit s o).library = s.library := rfl
@[simp] theorem emit_tdm (s : Dev) (o : Out) : (emit s o).tdm = s.tdm := rfl
@[simp] theorem emit_mclkOff (s : Dev) (o : Out) : (emit s o).mclkOff = s.mclkOff := rfl
@[simp] theorem emit_aud (s : Dev) (o : Out) : (emit s o).aud = s.aud := rfl
@[simp] theorem emit_eth (s : Dev) (o : Out) : (emit s o).eth = s.eth := rfl
@[simp] theorem emit_fls (s : Dev) (o : Out) : (emit s o).fls = s.fls := rfl
@[simp] theorem emit_profile (s : Dev) (o : Out) : (emit s o).profile = s.profile := rfl
@[simp] theorem emit_sec (s : Dev) (o : Out) : (emit s o).sec = s.sec := rfl
@[simp] theorem emit_age (s : Dev) (o : Out) : (emit s o).age = s.age := rfl
@[simp] theorem emit_mtx (s : Dev) (o : Out) : (emit s o).mtx = s.mtx := rfl
@[simp] theorem emit_avs (s : Dev) (o : Out) : (emit s o).avs = s.avs := rfl

@[simp] theorem modCtl_regs (s : Dev) (g : Ctl → Ctl) : (modCtl s g).regs = s.regs := rfl
@[simp] theorem modCtl_now (s : Dev) (g : Ctl → Ctl) : (modCtl s g).now = s.now := rfl
@[simp] theorem modCtl_out (s : Dev) (g : Ctl → Ctl) : (modCtl s g).out = s.out := rfl
@[simp] theorem modCtl_freeCtr (s : Dev) (g : Ctl → Ctl) : (modCtl s g).freeCtr = s.freeCtr := rfl
@[simp] theorem modCtl_latches (s : Dev) (g : Ctl → Ctl) : (modCtl s g).latches = s.latches := rfl
@[simp] theorem modCtl_holds (s : Dev) (g : Ctl → Ctl) : (modCtl s g).holds = s.holds := rfl
@[simp] theorem modCtl_host (s : Dev) (g : Ctl → Ctl) : (modCtl s g).host = s.host := rfl
@[simp] theorem modCtl_jrn (s : Dev) (g : Ctl → Ctl) : (modCtl s g).jrn = s.jrn := rfl
@[simp] theorem modCtl_tim (s : Dev) (g : Ctl → Ctl) : (modCtl s g).tim = s.tim := rfl
@[simp] theorem modCtl_pln (s : Dev) (g : Ctl → Ctl) : (modCtl s g).pln = s.pln := rfl
@[simp] theorem modCtl_rst (s : Dev) (g : Ctl → Ctl) : (modCtl s g).rst = s.rst := rfl
@[simp] theorem modCtl_flt (s : Dev) (g : Ctl → Ctl) : (modCtl s g).flt = s.flt := rfl
@[simp] theorem modCtl_otl (s : Dev) (g : Ctl → Ctl) : (modCtl s g).otl = s.otl := rfl
@[simp] theorem modCtl_hbm (s : Dev) (g : Ctl → Ctl) : (modCtl s g).hbm = s.hbm := rfl
@[simp] theorem modCtl_cmp (s : Dev) (g : Ctl → Ctl) : (modCtl s g).cmp = s.cmp := rfl
@[simp] theorem modCtl_library (s : Dev) (g : Ctl → Ctl) : (modCtl s g).library = s.library := rfl
@[simp] theorem modCtl_tdm (s : Dev) (g : Ctl → Ctl) : (modCtl s g).tdm = s.tdm := rfl
@[simp] theorem modCtl_mclkOff (s : Dev) (g : Ctl → Ctl) : (modCtl s g).mclkOff = s.mclkOff := rfl
@[simp] theorem modCtl_aud (s : Dev) (g : Ctl → Ctl) : (modCtl s g).aud = s.aud := rfl
@[simp] theorem modCtl_eth (s : Dev) (g : Ctl → Ctl) : (modCtl s g).eth = s.eth := rfl
@[simp] theorem modCtl_fls (s : Dev) (g : Ctl → Ctl) : (modCtl s g).fls = s.fls := rfl
@[simp] theorem modCtl_profile (s : Dev) (g : Ctl → Ctl) : (modCtl s g).profile = s.profile := rfl
@[simp] theorem modCtl_sec (s : Dev) (g : Ctl → Ctl) : (modCtl s g).sec = s.sec := rfl
@[simp] theorem modCtl_age (s : Dev) (g : Ctl → Ctl) : (modCtl s g).age = s.age := rfl
@[simp] theorem modCtl_mtx (s : Dev) (g : Ctl → Ctl) : (modCtl s g).mtx = s.mtx := rfl
@[simp] theorem modCtl_avs (s : Dev) (g : Ctl → Ctl) : (modCtl s g).avs = s.avs := rfl

@[simp] theorem setRing_regs (s : Dev) (h r : Nat) (x : RingSt) : (setRing s h r x).regs = s.regs := rfl
@[simp] theorem setRing_now (s : Dev) (h r : Nat) (x : RingSt) : (setRing s h r x).now = s.now := rfl
@[simp] theorem setRing_out (s : Dev) (h r : Nat) (x : RingSt) : (setRing s h r x).out = s.out := rfl
@[simp] theorem setRing_freeCtr (s : Dev) (h r : Nat) (x : RingSt) : (setRing s h r x).freeCtr = s.freeCtr := rfl
@[simp] theorem setRing_latches (s : Dev) (h r : Nat) (x : RingSt) : (setRing s h r x).latches = s.latches := rfl
@[simp] theorem setRing_holds (s : Dev) (h r : Nat) (x : RingSt) : (setRing s h r x).holds = s.holds := rfl
@[simp] theorem setRing_ctl (s : Dev) (h r : Nat) (x : RingSt) : (setRing s h r x).ctl = s.ctl := rfl
@[simp] theorem setRing_jrn (s : Dev) (h r : Nat) (x : RingSt) : (setRing s h r x).jrn = s.jrn := rfl
@[simp] theorem setRing_tim (s : Dev) (h r : Nat) (x : RingSt) : (setRing s h r x).tim = s.tim := rfl
@[simp] theorem setRing_pln (s : Dev) (h r : Nat) (x : RingSt) : (setRing s h r x).pln = s.pln := rfl
@[simp] theorem setRing_rst (s : Dev) (h r : Nat) (x : RingSt) : (setRing s h r x).rst = s.rst := rfl
@[simp] theorem setRing_flt (s : Dev) (h r : Nat) (x : RingSt) : (setRing s h r x).flt = s.flt := rfl
@[simp] theorem setRing_otl (s : Dev) (h r : Nat) (x : RingSt) : (setRing s h r x).otl = s.otl := rfl
@[simp] theorem setRing_hbm (s : Dev) (h r : Nat) (x : RingSt) : (setRing s h r x).hbm = s.hbm := rfl
@[simp] theorem setRing_cmp (s : Dev) (h r : Nat) (x : RingSt) : (setRing s h r x).cmp = s.cmp := rfl
@[simp] theorem setRing_library (s : Dev) (h r : Nat) (x : RingSt) : (setRing s h r x).library = s.library := rfl
@[simp] theorem setRing_tdm (s : Dev) (h r : Nat) (x : RingSt) : (setRing s h r x).tdm = s.tdm := rfl
@[simp] theorem setRing_mclkOff (s : Dev) (h r : Nat) (x : RingSt) : (setRing s h r x).mclkOff = s.mclkOff := rfl
@[simp] theorem setRing_aud (s : Dev) (h r : Nat) (x : RingSt) : (setRing s h r x).aud = s.aud := rfl
@[simp] theorem setRing_eth (s : Dev) (h r : Nat) (x : RingSt) : (setRing s h r x).eth = s.eth := rfl
@[simp] theorem setRing_fls (s : Dev) (h r : Nat) (x : RingSt) : (setRing s h r x).fls = s.fls := rfl
@[simp] theorem setRing_profile (s : Dev) (h r : Nat) (x : RingSt) : (setRing s h r x).profile = s.profile := rfl
@[simp] theorem setRing_sec (s : Dev) (h r : Nat) (x : RingSt) : (setRing s h r x).sec = s.sec := rfl
@[simp] theorem setRing_age (s : Dev) (h r : Nat) (x : RingSt) : (setRing s h r x).age = s.age := rfl
@[simp] theorem setRing_mtx (s : Dev) (h r : Nat) (x : RingSt) : (setRing s h r x).mtx = s.mtx := rfl
@[simp] theorem setRing_avs (s : Dev) (h r : Nat) (x : RingSt) : (setRing s h r x).avs = s.avs := rfl

@[simp] theorem setHif_regs (s : Dev) (h : Nat) (x : HifSt) : (setHif s h x).regs = s.regs := rfl
@[simp] theorem setHif_now (s : Dev) (h : Nat) (x : HifSt) : (setHif s h x).now = s.now := rfl
@[simp] theorem setHif_out (s : Dev) (h : Nat) (x : HifSt) : (setHif s h x).out = s.out := rfl
@[simp] theorem setHif_freeCtr (s : Dev) (h : Nat) (x : HifSt) : (setHif s h x).freeCtr = s.freeCtr := rfl
@[simp] theorem setHif_latches (s : Dev) (h : Nat) (x : HifSt) : (setHif s h x).latches = s.latches := rfl
@[simp] theorem setHif_holds (s : Dev) (h : Nat) (x : HifSt) : (setHif s h x).holds = s.holds := rfl
@[simp] theorem setHif_ctl (s : Dev) (h : Nat) (x : HifSt) : (setHif s h x).ctl = s.ctl := rfl
@[simp] theorem setHif_jrn (s : Dev) (h : Nat) (x : HifSt) : (setHif s h x).jrn = s.jrn := rfl
@[simp] theorem setHif_tim (s : Dev) (h : Nat) (x : HifSt) : (setHif s h x).tim = s.tim := rfl
@[simp] theorem setHif_pln (s : Dev) (h : Nat) (x : HifSt) : (setHif s h x).pln = s.pln := rfl
@[simp] theorem setHif_rst (s : Dev) (h : Nat) (x : HifSt) : (setHif s h x).rst = s.rst := rfl
@[simp] theorem setHif_flt (s : Dev) (h : Nat) (x : HifSt) : (setHif s h x).flt = s.flt := rfl
@[simp] theorem setHif_otl (s : Dev) (h : Nat) (x : HifSt) : (setHif s h x).otl = s.otl := rfl
@[simp] theorem setHif_hbm (s : Dev) (h : Nat) (x : HifSt) : (setHif s h x).hbm = s.hbm := rfl
@[simp] theorem setHif_cmp (s : Dev) (h : Nat) (x : HifSt) : (setHif s h x).cmp = s.cmp := rfl
@[simp] theorem setHif_library (s : Dev) (h : Nat) (x : HifSt) : (setHif s h x).library = s.library := rfl
@[simp] theorem setHif_tdm (s : Dev) (h : Nat) (x : HifSt) : (setHif s h x).tdm = s.tdm := rfl
@[simp] theorem setHif_mclkOff (s : Dev) (h : Nat) (x : HifSt) : (setHif s h x).mclkOff = s.mclkOff := rfl
@[simp] theorem setHif_aud (s : Dev) (h : Nat) (x : HifSt) : (setHif s h x).aud = s.aud := rfl
@[simp] theorem setHif_eth (s : Dev) (h : Nat) (x : HifSt) : (setHif s h x).eth = s.eth := rfl
@[simp] theorem setHif_fls (s : Dev) (h : Nat) (x : HifSt) : (setHif s h x).fls = s.fls := rfl
@[simp] theorem setHif_profile (s : Dev) (h : Nat) (x : HifSt) : (setHif s h x).profile = s.profile := rfl
@[simp] theorem setHif_sec (s : Dev) (h : Nat) (x : HifSt) : (setHif s h x).sec = s.sec := rfl
@[simp] theorem setHif_age (s : Dev) (h : Nat) (x : HifSt) : (setHif s h x).age = s.age := rfl
@[simp] theorem setHif_mtx (s : Dev) (h : Nat) (x : HifSt) : (setHif s h x).mtx = s.mtx := rfl
@[simp] theorem setHif_avs (s : Dev) (h : Nat) (x : HifSt) : (setHif s h x).avs = s.avs := rfl

@[simp] theorem setLatch_regs (s : Dev) (m a : Nat) (v : Option Nat) : (setLatch s m a v).regs = s.regs := rfl
@[simp] theorem setLatch_now (s : Dev) (m a : Nat) (v : Option Nat) : (setLatch s m a v).now = s.now := rfl
@[simp] theorem setLatch_out (s : Dev) (m a : Nat) (v : Option Nat) : (setLatch s m a v).out = s.out := rfl
@[simp] theorem setLatch_freeCtr (s : Dev) (m a : Nat) (v : Option Nat) : (setLatch s m a v).freeCtr = s.freeCtr := rfl
@[simp] theorem setLatch_holds (s : Dev) (m a : Nat) (v : Option Nat) : (setLatch s m a v).holds = s.holds := rfl
@[simp] theorem setLatch_host (s : Dev) (m a : Nat) (v : Option Nat) : (setLatch s m a v).host = s.host := rfl
@[simp] theorem setLatch_ctl (s : Dev) (m a : Nat) (v : Option Nat) : (setLatch s m a v).ctl = s.ctl := rfl
@[simp] theorem setLatch_jrn (s : Dev) (m a : Nat) (v : Option Nat) : (setLatch s m a v).jrn = s.jrn := rfl
@[simp] theorem setLatch_tim (s : Dev) (m a : Nat) (v : Option Nat) : (setLatch s m a v).tim = s.tim := rfl
@[simp] theorem setLatch_pln (s : Dev) (m a : Nat) (v : Option Nat) : (setLatch s m a v).pln = s.pln := rfl
@[simp] theorem setLatch_rst (s : Dev) (m a : Nat) (v : Option Nat) : (setLatch s m a v).rst = s.rst := rfl
@[simp] theorem setLatch_flt (s : Dev) (m a : Nat) (v : Option Nat) : (setLatch s m a v).flt = s.flt := rfl
@[simp] theorem setLatch_otl (s : Dev) (m a : Nat) (v : Option Nat) : (setLatch s m a v).otl = s.otl := rfl
@[simp] theorem setLatch_hbm (s : Dev) (m a : Nat) (v : Option Nat) : (setLatch s m a v).hbm = s.hbm := rfl
@[simp] theorem setLatch_cmp (s : Dev) (m a : Nat) (v : Option Nat) : (setLatch s m a v).cmp = s.cmp := rfl
@[simp] theorem setLatch_library (s : Dev) (m a : Nat) (v : Option Nat) : (setLatch s m a v).library = s.library := rfl
@[simp] theorem setLatch_tdm (s : Dev) (m a : Nat) (v : Option Nat) : (setLatch s m a v).tdm = s.tdm := rfl
@[simp] theorem setLatch_mclkOff (s : Dev) (m a : Nat) (v : Option Nat) : (setLatch s m a v).mclkOff = s.mclkOff := rfl
@[simp] theorem setLatch_aud (s : Dev) (m a : Nat) (v : Option Nat) : (setLatch s m a v).aud = s.aud := rfl
@[simp] theorem setLatch_eth (s : Dev) (m a : Nat) (v : Option Nat) : (setLatch s m a v).eth = s.eth := rfl
@[simp] theorem setLatch_fls (s : Dev) (m a : Nat) (v : Option Nat) : (setLatch s m a v).fls = s.fls := rfl
@[simp] theorem setLatch_profile (s : Dev) (m a : Nat) (v : Option Nat) : (setLatch s m a v).profile = s.profile := rfl
@[simp] theorem setLatch_sec (s : Dev) (m a : Nat) (v : Option Nat) : (setLatch s m a v).sec = s.sec := rfl
@[simp] theorem setLatch_age (s : Dev) (m a : Nat) (v : Option Nat) : (setLatch s m a v).age = s.age := rfl
@[simp] theorem setLatch_mtx (s : Dev) (m a : Nat) (v : Option Nat) : (setLatch s m a v).mtx = s.mtx := rfl
@[simp] theorem setLatch_avs (s : Dev) (m a : Nat) (v : Option Nat) : (setLatch s m a v).avs = s.avs := rfl

@[simp] theorem setPlaneSt_regs (s : Dev) (p : Nat) (x : PlaneSt) : (setPlaneSt s p x).regs = s.regs := rfl
@[simp] theorem setPlaneSt_now (s : Dev) (p : Nat) (x : PlaneSt) : (setPlaneSt s p x).now = s.now := rfl
@[simp] theorem setPlaneSt_out (s : Dev) (p : Nat) (x : PlaneSt) : (setPlaneSt s p x).out = s.out := rfl
@[simp] theorem setPlaneSt_freeCtr (s : Dev) (p : Nat) (x : PlaneSt) : (setPlaneSt s p x).freeCtr = s.freeCtr := rfl
@[simp] theorem setPlaneSt_latches (s : Dev) (p : Nat) (x : PlaneSt) : (setPlaneSt s p x).latches = s.latches := rfl
@[simp] theorem setPlaneSt_holds (s : Dev) (p : Nat) (x : PlaneSt) : (setPlaneSt s p x).holds = s.holds := rfl
@[simp] theorem setPlaneSt_host (s : Dev) (p : Nat) (x : PlaneSt) : (setPlaneSt s p x).host = s.host := rfl
@[simp] theorem setPlaneSt_ctl (s : Dev) (p : Nat) (x : PlaneSt) : (setPlaneSt s p x).ctl = s.ctl := rfl
@[simp] theorem setPlaneSt_jrn (s : Dev) (p : Nat) (x : PlaneSt) : (setPlaneSt s p x).jrn = s.jrn := rfl
@[simp] theorem setPlaneSt_tim (s : Dev) (p : Nat) (x : PlaneSt) : (setPlaneSt s p x).tim = s.tim := rfl
@[simp] theorem setPlaneSt_rst (s : Dev) (p : Nat) (x : PlaneSt) : (setPlaneSt s p x).rst = s.rst := rfl
@[simp] theorem setPlaneSt_flt (s : Dev) (p : Nat) (x : PlaneSt) : (setPlaneSt s p x).flt = s.flt := rfl
@[simp] theorem setPlaneSt_otl (s : Dev) (p : Nat) (x : PlaneSt) : (setPlaneSt s p x).otl = s.otl := rfl
@[simp] theorem setPlaneSt_hbm (s : Dev) (p : Nat) (x : PlaneSt) : (setPlaneSt s p x).hbm = s.hbm := rfl
@[simp] theorem setPlaneSt_cmp (s : Dev) (p : Nat) (x : PlaneSt) : (setPlaneSt s p x).cmp = s.cmp := rfl
@[simp] theorem setPlaneSt_library (s : Dev) (p : Nat) (x : PlaneSt) : (setPlaneSt s p x).library = s.library := rfl
@[simp] theorem setPlaneSt_tdm (s : Dev) (p : Nat) (x : PlaneSt) : (setPlaneSt s p x).tdm = s.tdm := rfl
@[simp] theorem setPlaneSt_mclkOff (s : Dev) (p : Nat) (x : PlaneSt) : (setPlaneSt s p x).mclkOff = s.mclkOff := rfl
@[simp] theorem setPlaneSt_aud (s : Dev) (p : Nat) (x : PlaneSt) : (setPlaneSt s p x).aud = s.aud := rfl
@[simp] theorem setPlaneSt_eth (s : Dev) (p : Nat) (x : PlaneSt) : (setPlaneSt s p x).eth = s.eth := rfl
@[simp] theorem setPlaneSt_fls (s : Dev) (p : Nat) (x : PlaneSt) : (setPlaneSt s p x).fls = s.fls := rfl
@[simp] theorem setPlaneSt_profile (s : Dev) (p : Nat) (x : PlaneSt) : (setPlaneSt s p x).profile = s.profile := rfl
@[simp] theorem setPlaneSt_sec (s : Dev) (p : Nat) (x : PlaneSt) : (setPlaneSt s p x).sec = s.sec := rfl
@[simp] theorem setPlaneSt_age (s : Dev) (p : Nat) (x : PlaneSt) : (setPlaneSt s p x).age = s.age := rfl
@[simp] theorem setPlaneSt_mtx (s : Dev) (p : Nat) (x : PlaneSt) : (setPlaneSt s p x).mtx = s.mtx := rfl
@[simp] theorem setPlaneSt_avs (s : Dev) (p : Nat) (x : PlaneSt) : (setPlaneSt s p x).avs = s.avs := rfl

@[simp] theorem setRef_regs (s : Dev) (r : Nat) (x : RefSt) : (setRef s r x).regs = s.regs := rfl
@[simp] theorem setRef_now (s : Dev) (r : Nat) (x : RefSt) : (setRef s r x).now = s.now := rfl
@[simp] theorem setRef_out (s : Dev) (r : Nat) (x : RefSt) : (setRef s r x).out = s.out := rfl
@[simp] theorem setRef_freeCtr (s : Dev) (r : Nat) (x : RefSt) : (setRef s r x).freeCtr = s.freeCtr := rfl
@[simp] theorem setRef_latches (s : Dev) (r : Nat) (x : RefSt) : (setRef s r x).latches = s.latches := rfl
@[simp] theorem setRef_holds (s : Dev) (r : Nat) (x : RefSt) : (setRef s r x).holds = s.holds := rfl
@[simp] theorem setRef_host (s : Dev) (r : Nat) (x : RefSt) : (setRef s r x).host = s.host := rfl
@[simp] theorem setRef_ctl (s : Dev) (r : Nat) (x : RefSt) : (setRef s r x).ctl = s.ctl := rfl
@[simp] theorem setRef_jrn (s : Dev) (r : Nat) (x : RefSt) : (setRef s r x).jrn = s.jrn := rfl
@[simp] theorem setRef_pln (s : Dev) (r : Nat) (x : RefSt) : (setRef s r x).pln = s.pln := rfl
@[simp] theorem setRef_rst (s : Dev) (r : Nat) (x : RefSt) : (setRef s r x).rst = s.rst := rfl
@[simp] theorem setRef_flt (s : Dev) (r : Nat) (x : RefSt) : (setRef s r x).flt = s.flt := rfl
@[simp] theorem setRef_otl (s : Dev) (r : Nat) (x : RefSt) : (setRef s r x).otl = s.otl := rfl
@[simp] theorem setRef_hbm (s : Dev) (r : Nat) (x : RefSt) : (setRef s r x).hbm = s.hbm := rfl
@[simp] theorem setRef_cmp (s : Dev) (r : Nat) (x : RefSt) : (setRef s r x).cmp = s.cmp := rfl
@[simp] theorem setRef_library (s : Dev) (r : Nat) (x : RefSt) : (setRef s r x).library = s.library := rfl
@[simp] theorem setRef_tdm (s : Dev) (r : Nat) (x : RefSt) : (setRef s r x).tdm = s.tdm := rfl
@[simp] theorem setRef_mclkOff (s : Dev) (r : Nat) (x : RefSt) : (setRef s r x).mclkOff = s.mclkOff := rfl
@[simp] theorem setRef_aud (s : Dev) (r : Nat) (x : RefSt) : (setRef s r x).aud = s.aud := rfl
@[simp] theorem setRef_eth (s : Dev) (r : Nat) (x : RefSt) : (setRef s r x).eth = s.eth := rfl
@[simp] theorem setRef_fls (s : Dev) (r : Nat) (x : RefSt) : (setRef s r x).fls = s.fls := rfl
@[simp] theorem setRef_profile (s : Dev) (r : Nat) (x : RefSt) : (setRef s r x).profile = s.profile := rfl
@[simp] theorem setRef_sec (s : Dev) (r : Nat) (x : RefSt) : (setRef s r x).sec = s.sec := rfl
@[simp] theorem setRef_age (s : Dev) (r : Nat) (x : RefSt) : (setRef s r x).age = s.age := rfl
@[simp] theorem setRef_mtx (s : Dev) (r : Nat) (x : RefSt) : (setRef s r x).mtx = s.mtx := rfl
@[simp] theorem setRef_avs (s : Dev) (r : Nat) (x : RefSt) : (setRef s r x).avs = s.avs := rfl

@[simp] theorem setLnk_regs (s : Dev) (p l : Nat) (x : LnkSt) : (setLnk s p l x).regs = s.regs := rfl
@[simp] theorem setLnk_now (s : Dev) (p l : Nat) (x : LnkSt) : (setLnk s p l x).now = s.now := rfl
@[simp] theorem setLnk_out (s : Dev) (p l : Nat) (x : LnkSt) : (setLnk s p l x).out = s.out := rfl
@[simp] theorem setLnk_freeCtr (s : Dev) (p l : Nat) (x : LnkSt) : (setLnk s p l x).freeCtr = s.freeCtr := rfl
@[simp] theorem setLnk_latches (s : Dev) (p l : Nat) (x : LnkSt) : (setLnk s p l x).latches = s.latches := rfl
@[simp] theorem setLnk_holds (s : Dev) (p l : Nat) (x : LnkSt) : (setLnk s p l x).holds = s.holds := rfl
@[simp] theorem setLnk_host (s : Dev) (p l : Nat) (x : LnkSt) : (setLnk s p l x).host = s.host := rfl
@[simp] theorem setLnk_ctl (s : Dev) (p l : Nat) (x : LnkSt) : (setLnk s p l x).ctl = s.ctl := rfl
@[simp] theorem setLnk_jrn (s : Dev) (p l : Nat) (x : LnkSt) : (setLnk s p l x).jrn = s.jrn := rfl
@[simp] theorem setLnk_tim (s : Dev) (p l : Nat) (x : LnkSt) : (setLnk s p l x).tim = s.tim := rfl
@[simp] theorem setLnk_pln (s : Dev) (p l : Nat) (x : LnkSt) : (setLnk s p l x).pln = s.pln := rfl
@[simp] theorem setLnk_rst (s : Dev) (p l : Nat) (x : LnkSt) : (setLnk s p l x).rst = s.rst := rfl
@[simp] theorem setLnk_flt (s : Dev) (p l : Nat) (x : LnkSt) : (setLnk s p l x).flt = s.flt := rfl
@[simp] theorem setLnk_hbm (s : Dev) (p l : Nat) (x : LnkSt) : (setLnk s p l x).hbm = s.hbm := rfl
@[simp] theorem setLnk_cmp (s : Dev) (p l : Nat) (x : LnkSt) : (setLnk s p l x).cmp = s.cmp := rfl
@[simp] theorem setLnk_library (s : Dev) (p l : Nat) (x : LnkSt) : (setLnk s p l x).library = s.library := rfl
@[simp] theorem setLnk_tdm (s : Dev) (p l : Nat) (x : LnkSt) : (setLnk s p l x).tdm = s.tdm := rfl
@[simp] theorem setLnk_mclkOff (s : Dev) (p l : Nat) (x : LnkSt) : (setLnk s p l x).mclkOff = s.mclkOff := rfl
@[simp] theorem setLnk_aud (s : Dev) (p l : Nat) (x : LnkSt) : (setLnk s p l x).aud = s.aud := rfl
@[simp] theorem setLnk_eth (s : Dev) (p l : Nat) (x : LnkSt) : (setLnk s p l x).eth = s.eth := rfl
@[simp] theorem setLnk_fls (s : Dev) (p l : Nat) (x : LnkSt) : (setLnk s p l x).fls = s.fls := rfl
@[simp] theorem setLnk_profile (s : Dev) (p l : Nat) (x : LnkSt) : (setLnk s p l x).profile = s.profile := rfl
@[simp] theorem setLnk_sec (s : Dev) (p l : Nat) (x : LnkSt) : (setLnk s p l x).sec = s.sec := rfl
@[simp] theorem setLnk_age (s : Dev) (p l : Nat) (x : LnkSt) : (setLnk s p l x).age = s.age := rfl
@[simp] theorem setLnk_mtx (s : Dev) (p l : Nat) (x : LnkSt) : (setLnk s p l x).mtx = s.mtx := rfl
@[simp] theorem setLnk_avs (s : Dev) (p l : Nat) (x : LnkSt) : (setLnk s p l x).avs = s.avs := rfl

@[simp] theorem setLane_regs (s : Dev) (p l : Nat) (x : LaneSt) : (setLane s p l x).regs = s.regs := rfl
@[simp] theorem setLane_now (s : Dev) (p l : Nat) (x : LaneSt) : (setLane s p l x).now = s.now := rfl
@[simp] theorem setLane_out (s : Dev) (p l : Nat) (x : LaneSt) : (setLane s p l x).out = s.out := rfl
@[simp] theorem setLane_freeCtr (s : Dev) (p l : Nat) (x : LaneSt) : (setLane s p l x).freeCtr = s.freeCtr := rfl
@[simp] theorem setLane_latches (s : Dev) (p l : Nat) (x : LaneSt) : (setLane s p l x).latches = s.latches := rfl
@[simp] theorem setLane_holds (s : Dev) (p l : Nat) (x : LaneSt) : (setLane s p l x).holds = s.holds := rfl
@[simp] theorem setLane_host (s : Dev) (p l : Nat) (x : LaneSt) : (setLane s p l x).host = s.host := rfl
@[simp] theorem setLane_ctl (s : Dev) (p l : Nat) (x : LaneSt) : (setLane s p l x).ctl = s.ctl := rfl
@[simp] theorem setLane_jrn (s : Dev) (p l : Nat) (x : LaneSt) : (setLane s p l x).jrn = s.jrn := rfl
@[simp] theorem setLane_tim (s : Dev) (p l : Nat) (x : LaneSt) : (setLane s p l x).tim = s.tim := rfl
@[simp] theorem setLane_pln (s : Dev) (p l : Nat) (x : LaneSt) : (setLane s p l x).pln = s.pln := rfl
@[simp] theorem setLane_rst (s : Dev) (p l : Nat) (x : LaneSt) : (setLane s p l x).rst = s.rst := rfl
@[simp] theorem setLane_flt (s : Dev) (p l : Nat) (x : LaneSt) : (setLane s p l x).flt = s.flt := rfl
@[simp] theorem setLane_hbm (s : Dev) (p l : Nat) (x : LaneSt) : (setLane s p l x).hbm = s.hbm := rfl
@[simp] theorem setLane_cmp (s : Dev) (p l : Nat) (x : LaneSt) : (setLane s p l x).cmp = s.cmp := rfl
@[simp] theorem setLane_library (s : Dev) (p l : Nat) (x : LaneSt) : (setLane s p l x).library = s.library := rfl
@[simp] theorem setLane_tdm (s : Dev) (p l : Nat) (x : LaneSt) : (setLane s p l x).tdm = s.tdm := rfl
@[simp] theorem setLane_mclkOff (s : Dev) (p l : Nat) (x : LaneSt) : (setLane s p l x).mclkOff = s.mclkOff := rfl
@[simp] theorem setLane_aud (s : Dev) (p l : Nat) (x : LaneSt) : (setLane s p l x).aud = s.aud := rfl
@[simp] theorem setLane_eth (s : Dev) (p l : Nat) (x : LaneSt) : (setLane s p l x).eth = s.eth := rfl
@[simp] theorem setLane_fls (s : Dev) (p l : Nat) (x : LaneSt) : (setLane s p l x).fls = s.fls := rfl
@[simp] theorem setLane_profile (s : Dev) (p l : Nat) (x : LaneSt) : (setLane s p l x).profile = s.profile := rfl
@[simp] theorem setLane_sec (s : Dev) (p l : Nat) (x : LaneSt) : (setLane s p l x).sec = s.sec := rfl
@[simp] theorem setLane_age (s : Dev) (p l : Nat) (x : LaneSt) : (setLane s p l x).age = s.age := rfl
@[simp] theorem setLane_mtx (s : Dev) (p l : Nat) (x : LaneSt) : (setLane s p l x).mtx = s.mtx := rfl
@[simp] theorem setLane_avs (s : Dev) (p l : Nat) (x : LaneSt) : (setLane s p l x).avs = s.avs := rfl

@[simp] theorem at_now (s : Dev) (t : Nat) : (s.at t).now = t := rfl
@[simp] theorem emit_out (s : Dev) (o : Out) : (emit s o).out = o :: s.out := rfl
@[simp] theorem modCtl_ctl (s : Dev) (g : Ctl → Ctl) : (modCtl s g).ctl = g s.ctl := rfl

end Sys2Proof.Machine
end

