-- ==== Sys2Proof/Laws/Regs.lean ====
section
/-! SUPPORT. Register fields: what a field reads after a write of it, of another field, and after every other update. -/

namespace Sys2Proof.Machine

/-- A field reads what was last written to it, at its width. -/
@[simp] theorem getF_setF_same (s : Dev) (f : Fld) (i v : Nat) : getF (setF s f i v) f i = v % 2 ^ f.width := by
  simp [getF, setF]

/-- Two different fields, of any elements. -/
theorem fkey_ne_of_code (f g : Fld) (i j : Nat) (h : f.code % 262144 ≠ g.code % 262144) : fkey f i ≠ fkey g j := by
  unfold fkey; omega

/-- The same field of two different elements. -/
theorem fkey_ne_of_idx (f g : Fld) (i j : Nat) (h : i ≠ j) : fkey f i ≠ fkey g j := by
  unfold fkey; omega

/-- Another field is unchanged by a write. -/
theorem getF_setF_code (s : Dev) (f g : Fld) (i j v : Nat) (h : f.code % 262144 ≠ g.code % 262144) :
    getF (setF s g j v) f i = getF s f i := by
  exact mget_mset_other (fkey_ne_of_code f g i j h)

/-- Every field of another element is unchanged by a write. -/
theorem getF_setF_idx (s : Dev) (f g : Fld) (i j v : Nat) (h : i ≠ j) : getF (setF s g j v) f i = getF s f i := by
  exact mget_mset_other (fkey_ne_of_idx f g i j h)

/-- What every field reads depends on the register file alone. -/
theorem getF_of_regs {s s' : Dev} (f : Fld) (i : Nat) (h : s'.regs = s.regs) : getF s' f i = getF s f i := by
  simp [getF, h]

@[simp] theorem getF_at (s : Dev) (t : Nat) (f : Fld) (i : Nat) : getF (s.at t) f i = getF s f i := rfl
@[simp] theorem getF_emit (s : Dev) (o : Out) (f : Fld) (i : Nat) : getF (emit s o) f i = getF s f i := rfl
@[simp] theorem getF_modCtl (s : Dev) (g : Ctl → Ctl) (f : Fld) (i : Nat) : getF (modCtl s g) f i = getF s f i := rfl
@[simp] theorem getF_setRing (s : Dev) (h r : Nat) (x : RingSt) (f : Fld) (i : Nat) : getF (setRing s h r x) f i = getF s f i := rfl
@[simp] theorem getF_setHif (s : Dev) (h : Nat) (x : HifSt) (f : Fld) (i : Nat) : getF (setHif s h x) f i = getF s f i := rfl
@[simp] theorem getF_setPlaneSt (s : Dev) (p : Nat) (x : PlaneSt) (f : Fld) (i : Nat) : getF (setPlaneSt s p x) f i = getF s f i := rfl
@[simp] theorem getF_setRef (s : Dev) (r : Nat) (x : RefSt) (f : Fld) (i : Nat) : getF (setRef s r x) f i = getF s f i := rfl
@[simp] theorem getF_setLnk (s : Dev) (p l : Nat) (x : LnkSt) (f : Fld) (i : Nat) : getF (setLnk s p l x) f i = getF s f i := rfl
@[simp] theorem getF_setLane (s : Dev) (p l : Nat) (x : LaneSt) (f : Fld) (i : Nat) : getF (setLane s p l x) f i = getF s f i := rfl

/-- `n` things put out leave every field as it was. -/
@[simp] theorem getF_emits (s : Dev) (os : List Out) (f : Fld) (i : Nat) : getF (emits s os) f i = getF s f i := by
  unfold emits
  induction os generalizing s with
  | nil => rfl
  | cons o r ih => rw [List.foldl_cons, ih, getF_emit]

/-- A counter that `n` is added to saturates at its width. -/
theorem getF_satAdd_same (s : Dev) (f : Fld) (i n : Nat) :
    getF (satAdd s f i n) f i = min (getF s f i + n) (2 ^ f.width - 1) := by
  have h1 : 1 ≤ 2 ^ f.width := Nat.one_le_two_pow
  simp only [satAdd, getF_setF_same]
  split
  · rw [Nat.mod_eq_of_lt (by omega)]; omega
  · rw [Nat.mod_eq_of_lt (by omega)]; omega

/-- Another field is unchanged by a count. -/
theorem getF_satAdd_code (s : Dev) (f g : Fld) (i j n : Nat) (h : f.code % 262144 ≠ g.code % 262144) :
    getF (satAdd s g j n) f i = getF s f i := by
  simp only [satAdd]; exact getF_setF_code _ _ _ _ _ _ h

/-! Events: they touch the HIF registers, the outputs and the host rings alone. -/

/-- A field outside the HIF windows. -/
abbrev notHif (f : Fld) : Prop := f.code % 262144 / 8192 ≠ 4

@[simp] theorem getF_sendMsix (s : Dev) (h v : Nat) (f : Fld) (i : Nat) : getF (sendMsix s h v) f i = getF s f i := by
  simp only [sendMsix]; split <;> rfl

theorem getF_putEvent (s : Dev) (h e : Nat) (f : Fld) (i : Nat) (hf : notHif f) : getF (putEvent s h e) f i = getF s f i := by
  have hp : f.code % 262144 ≠ F.HIF_EVT_STAT_PROD.code % 262144 := by
    intro hc; apply hf; rw [hc]; rfl
  simp only [putEvent]
  rw [apply_ite (fun d => getF d f i)]
  simp only [getF_setHif, getF_sendMsix, getF_emit, getF_setF_code _ _ _ _ _ _ hp, ite_self]

theorem getF_offerEvent (s : Dev) (h c e : Nat) (f : Fld) (i : Nat) (hf : notHif f) : getF (offerEvent s h c e) f i = getF s f i := by
  have hl : f.code % 262144 ≠ F.HIF_EVT_STAT_LOST.code % 262144 := by
    intro hc; apply hf; rw [hc]; rfl
  unfold offerEvent
  split
  · split
    · split
      · rfl
      · exact getF_satAdd_code _ _ _ _ _ _ hl
    · exact getF_putEvent _ _ _ _ _ hf
  · rfl

/-- An event leaves every field outside the HIF windows as it was. -/
theorem getF_raise (s : Dev) (c src jsn d : Nat) (f : Fld) (i : Nat) (hf : notHif f) : getF (raise s c src jsn d) f i = getF s f i := by
  simp only [raise]
  split <;> simp [getF_offerEvent _ _ _ _ _ _ hf] <;> rfl

end Sys2Proof.Machine
end

