-- ==== Sys2Proof/Laws/Host.lean ====
section
/-! SUPPORT. Operations of the host interface: they change the HIF registers, the outputs and the host rings alone, and a
decision the command's record and its ring's stop cause besides. -/

namespace Sys2Proof.Machine

/-- `s'` is `s` but for the HIF registers, the outputs and the host engine. -/
structure HostOnly (s s' : Dev) : Prop where
  rest : s' = { s with regs := s'.regs, out := s'.out, host := s'.host }
  getF_eq : ∀ f i, notHif f → getF s' f i = getF s f i
  grows : ∀ o ∈ s.out, o ∈ s'.out

theorem HostOnly.refl (s : Dev) : HostOnly s s := ⟨rfl, fun _ _ _ => rfl, fun _ h => h⟩

theorem HostOnly.trans {a b c : Dev} (h : HostOnly a b) (k : HostOnly b c) : HostOnly a c :=
  ⟨by rw [k.rest, h.rest], fun f i hf => (k.getF_eq f i hf).trans (h.getF_eq f i hf), fun o ho => k.grows o (h.grows o ho)⟩

theorem HostOnly.now {s s' : Dev} (h : HostOnly s s') : s'.now = s.now := by rw [h.rest]
theorem HostOnly.freeCtr {s s' : Dev} (h : HostOnly s s') : s'.freeCtr = s.freeCtr := by rw [h.rest]
theorem HostOnly.latches {s s' : Dev} (h : HostOnly s s') : s'.latches = s.latches := by rw [h.rest]
theorem HostOnly.holds {s s' : Dev} (h : HostOnly s s') : s'.holds = s.holds := by rw [h.rest]
theorem HostOnly.ctl {s s' : Dev} (h : HostOnly s s') : s'.ctl = s.ctl := by rw [h.rest]
theorem HostOnly.jrn {s s' : Dev} (h : HostOnly s s') : s'.jrn = s.jrn := by rw [h.rest]
theorem HostOnly.tim {s s' : Dev} (h : HostOnly s s') : s'.tim = s.tim := by rw [h.rest]
theorem HostOnly.pln {s s' : Dev} (h : HostOnly s s') : s'.pln = s.pln := by rw [h.rest]
theorem HostOnly.rst {s s' : Dev} (h : HostOnly s s') : s'.rst = s.rst := by rw [h.rest]
theorem HostOnly.flt {s s' : Dev} (h : HostOnly s s') : s'.flt = s.flt := by rw [h.rest]
theorem HostOnly.otl {s s' : Dev} (h : HostOnly s s') : s'.otl = s.otl := by rw [h.rest]
theorem HostOnly.hbm {s s' : Dev} (h : HostOnly s s') : s'.hbm = s.hbm := by rw [h.rest]
theorem HostOnly.cmp {s s' : Dev} (h : HostOnly s s') : s'.cmp = s.cmp := by rw [h.rest]
theorem HostOnly.library {s s' : Dev} (h : HostOnly s s') : s'.library = s.library := by rw [h.rest]
theorem HostOnly.tdm {s s' : Dev} (h : HostOnly s s') : s'.tdm = s.tdm := by rw [h.rest]
theorem HostOnly.mclkOff {s s' : Dev} (h : HostOnly s s') : s'.mclkOff = s.mclkOff := by rw [h.rest]
theorem HostOnly.aud {s s' : Dev} (h : HostOnly s s') : s'.aud = s.aud := by rw [h.rest]
theorem HostOnly.eth {s s' : Dev} (h : HostOnly s s') : s'.eth = s.eth := by rw [h.rest]
theorem HostOnly.fls {s s' : Dev} (h : HostOnly s s') : s'.fls = s.fls := by rw [h.rest]
theorem HostOnly.profile {s s' : Dev} (h : HostOnly s s') : s'.profile = s.profile := by rw [h.rest]
theorem HostOnly.sec {s s' : Dev} (h : HostOnly s s') : s'.sec = s.sec := by rw [h.rest]
theorem HostOnly.age {s s' : Dev} (h : HostOnly s s') : s'.age = s.age := by rw [h.rest]
theorem HostOnly.mtx {s s' : Dev} (h : HostOnly s s') : s'.mtx = s.mtx := by rw [h.rest]
theorem HostOnly.avs {s s' : Dev} (h : HostOnly s s') : s'.avs = s.avs := by rw [h.rest]

theorem hostOnly_emit (s : Dev) (x : Out) : HostOnly s (emit s x) :=
  ⟨rfl, fun _ _ _ => rfl, fun _ h => List.mem_cons_of_mem _ h⟩
theorem hostOnly_setHif (s : Dev) (h : Nat) (x : HifSt) : HostOnly s (setHif s h x) := ⟨rfl, fun _ _ _ => rfl, fun _ h => h⟩
theorem hostOnly_sendMsix (s : Dev) (h v : Nat) : HostOnly s (sendMsix s h v) := by
  simp only [sendMsix]; split
  · exact hostOnly_setHif _ _ _
  · exact hostOnly_emit _ _
theorem hostOnly_setRing (s : Dev) (h r : Nat) (x : RingSt) : HostOnly s (setRing s h r x) := ⟨rfl, fun _ _ _ => rfl, fun _ h => h⟩

theorem hostOnly_setF (s : Dev) (g : Fld) (j v : Nat) (hg : g.code % 262144 / 8192 = 4) : HostOnly s (setF s g j v) :=
  ⟨rfl, fun f i hf => getF_setF_code _ _ _ _ _ _ (fun hc => hf (by rw [hc]; exact hg)), fun _ h => h⟩

theorem hostOnly_satAdd (s : Dev) (g : Fld) (j n : Nat) (hg : g.code % 262144 / 8192 = 4) : HostOnly s (satAdd s g j n) :=
  hostOnly_setF _ _ _ _ hg

theorem hostOnly_ite {s a b : Dev} {c : Prop} [Decidable c] (ha : HostOnly s a) (hb : HostOnly s b) : HostOnly s (if c then a else b) := by
  split <;> assumption

theorem hostOnly_emits (s : Dev) (os : List Out) : HostOnly s (emits s os) := by
  unfold emits
  induction os generalizing s with
  | nil => exact .refl s
  | cons o r ih => exact (hostOnly_emit s o).trans (ih _)

theorem hostOnly_putEvent (s : Dev) (h e : Nat) : HostOnly s (putEvent s h e) := by
  simp only [putEvent]
  exact (((hostOnly_emit _ _).trans (hostOnly_setF _ F.HIF_EVT_STAT_PROD _ _ rfl)).trans
    (hostOnly_ite ((hostOnly_setHif _ _ _).trans (hostOnly_sendMsix _ _ _)) (hostOnly_setHif _ _ _)))

theorem hostOnly_offerEvent (s : Dev) (h c e : Nat) : HostOnly s (offerEvent s h c e) := by
  simp only [offerEvent]
  exact hostOnly_ite (hostOnly_ite (hostOnly_ite (hostOnly_setHif _ _ _) (hostOnly_satAdd _ _ _ _ rfl)) (hostOnly_putEvent _ _ _))
    (.refl s)

theorem hostOnly_raise (s : Dev) (c src jsn d : Nat) : HostOnly s (raise s c src jsn d) := by
  have h0 : HostOnly s { s with host := { s.host with seq := (s.host.seq + 1) % 2 ^ 32 } } := ⟨rfl, fun _ _ _ => rfl, fun _ h => h⟩
  simp only [raise]
  have h1 := (h0.trans (hostOnly_offerEvent _ 0 c (eventEntry (nsOf s.now) jsn d c src (getF s F.RST_STRAP_PAIR_ID 0) s.host.seq))).trans
    (hostOnly_offerEvent _ 1 c (eventEntry (nsOf s.now) jsn d c src (getF s F.RST_STRAP_PAIR_ID 0) s.host.seq))
  exact hostOnly_ite (h1.trans (hostOnly_emit _ _)) h1

theorem hostOnly_writeBack (s : Dev) (h r : Nat) : HostOnly s (writeBack s h r) := by
  simp only [writeBack]
  exact hostOnly_ite ((hostOnly_ite (.refl _) (hostOnly_emit _ _)).trans (hostOnly_setRing _ _ _ _)) (.refl s)

theorem hostOnly_signalRing (s : Dev) (h r : Nat) : HostOnly s (signalRing s h r) :=
  (hostOnly_sendMsix _ _ _).trans (hostOnly_setRing _ _ _ _)

theorem hostOnly_writeCpl (s : Dev) (h r : Nat) (c : Cpl) : HostOnly s (writeCpl s h r c) := by
  simp only [writeCpl]
  have h1 : HostOnly s (if (ringOf s h r).wbPend = true then writeBack s h r else s) := hostOnly_ite (hostOnly_writeBack _ _ _) (.refl s)
  refine h1.trans ?_
  generalize (if (ringOf s h r).wbPend = true then writeBack s h r else s) = u
  have h2 := fun o v x => ((hostOnly_emit u o).trans (hostOnly_setF _ F.CPL_PROD_PROD (ix h r) v rfl)).trans (hostOnly_setRing _ h r x)
  exact hostOnly_ite ((h2 _ _ _).trans (hostOnly_signalRing _ _ _)) (h2 _ _ _)

theorem hostOnly_deliverList (h r : Nat) (cs : List Cpl) (s : Dev) : HostOnly s (deliverList h r cs s).1 := by
  induction cs generalizing s with
  | nil => exact .refl s
  | cons c cs ih =>
    simp only [deliverList]
    split
    · exact (hostOnly_writeCpl _ _ _ _).trans (ih _)
    · exact ih s

theorem hostOnly_deliver (s : Dev) (h r : Nat) : HostOnly s (deliver s h r) := by
  simp only [deliver]
  exact hostOnly_ite ((hostOnly_emits _ _).trans (hostOnly_setRing _ _ _ _))
    (((hostOnly_deliverList _ _ _ _).trans (hostOnly_setRing _ _ _ _)).trans (hostOnly_setF _ _ _ _ rfl))

theorem hostOnly_queueCpls (s : Dev) (h r : Nat) (cs : List Cpl) : HostOnly s (queueCpls s h r cs) :=
  (hostOnly_setRing _ _ _ _).trans (hostOnly_deliver _ _ _)

/-- Folding an operation of the host interface. -/
theorem hostOnly_foldl {α : Type} (f : Dev → α → Dev) (h : ∀ s a, HostOnly s (f s a)) (l : List α) (s : Dev) : HostOnly s (l.foldl f s) := by
  induction l generalizing s with
  | nil => exact .refl s
  | cons a r ih => exact (h s a).trans (ih _)

theorem hostOnly_deliverAll (s : Dev) : HostOnly s (deliverAll s) := hostOnly_foldl _ (fun _ _ => hostOnly_deliver _ _ _) _ _

/-- The control state once `jsn` is decided: its record, and its ring's stop cause where it is a refused BARRIER (R328). -/
def ctlDecided (s : Dev) (j : JRec) (d : Dec) : Ctl :=
  let c := { s.ctl with recs := s.ctl.recs.map fun r => if r.jsn = j.jsn then { r with dec := some d } else r }
  let k := 16 * j.hif + j.ring
  if isBarrier j && decide (0x100 ≤ d.status) && mget 0 c.stop k == 0 then { c with stop := mset 0 c.stop k 1 } else c

/-- What deciding an undecided command does (R360). -/
theorem decideCmd_undecided {s : Dev} {j : JRec} {jsn st ap dt : Nat} (hj : recOf s jsn = some j) (hd : j.dec = none)
    (hf : isFollower s = false) :
    HostOnly { s with ctl := ctlDecided s j { status := st, applied := ap, detail := dt } } (decideCmd s jsn st ap dt) := by
  have hjs : j.jsn = jsn := by simpa using List.find?_some hj
  subst hjs
  simp only [decideCmd, hj, hd, hf, Option.isSome_none, Bool.or_self]
  simp only [Bool.false_eq_true, if_false, modRec, modCtl]
  refine HostOnly.trans ?_ ((hostOnly_setRing _ _ _ _).trans (hostOnly_queueCpls _ _ _ _))
  split
  · refine ⟨?_, ?_, ?_⟩
    · simp only [ctlDecided]; split <;> simp_all [emit]
    · intro f i _; split <;> rfl
    · intro o ho; split <;> exact List.mem_cons_of_mem _ ho
  · refine ⟨?_, ?_, ?_⟩
    · simp only [ctlDecided]; split <;> simp_all
    · intro f i _; split <;> rfl
    · intro o ho; split <;> exact ho

@[simp] theorem raise_now (s : Dev) (c src jsn d : Nat) : (raise s c src jsn d).now = s.now := (hostOnly_raise s c src jsn d).now
@[simp] theorem raise_freeCtr (s : Dev) (c src jsn d : Nat) : (raise s c src jsn d).freeCtr = s.freeCtr := (hostOnly_raise s c src jsn d).freeCtr
@[simp] theorem raise_latches (s : Dev) (c src jsn d : Nat) : (raise s c src jsn d).latches = s.latches := (hostOnly_raise s c src jsn d).latches
@[simp] theorem raise_holds (s : Dev) (c src jsn d : Nat) : (raise s c src jsn d).holds = s.holds := (hostOnly_raise s c src jsn d).holds
@[simp] theorem raise_ctl (s : Dev) (c src jsn d : Nat) : (raise s c src jsn d).ctl = s.ctl := (hostOnly_raise s c src jsn d).ctl
@[simp] theorem raise_jrn (s : Dev) (c src jsn d : Nat) : (raise s c src jsn d).jrn = s.jrn := (hostOnly_raise s c src jsn d).jrn
@[simp] theorem raise_tim (s : Dev) (c src jsn d : Nat) : (raise s c src jsn d).tim = s.tim := (hostOnly_raise s c src jsn d).tim
@[simp] theorem raise_pln (s : Dev) (c src jsn d : Nat) : (raise s c src jsn d).pln = s.pln := (hostOnly_raise s c src jsn d).pln
@[simp] theorem raise_rst (s : Dev) (c src jsn d : Nat) : (raise s c src jsn d).rst = s.rst := (hostOnly_raise s c src jsn d).rst
@[simp] theorem raise_flt (s : Dev) (c src jsn d : Nat) : (raise s c src jsn d).flt = s.flt := (hostOnly_raise s c src jsn d).flt
@[simp] theorem raise_otl (s : Dev) (c src jsn d : Nat) : (raise s c src jsn d).otl = s.otl := (hostOnly_raise s c src jsn d).otl
@[simp] theorem raise_hbm (s : Dev) (c src jsn d : Nat) : (raise s c src jsn d).hbm = s.hbm := (hostOnly_raise s c src jsn d).hbm
@[simp] theorem raise_cmp (s : Dev) (c src jsn d : Nat) : (raise s c src jsn d).cmp = s.cmp := (hostOnly_raise s c src jsn d).cmp
@[simp] theorem raise_library (s : Dev) (c src jsn d : Nat) : (raise s c src jsn d).library = s.library := (hostOnly_raise s c src jsn d).library
@[simp] theorem raise_tdm (s : Dev) (c src jsn d : Nat) : (raise s c src jsn d).tdm = s.tdm := (hostOnly_raise s c src jsn d).tdm
@[simp] theorem raise_mclkOff (s : Dev) (c src jsn d : Nat) : (raise s c src jsn d).mclkOff = s.mclkOff := (hostOnly_raise s c src jsn d).mclkOff
@[simp] theorem raise_aud (s : Dev) (c src jsn d : Nat) : (raise s c src jsn d).aud = s.aud := (hostOnly_raise s c src jsn d).aud
@[simp] theorem raise_eth (s : Dev) (c src jsn d : Nat) : (raise s c src jsn d).eth = s.eth := (hostOnly_raise s c src jsn d).eth
@[simp] theorem raise_fls (s : Dev) (c src jsn d : Nat) : (raise s c src jsn d).fls = s.fls := (hostOnly_raise s c src jsn d).fls
@[simp] theorem raise_profile (s : Dev) (c src jsn d : Nat) : (raise s c src jsn d).profile = s.profile := (hostOnly_raise s c src jsn d).profile
@[simp] theorem raise_sec (s : Dev) (c src jsn d : Nat) : (raise s c src jsn d).sec = s.sec := (hostOnly_raise s c src jsn d).sec
@[simp] theorem raise_age (s : Dev) (c src jsn d : Nat) : (raise s c src jsn d).age = s.age := (hostOnly_raise s c src jsn d).age
@[simp] theorem raise_mtx (s : Dev) (c src jsn d : Nat) : (raise s c src jsn d).mtx = s.mtx := (hostOnly_raise s c src jsn d).mtx
@[simp] theorem raise_avs (s : Dev) (c src jsn d : Nat) : (raise s c src jsn d).avs = s.avs := (hostOnly_raise s c src jsn d).avs

/-! Field writes change the register file alone. -/

theorem setFs_rest (s : Dev) (i : Nat) (l : List (Fld × Nat)) : setFs s i l = { s with regs := (setFs s i l).regs } := by
  induction l generalizing s with
  | nil => rfl
  | cons a r ih => obtain ⟨f, v⟩ := a; simp only [setFs]; rw [ih]; rfl

@[simp] theorem setFs_out (s : Dev) (i : Nat) (l : List (Fld × Nat)) : (setFs s i l).out = s.out := by rw [setFs_rest]
@[simp] theorem setFs_host (s : Dev) (i : Nat) (l : List (Fld × Nat)) : (setFs s i l).host = s.host := by rw [setFs_rest]
@[simp] theorem setFs_now (s : Dev) (i : Nat) (l : List (Fld × Nat)) : (setFs s i l).now = s.now := by rw [setFs_rest]
@[simp] theorem setFs_freeCtr (s : Dev) (i : Nat) (l : List (Fld × Nat)) : (setFs s i l).freeCtr = s.freeCtr := by rw [setFs_rest]
@[simp] theorem setFs_latches (s : Dev) (i : Nat) (l : List (Fld × Nat)) : (setFs s i l).latches = s.latches := by rw [setFs_rest]
@[simp] theorem setFs_holds (s : Dev) (i : Nat) (l : List (Fld × Nat)) : (setFs s i l).holds = s.holds := by rw [setFs_rest]
@[simp] theorem setFs_ctl (s : Dev) (i : Nat) (l : List (Fld × Nat)) : (setFs s i l).ctl = s.ctl := by rw [setFs_rest]
@[simp] theorem setFs_jrn (s : Dev) (i : Nat) (l : List (Fld × Nat)) : (setFs s i l).jrn = s.jrn := by rw [setFs_rest]
@[simp] theorem setFs_tim (s : Dev) (i : Nat) (l : List (Fld × Nat)) : (setFs s i l).tim = s.tim := by rw [setFs_rest]
@[simp] theorem setFs_pln (s : Dev) (i : Nat) (l : List (Fld × Nat)) : (setFs s i l).pln = s.pln := by rw [setFs_rest]
@[simp] theorem setFs_rst (s : Dev) (i : Nat) (l : List (Fld × Nat)) : (setFs s i l).rst = s.rst := by rw [setFs_rest]
@[simp] theorem setFs_flt (s : Dev) (i : Nat) (l : List (Fld × Nat)) : (setFs s i l).flt = s.flt := by rw [setFs_rest]
@[simp] theorem setFs_otl (s : Dev) (i : Nat) (l : List (Fld × Nat)) : (setFs s i l).otl = s.otl := by rw [setFs_rest]
@[simp] theorem setFs_hbm (s : Dev) (i : Nat) (l : List (Fld × Nat)) : (setFs s i l).hbm = s.hbm := by rw [setFs_rest]
@[simp] theorem setFs_cmp (s : Dev) (i : Nat) (l : List (Fld × Nat)) : (setFs s i l).cmp = s.cmp := by rw [setFs_rest]
@[simp] theorem setFs_library (s : Dev) (i : Nat) (l : List (Fld × Nat)) : (setFs s i l).library = s.library := by rw [setFs_rest]
@[simp] theorem setFs_tdm (s : Dev) (i : Nat) (l : List (Fld × Nat)) : (setFs s i l).tdm = s.tdm := by rw [setFs_rest]
@[simp] theorem setFs_mclkOff (s : Dev) (i : Nat) (l : List (Fld × Nat)) : (setFs s i l).mclkOff = s.mclkOff := by rw [setFs_rest]
@[simp] theorem setFs_aud (s : Dev) (i : Nat) (l : List (Fld × Nat)) : (setFs s i l).aud = s.aud := by rw [setFs_rest]
@[simp] theorem setFs_eth (s : Dev) (i : Nat) (l : List (Fld × Nat)) : (setFs s i l).eth = s.eth := by rw [setFs_rest]
@[simp] theorem setFs_fls (s : Dev) (i : Nat) (l : List (Fld × Nat)) : (setFs s i l).fls = s.fls := by rw [setFs_rest]
@[simp] theorem setFs_profile (s : Dev) (i : Nat) (l : List (Fld × Nat)) : (setFs s i l).profile = s.profile := by rw [setFs_rest]
@[simp] theorem setFs_sec (s : Dev) (i : Nat) (l : List (Fld × Nat)) : (setFs s i l).sec = s.sec := by rw [setFs_rest]
@[simp] theorem setFs_age (s : Dev) (i : Nat) (l : List (Fld × Nat)) : (setFs s i l).age = s.age := by rw [setFs_rest]
@[simp] theorem setFs_mtx (s : Dev) (i : Nat) (l : List (Fld × Nat)) : (setFs s i l).mtx = s.mtx := by rw [setFs_rest]
@[simp] theorem setFs_avs (s : Dev) (i : Nat) (l : List (Fld × Nat)) : (setFs s i l).avs = s.avs := by rw [setFs_rest]
@[simp] theorem satAdd_out (s : Dev) (f : Fld) (i n : Nat) : (satAdd s f i n).out = s.out := rfl
@[simp] theorem satAdd_host (s : Dev) (f : Fld) (i n : Nat) : (satAdd s f i n).host = s.host := rfl
@[simp] theorem satAdd_now (s : Dev) (f : Fld) (i n : Nat) : (satAdd s f i n).now = s.now := rfl
@[simp] theorem satAdd_freeCtr (s : Dev) (f : Fld) (i n : Nat) : (satAdd s f i n).freeCtr = s.freeCtr := rfl
@[simp] theorem satAdd_latches (s : Dev) (f : Fld) (i n : Nat) : (satAdd s f i n).latches = s.latches := rfl
@[simp] theorem satAdd_holds (s : Dev) (f : Fld) (i n : Nat) : (satAdd s f i n).holds = s.holds := rfl
@[simp] theorem satAdd_ctl (s : Dev) (f : Fld) (i n : Nat) : (satAdd s f i n).ctl = s.ctl := rfl
@[simp] theorem satAdd_jrn (s : Dev) (f : Fld) (i n : Nat) : (satAdd s f i n).jrn = s.jrn := rfl
@[simp] theorem satAdd_tim (s : Dev) (f : Fld) (i n : Nat) : (satAdd s f i n).tim = s.tim := rfl
@[simp] theorem satAdd_pln (s : Dev) (f : Fld) (i n : Nat) : (satAdd s f i n).pln = s.pln := rfl
@[simp] theorem satAdd_rst (s : Dev) (f : Fld) (i n : Nat) : (satAdd s f i n).rst = s.rst := rfl
@[simp] theorem satAdd_flt (s : Dev) (f : Fld) (i n : Nat) : (satAdd s f i n).flt = s.flt := rfl
@[simp] theorem satAdd_otl (s : Dev) (f : Fld) (i n : Nat) : (satAdd s f i n).otl = s.otl := rfl
@[simp] theorem satAdd_hbm (s : Dev) (f : Fld) (i n : Nat) : (satAdd s f i n).hbm = s.hbm := rfl
@[simp] theorem satAdd_cmp (s : Dev) (f : Fld) (i n : Nat) : (satAdd s f i n).cmp = s.cmp := rfl
@[simp] theorem satAdd_library (s : Dev) (f : Fld) (i n : Nat) : (satAdd s f i n).library = s.library := rfl
@[simp] theorem satAdd_tdm (s : Dev) (f : Fld) (i n : Nat) : (satAdd s f i n).tdm = s.tdm := rfl
@[simp] theorem satAdd_mclkOff (s : Dev) (f : Fld) (i n : Nat) : (satAdd s f i n).mclkOff = s.mclkOff := rfl
@[simp] theorem satAdd_aud (s : Dev) (f : Fld) (i n : Nat) : (satAdd s f i n).aud = s.aud := rfl
@[simp] theorem satAdd_eth (s : Dev) (f : Fld) (i n : Nat) : (satAdd s f i n).eth = s.eth := rfl
@[simp] theorem satAdd_fls (s : Dev) (f : Fld) (i n : Nat) : (satAdd s f i n).fls = s.fls := rfl
@[simp] theorem satAdd_profile (s : Dev) (f : Fld) (i n : Nat) : (satAdd s f i n).profile = s.profile := rfl
@[simp] theorem satAdd_sec (s : Dev) (f : Fld) (i n : Nat) : (satAdd s f i n).sec = s.sec := rfl
@[simp] theorem satAdd_age (s : Dev) (f : Fld) (i n : Nat) : (satAdd s f i n).age = s.age := rfl
@[simp] theorem satAdd_mtx (s : Dev) (f : Fld) (i n : Nat) : (satAdd s f i n).mtx = s.mtx := rfl
@[simp] theorem satAdd_avs (s : Dev) (f : Fld) (i n : Nat) : (satAdd s f i n).avs = s.avs := rfl

/-- The record of a command whose records are changed by `g`, which keeps the JSN. -/
theorem find_map_rec (l : List JRec) (n m : Nat) (g : JRec → JRec) (hg : ∀ r, (g r).jsn = r.jsn) :
    (l.map fun r => if r.jsn = m then g r else r).find? (fun r => r.jsn == n) =
      (l.find? fun r => r.jsn == n).map fun r => if n = m then g r else r := by
  induction l with
  | nil => rfl
  | cons a t ih =>
    have hgj : (if a.jsn = m then g a else a).jsn = a.jsn := by split <;> simp [hg]
    simp only [List.map_cons, List.find?_cons, hgj]
    by_cases hn : a.jsn = n
    · simp [hn]
    · simp only [beq_eq_false_iff_ne.mpr hn]; exact ih

/-- What deciding an undecided command leaves of its record. -/
theorem recOf_decideCmd {s : Dev} {j : JRec} {jsn st ap dt : Nat} (hj : recOf s jsn = some j) (hd : j.dec = none)
    (hf : isFollower s = false) :
    recOf (decideCmd s jsn st ap dt) jsn = some { j with dec := some { status := st, applied := ap, detail := dt } } := by
  have hjs : j.jsn = jsn := by simpa using List.find?_some hj
  have hc := (decideCmd_undecided (st := st) (ap := ap) (dt := dt) hj hd hf).ctl
  have hrecs : (decideCmd s jsn st ap dt).ctl.recs = s.ctl.recs.map fun r => if r.jsn = jsn then { r with dec := some { status := st, applied := ap, detail := dt } } else r := by
    rw [hc]; simp only [ctlDecided, hjs]; split <;> rfl
  have hfind : s.ctl.recs.find? (fun r => r.jsn == jsn) = some j := hj
  unfold recOf
  rw [hrecs, find_map_rec _ jsn jsn (fun r => { r with dec := some { status := st, applied := ap, detail := dt } }) (fun _ => rfl), hfind]
  simp

end Sys2Proof.Machine
end

