-- ==== Sys2Proof/Laws/Reads.lean ====
section
/-! SUPPORT. Reading through conditionals and record updates: a field of a conditional is the conditional of the fields, and a register
field depends on the register file alone. -/

namespace Sys2Proof.Machine

/-- A device of which only the register file matters. -/
def bare (r : SMap Nat) : Dev := { regs := r }

theorem getF_ite (c : Prop) [Decidable c] (a b : Dev) (f : Fld) (i : Nat) :
    getF (if c then a else b) f i = if c then getF a f i else getF b f i := by split <;> rfl

theorem getF_bare_regs (s : Dev) (f : Fld) (i : Nat) : getF (bare s.regs) f i = getF s f i := rfl

theorem getF_bare_ite (c : Prop) [Decidable c] (a b : SMap Nat) (f : Fld) (i : Nat) :
    getF (bare (if c then a else b)) f i = if c then getF (bare a) f i else getF (bare b) f i := by split <;> rfl

theorem getF_mk (x_regs x_now x_out x_freeCtr x_latches x_holds x_host x_ctl x_jrn x_tim x_pln x_rst x_flt x_otl x_hbm x_cmp x_library x_tdm x_mclkOff x_aud x_eth x_fls x_profile x_sec x_age x_mtx x_avs) (f : Fld) (i : Nat) :
    getF (Dev.mk x_regs x_now x_out x_freeCtr x_latches x_holds x_host x_ctl x_jrn x_tim x_pln x_rst x_flt x_otl x_hbm x_cmp x_library x_tdm x_mclkOff x_aud x_eth x_fls x_profile x_sec x_age x_mtx x_avs) f i = getF (bare x_regs) f i := rfl

theorem ite_regs (c : Prop) [Decidable c] (a b : Dev) : (if c then a else b).regs = if c then a.regs else b.regs := by split <;> rfl
theorem ite_now (c : Prop) [Decidable c] (a b : Dev) : (if c then a else b).now = if c then a.now else b.now := by split <;> rfl
theorem ite_out (c : Prop) [Decidable c] (a b : Dev) : (if c then a else b).out = if c then a.out else b.out := by split <;> rfl
theorem ite_freeCtr (c : Prop) [Decidable c] (a b : Dev) : (if c then a else b).freeCtr = if c then a.freeCtr else b.freeCtr := by split <;> rfl
theorem ite_latches (c : Prop) [Decidable c] (a b : Dev) : (if c then a else b).latches = if c then a.latches else b.latches := by split <;> rfl
theorem ite_holds (c : Prop) [Decidable c] (a b : Dev) : (if c then a else b).holds = if c then a.holds else b.holds := by split <;> rfl
theorem ite_host (c : Prop) [Decidable c] (a b : Dev) : (if c then a else b).host = if c then a.host else b.host := by split <;> rfl
theorem ite_ctl (c : Prop) [Decidable c] (a b : Dev) : (if c then a else b).ctl = if c then a.ctl else b.ctl := by split <;> rfl
theorem ite_jrn (c : Prop) [Decidable c] (a b : Dev) : (if c then a else b).jrn = if c then a.jrn else b.jrn := by split <;> rfl
theorem ite_tim (c : Prop) [Decidable c] (a b : Dev) : (if c then a else b).tim = if c then a.tim else b.tim := by split <;> rfl
theorem ite_pln (c : Prop) [Decidable c] (a b : Dev) : (if c then a else b).pln = if c then a.pln else b.pln := by split <;> rfl
theorem ite_rst (c : Prop) [Decidable c] (a b : Dev) : (if c then a else b).rst = if c then a.rst else b.rst := by split <;> rfl
theorem ite_flt (c : Prop) [Decidable c] (a b : Dev) : (if c then a else b).flt = if c then a.flt else b.flt := by split <;> rfl
theorem ite_otl (c : Prop) [Decidable c] (a b : Dev) : (if c then a else b).otl = if c then a.otl else b.otl := by split <;> rfl
theorem ite_hbm (c : Prop) [Decidable c] (a b : Dev) : (if c then a else b).hbm = if c then a.hbm else b.hbm := by split <;> rfl
theorem ite_cmp (c : Prop) [Decidable c] (a b : Dev) : (if c then a else b).cmp = if c then a.cmp else b.cmp := by split <;> rfl
theorem ite_library (c : Prop) [Decidable c] (a b : Dev) : (if c then a else b).library = if c then a.library else b.library := by split <;> rfl
theorem ite_tdm (c : Prop) [Decidable c] (a b : Dev) : (if c then a else b).tdm = if c then a.tdm else b.tdm := by split <;> rfl
theorem ite_mclkOff (c : Prop) [Decidable c] (a b : Dev) : (if c then a else b).mclkOff = if c then a.mclkOff else b.mclkOff := by split <;> rfl
theorem ite_aud (c : Prop) [Decidable c] (a b : Dev) : (if c then a else b).aud = if c then a.aud else b.aud := by split <;> rfl
theorem ite_eth (c : Prop) [Decidable c] (a b : Dev) : (if c then a else b).eth = if c then a.eth else b.eth := by split <;> rfl
theorem ite_fls (c : Prop) [Decidable c] (a b : Dev) : (if c then a else b).fls = if c then a.fls else b.fls := by split <;> rfl
theorem ite_profile (c : Prop) [Decidable c] (a b : Dev) : (if c then a else b).profile = if c then a.profile else b.profile := by split <;> rfl
theorem ite_sec (c : Prop) [Decidable c] (a b : Dev) : (if c then a else b).sec = if c then a.sec else b.sec := by split <;> rfl
theorem ite_age (c : Prop) [Decidable c] (a b : Dev) : (if c then a else b).age = if c then a.age else b.age := by split <;> rfl
theorem ite_mtx (c : Prop) [Decidable c] (a b : Dev) : (if c then a else b).mtx = if c then a.mtx else b.mtx := by split <;> rfl
theorem ite_avs (c : Prop) [Decidable c] (a b : Dev) : (if c then a else b).avs = if c then a.avs else b.avs := by split <;> rfl

end Sys2Proof.Machine
end

