-- ==== Sys2Proof/Laws/Checks.lean ====
section
/-! SUPPORT. Checks and validation: a list of checks passes when each of them does, and what a validated command does. -/

namespace Sys2Proof.Machine

/-- A list of checks passes exactly when each passes. -/
theorem firstFail_eq_none (l : List (Bool × Nat × Nat)) : firstFail l = none ↔ ∀ q ∈ l, q.1 = false := by
  induction l with
  | nil => simp [firstFail]
  | cons a r ih =>
    obtain ⟨f, st, d⟩ := a
    cases f <;> simp [firstFail, ih]

/-- A command that passes its checks passes the opcode's own of every class (R342). -/
theorem checksOf_none {s : Dev} {j : JRec} {det : Nat → Nat} {inv rng conf rest : List (Bool × Nat × Nat)}
    (h : checksOf s j det inv rng conf rest = none) :
    firstFail inv = none ∧ firstFail rng = none ∧ firstFail conf = none ∧ firstFail rest = none ∧
      (legalIn j.op (bit (le j.desc 24 1) 0)).contains (devState s) = true := by
  unfold checksOf at h
  rw [firstFail_eq_none] at h
  simp only [firstFail_eq_none]
  refine ⟨fun q hq => h q (by simp [hq]), fun q hq => h q (by simp [hq]), fun q hq => h q (by simp [hq]), fun q hq => h q (by simp [hq]), ?_⟩
  have := h (!(legalIn j.op (bit (le j.desc 24 1) 0)).contains (devState s), stConflict, det 0) (by simp)
  simpa using this

end Sys2Proof.Machine
end

