-- ==== Sys2Proof/Laws/Memory.lean ====
section
/-! SUPPORT. The memories behind the control matrix: what a write leaves, what reads after it, and that every operation on them keeps
their canonical form and their bytes. -/

namespace Sys2Proof.Machine

/-- A write keeps the canonical form. -/
theorem writeMem_wf (n : Nat) : ∀ (m : Memory) (a v : Nat), Memory.wf m = true → Memory.wf (writeMem m a v n) = true := by
  induction n with
  | zero => exact fun m a v h => h
  | succ n ih => exact fun m a v h => ih _ _ _ (mwf_mset 0 _ m a h)

/-- Every byte outside the written range reads as before. -/
theorem mget_writeMem_out (n : Nat) : ∀ (m : Memory) (a v b : Nat), b < a ∨ a + n ≤ b → mget 0 (writeMem m a v n) b = mget 0 m b := by
  induction n with
  | zero => exact fun m a v b _ => rfl
  | succ n ih =>
    intro m a v b h
    rw [writeMem, ih _ _ _ _ (by omega), mget_mset_ne 0 _ m a b (by omega)]

/-- Byte `k` of the written range reads as byte `k` of the value. -/
theorem mget_writeMem_in (n : Nat) : ∀ (m : Memory) (a v k : Nat), k < n → mget 0 (writeMem m a v n) (a + k) = BitVec.ofNat 8 (v / 256 ^ k) := by
  induction n with
  | zero => exact fun m a v k h => absurd h (Nat.not_lt_zero k)
  | succ n ih =>
    intro m a v k h
    rw [writeMem]
    cases k with
    | zero => show mget 0 _ a = _; rw [mget_writeMem_out n _ _ _ a (by omega), mget_mset_same, Nat.pow_zero, Nat.div_one]
    | succ k => rw [show a + (k + 1) = a + 1 + k by omega, ih _ _ _ _ (by omega), Nat.div_div_eq_div_mul, Nat.pow_succ', Nat.mul_comm]

/-- A read after a write of the same range gives the value written, cut to the range. -/
theorem readMem_writeMem (n : Nat) : ∀ (m : Memory) (a v : Nat), readMem (writeMem m a v n) a n = v % 256 ^ n := by
  suffices h : ∀ (n : Nat) (m : Memory) (a v : Nat), (∀ k < n, mget 0 m (a + k) = BitVec.ofNat 8 (v / 256 ^ k)) →
      readMem m a n = v % 256 ^ n from fun m a v => h n _ _ _ fun k hk => mget_writeMem_in n m a v k hk
  intro n
  induction n with
  | zero => intro m a v _; simp [readMem, Nat.mod_one]
  | succ n ih =>
    intro m a v h
    have h0 := h 0 (by omega)
    have hs := ih m (a + 1) (v / 256) fun k hk => by
      have := h (k + 1) (by omega)
      rw [show a + 1 + k = a + (k + 1) by omega, this, Nat.div_div_eq_div_mul, Nat.pow_succ', Nat.mul_comm]
    simp only [Nat.add_zero, Nat.pow_zero, Nat.div_one] at h0
    rw [readMem, h0, hs, Nat.pow_succ', Nat.mod_mul]; rfl

/-- The entry of a reset keeps the canonical form. -/
theorem memEntry_wf (s : Dev) (m : Memory) (h : Memory.wf m = true) : Memory.wf (memEntry s m) = true := by
  unfold memEntry
  dsimp only
  split
  · rfl
  · split
    · exact mwfFrom_filter 0 _ m none h
    · exact h

end Sys2Proof.Machine
end

