-- ==== Sys2Proof/WellFormed.lean ====
section
/-! DEFINITION. Which commands a sender may send: every operand within what its field or its unit can hold. A command outside
these bounds stands for nothing that can happen to the device. -/

namespace Sys2Proof

/-- An address of a HIF: an offset in BAR0 below 2²⁶, in BAR2 from there, in BAR4 from 2²⁷ (R316; log entry 122). -/
def hifAddr (a : Nat) : Bool := decide (a < 2 ^ 26 + 2 ^ 20) || (decide (2 ^ 27 ≤ a) && decide (a < 2 ^ 27 + 2 ^ 12))

/-- A register access: 4 or 8 bytes, or another size that R9 turns away, within register space or the HIF's BARs (R316, R497). -/
def regAccess (m : Fin 8) (addr size : Nat) : Bool :=
  decide (size ≤ 8) && if m.val = 2 ∨ m.val = 3 then hifAddr addr else decide (addr < 2 ^ 28)

/-- The reader of an underrun (R115): a synchroniser, a layer's input, a generator. -/
def underrunReader (kind : Fin 3) (n : Fin 1792) : Bool :=
  match kind.val with
  | 0 => decide (n.val < 1536)
  | 1 => decide (1536 ≤ n.val)
  | _ => decide (1568 ≤ n.val) && decide (n.val < 1600)

/-- A lane: 0 to 79 of a plane, or 80 to 83, the peer link's, under plane A (R466). -/
def laneOf (p : Fin 2) (l : Fin 84) : Bool := decide (l.val < 80) || p.val == 0

/-- A matrix transaction: a master, a 48-bit address, and a value of its size (R493, R497). -/
def matrixReq (r : MtxReq) : Bool := decide (r.master < 8) && decide (r.addr < 2 ^ 48) && decide (r.value < 2 ^ (8 * r.size))

/-- A command's operands lie within their bounds. -/
def Instr.wf : Instr → Bool
  | .registerWrite _ m addr size value => regAccess m addr size && decide (value < 2 ^ (8 * size))
  | .rcRead _ m addr size => regAccess m addr size
  | .latchedRead _ m addr size => regAccess m addr size
  | .dpllSnapshotRead _ _ _ => true
  | .houseTimeSnapshot _ => true
  | .clockMonitorWindow _ _ _ => true
  | .houseFrameStart _ _ => true
  | .houseRateChange _ => true
  | .sourceFrameStart _ _ _ _ => true
  | .powerBackstopSample _ _ _ => true
  | .powerShedStep _ => true
  | .powerRestoreStep _ _ => true
  | .commandDoorbell _ _ _ value => decide (value < 2 ^ 32)
  | .commandAccept _ fetch _ => match fetch with | none => true | some q => q.1.length == 64
  | .writebackWrite _ _ _ => true
  | .completionDoorbell _ _ _ value => decide (value < 2 ^ 32)
  | .eventDoorbell _ _ value => decide (value < 2 ^ 32)
  | .coalesceTimer _ _ _ => true
  | .eventIrqTimer _ _ => true
  | .cringEnable _ _ _ => true
  | .cringDisable _ _ _ => true
  | .cringResume _ _ _ => true
  | .cplCoalesceWrite _ _ _ us n => decide (us < 256) && decide (n < 256)
  | .evtRingEnable _ _ => true
  | .hifPerst _ _ _ => true
  | .hifLinkChange _ _ _ _ _ speed width => decide (speed < 8) && decide (width < 16)
  | .nop _ _ => true
  | .barrier _ _ => true
  | .take _ _ => true
  | .salvo _ _ => true
  | .protect _ _ => true
  | .groupSet _ _ => true
  | .fsyncSet _ _ => true
  | .destPolicy _ _ => true
  | .compSet _ _ => true
  | .compState _ _ => true
  | .lutLoad _ _ => true
  | .genSet _ _ => true
  | .stillLoad _ _ => true
  | .audioMap _ _ => true
  | .audioFollow _ _ => true
  | .tdmSet _ _ => true
  | .refPolicy _ _ => true
  | .refAlign _ _ => true
  | .ptpSet _ _ => true
  | .linkSet _ _ => true
  | .flowSet _ _ => true
  | .macFilter _ _ => true
  | .budgetMode _ _ => true
  | .statsSnapshot _ _ => true
  | .fwStage _ _ => true
  | .fwSchedule _ _ => true
  | .fwConfirm _ _ => true
  | .fwAbort _ _ => true
  | .attest _ _ => true
  | .checkpoint _ _ => true
  | .ppSwitch _ _ => true
  | .ringAdopt _ _ => true
  | .bivouac _ _ => true
  | .marginSurvey _ _ => true
  | .pairSet _ _ => true
  | .switchingInstant _ _ _ _ => true
  | .fsyncCutoff _ _ _ _ => true
  | .fsyncFrameComplete _ _ _ _ => true
  | .ipHoldExpire _ _ _ _ => true
  | .bandSensorRead _ _ _ => true
  | .underrun _ _ kind n => underrunReader kind n
  | .planeTrainingDone _ _ => true
  | .planeStateTimeout _ _ => true
  | .segmentReceived _ _ _ _ => true
  | .mergeHistoryTimeout _ _ _ => true
  | .egressSegment _ _ _ _ _ _ _ => true
  | .compPrefetch _ _ _ _ => true
  | .libraryFlashCopy _ kind idx => kind.val == 1 || decide (idx.val < 256)
  | .audioGridSample _ _ _ => true
  | .audioFlowUntimed _ _ _ => true
  | .asrcLock _ _ _ => true
  | .tdmFrame _ _ words _ _ => words.all fun w => decide (w < 2 ^ 32)
  | .tdmMaskWrite _ _ tx rx => decide (tx < 2 ^ 32) && decide (rx < 2 ^ 32)
  | .tdmSteerLimit _ _ => true
  | .tdmRestart _ _ => true
  | .tdmMclkLoss _ => true
  | .tdmMclkReturn _ => true
  | .tdmBclkCheck _ _ _ => true
  | .amReceived _ _ _ _ _ _ _ => true
  | .restripeReq _ _ _ lanes id => decide (lanes < 16) && decide (id < 256)
  | .switchRound _ _ _ _ _ => true
  | .mask _ _ _ lanes id => decide (lanes < 16) && decide (id < 256)
  | .timing _ _ _ _ => true
  | .delayReq _ _ _ _ _ _ => true
  | .delayResp _ _ _ _ _ _ _ => true
  | .delayMeasureTimer _ _ _ => true
  | .presence _ _ _ _ => true
  | .presenceSend _ _ _ => true
  | .presenceTimeout _ _ _ => true
  | .cfgRepeat _ _ _ => true
  | .laneLoss _ _ _ _ => true
  | .laneReturn _ _ _ _ => true
  | .linkTrainTimeout _ _ _ => true
  | .linkIdleTimeout _ _ _ => true
  | .laneSignalDetect _ p l => laneOf p l
  | .trainingFrame _ p l _ => laneOf p l
  | .laneStageTimeout _ p l => laneOf p l
  | .laneLowFom _ p l fom => laneOf p l && decide (fom < 256)
  | .ethFrameRx _ _ _ _ => true
  | .ethLinkChange _ _ _ _ _ => true
  | .igmpReport _ _ _ _ => true
  | .igmpQueryResponse _ _ _ => true
  | .macPortcfgMode _ _ _ _ => true
  | .macPortcfgMedium _ _ _ _ _ => true
  | .macCapqReset _ _ _ _ => true
  | .captureIrq _ _ => true
  | .ptpDelayReqSend _ _ => true
  | .refLossOfSignal _ _ _ => true
  | .refQualWindow _ _ _ => true
  | .refWtrExpire _ _ _ => true
  | .dpllLocked _ _ => true
  | .refSlewComplete _ => true
  | .peerTiming _ _ _ => true
  | .journalFlush _ => true
  | .flashProgramDone _ _ _ _ => true
  | .checkpointTimer _ => true
  | .belayHb _ _ => true
  | .belayHbMiss _ => true
  | .fenceDrainDone _ => true
  | .takeoverComplete _ => true
  | .ppBistDone _ _ _ => true
  | .belayOutToggle _ => true
  | .activeSelChange _ _ _ => true
  | .peerLost _ => true
  | .peerRecord _ _ => true
  | .pairResyncDone _ _ _ => true
  | .joinPeerTimeout _ => true
  | .replayDone _ => true
  | .hbmTrainDone _ _ eyes => decide (eyes.length = 128)
  | .hbmEyeTrack _ _ _ _ _ => true
  | .hbmRefreshInterval _ _ _ _ _ _ => true
  | .hbmReqPromote _ _ _ _ _ => true
  | .hbmScrub _ _ _ => true
  | .bivouacSelfRefreshDone _ _ _ => true
  | .flashMount _ _ profile _ => decide (profile.length ≤ 256)
  | .flashReadDone _ _ _ => true
  | .flashTargetTimeout _ _ _ _ => true
  | .flashRebuildDone _ _ => true
  | .flashDirRewrite _ _ => true
  | .flashWearLevel _ _ _ => true
  | .nandTempRead _ _ _ => true
  | .flashScrubDone _ _ => true
  | .bootSelect _ _ => true
  | .fwWindowExpire _ => true
  | .fwResumeTimeout _ => true
  | .fwSelftestFail _ => true
  | .entropyFail _ => true
  | .por _ _ => true
  | .pwrgood _ _ => true
  | .resetN _ _ => true
  | .rstSwPulse _ _ _ _ => true
  | .rstSwHold _ _ _ _ => true
  | .rstSwRelease _ _ _ _ => true
  | .watchdog _ => true
  | .thermalTrip _ d => decide (d.length = 40)
  | .thermalHoldEnd _ _ => true
  | .resetEntry _ => true
  | .resetClockFallback _ _ _ => true
  | .resetClockReturn _ _ _ => true
  | .resetReleaseStep _ _ _ straps _ => decide (straps.length = 16) && straps.all fun x => decide (x < 64)
  | .fuseLoadDone _ _ => true
  | .fuseParityCheck _ _ => true
  | .faultEvent _ _ cause sub _ => decide (1 ≤ cause ∧ cause ≤ 15) && decide (sub < 256)
  | .fltStatusClear _ ones => decide (ones < 2 ^ 48)
  | .fltClearCheck _ _ _ => true
  | .fltFirstClear _ => true
  | .fltReactWrite _ _ value => decide (value < 2 ^ 32)
  | .fltModeWindow _ => true
  | .faultLogWrite _ => true
  | .monitorSample _ slack => decide (slack.length = 32)
  | .thermalSample _ d => decide (d.length = 40)
  | .surveySchedule _ => true
  | .surveyStep _ _ => true
  | .ageingReport _ => true
  | .mtxTransaction _ reqs => reqs.all matrixReq
  | .mtxTimeout _ r => matrixReq r
  | .mtxLockWrite _ _ _ => true
  | .mtxRemapWrite _ _ _ _ => true
  | .mtxWinWrite _ _ _ _ _ => true
  | .avsWrite _ rail _ _ => decide (rail < 2)
  | .avsStep _ _ => true
  | .railOutOfWindow _ _ _ _ => true
  | .ipPacketSend _ _ _ _ _ _ _ _ _ => true
  | .peerLinkReturn _ _ => true
  | .uncorrectableCodeword _ _ _ _ _ => true
  | .flashEraseDone _ _ _ _ _ => true
  | .jtagInstruction _ _ => true

end Sys2Proof
end

