-- ==== Sys2Proof/Tests/Slice0.lean ====
section
/-! SUPPORT. Tests: ill-formed commands are refused by `Instr.wf`, and for every statement of Obligations.lean a state and operands that
meet its hypotheses, with what the command gives there. Expected values come from the rules named. -/

namespace Sys2Proof.Tests

open Sys2Proof.Machine Sys2Proof.Claims

set_option Elab.async false

/-! Helpers: small devices, descriptors, one step. -/

/-- The device right after reset, with fields of the register file set: field, element, value. -/
def dev (l : List (Fld × Nat × Nat)) : Dev := l.foldl (fun d q => setF d q.1 q.2.1 q.2.2) State.reset.dev

/-- What the device is after one command; the device itself where the command stops. -/
def run (c : Instr) (d : Dev) : Dev := match exec c { dev := d } with | .next u => u.dev | _ => d

/-- A 64-byte descriptor: opcode, flags, target and operand fields as (byte, value). -/
def descOf (op flags target : Nat) (ops : List (Nat × Nat)) : Bytes :=
  leBytes 64 (op + flags * 2 ^ 16 + 7 * 2 ^ 64 + target * 2 ^ 128 + (ops.map fun q => q.2 * 2 ^ (8 * q.1)).sum)

/-- Its journal record under JSN 5 of ring 0 of HIF 0. -/
def recFor (op flags target : Nat) (ops : List (Nat × Nat)) (buf : Bytes := []) : JRec := mkRec 5 0 0 (descOf op flags target ops) buf

/-- A device in a state of the device, validation running, with one record in its journal. -/
def with1 (d : Dev) (state : Nat) (j : JRec) : Dev :=
  let d := setF d F.SYS_STATE_STATE 0 state
  { d with ctl := { d.ctl with recs := [j] }, jrn := { d.jrn with outage := false } }

/-- A device in SERVICE that holds the record. -/
def inService (j : JRec) : Dev := with1 State.reset.dev dvService j

theorem validates_of {d : Dev} {op : Nat} {j : JRec} (h : recOf d j.jsn = some j ∧ j.op = op ∧ j.dec = none ∧ j.validated = false ∧
    d.jrn.outage = false ∧ isFollower d = false ∧ blocked d j = false) : Validates d op j :=
  ⟨h.1, h.2.1, h.2.2.1, h.2.2.2.1, h.2.2.2.2.1, h.2.2.2.2.2.1, h.2.2.2.2.2.2⟩

/-- What a command's record has been decided as. -/
def decOf (d : Dev) (jsn : Nat) : Option Dec := match recOf d jsn with | none => none | some j => j.dec

/-- A buffer of `n` bytes with the fields given as (byte, value). -/
def bufOf (n : Nat) (ops : List (Nat × Nat)) : Bytes := leBytes n (ops.map fun q => q.2 * 2 ^ (8 * q.1)).sum

/-! Well-formedness: for each check of `Instr.wf` a command that it refuses, and the boundary that it lets pass. -/

theorem wf_bars : Instr.wf (.registerWrite 0 2 (2 ^ 26 + 2 ^ 20) 4 0) = false ∧ Instr.wf (.registerWrite 0 2 (2 ^ 26 + 0x20000) 4 0) = true ∧
    Instr.wf (.rcRead 0 3 (2 ^ 27 + 4096) 4) = false := by decide +kernel
theorem wf_registerWrite : Instr.wf (.registerWrite 0 0 0x20 4 (2 ^ 32 - 1)) = true ∧ Instr.wf (.registerWrite 0 0 0x20 4 (2 ^ 32)) = false ∧
    Instr.wf (.registerWrite 0 0 0x20 9 0) = false ∧ Instr.wf (.registerWrite 0 0 (2 ^ 28) 4 0) = false ∧
    Instr.wf (.registerWrite 0 2 (2 ^ 28) 4 0) = false := by decide +kernel
theorem wf_reads : Instr.wf (.rcRead 0 3 (2 ^ 28) 4) = false ∧ Instr.wf (.rcRead 0 1 (2 ^ 26) 4) = true ∧
    Instr.wf (.latchedRead 0 0 0 9) = false ∧ Instr.wf (.latchedRead 0 0 0 8) = true := by decide +kernel
theorem wf_doorbells : Instr.wf (.commandDoorbell 0 0 0 (2 ^ 32)) = false ∧ Instr.wf (.completionDoorbell 0 0 0 (2 ^ 32)) = false ∧
    Instr.wf (.eventDoorbell 0 0 (2 ^ 32)) = false ∧ Instr.wf (.eventDoorbell 0 0 (2 ^ 32 - 1)) = true := by decide +kernel
theorem wf_hif : Instr.wf (.commandAccept 0 (some ([], [])) true) = false ∧ Instr.wf (.cplCoalesceWrite 0 0 0 256 0) = false ∧
    Instr.wf (.cplCoalesceWrite 0 0 0 0 256) = false ∧ Instr.wf (.hifLinkChange 0 0 true true true 8 0) = false ∧
    Instr.wf (.hifLinkChange 0 0 true true true 0 16) = false ∧ Instr.wf (.hifLinkChange 0 0 true true true 7 15) = true := by decide +kernel
theorem wf_planes : Instr.wf (.underrun 0 0 0 1536) = false ∧ Instr.wf (.underrun 0 0 1 1535) = false ∧ Instr.wf (.underrun 0 0 2 1600) = false ∧
    Instr.wf (.underrun 0 0 2 1599) = true ∧ Instr.wf (.libraryFlashCopy 0 0 256) = false ∧ Instr.wf (.libraryFlashCopy 0 0 255) = true := by decide +kernel
theorem wf_tdm : Instr.wf (.tdmFrame 0 0 [2 ^ 32] [] false) = false ∧ Instr.wf (.tdmMaskWrite 0 0 (2 ^ 32) 0) = false ∧
    Instr.wf (.tdmMaskWrite 0 0 0 (2 ^ 32)) = false ∧ Instr.wf (.tdmMaskWrite 0 0 (2 ^ 32 - 1) 0) = true := by decide +kernel
theorem wf_links : Instr.wf (.restripeReq 0 0 0 16 0) = false ∧ Instr.wf (.restripeReq 0 0 0 15 256) = false ∧ Instr.wf (.mask 0 0 0 16 0) = false ∧
    Instr.wf (.mask 0 0 0 0 256) = false ∧ Instr.wf (.laneSignalDetect 0 1 80) = false ∧ Instr.wf (.laneSignalDetect 0 0 80) = true ∧
    Instr.wf (.laneStageTimeout 0 1 83) = false ∧ Instr.wf (.laneLowFom 0 0 0 256) = false ∧ Instr.wf (.laneLowFom 0 1 80 0) = false := by decide +kernel
theorem wf_store : Instr.wf (.hbmTrainDone 0 0 []) = false ∧
    Instr.wf (.flashMount 0 0 (List.replicate 257 0) ⟨0, 0, true, true, true, 0, none, false, none, 0⟩) = false := by decide +kernel
theorem wf_resets : Instr.wf (.thermalTrip 0 []) = false ∧ Instr.wf (.resetReleaseStep 0 true [] [] 0) = false ∧
    Instr.wf (.resetReleaseStep 0 true [] (List.replicate 16 64) 0) = false ∧
    Instr.wf (.resetReleaseStep 0 true [] (List.replicate 16 63) 0) = true := by decide +kernel
theorem wf_faults : Instr.wf (.faultEvent 0 0 0 0 false) = false ∧ Instr.wf (.faultEvent 0 0 16 0 false) = false ∧
    Instr.wf (.faultEvent 0 0 15 256 false) = false ∧ Instr.wf (.fltStatusClear 0 (2 ^ 48)) = false ∧ Instr.wf (.fltReactWrite 0 0 (2 ^ 32)) = false ∧
    Instr.wf (.monitorSample 0 []) = false ∧ Instr.wf (.thermalSample 0 []) = false := by decide +kernel
theorem wf_matrix : Instr.wf (.mtxTransaction 0 [⟨8, 0, false, 4, 0, false, 0, 0⟩]) = false ∧
    Instr.wf (.mtxTimeout 0 ⟨0, 2 ^ 48, false, 4, 0, false, 0, 0⟩) = false ∧ Instr.wf (.mtxTimeout 0 ⟨0, 0, true, 4, 2 ^ 32, false, 0, 0⟩) = false ∧ Instr.wf (.avsWrite 0 2 750 true) = false ∧
    Instr.wf (.avsWrite 0 1 750 true) = true := by decide +kernel

/-! Host commands. -/

/-- Operands and buffer that each opcode's checks pass (R351 to R353). -/
def goodOf (op : Nat) : List (Nat × Nat) × Bytes :=
  match op with
  | 0x10 => ([(30, 1)], [])
  | 0x11 => ([(36, 1), (38, 1), (32, 8)], bufOf 8 [])
  | 0x12 => ([(28, 1)], [])
  | 0x14 => ([(27, 7)], [])
  | 0x15 => ([(28, 8), (30, 0xFFFF), (32, 1)], [])
  | 0x20 => ([(32, 544), (36, 0x2000)], bufOf 544
      [(0, 0x36), (2, 3), (3, 8), (33, 2), (34, 0x36), (56, 1280), (58, 720), (96, 1), (97, 2), (98, 0x36), (120, 1280), (122, 720)])
  | 0x21 => ([(24, 0x2000)], [])
  | 0x22 => ([(32, 52)], bufOf 52 [(0, 1), (1, 1)])
  | 0x23 => ([(24, 0x3000), (26, 0x66)], [])
  | 0x24 => ([(32, 16)], bufOf 16 [])
  | 0x30 => ([(32, 24)], bufOf 24 [(0, 1), (18, 1), (21, 1), (22, 1)])
  | 0x31 => ([(24, 1), (30, 1)], [])
  | 0x32 => ([(26, 1), (27, 16), (30, 64), (42, 0xFFFF)], [])
  | 0x40 => ([(24, 6), (28, 6), (30, 200), (32, 50), (34, 1000), (36, 300), (38, 100)], [])
  | 0x51 => ([(32, 64)], bufOf 64
      [(0, 0x1000), (4, 0xEF010203), (8, 0xEF010203), (20, 5004), (38, 96), (39, 96), (44, 0x36), (48, 1200), (58, 0xFFFF)])
  | 0x61 => ([(24, 3)], [])
  | 0x74 => ([(32, 50368)], [])
  | 0x82 => ([(24, 1), (26, 1)], [])
  | 0x83 => ([(24, 1)], [])
  | _ => ([], [])

/-- The record of an opcode with such operands. -/
def goodRec (op : Nat) (flags : Nat := 0) (target : Nat := 0) : JRec := recFor op flags target (goodOf op).1 (goodOf op).2

/-- `validates_of` as a check. -/
def validatesB (d : Dev) (op : Nat) (j : JRec) : Bool :=
  recOf d j.jsn == some j && j.op == op && j.dec.isNone && !j.validated && !d.jrn.outage && !isFollower d && !blocked d j

theorem validates_ofB {d : Dev} {op : Nat} {j : JRec} (h : validatesB d op j = true) : Validates d op j := by
  simp only [validatesB, Bool.and_eq_true, beq_iff_eq, Bool.not_eq_true', Option.isNone_iff_eq_none] at h
  obtain ⟨⟨⟨⟨⟨⟨a, b⟩, c⟩, e⟩, f⟩, g⟩, i⟩ := h
  exact ⟨a, b, c, e, f, g, i⟩

/-- O RefusedCommandCompletes: in BOOT every host command is refused (R346), with what its checks answer. -/
theorem witness_RefusedCommandCompletes : (hostCmds.all fun e =>
    let j := recFor e.op 0 0 []
    let s := with1 State.reset.dev 0 j
    validatesB s e.op j && (match e.checks (s.at 9) j with
      | none => false
      | some r => decOf (run (e.cmd 9 5) s) 5 == some { status := r.1, applied := 0, detail := r.2 } && (run (e.cmd 9 5) s).ctl.pend == [])) = true := by
  decide +kernel

/-- ScheduledCommandsWait, frame commands: each passes with good operands, and its entry then waits. -/
theorem witness_FrameCommands : (frameCmds.all fun e =>
    let j := goodRec e.op
    let s := inService j
    validatesB s e.op j && e.checks (s.at 9) j == none &&
      (match chooseFrame (s.at 9) j.flags j.target (e.deadline (s.at 9) j) (e.ok (s.at 9) j) with
      | none => false
      | some q => (run (e.cmd 9 5) s).ctl.pend == [{ jsn := 5, op := e.op, frame := q.1, deferred := q.2.1, reason := q.2.2 }] &&
          recOf (run (e.cmd 9 5) s) 5 == some { j with validated := true })) = true := by
  decide +kernel

/-- ScheduledCommandsWait, commands of an instant, with their items. -/
theorem witness_InstantCommands : (instantCmds.all fun e =>
    let j := goodRec e.op
    let s := inService j
    validatesB s e.op j && e.checks (s.at 9) j == none &&
      (match chooseFrame (s.at 9) j.flags j.target (e.deadline (s.at 9) j) (e.ok (s.at 9) j) with
      | none => false
      | some q => (run (e.cmd 9 5) s).ctl.pend == [{ jsn := 5, op := e.op, frame := q.1, deferred := q.2.1, reason := q.2.2, items := e.items (s.at 9) j, lastFrame := e.aux (s.at 9) j }] &&
          recOf (run (e.cmd 9 5) s) 5 == some { j with validated := true })) = true := by decide +kernel

/-- The same with AT_FRAME and STRICT at a frame ahead: the target's entry. -/
theorem witness_AtFrame : (frameCmds.all fun e =>
    let j := goodRec e.op 6 40
    let s := inService j
    validatesB s e.op j && e.checks (s.at 9) j == none &&
      chooseFrame (s.at 9) j.flags j.target (e.deadline (s.at 9) j) (e.ok (s.at 9) j) == some (40, false, 0)) = true := by decide +kernel

/-- NopAndBarrierComplete: at once, and held for frame 40. -/
theorem witness_NopAndBarrier : ([((Instr.nop : Nat → Nat → Instr), 0x00), (Instr.barrier, 0x01)].all fun c =>
    let j := goodRec c.2
    let k := goodRec c.2 2 40
    validatesB (inService j) c.2 j && nopChecks ((inService j).at 9) j == none && !targetAhead ((inService j).at 9) j &&
    decOf (run (c.1 9 5) (inService j)) 5 == some { status := 0, applied := 0, detail := 0 } &&
    validatesB (inService k) c.2 k && nopChecks ((inService k).at 9) k == none && targetAhead ((inService k).at 9) k &&
    (run (c.1 9 5) (inService k)).ctl.pend == [{ jsn := 5, op := c.2, frame := 40, atFrame := true }]) = true := by decide +kernel

/-- UntimedCommandsAct: CHECKPOINT (R363), RING_ADOPT (R333) and MARGIN_SURVEY (R485). -/
theorem witness_Untimed : (
    let j := goodRec 0x80
    let s := inService j
    validatesB s 0x80 j && checkpointChecks (s.at 9) j == none && !targetAhead (s.at 9) j &&
    getF (run (.checkpoint 9 5) s) F.JRN_CKPT_SEQ 0 == 1 && decOf (run (.checkpoint 9 5) s) 5 == some { status := 0, applied := 0, detail := 1 }) = true ∧ (
    let j := goodRec 0x82
    let s := inService j
    validatesB s 0x82 j && ringAdoptChecks (s.at 9) j == none && !targetAhead (s.at 9) j && bit (le j.desc 26 2) 0 &&
    isAdopted (run (.ringAdopt 9 5) s) 1 0 && decOf (run (.ringAdopt 9 5) s) 5 == some { status := 0, applied := 0, detail := 0 }) = true ∧ (
    let j := goodRec 0x84
    let s := inService j
    validatesB s 0x84 j && marginSurveyChecks (s.at 9) j == none && !targetAhead (s.at 9) j &&
    getF (run (.marginSurvey 9 5) s) F.AGE_STAT_SEQ 0 == 1 && (run (.marginSurvey 9 5) s).age.jsn == some 5) = true := by decide +kernel

/-- UntimedCommandsAct: ATTEST (R443), whose report is opaque, and PAIR_SET to Pair in LOADING (R354). -/
theorem witness_UntimedMore : (
    let j := goodRec 0x74
    let s := inService j
    validatesB s 0x74 j && attestChecks (s.at 9) j == none && !targetAhead (s.at 9) j) = true ∧ (
    let j := recFor 0x90 0 0 [(24, 1)]
    let s := with1 State.reset.dev dvLoading j
    validatesB s 0x90 j && pairSetChecks (s.at 9) j == none && !targetAhead (s.at 9) j && pairCfg s != 2 && decide ((mechOf s mkPair 0).jsn < 5) &&
    (run (.pairSet 9 5) s).ctl.pair && getF (run (.pairSet 9 5) s) F.PAIR_STAT_CONFIG 0 == 1) = true := by decide +kernel

/-- HeldCommandsWait: STILL_LOAD of a delete, FW_SCHEDULE of a staged update, BIVOUAC entry and exit (R169, R394, R396, R435). -/
theorem witness_Held : (
    let j := goodRec 0x24
    let s := inService j
    validatesB s 0x24 j && stillLoadChecks (s.at 9) j == none && ((run (.stillLoad 9 5) s).ctl.pend.map fun x => x.frame) == [1]) = true ∧ (
    let j := recFor 0x71 2 40 [(24, 60)]
    let s := setF (inService j) F.SEC_FW_STAT_UPDATE 0 2
    validatesB s 0x71 j && fwScheduleChecks (s.at 9) j == none && s.sec.sched == none && devState s != dvCamp &&
    chooseFrame (s.at 9) j.flags j.target (fun n => frameStart s n - 540000000) (fun _ => true) == some (40, false, 0) &&
    (run (.fwSchedule 9 5) s).sec.sched == some (5, 40, 60) && fwUpdate (run (.fwSchedule 9 5) s) == 3) = true ∧ (
    let j := goodRec 0x83
    let s := inService j
    validatesB s 0x83 j && bivouacChecks (s.at 9) j == none && bit (le j.desc 24 1) 0 && (run (.bivouac 9 5) s).jrn.bivIn == some (5, 9)) = true ∧ (
    let j := recFor 0x83 0 0 []
    let s := with1 State.reset.dev dvBivouac j
    validatesB s 0x83 j && bivouacChecks (s.at 9) j == none && !bit (le j.desc 24 1) 0 && !targetAhead (s.at 9) j &&
    (run (.bivouac 9 5) s).jrn.bivOut == some (5, 9) && planeState (run (.bivouac 9 5) s) 1 == 1) = true := by decide +kernel

/-- The offer of the smallest image that is not malformed (R428): one byte of loader and one of Ilesen. Its header is given, and what
lies beyond a buffer reads as 0. -/
def fwRec : JRec := { jsn := 5, hif := 0, ring := 0, cmdId := 7, op := 0x70, flags := 0, target := 0,
                      desc := descOf 0x70 0 0 [(32, 32770)],
                      buf := bufOf 64 [(0, 0x4D494651), (4, 1), (6, 0x1152), (32, 1), (36, 1)] }

/-- FirmwareCommandsAct: an image that passes the checks of FW_STAGE (R428, R433). -/
theorem witness_FwStage : (let s := inService fwRec
    validatesB s 0x70 fwRec && fwStageChecks (s.at 9) fwRec == none && fwUpdate s == 0 && decide (s.sec.svn ≤ imgSec fwRec.buf) &&
    !imgEnrol fwRec.buf && !imgBound fwRec.buf && !s.ctl.pair && getF s F.SEC_FW_STAT_BASECAMP 0 != 3) = true := by decide +kernel

/-- FirmwareCommandsAct: FW_CONFIRM in TRIAL, FW_ABORT of a staged update, PP_SWITCH to a standby (R369, R432, R437). -/
theorem witness_Firmware : (
    let j := goodRec 0x72
    let s := setFs (inService j) 0 [(F.SEC_FW_STAT_UPDATE, 4), (F.SEC_FW_STAT_STAGED_SLOT, 1)]
    validatesB s 0x72 j && fwConfirmChecks (s.at 9) j == none && !targetAhead (s.at 9) j) = true ∧ (
    let j := goodRec 0x73
    let s := setF (inService j) F.SEC_FW_STAT_UPDATE 0 2
    validatesB s 0x73 j && fwAbortChecks (s.at 9) j == none && !targetAhead (s.at 9) j && fwUpdate (run (.fwAbort 9 5) s) == 0) = true ∧ (
    let j := recFor 0x81 0 0 [(24, 1)]
    let s := setF (inService j) F.BELAY_STAT_PP1_STATE 0 1
    validatesB s 0x81 j && ppSwitchChecks (s.at 9) j == none && !targetAhead (s.at 9) j && decide (activePp s < 2) &&
    activePp (run (.ppSwitch 9 5) s) == 1 && ppState (run (.ppSwitch 9 5) s) 1 == 0 && (run (.ppSwitch 9 5) s).jrn.outage) = true := by decide +kernel

/-! Register accesses and the control matrix. -/

/-- The hypotheses of `Meets`, as a check: what it finds. -/
def meetsB (d : Dev) (m addr size : Nat) : Option RegHit :=
  if hostBar m addr == 0 && canAccess d m && sizeFits (regSpace m addr) size && reaches d m (mtxAddr (regSpace m addr)) size false then locateReg (regSpace m addr) else none

/-- The hit is of a register of width `w` at sub-byte `sub` whose write is its fields'. -/
def hits (d : Dev) (m addr size w sub : Nat) : Bool := match meetsB d m addr size with
  | none => false
  | some h => h.d.width == w && h.sub == sub && !ownWrite h.d && !hifBlocked m (regSpace m addr) && reaches d m (mtxAddr (regSpace m addr)) size true && (h.d.blk != blkMtx || isPp m)

/-- A HIF whose link is in L0. -/
def linked (h : Nat) : Dev := dev [(F.HIF_STAT_STATE, h, 2)]

/-- RegisterWriteStores: MTX_QOS by a processor, whose RO field stays (R507); HIF_WB_BASE whole by processor 1; its low half by HIF 0, at
once and held, and its high half after it (R6, R9). -/
theorem witness_RegisterWrite :
    (let d := dev []
     let u := run (.registerWrite 9 0 0xD00004 4 0x0123456F) d
     hits d 0 0xD00004 4 32 0 && getF u F.MTX_QOS_PP0 0 == 15 && getF u F.MTX_QOS_FLS 0 == 1 && getF u F.MTX_QOS_BELAY 0 == 15) = true ∧
    (let d := dev []
     let u := run (.registerWrite 9 1 0x400008 8 (2 ^ 64 - 1)) d
     hits d 1 0x400008 8 64 0 && getF u F.HIF_WB_BASE_BASE 0 == 2 ^ 57 - 1) = true ∧
    (let d := linked 0
     let u := run (.registerWrite 9 2 0x400008 4 0xFFFFFF80) d
     let v := run (.registerWrite 9 2 0x40000C 4 1) u
     hits d 2 0x400008 4 64 0 && hits u 2 0x40000C 4 64 4 && mget 0 u.holds (latchKey 2 0x400008) == 0xFFFFFF81 &&
     getF u F.HIF_WB_BASE_BASE 0 == 0 && getF v F.HIF_WB_BASE_BASE 0 == 0x3FFFFFF) = true := by decide +kernel

/-- RegisterReadsLatchAndClear: FLS_ECC whole clears its four counters; its low half latches for requester 7 and its high half gives the
latch up (R6, R9, R421); the DPLL snapshot, by half and whole (R73). -/
theorem witness_RegisterReads :
    (let d := dev [(F.FLS_ECC_UNCORR, 0, 3), (F.FLS_ECC_RELOC, 0, 65535)]
     let u := run (.rcRead 9 7 0x800018 8) d
     (meetsB d 7 0x800018 8).isSome && !inSnapshot 0x800018 && u.out.head? == some (.rdata 7 8 0x000300000000FFFF) &&
     getF u F.FLS_ECC_UNCORR 0 == 0 && getF u F.FLS_ECC_RELOC 0 == 0) = true ∧
    (let d := dev [(F.FLS_ECC_UNCORR, 0, 3), (F.FLS_ECC_RELOC, 0, 65535)]
     let u := run (.latchedRead 9 7 0x800018 4) d
     let v := run (.latchedRead 10 7 0x80001C 4) u
     (meetsB d 7 0x800018 4).map (·.sub) == some 0 && (meetsB u 7 0x80001C 4).map (·.sub) == some 4 && !inSnapshot 0x800018 &&
     u.out.head? == some (.rdata 7 4 65535) && v.out.head? == some (.rdata 7 4 0x30000) && latched v 7 0x800018 == none) = true ∧
    (let u := run (.dpllSnapshotRead (2 ^ 62) 7 false) (dev [])
     let v := run (.latchedRead (2 ^ 62 + 1000000000) 7 0xA0000C 4) u
     canAccess (dev []) 7 && reaches (dev []) 7 (mtxAddr dpllHfnAt) 4 false && latched u 7 0xA00008 == some (hfn u) &&
     v.out.head? == some (.rdata 7 4 (hfn u / 2 ^ 32))) = true := by decide +kernel

/-- FailedAccessesAreReported: HIF 1 at an offset with no register and at SEC_CTRL's window, which a HIF does not write; a 4-byte access of
a misaligned address by a processor and by a HIF (R9, R317). -/
theorem witness_FailedAccesses :
    (let d := linked 1
     hostBar 3 0x4FFFF0 == 0 && canAccess d 3 && sizeFits (regSpace 3 0x4FFFF0) 4 && locateReg (regSpace 3 0x4FFFF0) == none &&
     getF (run (.registerWrite 9 3 0x4FFFF0 4 1) d) F.HIF_ERRCNT_DECODE 1 == 1 &&
     (run (.rcRead 9 3 0x4FFFF0 4) d).out.head? == some (.rdata 3 4 0xFFFFFFFF)) = true ∧
    (let d := linked 1
     canAccess d 3 && sizeFits (regSpace 3 0x700000) 4 && hifBlocked 3 (regSpace 3 0x700000) &&
     getF (run (.registerWrite 9 3 0x700000 4 1) d) F.HIF_ERRCNT_DECODE 1 == 1) = true ∧
    (!sizeFits (regSpace 0 0xD00006) 4 && canAccess (dev []) 0 &&
     bit (getF (run (.registerWrite 9 0 0xD00006 4 1) (dev [])) F.FLT_STATUS_BITS 0) 41 &&
     !reaches (dev []) 7 (mtxAddr 0xD00004) 4 true && bit (getF (run (.registerWrite 9 7 0xD00004 4 1) (dev [])) F.FLT_STATUS_BITS 0) 41 &&
     !reaches (dev []) 5 (mtxAddr 0xD00004) 4 false && (run (.rcRead 9 5 0xD00004 4) (dev [])).out.contains (.rdata 5 4 0xFFFFFFFF) &&
     ((run (.rcRead 9 0 0xD00006 4) (dev [])).out.contains (.rdata 0 4 0xFFFFFFFF))) = true := by decide +kernel

/-- MatrixRegistersAreGuarded: each clause with LOCK 0 or 1, the last window, either REMAP value (R500, R503, R508). -/
theorem witness_MatrixRegisters :
    (getF (run (.mtxLockWrite 9 1 1) (dev [])) F.MTX_CTRL_LOCK 0 == 1) = true ∧
    (let d := dev [(F.MTX_CTRL_LOCK, 0, 1)]
     getF d F.MTX_CTRL_LOCK 0 == 1 && getF (run (.mtxLockWrite 9 0 0) d) F.MTX_CTRL_LOCK 0 == 1 &&
     getF (run (.mtxLockWrite 9 0 0) d) F.MTX_STAT_LOCK_ERR 0 == 1 && getF (run (.mtxWinWrite 9 1 23 true 4096) d) F.MTX_STAT_LOCK_ERR 0 == 1 &&
     getF (run (.mtxWinWrite 9 1 23 true 4096) d) F.MTX_WIN_LIM_LAST 23 == getF d F.MTX_WIN_LIM_LAST 23) = true ∧
    (getF (dev []) F.MTX_CTRL_LOCK 0 == 0 && getF (run (.mtxWinWrite 9 0 23 false 0x7003) (dev [])) F.MTX_WIN_BASE_BASE 23 == 7 &&
     getF (run (.mtxWinWrite 9 0 23 false 0x7003) (dev [])) F.MTX_WIN_BASE_W 23 == 1 &&
     getF (run (.mtxWinWrite 9 0 0 true 0x9000) (dev [])) F.MTX_WIN_LIM_LAST 0 == 9) = true ∧
    (getF (run (.mtxRemapWrite 9 0 0 1) (dev [])) F.MTX_CTRL_REMAP_PP0 0 == 1 && getF (run (.mtxRemapWrite 9 1 1 1) (dev [])) F.MTX_CTRL_REMAP_PP1 0 == 1 &&
     getF (run (.mtxRemapWrite 9 1 3 1) (dev [])) F.MTX_CTRL_REMAP_HIF1 0 == 1) = true := by decide +kernel

/-- MatrixServesAndReports: a write and a read of the last bytes of control SRAM; a time-out by JRN's engine is no processor's, so by
HIF 1; a write of boot ROM, which fails to decode (R497 to R499). -/
theorem witness_Matrix :
    (let r : MtxReq := { master := 1, addr := 0x107FFFFE, write := true, size := 2, value := 0xABCD, fetch := false, waited := 0, epoch := 0 }
     let q : MtxReq := { r with write := false }
     match exec (.mtxTransaction 9 [r]) { dev := dev [] } with
     | .next u => !isRetired (dev []) r && reqKind (dev []) r == 0 && mtxTarget (physAddr (dev []) 1 r.addr) == 2 &&
         mget 0 u.mem 0x107FFFFE == 0xCD && mget 0 u.mem 0x107FFFFF == 0xAB && !engineOwned (physAddr u.dev 1 q.addr) &&
         (match exec (.mtxTransaction 10 [q]) u with | .next v => v.dev.out.head? == some (.rdata 1 2 0xABCD) | _ => false)
     | _ => false) = true ∧
    (let r : MtxReq := { master := 3, addr := 0x10C00000, write := true, size := 1, value := 1, fetch := false, waited := 0, epoch := 0 }
     let q : MtxReq := { r with master := 0, addr := 0x3FFFF, epoch := 0 }
     let d := dev []
     let u := run (.mtxTimeout 9 r) d
     let v := run (.mtxTransaction 9 [q]) d
     !isRetired d r && !isRetired d q && getF d F.MTX_ERR_INFO_VALID 0 == 0 && reqKind d r == 0 && reqKind d q == 3 &&
     getF u F.MTX_ERR_INFO_KIND 0 == 4 && getF u F.MTX_ERR_INFO_MASTER 0 == 3 && bit (getF u F.FLT_STATUS_BITS 0) 41 &&
     getF v F.MTX_ERR_INFO_KIND 0 == 3 && getF v F.MTX_ERR_INFO_WRITE 0 == 1 && getF v F.MTX_ERRCNT_COUNT 0 == 1) = true := by decide +kernel

/-! Host interface and rings. -/

/-- A HIF in ACTIVE (3) or UP (2) with ring 15 of 16 entries enabled, and its event ring of 16 entries. -/
def ringDev (h state : Nat) : Dev := dev
  [(F.HIF_STAT_STATE, h, state), (F.CRING_CFG_EN, ix h 15, 1), (F.CRING_CFG_LOG2_SIZE, ix h 15, 4), (F.CPL_CFG_LOG2_SIZE, ix h 15, 4),
   (F.HIF_EVT_CFG_EN, h, 1), (F.HIF_EVT_CFG_LOG2_SIZE, h, 4), (F.HIF_WB_BASE_BASE, h, 5), (F.CPL_CFG_VEC, ix h 15, 7), (F.HIF_EVT_CFG_VEC, h, 9)]

/-- The conditions of `DoorbellTaken`. -/
def taken (d : Dev) (h r value size : Nat) : Bool := getF d F.CRING_CFG_EN (ix h r) == 1 && !isAdopted d h r && decide (value < size)

/-- DoorbellsAct: HIF 1, ring 15, at the last entry and at one past the clauses' states (R318, R321). -/
theorem witness_Doorbells :
    (let d := ringDev 1 3
     taken d 1 15 15 (cringSize d 1 15) && hifState d 1 == 3 &&
     getF (run (.commandDoorbell 9 1 15 15) d) F.CRING_PROD_PROD (ix 1 15) == 15) = true ∧
    (let d := ringDev 1 2
     taken d 1 15 15 (cringSize d 1 15) && hifState d 1 == 2 && (ringOf (run (.commandDoorbell 9 1 15 15) d) 1 15).latch == some 15 &&
     taken d 1 15 15 (cplSize d 1 15) && (ringOf (run (.completionDoorbell 9 1 15 15) d) 1 15).cplLatch == some 15 &&
     (hifOf (run (.eventDoorbell 9 1 15) d) 1).evtLatch == some 15) = true ∧
    (hifState (dev [(F.HIF_STAT_STATE, 0, 1)]) 0 == 1 && run (.commandDoorbell 9 0 0 0) (dev [(F.HIF_STAT_STATE, 0, 1)]) == (dev [(F.HIF_STAT_STATE, 0, 1)]).at 9) = true ∧
    (getF (run (.commandDoorbell 9 1 14 0) (ringDev 1 3)) F.HIF_ERRCNT_DB_IGNORED 1 == 1) = true ∧
    (let j := { recFor 0 0 0 [] with dec := some { status := 0, applied := 0, detail := 0 }, hif := 1, ring := 15 }
     let d := setRing (with1 (ringDev 1 3) 1 j) 1 15 { entries := [{ cmdId := 7, jsn := 5, applied := 0, detail := 0, status := 0 }] }
     let u := run (.completionDoorbell 9 1 15 1) d
     taken d 1 15 1 (cplSize d 1 15) && getF u F.CPL_CONS_CONS (ix 1 15) == 1 && u.ctl.recs.map (·.consumed) == [true] &&
     getF (run (.eventDoorbell 9 1 15) d) F.HIF_EVT_STAT_CONS 1 == 15) = true ∧
    (let d := ringDev 1 3
     canAccess d 3 && hostBar 3 (2 ^ 26 + 0xF000) == 1 && getF (run (.registerWrite 9 3 (2 ^ 26 + 0xF000) 8 0x10000000F) d) F.CRING_PROD_PROD (ix 1 15) == 15 &&
     getF (run (.registerWrite 9 3 (2 ^ 26 + 0x20000) 4 15) d) F.HIF_EVT_STAT_CONS 1 == 15 &&
     getF (run (.registerWrite 9 3 (2 ^ 26 + 0x21000) 4 15) d) F.HIF_ERRCNT_DECODE 1 == 1 &&
     (run (.rcRead 9 3 (2 ^ 26 + 0xF000) 8) d).out.head? == some (.rdata 3 8 0)) = true := by decide +kernel

/-- A device in SERVICE whose ring 15 of HIF 1 has one command waiting. -/
def offerDev : Dev :=
  let d := setFs (setF (ringDev 1 3) F.CRING_PROD_PROD (ix 1 15) 1) 0 [(F.SYS_STATE_STATE, dvService), (F.JRN_STAT_HBM0, 1)]
  { d with jrn := { d.jrn with outage := false }, rst := { d.rst with phase := 2 } }

/-- CommandAcceptActs: a new CMD_ID, the same again, a failed read (R325, R326, R328). -/
theorem witness_CommandAccept :
    (let d := offerDev
     let desc := descOf 0 0 0 []
     let u := run (.commandAccept 9 (some (desc, [])) false) d
     nextRing (d.at 9) == some (31, 0) && role d != 2 && getF d F.JRN_STAT_PEER 0 == 0 && decide (mget 0 d.ctl.lastId 31 < dCmdId desc) &&
     d.ctl.recs == [] && getF u F.JRN_HEAD_HEAD_JSN 0 == 1 && mget 0 u.ctl.lastId 31 == 7 &&
     getF u F.CRING_CONS_CONS (ix 1 15) == 1 && (recOf u 1).map (·.desc) == some desc) = true ∧
    (let d := { offerDev with ctl := { offerDev.ctl with lastId := [(31, 7)] } }
     let desc := descOf 0 0 0 []
     let u := run (.commandAccept 9 (some (desc, [])) false) d
     nextRing (d.at 9) == some (31, 0) && decide (dCmdId desc ≤ mget 0 d.ctl.lastId 31) && getF u F.JRN_HEAD_HEAD_JSN 0 == 0 &&
     getF u F.CRING_CONS_CONS (ix 1 15) == 1) = true ∧
    (let u := run (.commandAccept 9 none false) offerDev
     mget 0 u.ctl.stop 31 == 2 && getF u F.CRING_CONS_CONS (ix 1 15) == 0 && getF u F.HIF_ERRCNT_DMA 1 == 1) = true := by decide +kernel

/-- RingsSetUpAndSignal, setting up: enabling takes back a ring that the other HIF adopted (R320, R328, R333, R337). -/
theorem witness_RingsSetUp :
    (let d := { dev [(F.CRING_PROD_PROD, ix 1 15, 3), (F.CPL_CONS_CONS, ix 1 15, 2)] with ctl := { adopted := [(31, 1)], stop := [(0, 1), (31, 2)] } }
     let u := run (.cringEnable 9 1 15) d
     let v := run (.cringResume 9 1 15) d
     isAdopted d 1 15 && !isAdopted u 1 15 && getF d F.CRING_CFG_EN (ix 1 15) == 0 && getF u F.CRING_CFG_EN (ix 1 15) == 1 &&
     getF u F.CRING_PROD_PROD (ix 1 15) == 0 && getF u F.CPL_CONS_CONS (ix 1 15) == 0 &&
     mget 0 v.ctl.stop 31 == 0 && mget 0 v.ctl.stop 0 == 1 &&
     getF (run (.cringDisable 9 1 15) u) F.CRING_CFG_EN (ix 1 15) == 0) = true ∧
    (let u := run (.evtRingEnable 9 1) (dev [(F.HIF_EVT_STAT_PROD, 1, 3)])
     (hifOf (dev []) 1).heldDur == none && getF u F.HIF_EVT_CFG_EN 1 == 1 && getF u F.HIF_EVT_STAT_PROD 1 == 0) = true := by decide +kernel

/-- RingsSetUpAndSignal, signals, each at the first tick that its time has passed (R325, R332, R334). -/
theorem witness_Signals :
    (let d := setRing (setHif (setF (ringDev 1 3) F.CPL_CFG_COAL_US (ix 1 15) 20) 1 { table := [(31, 0)] }) 1 15 { wbPend := true, wbAt := some 100, coalAt := some 100, unsig := 3 }
     let u := run (.writebackWrite 54100 1 15) d
     hifState d 1 == 3 && u.out.head? == some (.dma 1 (5 * 128 + 120) 8 0) && !(ringOf u 1 15).wbPend &&
     (run (.writebackWrite 54099 1 15) d).out == d.out &&
     (run (.coalesceTimer 1080100 1 15) d).out.head? == some (.msix 1 7) && (run (.coalesceTimer 1080099 1 15) d).out == d.out &&
     (run (.cplCoalesceWrite 9 1 15 20 3) d).out.contains (.msix 1 7) && !(run (.cplCoalesceWrite 9 1 15 20 4) d).out.contains (.msix 1 7)) = true ∧
    (let d := setRing (setF (ringDev 1 3) F.CPL_CFG_COAL_US (ix 1 15) 20) 1 15 { coalAt := some 100, unsig := 3 }
     let u := run (.coalesceTimer 1080100 1 15) d
     let v := run (.registerWrite 1080101 3 (2 ^ 27 + 124) 4 0) u
     vecMasked (hifOf d 1) 7 && u.out == d.out && bit (hifOf u 1).pba 7 && (ringOf u 1 15).unsig == 0 && hostBar 3 (2 ^ 27 + 124) == 2 &&
     v.out.head? == some (.msix 1 7) && !bit (hifOf v 1).pba 7 &&
     vecMasked (hifOf (run (.registerWrite 1080102 3 (2 ^ 27 + 124) 4 1) v) 1) 7) = true ∧
    (let d := setHif (setF (ringDev 1 3) F.HIF_EVT_CFG_MIN_US 1 10) 1 { evtIrqPend := true, evtIrqAt := some 100, table := [(39, 0)] }
     let u := run (.eventIrqTimer 540100 1) d
     u.out.head? == some (.msix 1 9) && (hifOf u 1).evtIrqAt == some 540100 && (run (.eventIrqTimer 540099 1) d).out == d.out) = true := by decide +kernel

/-- HifStatesFollow: PERST and the three states of a link (R319). -/
theorem witness_HifStates :
    (let d := setHif (ringDev 1 3) 1 {}
     let u := run (.hifPerst 9 1 true) d
     hifState u 1 == 0 && getF u F.CRING_CFG_LOG2_SIZE (ix 1 15) == resetAt F.CRING_CFG_LOG2_SIZE (ix 1 15) &&
     !(hifOf (run (.hifPerst 10 1 false) u) 1).perst) = true ∧
    (let d := setHif { dev [] with rst := { phase := 2 } } 1 { perst := false }
     !hifHeld d 1 && hifState (run (.hifLinkChange 9 1 false true true 5 16) d) 1 == 1 &&
     hifState (run (.hifLinkChange 9 1 true false true 5 16) d) 1 == 2 && hifState (run (.hifLinkChange 9 1 true true false 5 16) d) 1 == 2 &&
     hifState (run (.hifLinkChange 9 1 true true true 5 16) d) 1 == 3 &&
     getF (run (.hifLinkChange 9 1 true true true 5 16) d) F.HIF_STAT_SPEED 1 == 5) = true := by decide +kernel

/-! House timing and references. -/

/-- TimeAndClocksAreKept: each clause, with the second bad window at its limit (R19, R20, R68). -/
theorem witness_Clocks :
    (let u := run (.peerTiming 9 77 12) (run (.houseTimeSnapshot 9) (dev []))
     mget 0 u.tim.snap 2 == 10 && u.tim.peerTime == 77 && u.tim.peerRtt == 12) = true ∧
    (let n := nominalCount (dev []) 0
     !countBad n (n * 7 / 8) && countBad n (n * 7 / 8 - 1) && !countBad n (n * 9 / 8) && countBad n (n * 9 / 8 + 1) &&
     (let u := run (.clockMonitorWindow 9 0 0) (dev [])
      let v := run (.clockMonitorWindow 9 0 0) u
      mget 0 u.tim.badWin 0 == 1 && mget 0 v.tim.badWin 0 == 2 && bit (getF v F.FLT_STATUS_BITS 0) 19 && getF v F.FLT_CAUSE_CAUSE 19 == 1 &&
      mget 0 (run (.clockMonitorWindow 9 0 n) v).tim.badWin 0 == 0)) = true ∧
    (getF (dev []) F.BELAY_STAT_ACTIVE_PP 0 != 1 && run (.clockMonitorWindow 9 6 0) (dev []) == (dev []).at 9) = true := by decide +kernel

/-- A device whose priority list is references 4 and 1, reference 1 selected. -/
def refDev (mode : Nat) : Dev :=
  let d := dev [(F.DPLL_STATUS_SELECTED, 0, 1), (F.DPLL_STATUS_MODE, 0, mode)]
  { d with ctl := { d.ctl with ref := { d.ctl.ref with prio := [4, 1] } } }

/-- ReferencesAreFollowed: loss of the selected reference, the third good window, the first offset past the hard limit, the wait over,
the lock criterion met and the slew done (R58 to R64). -/
theorem witness_References :
    (let d := setRef (refDev 2) 1 { state := 2, present := true }
     let u := run (.refLossOfSignal 9 1 []) d
     d.ctl.ref.prio.all refListed && (prioList d).contains 1 && selRef d == 1 && !(refSt u 1).present && (refSt u 1).state == 4 && selRef u == 0 &&
     dpllMode u == 3) = true ∧
    (let d := setRef (refDev 2) 4 { state := 1, good := 2, present := true }
     let o : RefObs := { ref := 4, present := true, offset := 10000000, diff := 0 }
     let u := run (.refQualWindow 9 (-5) [o]) d
     let v := run (.refQualWindow 10 0 [{ o with offset := -10000001 }]) u
     (prioList d).contains o.ref && (refSt u 4).state == 2 && (refSt u 4).qualAt == some 9 && getF u F.DPLL_NCO_NCO 0 == 2 ^ 32 - 5 &&
     (refSt v 4).state == 4) = true ∧
    (let d := setRef (refDev 2) 4 { state := 2, qualAt := some 100, present := true }
     let u := run (.refWtrExpire (100 + 10 * tickSec) 4 []) d
     d.ctl.ref.revertive && outranks d 4 && selRef d == 1 && selRef u == 4 && dpllMode u == 1 &&
     selRef (run (.refWtrExpire (99 + 10 * tickSec) 4 []) d) == 1) = true ∧
    (let d := refDev 1
     let w := lockSecs (getF d F.DPLL_STATUS_BW 0) * tickSec
     d.tim.selAt == 0 && dpllMode (run (.dpllLocked w 0) d) == 2 && dpllMode (run (.dpllLocked (w - 1) 0) d) == 1) = true ∧
    (let d := dev [(F.DPLL_STATUS_SLEWING, 0, 1), (F.DPLL_BUILDOUT_BUILDOUT, 0, 77)]
     getF (run (.refSlewComplete 9) d) F.DPLL_BUILDOUT_BUILDOUT 0 == 0) = true := by decide +kernel

/-- FramesAndRates: a NOP that waits for frame 3 completes at its start; the rate change waits for the common frame start
(R51, R82, R348). -/
theorem witness_Frames :
    (let j := { recFor 0 2 3 [] with validated := true }
     let d := inService j
     let d := { d with ctl := { d.ctl with pend := [{ jsn := 5, op := 0, frame := 3, atFrame := true }] } }
     let t := frameStart d 3
     let u := run (.houseFrameStart t []) d
     t % framePeriod d.ctl.ref.rate == 0 && decide (3 ≤ hfnAt d t) && !isFollower d && u.tim.lastFrame == 3 && u.ctl.pend == [] &&
     decOf u 5 == some { status := 0, applied := 3, detail := 0 }) = true ∧
    (let d := dev []
     let d := { d with ctl := { d.ctl with rateWait := some (1, 7), pend := [{ jsn := 5, op := 0, frame := 9999, atFrame := true }] } }
     let t := tickSec * 5005
     let u := run (.houseRateChange t) d
     decide (frameStart d 7 ≤ t) && t % framePeriod d.ctl.ref.rate == 0 && t % framePeriod 1 == 0 && u.ctl.ref.rate == 1 && u.ctl.rateWait == none) = true := by
  decide +kernel

/-! Sources, synchronisers and budgets. -/

/-- Engine state of the planes over a device. -/
def withPln (d : Dev) (f : PlnSt → PlnSt) : Dev := { d with pln := f d.pln }

/-- Source 7 of plane B in 1080p at frame-rate code `r` on 3G-SDI, in mode `m`. -/
def srcDev (r m : Nat) : Dev := withPln (dev []) fun x => { x with src := [(ix 1 7, { known := true, fmt := 0x60 + r, iface := 3, mode := m, enc := 0, signal := true })] }

/-- That source as observed again, `off` ticks from its place. -/
def obsOf (r : Nat) (off : Int) : SrcObs :=
  { signal := true, fmt := 0x60 + r, iface := 3, frac := 0, link := 0, ds := 0, samp := 0, enc := 0, complete := true, offset := some off, skew := none }

/-- KIND, RATE_MISMATCH and MISTIMED after the observation. -/
def kindAfter (r m : Nat) (off : Int) : Nat × Nat × Nat :=
  let u := run (.sourceFrameStart 9 1 7 (obsOf r off)) (srcDev r m)
  (getF u F.PLN_SRCSTAT_KIND (ix 1 7), getF u F.PLN_SRCSTAT_RATE_MISMATCH (ix 1 7), getF u F.PLN_SRCSTAT_MISTIMED (ix 1 7))

/-- The hypotheses of `Steady`. -/
def steadyB (d : Dev) (p n : Nat) (o : SrcObs) : Bool :=
  let x := srcSt d p n
  decide (n < 1536) && o.signal && o.offset.isSome && x.known && x.fmt == o.fmt && x.iface == o.iface && x.frac == o.frac && x.sampling == o.samp &&
    x.enc == o.enc && o.fmt != 0 && x.modeAt == none

/-- SourceKindsFollow: outside the house family; PASS; FSYNC; TIMED at the edge of the window, 1,172,945 ticks at 2.97 Gb/s, and one past it; no
signal (R42, R43, R44, R47). -/
theorem witness_SourceKinds :
    (steadyB (srcDev 5 0) 1 7 (obsOf 5 0) && steadyB (srcDev 6 0) 1 7 (obsOf 6 1172945) && !inFamily (srcDev 5 0).ctl.ref.rate 5 &&
     inFamily (srcDev 6 0).ctl.ref.rate 6 && (obsOf 6 0).fmt % 16 == 6) = true ∧
    kindAfter 5 0 0 = (3, 1, 0) ∧ kindAfter 6 2 0 = (3, 0, 0) ∧ kindAfter 6 1 0 = (2, 0, 0) ∧ kindAfter 6 0 1172945 = (1, 0, 0) ∧
    kindAfter 6 0 (-1172946) = (3, 0, 1) ∧
    (let d := setF (srcDev 6 0) F.PLN_SRCSTAT_KIND (ix 1 7) 1
     0 % framePeriod d.ctl.ref.rate == 0 && getF (run (.sourceFrameStart 0 1 7 { obsOf 6 0 with signal := false }) d) F.PLN_SRCSTAT_KIND (ix 1 7) == 0) = true := by
  decide +kernel

/-- The synchroniser of source 7 of plane B, reading frame 3 with the frames `l` complete. -/
def fsDev (l : List Nat) : Dev :=
  withPln (dev [(F.PLN_FSSLIP_DROPS, ix 1 7, 2 ^ F.PLN_FSSLIP_DROPS.width - 1)]) fun x => { x with fs := [(ix 1 7, { active := true, empty := false, read := some 3, done := l })] }

/-- SynchronisersRead: no new frame, one, two with the drop count full; a frame that overwrites the one waiting; a frame closed by its
hold (R100, R102, R119, R120). -/
theorem witness_Synchronisers :
    (let d := fsDev []
     let u := run (.fsyncCutoff 9 1 7 4) d
     let x := fsSt d 1 7
     x.active && !x.empty && x.underrun != 2 && teamsFedBy d 1 7 == [] && (fsSt u 1 7).slip == 1 && (fsSt u 1 7).read == some 3 &&
     getF u F.PLN_FSSLIP_REPEATS (ix 1 7) == 1) = true ∧
    (let u := run (.fsyncCutoff 9 1 7 4) (fsDev [4])
     (fsSt u 1 7).slip == 0 && (fsSt u 1 7).read == some 4 && (fsSt u 1 7).done == []) = true ∧
    (let d := fsDev [4, 5]
     let u := run (.fsyncCutoff 9 1 7 4) d
     fsCount (fsSt d 1 7) == 2 && (fsSt u 1 7).slip == 2 && (fsSt u 1 7).read == some 5 &&
     getF u F.PLN_FSSLIP_DROPS (ix 1 7) == 2 ^ F.PLN_FSSLIP_DROPS.width - 1) = true ∧
    (let d := fsDev [4]
     let u := run (.fsyncFrameComplete 9 1 7 5) d
     !(fsSt d 1 7).oversize && (fsSt u 1 7).done == [5] && (fsSt u 1 7).lost == 1 &&
     (fsSt (run (.ipHoldExpire 9 1 7 6) (fsDev [])) 1 7).done == [6] && (fsSt (run (.ipHoldExpire 9 1 7 6) (fsDev [])) 1 7).closed == [6]) = true := by decide +kernel

/-- BudgetsAreKept: the bounds of HOT and of its return (R108), an underrun of each kind (R115). -/
theorem witness_Bands :
    (let d := dev [(F.PLN_BAND_BAND, 1, 3)]
     let u := run (.bandSensorRead 9 1 2000) d
     let v := run (.bandSensorRead 10 1 1952) u
     let w := run (.bandSensorRead 11 1 1951) v
     nextBand 3 2000 == 4 && bandOf u 1 == 4 && getF u F.HBM_REF_MULT 1 == 8 && (planeOf u 1).shedDue && bandOf v 1 == 4 && bandOf w 1 == 3) = true ∧
    (let u := run (.underrun 9 1 0 7) (dev [])
     let v := run (.underrun 9 1 1 1791) (dev [])
     getF u F.PLN_UNDERRUN_CNT_COUNT 1 == 1 && (fsSt u 1 7).underrun == 2 && (dstSt v 1 1791).underrun == 2) = true := by decide +kernel

/-- Plane B in HOT with one sheddable synchroniser, source 7, charged. -/
def hotDev : Dev :=
  let d := dev [(F.PLN_BAND_BAND, 1, 4), (F.PLN_BAND_BAND, 0, 0)]
  { d with ctl := { d.ctl with fsync := [(pkey d 1 7, { mode := 1, resIface := 3, sheddable := true })] } }

/-- BudgetsAreKept: the backstop at 360.001 W sheds, and what it shed returns (R25). -/
theorem witness_Backstop :
    (let d := hotDev
     hotPlanes d == [1] && (run (.powerBackstopSample 9 (some (100000, 99001)) 0) d).pln.pwr == [360001] &&
     bit (getF (run (.powerBackstopSample 9 none 5) d) F.FLT_STATUS_BITS 0) 47) = true ∧
    (let d := withPln hotDev fun x => { x with pwr := [360001] }
     let u := run (.powerShedStep 9) d
     decide (360000 < pwrAvg d) && d.pln.pwrShed == none && !d.pln.pwrNone &&
     (((pwrPlanes (shedAt d 9)).filterMap fun p => (pwrItem (shedAt d 9) p).map fun i => (p, i)).map fun q => (q.1, q.2.comp, q.2.idx)) == [(1, false, 7)] &&
     u.ctl.shed == [(1, { comp := false, key := 7, reason := 6 })] && getF u F.PLN_FSSTAT_SHED (ix 1 7) == 1 &&
     (let v := setF u F.PLN_BAND_BAND 1 3
      let w := run (.powerRestoreStep (10 * tickSec) 0) v
      (powerShed v).getLast? == some (1, { comp := false, key := 7, reason := 6 }) && v.pln.pwrRest == none && bandOf v 1 != 4 && w.ctl.shed == [] &&
      getF w F.PLN_FSSTAT_SHED (ix 1 7) == 0)) = true := by decide +kernel

/-! Switching, planes, merge and composition. -/

/-- A device in SERVICE whose record has been loaded to wait. -/
def waiting (j : JRec) (x : Pend) : Dev :=
  let d := inService { j with validated := true }
  { d with ctl := { d.ctl with pend := [x] } }

/-- The hypotheses of `DueAlone`. -/
def dueB (s : Dev) (p d n : Nat) (x : Pend) : Bool := match x.items, recOf s x.jsn with
  | [i], some j => s.ctl.pend == [x] && i.key == pkey s p d && i.state == 0 && decide (x.frame ≤ n) && j.dec == none && !isFollower s &&
      decide ((routeOf s (pkey s p d)).jsn < x.jsn)
  | _, _ => false

/-- A TAKE of source 9 to destination 7 of plane B, due at frame 1; in Pair, so that plane B has a route of its own. -/
def takeDue (r : Route) : Dev :=
  let d := waiting (recFor 0x10 0 0 []) { jsn := 5, op := 0x10, frame := 1, items := [{ idx := 0, key := 15, src := 9, srcPlane := 1, owner := 3 }] }
  { d with ctl := { d.ctl with pair := true, routes := [(13, { src := 1 }), (15, r)] } }

/-- SwitchingInstantsRun, TAKE: let through and refused by protection of another owner (R74, R82, R91). -/
theorem witness_TakeApplies :
    (let d := takeDue { prot := 1, owner := 3, src := 2 }
     let t := frameStart d 1
     let u := run (.switchingInstant t 1 7 0) d
     d.ctl.pend.all (dueB d 1 7 (hfnAt d t)) && !takeLocked (routeOf d 15) 3 && (routeOf u 15).src == 9 && (routeOf u 15).jsn == 5 &&
     (routeOf u 13).src == 1 && u.ctl.pend == [] && decOf u 5 == some { status := doneStatus d false, applied := 1, detail := takeDetail 0 0 0 }) = true ∧
    (let d := takeDue { prot := 1, owner := 4, src := 2 }
     let u := run (.switchingInstant (frameStart d 1) 1 7 0) d
     takeLocked (routeOf d 15) 3 && (routeOf u 15).src == 2 && u.ctl.pend == [] &&
     decOf u 5 == some { status := stLocked, applied := 0, detail := takeDetail 0 0 4 }) = true ∧
    (let d := waiting (recFor 0x12 0 0 [(24, 7), (26, 2), (28, 3)]) { jsn := 5, op := 0x12, frame := 1, items := [{ idx := 0, key := 14, owner := 3 }] }
     let u := run (.switchingInstant (frameStart d 1) 0 7 0) d
     d.ctl.pend.all (dueB d 0 7 1) && !protLocked (routeOf d 14) 3 && (routeOf u 14).prot == 2 && u.ctl.pend == []) = true := by decide +kernel

/-- SwitchingInstantsRun, nothing pending: no source, a TIMED source, and the two errors of a route entry (R75, R92). -/
theorem witness_Evaluates :
    (let u := run (.switchingInstant 9 1 1791 0) (dev [])
     causesOf (dev []) 1 1791 == [1] && !fallbackOk (dev []) 1 1791 (routeOf (dev []) (pkey (dev []) 1 1791)) && (dstSt u 1 1791).shown == 0x7FF &&
     getF u F.PLN_DSTSTAT_CAUSE (ix 1 1791) == 1 && getF u F.PLN_DSTSTAT_CONCEALING (ix 1 1791) == 1) = true ∧
    (let d := setF (srcDev 6 0) F.PLN_SRCSTAT_KIND (ix 1 7) 1
     let d := { d with ctl := { d.ctl with routes := [(14, { src := 7 })] } }
     let u := run (.switchingInstant 9 1 7 0) d
     causesOf d 1 7 == [] && !graceRep d 1 7 && (dstSt u 1 7).cause == 0 && (dstSt u 1 7).shown == 7) = true ∧
    (getF (run (.switchingInstant 9 1 7 1) (dev [])) F.PLN_ROUTE_CE_COUNT 1 == 1 &&
     bit (getF (run (.switchingInstant 9 1 7 2) (dev [])) F.FLT_STATUS_BITS 0) 20) = true := by decide +kernel

/-- PlanesTrainOrFail: each state at its limit (R121). -/
theorem witness_Planes :
    (let d := dev [(F.PLN_STATE_STATE, 1, 1), (F.HBM_STAT_STATE, 1, 2), (F.OTL_STAT_STATE, ix 1 17, 2)]
     let u := run (.planeTrainingDone 9 1) d
     planeState d 1 == 1 && anyLinkUp d 1 && planeState u 1 == 2 && (planeOf u 1).routesLoaded && (planeOf u 1).since == 9) = true ∧
    (let d := dev [(F.PLN_STATE_STATE, 1, 1)]
     let u := run (.planeStateTimeout (2 * tickSec) 1) d
     (planeOf d 1).since == 0 && planeState u 1 == 5 && bit (getF u F.FLT_STATUS_BITS 0) 20 && getF u F.FLT_CAUSE_CAUSE 20 == 15 &&
     planeState (run (.planeStateTimeout (2 * tickSec - 1) 1) d) 1 == 1) = true ∧
    (let d := dev [(F.PLN_STATE_STATE, 1, 2)]
     planeState (run (.planeStateTimeout (5 * tickSec) 1) d) 1 == 5 && planeState (run (.planeStateTimeout (5 * tickSec - 1) 1) d) 1 == 2) = true := by decide +kernel

/-- Link 17 of plane B UP with 64 slots, the plane in SERVICE, and the last source's history `h`. -/
def mergeDev (h : List Nat) : Dev :=
  let d := dev [(F.OTL_STAT_STATE, ix 1 17, 2), (F.OTL_STAT_TX_MASK, ix 1 17, 15), (F.OTL_STAT_RX_MASK, ix 1 17, 15), (F.OTL_GB_SLOTS, ix 1 17, 64), (F.PLN_STATE_STATE, 1, 3)]
  withPln d fun x => { x with merge := if h.isEmpty then [] else [(ix 1 1151, { hist := h, last := some 100 })] }

/-- A good segment of that source. -/
def segOf (c : Nat) : SegObs := { own := true, cairn := c, valid := 3968, crcOk := true, broken := false, ctlBad := 0, ctlOk := false }

/-- The hypotheses of `GoodSegment`. -/
def goodSegB (s : Dev) (p n : Nat) (o : SegObs) : Bool :=
  o.own && !(lnkSt s p (n / 64)).needAlign && !segBad s o p (n / 64) (n % 64) && linkFlows s p (n / 64) && decide (n % 64 < getF s F.OTL_GB_SLOTS (ix p (n / 64)))

/-- MergeAndEgress, the merge: a new position, one in the history, one before its oldest, a bad one, and the history's end 1 ms after
(R127 to R129, R245). -/
theorem witness_Merge :
    (let d := mergeDev [cairn 5 0 3]
     let u := run (.segmentReceived 200 1 1151 (segOf (cairn 5 0 4))) d
     let v := run (.segmentReceived 200 1 1151 (segOf (cairn 5 0 3))) d
     let w := run (.segmentReceived 200 1 1151 (segOf (cairn 5 0 2))) d
     goodSegB d 1 1151 (segOf (cairn 5 0 4)) && !cairnBefore (cairn 5 0 4) (cairn 5 0 3) && (mergeSt u (ix 1 1151)).hist == [cairn 5 0 4, cairn 5 0 3] &&
     (mergeSt u (ix 1 1151)).last == some 200 && (mergeSt v (ix 1 1151)).last == some 100 && cairnBefore (cairn 5 0 2) (cairn 5 0 3) &&
     getF w F.PLN_MERGECNT_STALE (ix 1 1151) == 1 &&
     getF (run (.segmentReceived 200 1 1151 { segOf 0 with crcOk := false }) d) F.OTL_CNT_SEG_DISC (ix 1 17) == 1 &&
     mergeSt (run (.mergeHistoryTimeout 54000100 1 1151) d) (ix 1 1151) == {} &&
     mergeSt (run (.mergeHistoryTimeout 54000099 1 1151) d) (ix 1 1151) != {}) = true := by decide +kernel

/-- The last Otira destination of plane B, sending 1080p50 of a TIMED source 7. -/
def egressDev : Dev :=
  let d := setFs (mergeDev []) (ix 1 7) [(F.PLN_SRCSTAT_KIND, 1), (F.PLN_SRCSTAT_IFACE, 3)]
  let d := { d with ctl := { d.ctl with routes := [(2302, { src := 7 })] } }
  withPln d fun x => { x with dst := [(ix 1 1151, { sent := true, outFmt := 0x66, shown := 7 })] }

/-- The conditions of `SendsNow`. -/
def sendsB (s : Dev) (t p d n k : Nat) : Bool :=
  let f := (dstSt s p d).outFmt
  let i := egressIface s p d
  planeSends s p && linkFlows s p (d / 64) && !slotShed s p (d / 64) (d % 64) && !bit (getF s F.PLN_STATE_TILE_FAIL p) (d / 64 / 3) &&
  decide (d % 64 < getF s F.OTL_GB_SLOTS (ix p (d / 64))) && decide (k < segCount f i) && (dstSt s p d).sent &&
  srcKind s 0 (dstSt s p d).shown != 3 && srcKind s 1 (dstSt s p d).shown != 3 && decide (segTag s f i n k ≤ t) &&
  decide (t ≤ segTag s f i n k + windowTicks (ifaceRate i) false + 108000)

/-- MergeAndEgress, the egress: the first and the last segment of a frame, a missing position concealed and withheld (R123, R130, R133,
R247). -/
theorem witness_Egress :
    (let d := egressDev
     let t := segTag d 0x66 3 2 0
     let k := segCount 0x66 3 - 1
     let e := segTag d 0x66 3 2 k + windowTicks (ifaceRate 3) false + 108000
     sendsB d t 1 1151 2 0 && sendsB d e 1 1151 2 k && !withholds d 1 && !notRouted d 1 1151 &&
     (run (.egressSegment t 1 1151 2 0 false 0) d).out.head? == some (.seg 1 17 63 (cairn 2 (segPos 0x66 3 0).1 (segPos 0x66 3 0).2) (1 + 16 * 40000000) 7) &&
     (run (.egressSegment e 1 1151 2 k false 0) d).out.length == 1 && (run (.egressSegment t 1 1151 2 0 true 0) d).out.length == 1) = true ∧
    (let d := setF egressDev F.PLN_MERGE_CFG_MISSING 1 2
     sendsB d (segTag d 0x66 3 2 0) 1 1151 2 0 && withholds d 1 && (run (.egressSegment (segTag d 0x66 3 2 0) 1 1151 2 0 true 0) d).out == []) = true := by decide +kernel

/-- A compositor 31 with a layout in 720p50, stopped or running. -/
def compDev (d : Dev) (runs : Nat) : Dev :=
  { d with ctl := { d.ctl with mech := [(mkey mkComp 62, { data := bufOf 544 [(0, 0x36)] }), (mkey mkRun 62, { aux := runs })] } }

/-- CompositorsOutput: a live compositor's frame, a COMP_STATE due, and the library's copy by channel 1 (R150, R165, R190). -/
theorem witness_Compositors :
    (let d := compDev (dev []) 1
     d.ctl.pend == [] && compLive d 1 31 && (run (.compPrefetch 9 1 31 []) d).out.contains (.frame 1 31 ((cmpSt (run (.compPrefetch 9 1 31 []) d) 1 31).taps))) = true ∧
    (let d := compDev (waiting (recFor 0x21 0 0 [(24, 0x2000 + 31), (26, 1)]) { jsn := 5, op := 0x21, frame := 1 }) 0
     let l := prefetchLead d (rasterOf d (compRec d 1 31))
     let t := frameStart d 1 - l
     let u := run (.compPrefetch t 1 31 []) d
     (recOf d 5).map (pendCompKey d) == some (pkey d 1 31) && !isFollower d && (mechOf d mkComp (pkey d 1 31)).jsn == 0 && (t + l) % framePeriod d.ctl.ref.rate == 0 &&
     hfnAt d (t + l) == 1 && runOf u 62 && getF u F.CMP_STAT_RUN (ix 1 31) == 1 && u.ctl.pend == [] &&
     decOf u 5 == some { status := doneStatus d false, applied := 1, detail := 0 }) = true ∧
    (let d := dev [(F.FLS_STAT_STATE, 1, 3)]
     let d := { d with ctl := { d.ctl with mech := [(mkey mkStill 1023, { data := [1, 2] })] } }
     let u := run (.libraryFlashCopy 9 1 1023) d
     mget {} u.library (mkey mkStill 1023) == mechOf d mkStill 1023 && u.out.contains (.flash 1 mkStill 1023 0x201)) = true := by decide +kernel

/-! Audio engine and TDM ports. -/

/-- Mixing-table entry: enabled, unity gain, source channel `ch` (R197). -/
def tapOf (ch : Nat) : Nat := ch + 131072 * 2 ^ 17 + 2 ^ 42

/-- The last embedded channel of source 7 of plane B, TIMED on 3G-SDI, tapped by TDM destination channel 0xFFFF. -/
def audDev : Dev :=
  let d := setFs (dev []) (ix 1 7) [(F.PLN_SRCSTAT_KIND, 1), (F.PLN_SRCSTAT_IFACE, 3)]
  let d := setF d F.TDM_STAT_VIDEO_DEST 15 0xFFFF
  { d with ctl := { d.ctl with taps := [(32 * 0xFFFF, tapOf 255)] } }

/-- Its sample. -/
def sampOf (ch : Nat) : SampObs := { plane := 1, ch := ch, val := -8388608, v := 1, u := 1, blk := 2 ^ 191, async := false, copy := true, inRate := true }

/-- The conditions of `Transparent`. -/
def transparentB (d : Dev) (p dc e : Nat) (o : SampObs) : Bool :=
  decide (0xC000 ≤ dc) && assocDest d p dc == none && d.ctl.taps == [(32 * dc, e)] && (audSt d p).taps == [] && tapEn e && tapGainRaw e == 131072 &&
  !tapPol e && !tapFollow e && !tapPair e && !(d.ctl.pair && tapPlane e == 1) && tapSrc e == o.ch && o.plane == p && decide (o.ch < 0x9000) &&
  decide (o.ch % 32 < ifaceChans (getF d F.PLN_SRCSTAT_IFACE (ix p (o.ch / 32)))) && srcKind d p (o.ch / 32) == 1 && !o.async && o.copy &&
  mget 0 (audSt d p).hush o.ch == 0 && d.ctl.asrc == [] && d.pln.audioQ == [] && d.tim.stepAt == none && d.ctl.pend == []

/-- An audio receive flow 3 of two channels from engine channel 0xC000. -/
def flowDev : Dev :=
  { dev [] with ctl := { mech := [(mkey mkFlow (4096 + 3), { data := bufOf 64 [(52, 0xC000), (54, 2)] })], asrc := [(0xC001, 0)] } }

/-- AudioEngineActs: the most negative sample with every bit set, in the last bit of its channel-status block; a sample missing; the flow's
last channel; an assigned channel (R200, R201, R213, R215). -/
theorem witness_Audio :
    (let d := audDev
     let t := 191 * samplePeriod
     transparentB d 1 0xFFFF (tapOf 255) (sampOf 255) && (run (.audioGridSample t 1 [sampOf 255]) d).out.contains (.audio 1 0xFFFF (-8388608) 7)) = true ∧
    (let u := run (.audioGridSample 9 1 [{ sampOf 0xF7FF with copy := false }]) (dev [])
     getF u F.AUD_MISSCNT_COUNT 1 == 1) = true ∧
    (let u := run (.audioFlowUntimed 9 1 3) flowDev
     let v := run (.asrcLock 9 1 0xC001) flowDev
     (audioFlows flowDev 1 0).map (·.1) == [3] && flowChans (bufOf 64 [(52, 0xC000), (54, 2)]) == 2 && (audSt u 1).offClock == [3] &&
     getF u F.AUD_SRCSTAT_UNTIMED (ix 1 0xC001) == 1 && !(audSt flowDev 1).locked.contains 0xC001 && (audSt v 1).locked == [0xC001] &&
     getF v F.AUD_SRCSTAT_ASRC_LOCKED (ix 1 0xC001) == 1) = true := by decide +kernel

/-- Port 15 in a state, 8 slots, 256 BCLK cycles at 48 kHz in HOUSE mode. -/
def tdmDev (state : Nat) : Dev :=
  dev [(F.TDM_STAT_STATE, 15, state), (F.TDM_CFG_SLOTS, 15, 8), (F.TDM_CFG_FRAME_BCLK, 15, 256), (F.TDM_CFG_ENABLE, 15, 1), (F.TDM_CFG_WIDTH, 15, 24)]

/-- TdmPortsFollow: a frame with a mask that waits; masks written; a clamp of 1 s (R222, R224, R227, R231). -/
theorem witness_TdmFrames :
    (let d := setTdm (setF (setF (tdmDev 2) F.TDM_MASK_TX_PEND 15 6) F.TDM_MASK_ACT_TX_ACT 15 1) 15 { maskPend := true }
     let u := run (.tdmFrame 9 15 [] [] false) d
     getF d F.TDM_STAT_STATE 15 == 2 && getF d F.TDM_CFG_CLOCK 15 == 0 && !d.mclkOff && (tdmSt u 15).frames == 1 && !(tdmSt u 15).maskPend &&
     getF u F.TDM_MASK_ACT_TX_ACT 15 == 6 && (match u.out.head? with | some (.tdm 15 ws) => ws == [2 ^ 32, 0, 0, 2 ^ 32, 2 ^ 32, 2 ^ 32, 2 ^ 32, 2 ^ 32] | _ => false)) = true ∧
    (let u := run (.tdmMaskWrite 9 15 (2 ^ 32 + 5) 3) (tdmDev 2)
     getF u F.TDM_MASK_TX_PEND 15 == 5 && getF u F.TDM_MASK_RX_PEND 15 == 3 && (tdmSt u 15).maskPend) = true ∧
    (let d := setTdm (tdmDev 2) 15 { clampAt := some 7 }
     getF (run (.tdmSteerLimit (7 + tickSec) 15) d) F.TDM_STAT_STEER_LIMIT 15 == 1 && getF (run (.tdmSteerLimit (6 + tickSec) 15) d) F.TDM_STAT_STEER_LIMIT 15 == 0) = true := by decide +kernel

/-- TdmPortsFollow: a restart at the first grid instant it may, a TDM_SET due, the clock's loss and return, BCLK at 1000 ppm and one past
(R234 to R236). -/
theorem witness_TdmRestarts :
    (let d := setTdm (tdmDev 1) 15 { j0 := 2 }
     let t := 50 * samplePeriod
     firstGrid 2 == gridOf t && getF (run (.tdmRestart t 15) d) F.TDM_STAT_STATE 15 == 2 && getF (run (.tdmRestart (t - 1) 15) d) F.TDM_STAT_STATE 15 == 1) = true ∧
    (let j := recFor 0x32 0 0 [(24, 31), (26, 1), (27, 16), (30, 64), (42, 0xFFFF)]
     let d := waiting j { jsn := 5, op := 0x32, frame := 1 }
     let u := run (.tdmRestart (frameStart d 1) 15) d
     bits (le j.desc 24 1) 0 4 == 15 && (mechOf d mkTdm 15).jsn == 0 && !isFollower d && getF u F.TDM_CFG_WIDTH 15 == 16 && u.ctl.pend == [] && (mechOf u mkTdm 15).jsn == 5 &&
     decOf u 5 == some { status := doneStatus d false, applied := 1, detail := 0 }) = true ∧
    (let u := run (.tdmMclkLoss 9) (tdmDev 2)
     let v := run (.tdmMclkReturn (5 * samplePeriod)) u
     u.mclkOff && bit (getF u F.FLT_STATUS_BITS 0) 39 && !v.mclkOff && getF v F.TDM_STAT_STATE 15 == 1 && (tdmSt v 15).j0 == 5) = true ∧
    (let d := setF (tdmDev 2) F.TDM_CFG_FRAME_BCLK 15 500
     let u := run (.tdmBclkCheck 9 15 24025) d
     bit (getF u F.FLT_STATUS_BITS 0) 39 && getF u F.FLT_CAUSE_SUB 39 == 15 && run (.tdmBclkCheck 9 15 24024) d == d.at 9) = true := by decide +kernel

/-! Otira links and SerDes lanes. -/

/-- Link 17 of plane B in a state, with its masks. -/
def linkDev (state tx rx : Nat) : Dev := dev [(F.OTL_STAT_STATE, ix 1 17, state), (F.OTL_STAT_TX_MASK, ix 1 17, tx), (F.OTL_STAT_RX_MASK, ix 1 17, rx)]

/-- LinksCarryTiming: delay and timing blocks; a one-way delay at both ends of its range, a response to no request, a reference's time
(R52, R248, R249). -/
theorem witness_Delay :
    (let d := setLnk (linkDev 2 15 15) 1 17 { delayOut := some (255, 0), delaySeq := 255 }
     let t := 54 * 8000000
     let u := run (.delayResp t 1 17 255 0 5 5) d
     nsOf t == 8000000 && getF u F.OTL_DELAY_ONEWAY (ix 1 17) == 4000000000 && (lnkSt u 1 17).delayOut == none &&
     getF (run (.delayResp t 1 17 255 0 5 8000005) d) F.OTL_DELAY_ONEWAY (ix 1 17) == 0 && run (.delayResp t 1 17 254 0 5 5) d == d.at t &&
     txMask d 1 17 != 0 && (lnkSt (run (.delayMeasureTimer t 1 17) d) 1 17).delayOut == some (0, 8000000) &&
     (run (.delayReq t 1 17 3 1 2) d).out == [.ctl 1 17 0x12 (3 + 2 * 2 ^ 8 + 8000000 * 2 ^ 72 + 2 ^ 136)] &&
     (run (.timing t 1 17 none) d).out.length == 1) = true ∧
    (let d := setF (linkDev 2 15 15) F.OTL_DELAY_ONEWAY (ix 1 17) 1000
     let d := { d with ctl := { d.ctl with ref := { d.ctl.ref with prio := [0x51] } } }
     let u := run (.timing 154 1 17 (some { todValid := true, reference := true, time := 46 })) d
     linkRef 1 17 == 0x51 && (refSt u 0x51).present && (refSt u 0x51).diff == 1000) = true := by decide +kernel

/-- LinksCarryTiming: presence in UP and, its masks set, in TRAINING (whose CFG items hold open values); its loss at 3 ms (R250, R251). -/
theorem witness_Presence :
    (let d := setLnk (linkDev 3 1 2) 1 17 { lastPres := some 7 }
     let u := run (.presence 9 1 17 { slots := 64, iface := 3, part := 1, unit := 2 }) d
     (lnkSt u 1 17).lastPres == some 9 && getF u F.OTL_GB_SLOTS (ix 1 17) == 64 && linkFlows d 1 17 &&
     (run (.presenceSend 9 1 17) d).out.length == 1 &&
     linkState (run (.presenceTimeout 162000007 1 17) d) 1 17 == 0 && rxMask (run (.presenceTimeout 162000007 1 17) d) 1 17 == 0 &&
     linkState (run (.presenceTimeout 162000006 1 17) d) 1 17 == 3) = true ∧
    (let d := linkDev 1 15 15
     linkState d 1 17 == 1 && txMask d 1 17 != 0 && rxMask d 1 17 != 0 && runState 15 15 == 2 && runState 15 7 == 3) = true := by decide +kernel

/-- Every lane of the link in UP. -/
def lanesUp (d : Dev) : Dev := [68, 69, 70, 71].foldl (fun d k => setF d F.LANE_STAT_STAGE (ix 1 k) 6) d

/-- LinksMoveAndRestripe: lane 3 aligned, lost, back; the far end's request answered; our request answered; a codeword (R243, R246, R256,
R258). -/
theorem witness_Restripe :
    (let d := setLane (lanesUp (linkDev 3 15 7)) 1 71 { amAt := some 4, amGood := 1 }
     let u := run (.amReceived 9 1 17 3 5 true false) d
     let v := run (.laneReturn 10 1 17 3) u
     let w := run (.mask 11 1 17 15 1) v
     physLane d 1 17 3 == 71 && laneStage d 1 71 == 6 && (laneSt u 1 71).aligned && getF u F.OTL_STAT_STANDBY (ix 1 17) == 8 && (laneSt u 1 71).amGood == 2 &&
     (lnkSt v 1 17).req == some (15, 1) && !(lnkSt v 1 17).upWait && rxMask w 1 17 == 15 && linkState w 1 17 == 2) = true ∧
    (let d := lanesUp (linkDev 3 15 7)
     let u := run (.amReceived 9 1 17 3 5 true true) (setLane d 1 71 { amAt := some 4, amGood := 1 })
     !(laneSt d 1 71).aligned && !(laneSt u 1 71).aligned && (lnkSt u 1 17).skewed == [3] && getF u F.OTL_STAT_STANDBY (ix 1 17) == 0) = true ∧
    (let d := lanesUp (linkDev 2 15 15)
     let u := run (.laneLoss 9 1 17 8) d
     let v := run (.laneLoss 9 1 17 15) d
     (rxMask d 1 17) &&& 15 == rxMask d 1 17 && linkFlows d 1 17 && linkState v 1 17 == 0 && rxMask v 1 17 == 0 &&
     (rxMask d 1 17) &&& 8 != rxMask d 1 17 && (rxMask d 1 17) &&& 8 != 0 && (lnkSt u 1 17).req == some (7, 1) && laneStage u 1 71 == 0 && (lnkSt u 1 17).needAlign &&
     wantedRx d 1 17 == 15 && wantedRx u 1 17 == 7 && (lnkSt (run (.laneLoss 10 1 17 9) u) 1 17).req == some (6, 2) &&
     linkState (run (.laneLoss 10 1 17 7) u) 1 17 == 0) = true ∧
    (let d := lanesUp (linkDev 2 15 15)
     let u := run (.restripeReq 9 1 17 31 257) d
     let v := run (.switchRound 10 1 17 3 5) (run (.restripeReq 9 1 17 6 2) u)
     (lnkSt u 1 17).farReq == some (15, 1) && workingTx u 1 17 &&& 6 != 0 && txMask v 1 17 == 6 && (lnkSt v 1 17).farReq == none && linkState v 1 17 == 3) = true ∧
    (let u := run (.uncorrectableCodeword 9 1 17 3 0) (linkDev 2 15 15)
     getF u F.OTL_CNT_UNCORR (ix 1 17) == 1 && (lnkSt u 1 17).needAlign) = true := by decide +kernel

/-- LinksMoveAndRestripe: the times of link states, each at its limit (R259, R281). -/
theorem witness_LinkTimes :
    (let d := linkDev 1 0 0
     let u := run (.linkTrainTimeout 27000000000 1 17) d
     linkState u 1 17 == 0 && (lnkSt u 1 17).retryAt == 32400000000 && linkState (run (.linkTrainTimeout 26999999999 1 17) d) 1 17 == 1) = true ∧
    (let d := setLnk (setF (linkDev 0 0 0) F.LANE_STAT_STAGE (ix 1 68) 1) 1 17 { retryAt := 9 }
     linkMode d 1 17 == 0 && anySignal d 1 17 && linkState (run (.linkTrainTimeout 9 1 17) d) 1 17 == 1 && linkState (run (.linkTrainTimeout 8 1 17) d) 1 17 == 0) = true ∧
    (let d := linkDev 4 15 15
     let d := { d with ctl := { d.ctl with mech := [(mkey mkLink (pkey d 1 17), { aux := 1 })] } }
     linkMode d 1 17 == 1 && linkState (run (.linkIdleTimeout 54000 1 17) d) 1 17 == 0 && linkState (run (.linkIdleTimeout 53999 1 17) d) 1 17 == 4) = true := by decide +kernel

/-- A training frame of a good receiver. -/
def goodTrain : TrainObs :=
  { crcOk := true, laneId := 3, stage := 5, precodeReq := false, precodeOn := false, rxReady := true, reqTap := 0, reqAct := 0, reqTog := false, stat := 0, statTog := false, inverted := false, cdrLocked := true, fom := 255, ctle := 12, adapted := true, ffe := [], want := none }

/-- LanesTrain: signal on a peer lane and an Ethernet lane, the CDR locked, the eighth good frame, a stage's limit, 100 ms of low FOM
(R270 to R278). -/
theorem witness_Lanes :
    (let d := dev [(F.LANE_STAT_STAGE, ix 0 83, 0)]
     let u := run (.laneSignalDetect 9 0 83) d
     let v := run (.trainingFrame 10 0 83 goodTrain) u
     laneStage d 0 83 == 0 && laneStage u 0 83 == 1 && getF u F.LANE_RXEQ_CTLE (ix 0 83) == 20 && getF u F.LANE_CNT_BRINGUPS (ix 0 83) == 1 &&
     (laneSt u 0 83).fast == none && linkState u 0 20 != 4 && laneStage v 0 83 == 2 && v.out.length == 1 &&
     laneStage (run (.laneStageTimeout 108000009 0 83) u) 0 83 == 0 && getF (run (.laneStageTimeout 108000009 0 83) u) F.LANE_STAT_ERR (ix 0 83) == 1 &&
     laneStage (run (.laneStageTimeout 108000008 0 83) u) 0 83 == 1) = true ∧
    (laneStage (run (.laneSignalDetect 9 1 72) (dev [(F.LANE_STAT_STAGE, ix 1 72, 0)])) 1 72 == 5) = true ∧
    (let d := setLane (dev [(F.LANE_STAT_STAGE, ix 1 71, 5)]) 1 71 { cnt := 7 }
     decide (bits (laneSt d 1 71).cfg 16 8 ≤ goodTrain.fom) && laneStage (run (.trainingFrame 9 1 71 goodTrain) d) 1 71 == 6) = true ∧
    (let d := setLane (dev [(F.LANE_STAT_STAGE, ix 1 71, 6)]) 1 71 { lowSince := some 9 }
     let u := run (.laneLowFom 5400000009 1 71 63) d
     let v := run (.laneLowFom 5400000008 1 71 63) d
     decide (63 < bits (laneSt d 1 71).cfg 24 8) && getF u F.LANE_STAT_LOW_FOM (ix 1 71) == 1 && bit (getF u F.FLT_STATUS_BITS 0) 28 &&
     getF v F.LANE_STAT_LOW_FOM (ix 1 71) == 0) = true := by decide +kernel

/-! Ethernet ports and IP essence. -/

/-- Instance 7 of plane B UP with an address, in a port of four instances; the capture queue off. -/
def ethDev : Dev :=
  setInst (dev [(F.MAC_PORTSTAT_MODE_ACT, ix 1 1, 2), (F.MAC_INSTCFG_IPV4, ix 1 7, 0x0A000007), (F.MAC_INSTADDR_MAC, ix 1 7, 0x020000000007), (F.MAC_INSTCFG_IGMP_EN, ix 1 7, 1), (F.MAC_PORTSTAT_MEDIUM_ACT, ix 1 1, 2), (F.MAC_PORTCFG_MAX_FRAME, ix 1 1, 1522)])
    1 7 { state := 2 }

/-- A good frame to the instance's address: UDP of 100 bytes from 10.0.0.1 to its port 5004. -/
def goodFrame : EthObs :=
  { len := 100, fcs := false, align := false, symbol := false, dstMac := 0x020000000007, etype := 0x0800, tagged := false, vlan := 0, ipOk := true, frag := false, srcIp := 0x0A000001, dstIp := 0x0A000007, udpDst := 5004, ptp := false, arp := false, query := none, seq := 0, frame := 0, marker := false, content := 0 }

/-- PortsAreConfigured: an instance comes UP, each mode and medium, the capture queue (R291, R292, R298, R312). -/
theorem witness_Ports :
    (let d := setInst ethDev 1 7 {}
     let u := run (.ethLinkChange 9 1 7 2 false) d
     instExists d 1 7 && mediumOk d 1 7 && (ethInst u 1 7).state == 2 && u.out.head? == some (.eth 1 7 2 0x0A000007) &&
     (ethInst (run (.ethLinkChange 9 1 7 0 false) ethDev) 1 7).state == 0 && laneStage u 1 79 == 6) = true ∧
    (let u := run (.macPortcfgMode 9 1 1 3) ethDev
     let v := run (.macPortcfgMedium 9 1 1 3 1) ethDev
     !portBusy ethDev 1 1 3 && portMode u 1 1 == 3 && laneStage u 1 79 == 8 && getF v F.MAC_PORTSTAT_MEDIUM_ACT (ix 1 1) == 3 &&
     getF v F.MAC_PORTCFG_AN (ix 1 1) == 1) = true ∧
    (let d := { ethDev with ctl := { ethDev.ctl with mech := [(mkey mkPtp 1, { data := [0x87] })] } }
     let u := run (.macPortcfgMode 9 1 1 0) d
     portBusy d 1 1 0 && portMode u 1 1 == 2 && getF u F.MAC_PORTCFG_MODE (ix 1 1) == 0 && getF u F.MAC_PORTCFG_CFG_ERR (ix 1 1) == 1) = true ∧
    (let d := setFs (dev []) 1 [(F.MAC_CAPQ_PROD_PROD, 3), (F.MAC_CAPQ_CFG_HIF, 1), (F.MAC_CAPQ_CFG_CAP_VEC, 6)]
     let d := setHif { d with eth := { d.eth with wrote := [(1, 1)], irqAt := [(1, 9)] } } 1 { table := [(27, 0)] }
     getF (run (.macCapqReset 9 1 true 77) d) F.MAC_CAPQ_BASE_BASE 1 == 77 && getF (run (.macCapqReset 9 1 false 5) d) F.MAC_CAPQ_PROD_PROD 1 == 0 &&
     getF (run (.macCapqReset 9 1 false 5) d) F.MAC_CAPQ_CFG_LOG2_SIZE 1 == 5 &&
     (run (.captureIrq 5400009 1) d).out.head? == some (.msix 1 6) && (run (.captureIrq 5400008 1) d).out == []) = true := by decide +kernel

/-- A video receive flow of position 0 on instance 7, to that port from any source; enabled. -/
def rxFlow : Bytes := bufOf 64 [(0, 0x1000), (2, 2 + 7 * 32), (4, 0x0A000007), (8, 0x0A000007), (20, 5004), (44, 0x66)]

/-- EthernetReceivesAndSends, receiving: a good frame that no flow holds and that one holds, a bad FCS, another's address, an ARP
request, an instance that is DOWN (R294 to R297, R299). -/
theorem witness_EthReceives :
    (let d := ethDev
     let u := run (.ethFrameRx 9 1 7 goodFrame) d
     let v := run (.ethFrameRx 9 1 7 { goodFrame with fcs := true }) d
     let w := run (.ethFrameRx 9 1 7 { goodFrame with dstMac := 2 }) d
     let a := run (.ethFrameRx 9 1 7 { goodFrame with etype := 0x0806, arp := true }) d
     instExists d 1 7 && (ethInst d 1 7).state == 2 && errFlags d 1 7 goodFrame == 0 && addrPass d 1 7 goodFrame && vlanPass d 1 7 goodFrame &&
     classify (d.at 9) 1 7 goodFrame == none && macVal u 1 7 0 == 1 && macVal u 1 7 1 == 100 && macVal u 1 7 10 == 1 && macVal u 1 7 13 == 0 &&
     macVal v 1 7 2 == 1 && macVal v 1 7 0 == 0 && !addrPass d 1 7 { goodFrame with dstMac := 2 } && macVal w 1 7 7 == 1 &&
     a.out.head? == some (.eth 1 7 1 0x0A000001) && run (.ethFrameRx 9 0 7 goodFrame) d == d.at 9) = true ∧
    (let d := { ethDev with ctl := { ethDev.ctl with mech := [(mkey mkFlow 0, { data := rxFlow })] } }
     let u := run (.ethFrameRx 9 1 7 goodFrame) d
     (classify (d.at 9) 1 7 goodFrame).isSome && macVal u 1 7 13 == 1) = true := by decide +kernel

/-- EthernetReceivesAndSends, IGMP and PTP senders: the first report, a query at the end of its time, a Delay_Req (R299, R308). -/
theorem witness_EthSends :
    (let d := setInst ethDev 1 7 { state := 2, reports := [(0xEF010203, 2, 0)], query := [(9, 53, 0), (9, 54, 0)] }
     let d := { d with ctl := { d.ctl with mech := [(mkey mkPtp 1, { data := [0x87] })] } }
     let u := run (.igmpReport 9 1 7 0xEF010203) d
     let v := run (.igmpQueryResponse 63 1 7) d
     igmpOn d 1 7 && (u.out.map fun o => match o with | .eth 1 7 3 w => w % 2 ^ 32 | _ => 0) == [0xEF010203] && (ethInst u 1 7).reports == [(0xEF010203, 1, 9)] &&
     (ethInst v 1 7).query == [] && bit (le (ptpRec d 1) 0 1) 7 && bits (le (ptpRec d 1) 0 1) 0 3 == 7 &&
     (run (.ptpDelayReqSend 9 1) d).out.length == 1 && macVal (run (.ptpDelayReqSend 9 1) d) 1 7 17 == 1) = true := by decide +kernel

/-- EthernetReceivesAndSends, IP_PACKET_SEND: the sender at the last video position sends; a missing packet is withheld, one past the
allowance counted (R132, R302, R303). Sequence numbers start at an open value. -/
theorem witness_IpSends :
    (let d := setF (setF ethDev F.PLN_STATE_STATE 1 3) F.PLN_MERGE_CFG_MISSING 1 2
     let d := { d with ctl := { d.ctl with mech := [(mkey mkFlow 1533, { data := rxFlow })] } }
     let u := run (.ipPacketSend 9 1 1533 0 0 100 false true true) d
     flowRec d 1533 != [] && flowEnabled (flowRec d 1533) && flowDir 1533 == 1 && flowOnPlane d 1 1533 && planeSends d 1 &&
     (ethInst d 1 (flowInst (flowRec d 1533))).state == 2 && withholds d 1 && u.out == [] && getF u F.FLOW_CNT_LATE (ix 1 (384 + 1533 / 4)) == 1 &&
     (run (.ipPacketSend 9 1 1533 0 0 100 true false false) d).out == [] &&
     (run (.ipPacketSend 9 1 1533 0 0 100 false false false) d).out.length == 1) = true := by decide +kernel

/-! The journal, the Belay, recovery and Pair. -/

/-- JournalIsKept: a flush at 5 ms to the channel that takes writes; the program that ends it, and one that fails; the checkpoint of a
minute, and of 64 MiB (R358, R361, R363, R410, R412). -/
theorem witness_Journal :
    (let d := dev [(F.FLS_STAT_STATE, 1, 3), (F.JRN_HEAD_HEAD_JSN, 0, 9)]
     let d := { d with jrn := { d.jrn with unflushed := true, lastFlush := 100 } }
     let u := run (.journalFlush 270000100 ) d
     let v := run (.flashProgramDone 270000200 1 5 true) u
     d.jrn.flushing == none && d.rst.pwrLowAt == none && flsWritten d 1 && !flsWritten d 0 && u.jrn.flushing == some (d.ctl, 9) && !u.jrn.unflushed &&
     u.out == [.flash 1 8 0 9] && (run (.journalFlush 270000099) d).jrn.flushing == none && flushBusy u 1 && !flushBusy u 0 &&
     v.jrn.flushing == none && v.jrn.durJsn == 9 && getF v F.JRN_DURABLE_DURABLE_JSN 0 == 9 &&
     (run (.journalFlush 540000200) { v with out := [] }).out == []) = true ∧
    (let d := setPool (dev [(F.FLS_STAT_STATE, 1, 3), (F.JRN_HEAD_HEAD_JSN, 0, 9)]) 1 false { good := 100, init := 1, spare := 1 }
     let d := { d with jrn := { d.jrn with flushing := some ({}, 9), fl1w := true } }
     let u := run (.flashProgramDone 9 1 5 false) d
     flushBusy d 1 && flsWritten d 1 && (flsSt d 1).slc.spare == 1 && u.out.head? == some (.flash 1 8 0 9) && getF u F.FLS_BLOCKS_GROWN_BAD 1 == 1 &&
     (flsSt u 1).slc.spare == 0) = true ∧
    (let d := dev [(F.SYS_STATE_STATE, 0, 5)]
     let d := { d with jrn := { d.jrn with outage := false } }
     let e := { d with jrn := { d.jrn with sinceLast := 67108864 } }
     getF (run (.checkpointTimer (60 * tickSec)) d) F.JRN_CKPT_SEQ 0 == 1 && getF (run (.checkpointTimer (60 * tickSec - 1)) d) F.JRN_CKPT_SEQ 0 == 0 &&
     getF (run (.checkpointTimer 9) e) F.JRN_CKPT_SEQ 0 == 1 && (run (.checkpointTimer 9) e).jrn.sinceLast == 0) = true := by decide +kernel

/-- A device in SERVICE with processor 0 active and 1 on standby, its control running. -/
def pairPp (misses : Nat) : Dev :=
  let d := dev [(F.SYS_STATE_STATE, 0, dvService), (F.BELAY_STAT_PP0_STATE, 0, 0), (F.BELAY_STAT_PP1_STATE, 0, 1), (F.BELAY_STAT_MISSES, 0, misses)]
  { d with jrn := { d.jrn with outage := false } }

/-- BelayGuardsTheProcessor: a heartbeat of each processor, the second miss and the third, the epoch drained, and each end of a BIST
(R366 to R368). -/
theorem witness_Belay :
    (let d := pairPp 2
     let u := run (.belayHbMiss 9) d
     let v := run (.fenceDrainDone 10) u
     activePp d == 0 && ppState d 0 == 0 && getF (run (.belayHb 9 0) d) F.BELAY_STAT_MISSES 0 == 0 && run (.belayHb 9 1) d == d.at 9 &&
     getF (run (.belayHbMiss 9) (pairPp 1)) F.BELAY_STAT_MISSES 0 == 2 && ppState u 0 == 2 && ppState u 1 == 0 && activePp u == 1 &&
     u.ctl.epoch == 1 && u.jrn.outage && u.jrn.draining == some 9 && getF u F.BELAY_FAILOVERS_COUNT 0 == 1 && v.jrn.draining == none &&
     getF v F.JRN_STAT_REPLAY 0 == 1) = true ∧
    (let d := setF (pairPp 0) F.BELAY_STAT_PP1_STATE 0 3
     let e := setF (pairPp 0) F.BELAY_STAT_PP0_STATE 0 3
     ppState d 1 == 3 && ppState (run (.ppBistDone 9 1 true) d) 1 == 1 &&
     ppState (run (.ppBistDone 9 1 true) (setF d F.FLT_STATUS_BITS 0 (2 ^ 30))) 1 == 4 && ppState (run (.ppBistDone 9 0 true) e) 0 == 0 &&
     ppState (run (.ppBistDone 9 1 false) d) 1 == 4 && fltBit (run (.ppBistDone 9 1 false) d) 30) = true := by decide +kernel

/-- ControlComesBack: a takeover and a replay (R357, R364, R365, R367). -/
theorem witness_ControlBack :
    (let d := setF (setF (pairPp 0) F.BELAY_STAT_PP0_STATE 0 2) F.BELAY_STAT_ACTIVE_PP 0 1
     let d := { setF d F.BELAY_STAT_PP1_STATE 0 0 with jrn := { d.jrn with outage := true }, rst := { d.rst with phase := 2 } }
     let u := run (.takeoverComplete 9) d
     d.jrn.draining == none && decide (3 ≤ devState d) && decide (devState d ≤ 5) && activePp d == 1 && !u.jrn.outage && u.jrn.outageEnd == 9 && ppState u 0 == 3 && getF u F.JRN_STAT_REPLAY 0 == 0) = true ∧
    (let d := dev [(F.SYS_STATE_STATE, 0, dvLoading)]
     let c := run (.replayDone 9) d
     let e := { d with jrn := { d.jrn with cold := false } }
     let u := run (.replayDone 9) e
     role d != 5 && d.jrn.cold && getF c F.JRN_HEAD_HEAD_JSN 0 == 1048576 && !c.jrn.cold && !d.ctl.pair && !u.jrn.outage &&
     (devState u == dvSyncing || devState u == dvService)) = true := by decide +kernel

/-- A device in BOOT past the release sequence, channel 1 healthy, slot A ACTIVE. -/
def bootDev (src : Nat) : Dev :=
  let d := dev [(F.SYS_STATE_STATE, 0, dvBoot), (F.RST_STRAP_TEST_N, 0, 1), (F.RST_STRAP_BOOT_SRC, 0, src), (F.FLS_STAT_STATE, 1, 3), (F.BELAY_STAT_PP0_STATE, 0, 0)]
  setSlot { d with rst := { d.rst with phase := 2, inReset := [⟨8, 0⟩] } } 0 { fwSlot d 0 with state := 5 }

/-- ControlComesBack: the entry to BIVOUAC with one stack asleep; where the boot ROM chooses, among keys whose values are open (R394, R397, R424, R426). -/
theorem witness_Boots :
    (let j := { recFor 0x83 0 0 [] with validated := true }
     let d := with1 (dev []) dvBivouac j
     let d := { d with jrn := { d.jrn with bivIn := some (5, 9) } }
     let u := run (.bivouacSelfRefreshDone 54000009 true false) d
     !isFollower d && u.jrn.bivIn == none && hbmState u 0 == 4 &&
     decOf u 5 == some { status := stDone, applied := hfn (d.at 54000009), detail := bivouacDetail 1 1 0 1 }) = true ∧
    (let d := bootDev 2
     devState d == dvBoot && d.rst.phase == 2 && d.rst.inReset.all (fun x => decide (8 ≤ x.step)) && getF d F.RST_STRAP_TEST_N 0 == 1 &&
     ppState d (activePp d) == 0 && getF d F.RST_STRAP_BOOT_SRC 0 == 2) = true ∧
    (let d := bootDev 0
     devState d == dvBoot && ppState d (activePp d) == 0 && getF d F.RST_STRAP_BOOT_SRC 0 == 0 && (fwSlot d 0).state == 5 &&
     decide ((fwSlot d 1).state < 2) && decide (d.sec.svn ≤ (fwSlot d 0).img.secVer) && flsWritten d 1) = true := by decide +kernel

/-- A device of a Pair in SERVICE and a role, its peer reachable or not. -/
def pairDev (r up : Nat) : Dev :=
  let d := setFs (pairPp 0) 0 [(F.PAIR_STAT_ROLE, r), (F.PAIR_STAT_PEER_UP, up)]
  { d with ctl := { d.ctl with pair := true, epoch := 4 }, jrn := { d.jrn with peerEpoch := 7 } }

/-- PairFollowsItsPeer: BELAY_OUT at the end of its half period, each change of role (R371, R374 to R376). -/
theorem witness_PairRoles :
    (let d := pairDev 1 1
     !fatalLatched d && (run (.belayOutToggle 51300000) d).out == [.pin 184 1] && (run (.belayOutToggle 51299999) d).out == []) = true ∧
    (let u := run (.activeSelChange 9 true false) (pairDev 2 1)
     let v := run (.activeSelChange 9 true false) (pairDev 4 0)
     let w := run (.activeSelChange 9 false true) (pairDev 1 1)
     role u == 1 && u.ctl.epoch == 8 && u.jrn.outage && role v == 3 && role w == 2 && !w.jrn.outage) = true ∧
    (let l := run (.peerLost 9) (pairDev 1 1)
     let m := run (.peerLost 9) (pairDev 2 1)
     role l == 3 && l.jrn.peerLostAt == some 9 && getF (pairDev 2 1) F.PAIR_STAT_ACTIVE_SEL 0 == 0 && role m == 4 && !peerUp m) = true ∧
    (let l := run (.peerLinkReturn 9 false) (pairDev 3 0)
     let m := run (.peerLinkReturn 9 true) (pairDev 4 0)
     !(pairDev 3 0).jrn.peerSel && role l == 1 && peerUp l && role m == 5) = true ∧
    (let u := run (.pairResyncDone 9 { pair := true, epoch := 6 } 33) (pairDev 5 1)
     let d := { setF (pairDev 5 0) F.PAIR_STAT_ACTIVE_SEL 0 1 with jrn := { (pairDev 5 0).jrn with peerLostAt := some 9 } }
     role u == 2 && u.ctl.epoch == 6 && getF u F.JRN_HEAD_HEAD_JSN 0 == 33 && role (run (.joinPeerTimeout (9 + tickSec)) d) == 3 &&
     role (run (.joinPeerTimeout (8 + tickSec)) d) == 5) = true := by decide +kernel

/-- PairFollowsItsPeer: the peer's messages (R372, R374). -/
theorem witness_PairRecords :
    (let d := pairDev 1 1
     let b := descOf 0 0 0 []
     let u := run (.peerRecord 9 (.forward 1 15 b [])) d
     (run (.peerRecord 9 (.heartbeat 8 3)) d).jrn.peerEpoch == 8 && mget 0 d.ctl.lastId (16 * 3 + 15) == 0 && dCmdId b == 7 &&
     u.ctl.recs == [mkRec 1 3 15 b []] && mget 0 u.ctl.lastId 63 == 7 && getF u F.JRN_HEAD_HEAD_JSN 0 == 1) = true ∧
    (let d := { pairDev 2 1 with ctl := { (pairDev 2 1).ctl with recs := [recFor 0 0 0 []] } }
     isFollower d && decOf (run (.peerRecord 9 (.decision 5 { status := 0, applied := 3, detail := 2 })) d) 5 == some { status := 0, applied := 3, detail := 2 }) = true := by
  decide +kernel

/-! HBM stacks and the flash store. -/

/-- 128 byte lanes, each with a run of `n` passing codes from 3. -/
def eyesOf (n : Nat) : List EyeObs := List.replicate 128 { rdStart := 3, rdLen := n, wrStart := 3, wrLen := 16 }

/-- StacksTrainAndServe: eyes of 128 lanes 16 codes wide, and 15; the tracker within 8 codes and at its limit (R386, R387). -/
theorem witness_Stacks :
    (hbmState (dev [(F.HBM_STAT_STATE, 1, 1)]) 1 == 1 && (eyesOf 16).length == 128 && (eyesOf 16).all (fun e => decide (16 ≤ e.rdLen) && decide (16 ≤ e.wrLen)) &&
     eyeCentre 3 16 == 10 && !(eyesOf 15).any (fun e => decide (16 ≤ e.rdLen))) = true ∧
    (let d := dev [(F.HBM_STAT_STATE, 1, 2), (F.HBM_EYE_RD_CODE, ix 1 127, 27), (F.HBM_TRAIN_RD_CODE, ix 1 127, 20)]
     let u := run (.hbmEyeTrack 9 1 127 3 4) d
     let v := run (.hbmEyeTrack 9 1 127 3 4) u
     getF u F.HBM_EYE_RD_CODE (ix 1 127) == 28 && getF v F.HBM_EYE_RD_CODE (ix 1 127) == 28 && getF v F.HBM_STAT_TRACK_LIMIT 1 == 1 && fltBit v 17 &&
     getF (run (.hbmEyeTrack 9 1 127 4 3) d) F.HBM_EYE_RD_CODE (ix 1 127) == 26) = true := by decide +kernel

/-- StacksTrainAndServe: refresh debts at 6, 7 and paid; a request promoted at 2 µs; each kind of read (R388, R391 to R393). -/
theorem witness_StackReads :
    (let k := 31 * 48 + 47
     let d := setHbm (dev [(F.HBM_STAT_STATE, 1, 2)]) 1 { debt := [(k, 6)] }
     let u := run (.hbmRefreshInterval 9 1 31 47 false true) d
     let v := run (.hbmRefreshInterval 9 1 31 47 false true) u
     debtOf d 1 31 47 == 6 && debtOf u 1 31 47 == 7 && getF u F.HBM_REF_PREEMPT 1 == 0 && debtOf v 1 31 47 == 7 && getF v F.HBM_REF_PREEMPT 1 == 1 &&
     debtOf (run (.hbmRefreshInterval 9 1 31 47 true false) v) 1 31 47 == 0 && debtOf (run (.hbmRefreshInterval 9 1 31 47 false false) v) 1 31 47 == 7) = true ∧
    (let d := dev [(F.HBM_STAT_STATE, 1, 2)]
     let u := run (.hbmReqPromote 108055 1 31 54 true) d
     mget [] (hbmSt u 1).promo 31 == [54] && getF u F.HBM_RTLAT_MAX_NS 1 == 2000 && (hbmSt (run (.hbmReqPromote 108054 1 31 54 true) d) 1).promo == []) = true ∧
    (let o : HbmRead := { addr := 130, res := 2, sev := 0, reader := 0, unit := 0 }
     let u := run (.hbmScrub 9 1 o) (dev [])
     getF u F.HBM_ECC_HOST_UE 1 == 1 && getF u F.HBM_ECC_ADDR_VALID 1 == 1 && getF u F.HBM_ECC_ADDR_ADDR 1 == 2 &&
     getF (run (.hbmScrub 9 1 { o with res := 1 }) (dev [])) F.HBM_ECC_HOST_CE 1 == 1 && run (.hbmScrub 9 1 { o with res := 0 }) (dev []) == (dev []).at 9) = true := by decide +kernel

/-- A running device with a card profile and channel 1 in a state. -/
def flsDev (state : Nat) : Dev := { dev [(F.FLS_STAT_STATE, 1, state)] with rst := { phase := 2 }, profile := true }

/-- What a mount of a good channel with a directory finds. -/
def mountOf (targets : Nat) (ok : Bool) : MountObs :=
  { targets := targets, luns := 8, paramOk := ok, meets := true, sensor := true, levels := 4, dir := some { factoryBad := 1, grownBad := 2, goodS := 100, goodT := 200, initS := 4, initT := 4, spareS := 4, spareT := 4, lastScrub := 0, age := 0 }, format := false, scan := none, tail := 0 }

/-- FlashStoreFollows: mounts, a time-out, a rebuild, the directory at its 10 minutes, a spread of 500 and of 501 (R402 to R407, R413 to
R416). -/
theorem witness_Flash :
    (let d := flsDev 0
     bit d.flt.outOfService 35 == false && (flsSt d 1).cond == 0 && !flsWritten d 0 && flsState (run (.flashMount 9 1 [] (mountOf 0 true)) d) 1 == 0 &&
     flsState (run (.flashMount 9 1 [] (mountOf 1 false)) d) 1 == 1 && flsState (run (.flashMount 9 1 [] (mountOf 1 true)) d) 1 == 3 &&
     getF (run (.flashMount 9 1 [] (mountOf 1 true)) d) F.JRN_STAT_FL1 0 == 1 && getF (run (.flashMount 9 1 [] (mountOf 1 true)) d) F.FLS_BLOCKS_GROWN_BAD 1 == 2) = true ∧
    (let u := run (.flashTargetTimeout 9 1 3 false) (flsDev 3)
     let v := run (.flashRebuildDone 9 1) (setF (flsDev 2) F.FLS_STAT_STATE 0 3)
     let w := run (.flashDirRewrite (600 * tickSec) 1) (flsDev 3)
     flsState u 1 == 4 && fltBit u 35 && flsState v 1 == 3 && w.out == [.flash 1 1 0 0] && (flsSt w 1).dirAt == 600 * tickSec &&
     (run (.flashDirRewrite (600 * tickSec - 1) 1) (flsDev 3)).out == []) = true ∧
    (let pool : FlsPool := { good := 2, erase := [(0, 501), (1, 1001)], used := [0] }
     let near := { pool with erase := [(0, 501), (1, 1000)], good := 0 }
     let d := setPool (flsDev 3) 1 true pool
     let far := setPool (flsDev 3) 1 true { pool with erase := [(0, 500), (1, 1001)] }
     maxErase pool - minErase pool == 500 && run (.flashWearLevel 9 1 true) d == d.at 9 && maxErase near - minErase near == 499 &&
     (run (.flashWearLevel 9 1 true) far).out == [.flash 1 0x10 0 1] && (flsSt (run (.flashWearLevel 9 1 true) far) 1).movedAt == some 9) = true := by decide +kernel

/-- A read of block 7 of a channel whose level is 0 of four. -/
def readOf (hard soft : List Nat) (n : Nat) : ReadObs := { tlc := false, block := 7, hard := hard, soft := soft, corrected := n, persists := false }

/-- FlashStoreFollows: reads at 120 bits, by soft decode, at another level and not at all; erases; a minute at 40 °C, and at 70 °C with the
scrub it calls for (R411 to R414). -/
theorem witness_FlashReads :
    (let d := setFls (flsDev 3) 1 { retry := 4 }
     let s := run (.flashReadDone 9 1 (readOf [] [0] 0)) d
     let l := run (.flashReadDone 9 1 (readOf [3] [] 0)) d
     levelOf d 1 (readOf [0] [] 120) == 0 && run (.flashReadDone 9 1 (readOf [0] [] 120)) d == d.at 9 && getF s F.FLS_ECC_SOFT 1 == 1 && getF s F.FLS_ECC_RELOC 1 == 1 &&
     levelOf l 1 (readOf [3] [] 0) == 3 && getF l F.FLS_ECC_RETRY 1 == 1 && getF (run (.flashReadDone 9 1 (readOf [] [] 0)) d) F.FLS_ECC_UNCORR 1 == 1) = true ∧
    (let d := setPool (flsDev 3) 1 false { good := 9, init := 1, spare := 1, erase := [(7, 65535)] }
     eraseOf (poolOf (flsSt (run (.flashEraseDone 9 1 false 7 true) d) 1) false) 7 == 65535 &&
     getF (run (.flashEraseDone 9 1 false 7 false) d) F.FLS_BLOCKS_GROWN_BAD 1 == 1) = true ∧
    (let d := setFls (flsDev 3) 1 { age := 2160 * 62914560 - agePow 480 }
     let u := run (.nandTempRead 9 1 none) d
     let v := run (.flashScrubDone (5 * tickSec) 1) u
     (flsSt (run (.nandTempRead 9 1 (some 640)) (flsDev 3)) 1).age == 1048576 && getF u F.FLS_STAT_SENSOR 1 == 0 && getF u F.FLS_STAT_SCRUB 1 == 1 &&
     (flsSt u 1).scrubbing && (flsSt v 1).age == 0 && getF v F.FLS_SCRUB_LAST 1 == 5) = true := by decide +kernel

/-! Firmware trials, resets, fuses and straps. -/

/-- TrialsRevert: the window at its end and one tick before, validation not resumed, a self-test (R438, R441). -/
theorem witness_Trials :
    (let d := setF (pairPp 0) F.SEC_FW_STAT_UPDATE 0 4
     let d := { d with sec := { d.sec with windowEnd := some (3 * tickSec), activating := some 5, activatedAt := 7 } }
     let u := run (.fwWindowExpire (3 * tickSec)) d
     fwUpdate d == 4 && d.sec.reverting == none && u.sec.reverting == some 1 && u.ctl.epoch == 1 && u.jrn.outage &&
     getF (run (.fwWindowExpire (3 * tickSec - 1)) d) F.SEC_FW_STAT_WINDOW_S 0 == 1 &&
     (run (.fwResumeTimeout (2 * tickSec + 7)) d).sec.reverting == some 4 && (run (.fwResumeTimeout (2 * tickSec + 6)) d).sec.reverting == none &&
     (run (.fwSelftestFail 9) d).sec.reverting == some 5 &&
     (let p := setF { pairDev 2 1 with sec := d.sec } F.SEC_FW_STAT_UPDATE 0 4
      role p == 2 && p.ctl.pair && (run (.fwSelftestFail 9) p).sec.revertAt == some (1, 5)) && getF (run (.entropyFail 9) d) F.SEC_ENTROPY_FAILS 0 == 1 && fltBit (run (.entropyFail 9) d) 33) = true := by decide +kernel

/-- A device out of reset with the given sources. -/
def rstDev (l : List RstReq) : Dev := { pairPp 0 with rst := { phase := 2, reqs := l } }

/-- The sources that a device has asserted. -/
def srcs (d : Dev) : List (Nat × Nat × Nat) := d.rst.reqs.map fun r => (r.reach, r.unit, r.src)

/-- ResetSourcesAssert: the pins, high and low (R446 to R448, R451, R461, R465). -/
theorem witness_Pins :
    (let u := run (.por 9 true) (rstDev [])
     let v := run (.por 10 false) u
     u.rst.phase == 0 && u.rst.inReset == allDoms && u.regs == [] && !u.rst.fuseFailPin && u.rst.reqs.all (fun r => r.reach == 8 && r.unit == 0 && r.src == 0) &&
     v.rst.phase == 1 && srcs v == []) = true ∧
    (let u := run (.pwrgood 9 false) (rstDev [])
     let v := run (.pwrgood 10 true) u
     srcs u == [(8, 0, 1)] && getF u F.RST_CAUSE_PWRGOOD 0 == 1 && getF u F.FUSE_STAT_VALID 0 == 0 && hbmState u 1 == 0 && u.jrn.outage &&
     u.out.contains (.pin pinAll 2) && u.rst.pwrLowAt.isSome && v.rst.pwrLowAt == none && v.rst.reqs.all (fun r => r.pulse && !r.entered)) = true ∧
    (let u := run (.resetN 9 true) (rstDev [])
     let c := run (.resetN 9 true) (setF (rstDev []) F.FUSE_STAT_RESETN_COLD 0 1)
     srcs u == [(7, 0, 2)] && getF u F.RST_CAUSE_LAST_REACH 0 == 7 && srcs c == [(8, 0, 2)] && (run (.resetN 10 false) u).rst.reqs.all (fun r => r.pulse && !r.entered)) = true := by decide +kernel

/-- ResetSourcesAssert: software resets of the last units, on the active processor, and the ones discarded (R366, R452, R455, R466). -/
theorem witness_SoftResets :
    (swUnit 1 83 == some 83 && swUnit 1 84 == none && srcs (run (.rstSwPulse 9 0xA5 1 83) (rstDev [])) == [(1, 83, 3)] &&
     getF (run (.rstSwPulse 9 0xA5 1 84) (rstDev [])) F.RST_STAT_SW_ERR 0 == 1 && getF (run (.rstSwPulse 9 0xA4 1 83) (rstDev [])) F.RST_STAT_SW_ERR 0 == 1) = true ∧
    (let u := run (.rstSwPulse 9 0xA5 5 0) (rstDev [])
     activePp (rstDev []) == 0 && u.ctl.epoch == 1 && (srcs u).contains (5, 0, 3)) = true ∧
    (let u := run (.rstSwHold 9 0xA5 6 1) (rstDev [])
     let v := run (.rstSwRelease 10 0xA5 6 1) u
     srcs u == [(6, 1, 3)] && u.rst.reqs.all (fun r => !r.pulse) && v.rst.reqs.all (fun r => r.pulse && !r.entered) &&
     getF (run (.rstSwHold 9 0xA5 5 1) (rstDev [])) F.RST_STAT_SW_ERR 0 == 1 && getF (run (.rstSwRelease 9 0xA5 1 1) (rstDev [])) F.RST_STAT_SW_ERR 0 == 1) = true := by decide +kernel

/-- WatchdogAndTripAct: the second and the third event, the second one 10 minutes old; 160 °C and below; the hold's end; a parity error
(R449, R450, R456). The threshold before a fuse load is open. -/
theorem witness_Watchdog :
    (let d := rstDev []
     let one := { d with rst := { d.rst with wdog := [600 * tickSec] } }
     let two := { d with rst := { d.rst with wdog := [2, 1] } }
     let t := 600 * tickSec
     activePp d == 0 && ppState d 0 == 0 && (wdogEvents (one.at t)).length == 1 && (srcs (run (.watchdog t) one)).contains (5, 0, 4) && ppState (run (.watchdog t) one) 0 == 2 &&
     (wdogEvents (two.at t)).length == 2 && srcs (run (.watchdog t) two) == [(7, 0, 4)] && (run (.watchdog t) two).rst.wdog == [] &&
     getF (run (.watchdog t) two) F.RST_CAUSE_WDOG_WARM 0 == 1 && (wdogEvents (two.at (t + 1))).length == 1) = true ∧
    (let d := setF (rstDev []) F.FUSE_STAT_VALID 0 1
     let u := run (.thermalTrip 9 [0, 2560]) d
     let v := run (.thermalHoldEnd (tickSec + 3) 3) u
     srcs u == [(8, 0, 7)] && u.rst.thermalHold && getF u F.RST_CAUSE_THERMAL 0 == 1 && u.out.head? == some (.pin pinFaultN 0) &&
     (run (.thermalTrip 9 [0, 2559]) d).rst == d.rst && !v.rst.thermalHold && (run (.thermalHoldEnd (tickSec + 2) 3) u).rst.thermalHold) = true ∧
    (let u := run (.fuseParityCheck 9 true) (setF (rstDev []) F.FUSE_STAT_VALID 0 1)
     (srcs u).contains (8, 0, 6) && getF u F.RST_CAUSE_FUSE_PARITY 0 == 1 && fltBit u 42) = true := by decide +kernel

/-- ResetsEnterAndLeave: PLANE and WARM entered, a step released, one whose clock is absent, a clock that returns and one that falls back
(R446, R447, R453, R454). -/
theorem witness_Resets :
    (let d := rstDev [{ reach := 4, unit := 1, src := 3, pulse := true }]
     match exec (.resetEntry 9) { dev := d } with
     | .next u => coversIn d 4 1 { step := 11, unit := 1 } && u.dev.rst.inReset.contains { step := 11, unit := 1 } && !u.dev.rst.inReset.contains { step := 11, unit := 0 } &&
         u.dev.rst.reqs.all (fun r => r.entered && !r.pulse)
     | _ => false) = true ∧
    (let d := { rstDev [] with rst := { phase := 2, inReset := [{ step := 14, unit := 83 }], clkWait := [{ step := 14, unit := 83 }] } }
     let e := { d with rst := { d.rst with clkWait := [] } }
     nextBatch e == [{ step := 14, unit := 83 }] && (run (.resetReleaseStep 9 true [] [] 0) e).rst.inReset == [] && run (.resetReleaseStep 9 false [] [] 0) e == e.at 9 &&
     (run (.resetClockReturn 9 14 83) d).rst.inReset == [] && (run (.resetClockReturn 9 14 83) d).rst.clkWait == []) = true ∧
    (allDoms.contains { step := 14, unit := 83 } && (run (.resetClockFallback 9 14 83) (rstDev [])).rst.onAon == [{ step := 14, unit := 83 }]) = true := by decide +kernel

/-- ResetsEnterAndLeave, wide entries: where a WARM and a COLD wait; what they restart holds open values (R446). -/
theorem witness_WideResets :
    ((rstDev [{ reach := 7, unit := 0, src := 2 }]).rst.reqs.any fun r => !r.entered && r.reach == 7) = true ∧
    ((rstDev [{ reach := 8, unit := 0, src := 0 }]).rst.reqs.any fun r => !r.entered && r.reach == 8) = true ∧ inSram 0x10000000 = true ∧
    inSram 0x10FFFFFF = true ∧ inSram 0x11000000 = false := by decide +kernel


/-- FusesLoadAndStrapsSample: the second bad load and the third, the straps by majority, IDCODE (R456, R458, R520). A good load's values are
open. -/
theorem witness_Fuses :
    (let d := (State.reset).dev
     let e := { d with rst := { d.rst with fuseFails := 1 } }
     let f := { d with rst := { d.rst with fuseFails := 2 } }
     d.rst.phase == 1 && d.rst.inReset.contains { step := 2, unit := 0 } && (run (.fuseLoadDone 9 false) e).rst.fuseFails == 2 &&
     (run (.fuseLoadDone 9 false) e).rst.phase == 1 && (run (.fuseLoadDone 9 false) f).rst.phase == 0 && (run (.fuseLoadDone 9 false) f).rst.fuseFailPin &&
     (run (.fuseLoadDone 9 false) f).out == [.pin pinFaultN 0, .pin pinFuseFail 1]) = true ∧
    (let d := { rstDev [] with rst := { phase := 2, inReset := [{ step := 3, unit := 0 }] } }
     let u := run (.resetReleaseStep 9 true [] [0x30, 0x31, 0x21] 0) d
     nextBatch d == [{ step := 3, unit := 0 }] && getF u F.RST_STRAP_PAIR_ID 0 == 1 && getF u F.RST_STRAP_TEST_N 0 == 1 && getF u F.RST_STRAP_BOOT_SRC 0 == 1) = true ∧
    (let u := run (.jtagInstruction 9 3) (rstDev [])
     u.rst.jtag == 3 && u.out == [.rdata 8 4 0x11152B47]) = true := by decide +kernel

/-! Fault collection, monitors, rails and the margin survey. -/

/-- FaultsAreCollected: the last bit's first event, a second one, HISTORY at its last entry, and each reaction (R473 to R477). -/
theorem witness_FaultsCollected :
    (let d := setF (rstDev []) F.FLT_MODE_MODE 0 0
     let u := run (.faultEvent 540 47 6 3 false) d
     let v := run (.faultEvent 541 0 6 4 false) u
     getF d F.FLT_MODE_MODE 0 != 1 && fltBit u 47 && getF u F.FLT_CAUSE_COUNT 47 == 1 && getF u F.FLT_FIRST_VALID 0 == 1 && getF u F.FLT_FIRST_SUB_BIT 0 == 47 &&
     getF u F.FLT_FIRST_TIME_TIME 0 == 10 && getF u F.FLT_OVF_OVF 0 == 0 && getF v F.FLT_OVF_OVF 0 == 1 && getF v F.FLT_FIRST_SUB_BIT 0 == 47) = true ∧
    (let d := setF (setF (rstDev []) F.FLT_MODE_MODE 0 1) F.FLT_HIST_PTR_NEXT 0 31
     let u := run (.faultEvent 540 47 6 3 false) d
     getF u F.FLT_HISTORY_BIT 31 == 47 && getF u F.FLT_HIST_PTR_NEXT 0 == 0 && getF u F.FLT_FIRST_VALID 0 == 0) = true ∧
    (let f := fun a => setF (rstDev []) F.FLT_REACT_ACTION 33 a
     let u := fun a => run (.faultEvent 540 33 15 0 false) (f a)
     isFatal 15 && !isFatal 6 && actionFor ((f 2).at 540) 33 == 2 && actionFor ((f 3).at 540) 33 == 3 && actionFor ((f 4).at 540) 33 == 4 &&
     (u 2).ctl.epoch == 1 && (u 2).jrn.outage && srcs (u 3) == [(7, 0, 5)] && srcs (u 4) == [(8, 0, 5)] &&
     getF (u 4) F.RST_CAUSE_FLT_COLD 0 == 1) = true := by decide +kernel

/-- FaultsAreCleared: a clear, each end of its check, FLT_FIRST, a legal reaction and another, the window's last second, a record logged
(R474, R476, R479, R481). -/
theorem witness_FaultsCleared :
    (let d := run (.faultEvent 540 47 6 3 false) (setF (rstDev []) F.FLT_MODE_MODE 0 0)
     let u := run (.fltStatusClear 600 (2 ^ 47)) d
     let v := run (.fltClearCheck 700 47 true) u
     let w := run (.fltClearCheck 700 47 false) u
     fltBit d 47 && !fltBit u 47 && u.flt.checks == [47] && getF u F.FLT_FIRST_VALID 0 == 1 && fltBit v 47 && bit (getF v F.FLT_CLRFAIL_PERSIST 0) 47 &&
     v.flt.checks == [] && !fltBit w 47 && w.flt.checks == [] && getF (run (.fltFirstClear 9) d) F.FLT_FIRST_VALID 0 == 0 &&
     actionLegal 28 1 && !actionLegal 47 1 && getF (run (.fltReactWrite 9 28 0x1C) d) F.FLT_REACT_ACTION 28 == 1 &&
     getF (run (.fltReactWrite 9 47 0x10) d) F.FLT_CTRL_WR_ERR 0 == 1) = true ∧
    (let d := rstDev []
     let d := { d with flt := { d.flt with windowAt := some 7, buf := [3, 4] } }
     let e := setF d F.FLS_STAT_STATE 1 3
     d.flt.bist == false && devState d == dvService && getF (run (.fltModeWindow (7 + 60 * tickSec)) d) F.FLT_MODE_MODE 0 == 0 &&
     getF (run (.fltModeWindow (6 + 60 * tickSec)) d) F.FLT_MODE_MODE 0 == 1 && healthyChans e == [1] && d.rst.pwrLowAt == none &&
     (run (.faultLogWrite 9) e).flt.buf == [4] && (run (.faultLogWrite 9) e).out.contains (.flash 1 0x0A 0x0F10 3)) = true := by decide +kernel

/-- MonitorsAndRailsAct: 1.99 % of slack and 2 %, 150 °C and below, a rail at its window's edge and past it for 10 µs (R484, R511,
R513). -/
theorem witness_Monitors :
    (let d := rstDev []
     fltBit (run (.monitorSample 9 (List.replicate 31 200 ++ [199])) d) 44 && !fltBit (run (.monitorSample 9 (List.replicate 32 200)) d) 44 &&
     fltBit (run (.thermalSample 9 (List.replicate 39 2399 ++ [2400])) d) 43 && !fltBit (run (.thermalSample 9 (List.replicate 40 2399)) d) 43 &&
     (List.range 16).all (fun k => !tileSplit (List.replicate 40 2399) k) && !d.age.hot.contains 39 && getF d F.AGE_STAT_RUNNING 0 != 1) = true ∧
    (let d := rstDev []
     let u := run (.railOutOfWindow 540009 11 ((railWindow d 11).2 + 1) 9) d
     fltBit u 47 && getF u F.FLT_CAUSE_CAUSE 47 == 13 && getF u F.FLT_CAUSE_SUB 47 == 11 && !fltBit (run (.railOutOfWindow 540008 11 ((railWindow d 11).2 + 1) 9) d) 47 &&
     run (.railOutOfWindow 540009 11 (railWindow d 11).2 9) d == d.at 540009) = true := by decide +kernel

/-- MonitorsAndRailsAct: AVS writes at VDD_CORE = VDD_SRAM and past it, the third invalid response, a step either way (R512). -/
theorem witness_Avs :
    (let d := rstDev []
     let bad := { d with avs := { d.avs with bad := [(0, 2)] } }
     d.avs.sram == 800 && !d.avs.stopped && (run (.avsWrite 9 0 800 true) d).avs.core == 800 && run (.avsWrite 9 0 801 true) d == d.at 9 &&
     (run (.avsWrite 9 1 750 true) d).avs.sram == 750 && (run (.avsWrite 9 0 760 false) bad).avs.stopped && fltBit (run (.avsWrite 9 0 760 false) bad) 47) = true ∧
    (let f := fun v => { rstDev [] with ctl := { mech := [(mkey mkSurvey 0, { aux := v })] } }
     avsTarget (f 753) == 753 && (run (.avsStep 9 true) (f 753)).avs.core == 753 && (run (.avsStep 9 true) (f 780)).avs.core == 755 &&
     (run (.avsStep 9 true) (f 740)).avs.core == 745) = true := by decide +kernel

/-- SurveysRun: the schedule at its second, steps, where its report runs with nothing measured, against baselines that are open (R485, R486, R489). -/
theorem witness_Surveys :
    (let d := setFs (rstDev []) 0 [(F.AGE_CFG_PERIOD_D, 30), (F.DPLL_STATUS_TOD_VALID, 0)]
     let t := 30 * 86400 * tickSec
     let u := run (.surveySchedule t) d
     getF d F.AGE_STAT_LAST 0 == 0 && !d.jrn.outage && getF u F.AGE_STAT_RUNNING 0 == 1 && u.age.startedAt == some t && getF u F.AGE_STAT_SEQ 0 == 1 &&
     getF (run (.surveySchedule (t - 1)) d) F.AGE_STAT_RUNNING 0 == 0) = true ∧
    (let d := { with1 (rstDev []) dvService (recFor 0x84 0 0 []) with age := { jsn := some 5, startedAt := some 1 } }
     let d := setF d F.AGE_STAT_RUNNING 0 1
     d.age.meas == [] && run (.surveyStep 9 .budget) d == d.at 9 && !isFollower d &&
     getF d F.AGE_STAT_RUNNING 0 == 1 && d.age.jsn == some 5 && decOf d 5 == none) = true := by decide +kernel

/-! The whole machine. -/

/-- StepTakesTheFront, with a command that waits behind another; ResetMeetsInv's invariant in a state that holds bytes. -/
theorem witness_Step :
    (let s : State := { dev := dev [], pending := [.mtxLockWrite 9 1 1, .jtagInstruction 9 3] }
     match step s with
     | .next u => u.pending == [.jtagInstruction 9 3] && getF u.dev F.MTX_CTRL_LOCK 0 == 1
     | _ => false) = true ∧ (match step { dev := dev [] } with | .next u => u == { dev := dev [] } | _ => false) = true := by decide +kernel

/-- A state with bytes in memory meets the invariant. -/
theorem witness_Inv : Inv { mem := [(0x10000000, 1), (0x10000001, 255)] } := by unfold Inv; decide

/-- The frames' commands answer: one of each family (their hypothesis is that `exec` answers). -/
theorem witness_FrameCommandsAnswer : ([.eventDoorbell 9 0 0, .dpllLocked 9 0, .underrun 9 0 0 0, .egressSegment 9 0 0 0 0 false 0, .tdmSteerLimit 9 0, .timing 9 0 0 none, .captureIrq 9 0, .belayHb 9 0, .compPrefetch 9 0 0 []] : List Instr).all
    (fun c => match exec c { dev := dev [] } with | .next _ => true | _ => false) = true := by decide +kernel

/-- OnlyResetsUnlock: LOCK 1, a command that is not a reset, and a narrow entry. -/
theorem witness_Unlock :
    (let d := setF (rstDev [{ reach := 4, unit := 1, src := 3, pulse := true }]) F.MTX_CTRL_LOCK 0 1
     getF d F.MTX_CTRL_LOCK 0 == 1 && d.rst.reqs.all (fun r => r.entered || decide (r.reach < 7)) && getF (run (.resetEntry 9) d) F.MTX_CTRL_LOCK 0 == 1 &&
     getF (run (.registerWrite 9 0 0xD00000 4 0) d) F.MTX_CTRL_LOCK 0 == 1) = true := by decide +kernel

/-- HouseFamily, CairnOrder and EngineWindowsGrant at their edges (R40, R126, R501). -/
theorem witness_Tables :
    ((inFamily 6 3, inFamily 3 6, inFamily 6 5, inFamily 1 1, inFamily 8 8, inFamily 8 0, inFamily 8 9) = (true, true, false, true, true, false, false)) ∧
    ((cairnBefore (cairn 4095 9 9) (cairn 0 0 0), cairnBefore (cairn 0 0 0) (cairn 2047 0 0), cairnBefore (cairn 0 0 0) (cairn 2048 0 0), cairnBefore (cairn 5 7 8) (cairn 5 7 9),
      cairnBefore (cairn 5 7 9) (cairn 5 7 9)) = (true, true, false, true, false)) ∧
    (let d := dev [(F.MTX_WIN_BASE_W, 23, 1), (F.MTX_WIN_BASE_BASE, 23, 2), (F.MTX_WIN_LIM_LAST, 23, 2)]
     (reaches d 6 0x2000 0x1000 true, reaches d 6 0x1FFF 2 true, reaches d 6 0x2FFF 2 true, reaches d 6 0x2000 1 false)) = (true, false, false, false) := by decide +kernel
end Sys2Proof.Tests
end

section
/-! The house families: each row of R40's table, as `inFamily` and as `familyRow` give it. -/

namespace Sys2Proof.Machine

open Sys2Proof.Claims

/-! `inFamily` by the row of the house rate. -/

theorem inFamily_of_house_25_50 {h : Nat} (hh : h = 3 ∨ h = 6) (r : Nat) : inFamily h r = true ↔ r = 3 ∨ r = 6 := by
  obtain rfl | rfl := hh <;> simp [inFamily]

theorem inFamily_of_house_2997_5994 {h : Nat} (hh : h = 4 ∨ h = 7) (r : Nat) : inFamily h r = true ↔ r = 4 ∨ r = 7 := by
  obtain rfl | rfl := hh <;> simp [inFamily]

theorem inFamily_of_house_30_60 {h : Nat} (hh : h = 5 ∨ h = 8) (r : Nat) : inFamily h r = true ↔ r = 5 ∨ r = 8 := by
  obtain rfl | rfl := hh <;> simp [inFamily]

/-- The rows of 23.98 and 24 hold one rate each. -/
theorem inFamily_of_house_2398_24 {h : Nat} (hh : h = 1 ∨ h = 2) (r : Nat) : inFamily h r = true ↔ r = h := by
  obtain rfl | rfl := hh <;> simp [inFamily]

/-! The rate codes in each row of the table. -/

theorem familyRow_eq_zero_iff (r : Nat) : familyRow r = 0 ↔ r = 3 ∨ r = 6 := by
  unfold familyRow; split <;> simp_all

theorem familyRow_eq_one_iff (r : Nat) : familyRow r = 1 ↔ r = 4 ∨ r = 7 := by
  unfold familyRow; split <;> simp_all

theorem familyRow_eq_two_iff (r : Nat) : familyRow r = 2 ↔ r = 5 ∨ r = 8 := by
  unfold familyRow; split <;> simp_all

theorem familyRow_eq_three_iff (r : Nat) : familyRow r = 3 ↔ r = 2 := by
  unfold familyRow; split <;> simp_all

/-- The last row is the table's 23.98: of the rate codes 1 to 8 it holds code 1 alone. -/
theorem rateCode_and_familyRow_eq_four_iff (r : Nat) : 1 ≤ r ∧ r ≤ 8 ∧ familyRow r = 4 ↔ r = 1 := by
  unfold familyRow
  split <;> simp_all
  omega

/-- The five rows of R40's table hold all eight rate codes. -/
theorem rateCode_cases {h : Nat} (h1 : 1 ≤ h) (h8 : h ≤ 8) :
    (h = 3 ∨ h = 6) ∨ (h = 4 ∨ h = 7) ∨ (h = 5 ∨ h = 8) ∨ h = 2 ∨ h = 1 := by omega

/-- Settles O58, row by row of R40's table: `inFamily` and `familyRow` give the same codes for the house rate's row. -/
theorem houseFamily : Obligations.HouseFamily := by
  intro h r h1 h8
  obtain hh | hh | hh | rfl | rfl := rateCode_cases h1 h8
  · rw [inFamily_of_house_25_50 hh, (familyRow_eq_zero_iff h).mpr hh, familyRow_eq_zero_iff]; omega
  · rw [inFamily_of_house_2997_5994 hh, (familyRow_eq_one_iff h).mpr hh, familyRow_eq_one_iff]; omega
  · rw [inFamily_of_house_30_60 hh, (familyRow_eq_two_iff h).mpr hh, familyRow_eq_two_iff]; omega
  · rw [inFamily_of_house_2398_24 (.inr rfl), (familyRow_eq_three_iff 2).mpr rfl, familyRow_eq_three_iff]; omega
  · have row_one : familyRow 1 = 4 := rfl
    rw [inFamily_of_house_2398_24 (.inl rfl), row_one, rateCode_and_familyRow_eq_four_iff]

end Sys2Proof.Machine
end

section
/-! The order of Cairn numbers (R126): a number's fields read back (R123), the serial distance of two frames, and the order of two
positions within a frame. -/

namespace Sys2Proof.Machine

/-! The fields of a Cairn number. -/

/-- The bits from 20 up are FRAME: LINE and INDEX fill 20 bits. -/
theorem cairn_frame {frame : Nat} (hf : frame < 4096) (line index : Nat) : cairn frame line index / 2 ^ 20 = frame := by
  have hpos : line % 4096 * 2 ^ 8 + index % 256 < 2 ^ 20 := by omega
  unfold cairn
  omega

/-- The lower 20 bits are LINE and INDEX. -/
theorem cairn_position {line index : Nat} (hl : line < 4096) (hi : index < 256) (frame : Nat) :
    cairn frame line index % 2 ^ 20 = line * 2 ^ 8 + index := by
  have hpos : line * 2 ^ 8 + index < 2 ^ 20 := by omega
  rw [cairn, Nat.mod_eq_of_lt hl, Nat.mod_eq_of_lt hi]
  omega

/-! Each part of the order. -/

/-- The distance that `cairnBefore` takes, with 4096 added first to stay in the naturals, is R126's difference modulo 4096. -/
theorem frameDistance_cast {fa : Nat} (ha : fa < 4096) (fb : Nat) :
    (((fb + 4096 - fa) % 4096 : Nat) : Int) = ((fb : Int) - fa) % 4096 := by omega

theorem frameDistance_eq_zero_iff {fa fb : Nat} (ha : fa < 4096) (hb : fb < 4096) :
    (fb + 4096 - fa) % 4096 = 0 ↔ fa = fb := by omega

/-- INDEX is below 256, so a number of LINE and INDEX compares as the pair does. -/
theorem position_lt_iff {ia ib : Nat} (hia : ia < 256) (hib : ib < 256) (la lb : Nat) :
    la * 2 ^ 8 + ia < lb * 2 ^ 8 + ib ↔ la < lb ∨ (la = lb ∧ ia < ib) := by omega

/-! The order itself. -/

/-- `cairnBefore` by the upper 12 and the lower 20 bits of its numbers. -/
theorem cairnBefore_iff (a b : Nat) :
    cairnBefore a b = true ↔
      (1 ≤ (b / 2 ^ 20 + 4096 - a / 2 ^ 20) % 4096 ∧ (b / 2 ^ 20 + 4096 - a / 2 ^ 20) % 4096 ≤ 2047) ∨
        ((b / 2 ^ 20 + 4096 - a / 2 ^ 20) % 4096 = 0 ∧ a % 2 ^ 20 < b % 2 ^ 20) := by
  simp only [cairnBefore, Bool.or_eq_true, Bool.and_eq_true, decide_eq_true_eq, beq_iff_eq]

/-- Settles O28: the fields read back from the two numbers, then FRAME by its serial distance and LINE and INDEX as a pair. -/
theorem cairnOrder : Obligations.CairnOrder := by
  intro fa la ia fb lb ib hfa hla hia hfb hlb hib
  rw [cairnBefore_iff, cairn_frame hfa, cairn_frame hfb, cairn_position hla hia, cairn_position hlb hib,
    frameDistance_eq_zero_iff hfa hfb, position_lt_iff hia hib, ← frameDistance_cast hfa fb]
  norm_cast

end Sys2Proof.Machine
end

section
/-! The windows of the engines (R501): what one window grants, and that an engine reaches by its eight windows alone. -/

namespace Sys2Proof.Machine

open Sys2Proof.Claims

theorem within_iff (a size first last : Nat) : within a size first last = true ↔ first ≤ a ∧ a + size ≤ last + 1 := by
  simp only [within, Bool.and_eq_true, decide_eq_true_eq]

/-- A window that ends with page `last` ends with that page's last byte. -/
theorem within_pages_iff (a size base last : Nat) :
    within a size (base * 4096) (last * 4096 + 4095) = true ↔ base * 4096 ≤ a ∧ a + size ≤ (last + 1) * 4096 := by
  rw [within_iff, Nat.add_assoc, Nat.succ_mul]

/-- A window grants by the bit of the direction, over its whole pages. -/
theorem windowGrants_iff (d : Dev) (e k a size : Nat) (write : Bool) :
    windowGrants d e k a size write = true ↔
      (if write then getF d F.MTX_WIN_BASE_W (8 * e + k) = 1 else getF d F.MTX_WIN_BASE_R (8 * e + k) = 1) ∧
        getF d F.MTX_WIN_BASE_BASE (8 * e + k) * 4096 ≤ a ∧ a + size ≤ (getF d F.MTX_WIN_LIM_LAST (8 * e + k) + 1) * 4096 := by
  rw [windowGrants, Bool.and_eq_true, within_pages_iff]
  cases write <;> simp only [Bool.false_eq_true, if_true, if_false, beq_iff_eq]

/-- The engines are masters 4 to 6 (R493): none has the reach of a processor, a HIF or the Belay. -/
theorem reaches_engine_iff (d : Dev) {e : Nat} (he : e < 3) (a size : Nat) (write : Bool) :
    reaches d (4 + e) a size write = true ↔ ∃ k < 8, windowGrants d e k a size write = true := by
  have not_processor : ¬ 4 + e < 2 := by omega
  have not_hif : ¬ 4 + e < 4 := by omega
  have engine : 4 + e < 7 := by omega
  simp only [reaches, if_neg not_processor, if_neg not_hif, if_pos engine, Nat.add_sub_cancel_left, List.any_eq_true, List.mem_range]

/-- Settles O59: an engine reaches by one of its windows, and each window grants by its own fields. -/
theorem engineWindowsGrant : Obligations.EngineWindowsGrant := by
  intro d e a size write
  simp only [reaches_engine_iff d e.isLt, windowGrants_iff]

end Sys2Proof.Machine
end

section
/-! The machine as a whole: a step, the queue, and the memories behind the control matrix (R497, R500). -/

namespace Sys2Proof.Machine

open Sys2Proof.Claims

/-- Settles O1: the two cases of `step`. -/
theorem stepTakesTheFront : Obligations.StepTakesTheFront :=
  ⟨fun s c rest h => by simp only [step, h], fun s h => by simp only [step, h]⟩

/-- Settles O2: no byte is written at reset. -/
theorem resetMeetsInv : Obligations.ResetMeetsInv := rfl

/-- Settles O5: the register file is empty at reset, so that every field reads its Reset column. -/
theorem resetState : Obligations.ResetState := ⟨fun _ _ => rfl, rfl, rfl, rfl, rfl, rfl⟩

/-! Memory. -/

/-- A command that leaves the queue and every byte of the memories as they are. -/
def KeepsMemory (c : Instr) : Prop := ∀ s, ∃ u, exec c s = .next u ∧ u.pending = s.pending ∧ u.mem = s.mem

/-- Every command but three acts on the device alone. -/
theorem keepsMemory (c : Instr) (h1 : ∀ t reqs, c ≠ .mtxTransaction t reqs) (h2 : ∀ t, c ≠ .resetEntry t)
    (h3 : ∀ t b, c ≠ .por t b) : KeepsMemory c := by
  intro s
  cases c
  case mtxTransaction t reqs => exact absurd rfl (h1 t reqs)
  case resetEntry t => exact absurd rfl (h2 t)
  case por t b => exact absurd rfl (h3 t b)
  all_goals exact ⟨_, rfl, rfl, rfl⟩

/-- Settles O4: the three commands that write memory answer too, and every other keeps it. -/
theorem commandsAnswerAndKeepMemory : Obligations.CommandsAnswerAndKeepMemory := by
  intro c s
  by_cases h1 : ∃ t reqs, c = .mtxTransaction t reqs
  · obtain ⟨t, reqs, rfl⟩ := h1
    exact ⟨_, rfl, rfl, fun h _ _ => absurd rfl (h t reqs)⟩
  by_cases h2 : ∃ t, c = .resetEntry t
  · obtain ⟨t, rfl⟩ := h2
    exact ⟨_, rfl, rfl, fun _ h _ => absurd rfl (h t)⟩
  by_cases h3 : ∃ t b, c = .por t b
  · obtain ⟨t, b, rfl⟩ := h3
    exact ⟨_, rfl, rfl, fun _ _ h => absurd rfl (h t b)⟩
  obtain ⟨u, hu, hp, hm⟩ := keepsMemory c (fun t reqs h => h1 ⟨t, reqs, h⟩) (fun t h => h2 ⟨t, h⟩) (fun t b h => h3 ⟨t, b, h⟩) s
  exact ⟨u, hu, hp, fun _ _ _ a => by rw [hm]⟩

theorem serveMem_wf (s : Dev) (m : Memory) (r : MtxReq) (h : Memory.wf m = true) : Memory.wf (serveMem s m r) = true := by
  dsimp only [serveMem]
  split
  · exact writeMem_wf _ _ _ _ h
  · exact h

/-- The grants of one target keep the canonical form, one transaction after the other. -/
theorem arbitrate_wf (t tg n : Nat) (q : Dev × Memory) (l : List MtxReq) (h : Memory.wf q.2 = true) :
    Memory.wf (arbitrate t tg n q l).2 = true := by
  induction n generalizing q l with
  | zero => exact h
  | succ n ih =>
    unfold arbitrate
    split
    · exact h
    · exact ih _ _ (serveMem_wf _ _ _ h)

theorem mtxTransaction_wf (s : Dev) (m : Memory) (t : Nat) (reqs : List MtxReq) (h : Memory.wf m = true) :
    Memory.wf (mtxTransaction s m t reqs).2 = true := by
  unfold mtxTransaction
  simp only [List.foldl_cons, List.foldl_nil]
  exact arbitrate_wf _ _ _ _ _ (arbitrate_wf _ _ _ _ _ (arbitrate_wf _ _ _ _ _ (arbitrate_wf _ _ _ _ _
    (arbitrate_wf _ _ _ _ _ (arbitrate_wf _ _ _ _ _ h)))))

/-- Every command keeps the canonical form of the memories. -/
theorem exec_keeps_inv {c : Instr} {s u : State} (h : Inv s) (hu : exec c s = .next u) : Inv u := by
  by_cases h1 : ∃ t reqs, c = .mtxTransaction t reqs
  · obtain ⟨t, reqs, rfl⟩ := h1
    cases hu
    exact mtxTransaction_wf _ _ _ _ h
  by_cases h2 : ∃ t, c = .resetEntry t
  · obtain ⟨t, rfl⟩ := h2
    cases hu
    exact memEntry_wf _ _ h
  by_cases h3 : ∃ t b, c = .por t b
  · obtain ⟨t, b, rfl⟩ := h3
    cases hu
    cases b
    exacts [h, rfl]
  obtain ⟨v, hv, _, hm⟩ := keepsMemory c (fun t reqs h => h1 ⟨t, reqs, h⟩) (fun t h => h2 ⟨t, h⟩) (fun t b h => h3 ⟨t, b, h⟩) s
  cases hu.symm.trans hv
  rw [Inv, hm]
  exact h

/-- Settles O3: an idle step changes nothing, and every command keeps the canonical form. -/
theorem everyStepKeepsInv : Obligations.EveryStepKeepsInv := by
  intro s u h hu
  cases hp : s.pending with
  | nil =>
    rw [stepTakesTheFront.2 s hp] at hu
    cases hu
    exact h
  | cons c rest =>
    rw [stepTakesTheFront.1 s c rest hp] at hu
    exact exec_keeps_inv (s := { s with pending := rest }) h hu

end Sys2Proof.Machine
end

section
/-! What a piece of the model may change: a footprint names register fields, register blocks and parts of the device, and `Within` says
that nothing outside it has changed. Each shared operation has one lemma that gives its footprint; the frames of the commands follow. -/

namespace Sys2Proof.Machine

/-! Sparse maps from which entries are dropped. -/

theorem mget_filter {α : Type} (d : α) (q : Nat × α → Bool) (m : SMap α) (k : Nat) (h : ∀ v, q (k, v) = true) :
    mget d (m.filter q) k = mget d m k := by
  induction m with
  | nil => rfl
  | cons e r ih =>
    obtain ⟨j, w⟩ := e
    by_cases hq : q (j, w) = true
    · simp [hq, mget, ih]
    · have hj : j ≠ k := fun hj => hq (hj ▸ h w)
      simp [hq, mget, ih, hj]

theorem mget_filter_dropped {α : Type} (d : α) (q : Nat × α → Bool) (m : SMap α) (k : Nat) (h : ∀ v, q (k, v) = false) :
    mget d (m.filter q) k = d := by
  induction m with
  | nil => rfl
  | cons e r ih =>
    obtain ⟨j, w⟩ := e
    by_cases hq : q (j, w) = true
    · have hj : j ≠ k := fun hj => Bool.noConfusion (hq.symm.trans (hj ▸ h w))
      simp [hq, mget, ih, hj]
    · simp [hq, ih]


/-- The parts of the device beside its registers, as finely as the frames of the commands tell them apart. -/
inductive Part where
  | now | out | freeCtr | latches | holds | host | jrn | flt | hbm | cmp | library | tdm | tdmAssoc | mclkOff | aud | eth | fls | profile
  | age | mtx | avs
  | recs | adopted | stop | lastId | epoch | pend | routes | fsync | ref | ctlRest
  | refs | timRest | planes | fs | dst | merge | plnRest | reqs | rstRest | links | cfg | lanes | reverting | revertAt | secRest
deriving DecidableEq

/-- A link but for the CFG items it has sent (R251). -/
def LnkSt.butCfg (x : LnkSt) : LnkSt := { x with cfgSeq := 0, cfg := [] }

/-- A TDM port but for the destination it follows (R235). -/
def TdmSt.butAssoc (x : TdmSt) : TdmSt := { x with assoc := 0 }

/-- Part `q` of the device is the same in `s` and `u`. -/
def Same (q : Part) (s u : Dev) : Prop :=
  match q with
  | .now => u.now = s.now
  | .out => u.out = s.out
  | .freeCtr => u.freeCtr = s.freeCtr
  | .latches => u.latches = s.latches
  | .holds => u.holds = s.holds
  | .host => u.host = s.host
  | .jrn => u.jrn = s.jrn
  | .flt => u.flt = s.flt
  | .hbm => u.hbm = s.hbm
  | .cmp => u.cmp = s.cmp
  | .library => u.library = s.library
  | .tdm => ∀ k, (mget {} u.tdm k).butAssoc = (mget {} s.tdm k).butAssoc
  | .tdmAssoc => u.tdm = s.tdm
  | .mclkOff => u.mclkOff = s.mclkOff
  | .aud => u.aud = s.aud
  | .eth => u.eth = s.eth
  | .fls => u.fls = s.fls
  | .profile => u.profile = s.profile
  | .age => u.age = s.age
  | .mtx => u.mtx = s.mtx
  | .avs => u.avs = s.avs
  | .recs => u.ctl.recs = s.ctl.recs
  | .adopted => u.ctl.adopted = s.ctl.adopted
  | .stop => u.ctl.stop = s.ctl.stop
  | .lastId => u.ctl.lastId = s.ctl.lastId
  | .epoch => u.ctl.epoch = s.ctl.epoch
  | .pend => u.ctl.pend = s.ctl.pend
  | .routes => u.ctl.routes = s.ctl.routes
  | .fsync => u.ctl.fsync = s.ctl.fsync
  | .ref => u.ctl.ref = s.ctl.ref
  | .ctlRest => u.ctl.pair = s.ctl.pair ∧ u.ctl.served = s.ctl.served ∧ u.ctl.teams = s.ctl.teams ∧ u.ctl.rateWait = s.ctl.rateWait ∧
      u.ctl.mech = s.ctl.mech ∧ u.ctl.taps = s.ctl.taps ∧ u.ctl.asrc = s.ctl.asrc ∧ u.ctl.shed = s.ctl.shed
  | .refs => u.tim.refs = s.tim.refs
  | .timRest => { u.tim with refs := [] } = { s.tim with refs := [] }
  | .planes => u.pln.planes = s.pln.planes
  | .fs => u.pln.fs = s.pln.fs
  | .dst => u.pln.dst = s.pln.dst
  | .merge => u.pln.merge = s.pln.merge
  | .plnRest => { u.pln with planes := [], fs := [], dst := [], merge := [] } = { s.pln with planes := [], fs := [], dst := [], merge := [] }
  | .reqs => u.rst.reqs = s.rst.reqs
  | .rstRest => { u.rst with reqs := [] } = { s.rst with reqs := [] }
  | .links => ∀ k, (mget {} u.otl.links k).butCfg = (mget {} s.otl.links k).butCfg
  | .cfg => u.otl.links = s.otl.links
  | .lanes => u.otl.lanes = s.otl.lanes
  | .reverting => u.sec.reverting = s.sec.reverting
  | .revertAt => u.sec.revertAt = s.sec.revertAt
  | .secRest => { u.sec with reverting := none, revertAt := none } = { s.sec with reverting := none, revertAt := none }

/-- What may change: register fields by code, whole register blocks, and parts. -/
structure Foot where
  flds : List Fld := []
  blks : List Nat := []
  parts : List Part := []

/-- A field of code `c` may change. -/
def Foot.hits (W : Foot) (c : Nat) : Bool := W.blks.contains (codeBlk c) || W.flds.any fun g => c == g.code % 262144

/-- Everything that `V` lets change, `W` does. -/
def Foot.le (V W : Foot) : Bool :=
  (V.flds.all fun g => W.hits (g.code % 262144)) && (V.blks.all fun b => W.blks.contains b) && V.parts.all fun q => W.parts.contains q

/-- Nothing outside `W` differs between `s` and `u`. -/
structure Within (W : Foot) (s u : Dev) : Prop where
  fld : ∀ f i, W.hits (f.code % 262144) = false → getF u f i = getF s f i
  part : ∀ q, q ∉ W.parts → Same q s u

theorem Same.refl (q : Part) (s : Dev) : Same q s s := by
  cases q <;> simp [Same]

theorem Same.symm {q : Part} {s u : Dev} (h : Same q s u) : Same q u s := by
  cases q
  case ctlRest => simp only [Same] at h ⊢; simp [h]
  case tdm => exact fun k => (h k).symm
  case links => exact fun k => (h k).symm
  all_goals exact Eq.symm h

theorem Same.trans {q : Part} {s u v : Dev} (h : Same q s u) (k : Same q u v) : Same q s v := by
  cases q
  case ctlRest => simp only [Same] at h k ⊢; simp [h, k]
  case tdm => exact fun i => (k i).trans (h i)
  case links => exact fun i => (k i).trans (h i)
  all_goals exact Eq.trans k h

@[refl] theorem Within.refl (W : Foot) (s : Dev) : Within W s s := ⟨fun _ _ _ => rfl, fun q _ => .refl q s⟩

theorem Within.symm {W : Foot} {s u : Dev} (h : Within W s u) : Within W u s :=
  ⟨fun f i hf => (h.fld f i hf).symm, fun q hq => (h.part q hq).symm⟩

theorem Within.trans {W : Foot} {s u v : Dev} (h : Within W s u) (k : Within W u v) : Within W s v :=
  ⟨fun f i hf => (k.fld f i hf).trans (h.fld f i hf), fun q hq => (h.part q hq).trans (k.part q hq)⟩

theorem Foot.hits_of_le {V W : Foot} (h : V.le W = true) {c : Nat} (hc : V.hits c = true) : W.hits c = true := by
  simp only [Foot.le, Bool.and_eq_true, List.all_eq_true] at h
  simp only [Foot.hits, Bool.or_eq_true, List.any_eq_true, beq_iff_eq] at hc
  obtain hb | ⟨g, hg, rfl⟩ := hc
  · simp only [Foot.hits, h.1.2 _ (List.contains_iff_mem.mp hb), Bool.true_or]
  · exact h.1.1 g hg

theorem Within.mono {V W : Foot} {s u : Dev} (h : Within V s u) (hVW : V.le W = true) : Within W s u := by
  refine ⟨fun f i hf => h.fld f i ?_, fun q hq => h.part q fun hV => hq ?_⟩
  · by_contra hc
    exact Bool.false_ne_true (hf ▸ Foot.hits_of_le hVW (by simpa using hc))
  · simp only [Foot.le, Bool.and_eq_true, List.all_eq_true] at hVW
    exact List.contains_iff_mem.mp (hVW.2 q hV)

/-- A step within `V` may be left out of a chain within `W`. -/
theorem Within.skip {V W : Foot} {d s u : Dev} (h : Within V s u) (hVW : V.le W = true) : Within W d u ↔ Within W d s :=
  ⟨fun k => k.trans (h.mono hVW).symm, fun k => k.trans (h.mono hVW)⟩

@[simp] theorem within_self (W : Foot) (s : Dev) : Within W s s := .refl W s

@[simp] theorem within_ite (W : Foot) (d a b : Dev) (c : Prop) [Decidable c] :
    Within W d (if c then a else b) ↔ if c then Within W d a else Within W d b := by split <;> rfl

theorem within_foldl {α : Type} {W : Foot} (g : Dev → α → Dev) (h : ∀ s a, Within W s (g s a)) (l : List α) (s : Dev) :
    Within W s (l.foldl g s) := by
  induction l generalizing s with
  | nil => exact .refl W s
  | cons a r ih => exact (h s a).trans (ih _)

/-- A chain that ends with a fold. -/
@[simp] theorem within_foldl_skip {α : Type} {W : Foot} (d : Dev) (g : Dev → α → Dev) (l : List α) (s : Dev) (h : ∀ s a, Within W s (g s a)) :
    Within W d (l.foldl g s) ↔ Within W d s :=
  ⟨fun k => k.trans (within_foldl g h l s).symm, fun k => k.trans (within_foldl g h l s)⟩

/-! Register fields. -/

theorem within_setF {W : Foot} (s : Dev) (g : Fld) (j v : Nat) (h : W.hits (g.code % 262144) = true) : Within W s (setF s g j v) := by
  refine ⟨fun f i hf => getF_setF_code _ _ _ _ _ _ fun hc => ?_, fun q _ => by cases q <;> simp [Same]⟩
  rw [hc, h] at hf
  exact Bool.noConfusion hf

@[simp] theorem within_setF_skip {W : Foot} (d s : Dev) (g : Fld) (j v : Nat) (h : W.hits (g.code % 262144) = true) :
    Within W d (setF s g j v) ↔ Within W d s :=
  ⟨fun k => k.trans (within_setF s g j v h).symm, fun k => k.trans (within_setF s g j v h)⟩

@[simp] theorem within_satAdd_skip {W : Foot} (d s : Dev) (g : Fld) (j n : Nat) (h : W.hits (g.code % 262144) = true) :
    Within W d (satAdd s g j n) ↔ Within W d s := within_setF_skip _ _ _ _ _ h

@[simp] theorem within_setFs_skip {W : Foot} (d s : Dev) (j : Nat) (l : List (Fld × Nat)) (h : ∀ q ∈ l, W.hits (q.1.code % 262144) = true) :
    Within W d (setFs s j l) ↔ Within W d s := by
  induction l generalizing s with
  | nil => rfl
  | cons a r ih =>
    rw [setFs, ih _ fun q hq => h q (List.mem_cons_of_mem _ hq), within_setF_skip _ _ _ _ _ (h a List.mem_cons_self)]

@[simp] theorem Foot.hits_ite (W : Foot) (c : Prop) [Decidable c] (f g : Fld) :
    W.hits ((if c then f else g).code % 262144) = if c then W.hits (f.code % 262144) else W.hits (g.code % 262144) := by split <;> rfl

/-- A register file from which entries of `W` alone are dropped. -/
theorem within_filterRegs {W : Foot} (d s : Dev) (q : Nat × Nat → Bool) (h : ∀ e, q e = false → W.hits (e.1 % 262144) = true) :
    Within W d { s with regs := s.regs.filter q } ↔ Within W d s := by
  suffices hs : Within W s { s with regs := s.regs.filter q } from ⟨fun k => k.trans hs.symm, fun k => k.trans hs⟩
  refine ⟨fun f i hf => mget_filter _ _ _ _ fun v => ?_, fun q _ => by cases q <;> simp [Same]⟩
  by_contra hq
  have hk := h (fkey f i, v) (by simpa using hq)
  rw [show fkey f i % 262144 = f.code % 262144 by unfold fkey; omega, hf] at hk
  exact Bool.noConfusion hk

end Sys2Proof.Machine
end

section
/-! Footprints of the shared operations: events, completions, the journal, resets, fences and the error lines. -/

namespace Sys2Proof.Machine

open Sys2Proof.Claims

/-- A device that differs from `s` in some parts: each part is the same or may change. -/
@[simp] theorem within_mk_skip {W : Foot} (d s : Dev) {now out freeCtr latches holds host ctl jrn tim pln rst flt otl hbm cmp library tdm mclkOff aud
      eth fls profile sec age mtx avs}
    (h_now : now = s.now ∨ .now ∈ W.parts) (h_out : out = s.out ∨ .out ∈ W.parts) (h_free : freeCtr = s.freeCtr ∨ .freeCtr ∈ W.parts)
    (h_lat : latches = s.latches ∨ .latches ∈ W.parts) (h_hold : holds = s.holds ∨ .holds ∈ W.parts)
    (h_host : host = s.host ∨ .host ∈ W.parts) (h_jrn : jrn = s.jrn ∨ .jrn ∈ W.parts) (h_flt : flt = s.flt ∨ .flt ∈ W.parts)
    (h_hbm : hbm = s.hbm ∨ .hbm ∈ W.parts) (h_cmp : cmp = s.cmp ∨ .cmp ∈ W.parts) (h_lib : library = s.library ∨ .library ∈ W.parts)
    (h_tdm : tdm = s.tdm ∨ .tdm ∈ W.parts ∧ .tdmAssoc ∈ W.parts) (h_mclk : mclkOff = s.mclkOff ∨ .mclkOff ∈ W.parts)
    (h_aud : aud = s.aud ∨ .aud ∈ W.parts) (h_eth : eth = s.eth ∨ .eth ∈ W.parts) (h_fls : fls = s.fls ∨ .fls ∈ W.parts)
    (h_prof : profile = s.profile ∨ .profile ∈ W.parts) (h_age : age = s.age ∨ .age ∈ W.parts) (h_mtx : mtx = s.mtx ∨ .mtx ∈ W.parts)
    (h_avs : avs = s.avs ∨ .avs ∈ W.parts)
    (h_recs : ctl.recs = s.ctl.recs ∨ .recs ∈ W.parts) (h_adopted : ctl.adopted = s.ctl.adopted ∨ .adopted ∈ W.parts)
    (h_stop : ctl.stop = s.ctl.stop ∨ .stop ∈ W.parts) (h_last : ctl.lastId = s.ctl.lastId ∨ .lastId ∈ W.parts)
    (h_epoch : ctl.epoch = s.ctl.epoch ∨ .epoch ∈ W.parts) (h_pend : ctl.pend = s.ctl.pend ∨ .pend ∈ W.parts)
    (h_routes : ctl.routes = s.ctl.routes ∨ .routes ∈ W.parts) (h_fsync : ctl.fsync = s.ctl.fsync ∨ .fsync ∈ W.parts)
    (h_ref : ctl.ref = s.ctl.ref ∨ .ref ∈ W.parts)
    (h_ctl : (ctl.pair = s.ctl.pair ∧ ctl.served = s.ctl.served ∧ ctl.teams = s.ctl.teams ∧ ctl.rateWait = s.ctl.rateWait ∧
      ctl.mech = s.ctl.mech ∧ ctl.taps = s.ctl.taps ∧ ctl.asrc = s.ctl.asrc ∧ ctl.shed = s.ctl.shed) ∨ .ctlRest ∈ W.parts)
    (h_refs : tim.refs = s.tim.refs ∨ .refs ∈ W.parts)
    (h_tim : { tim with refs := [] } = { s.tim with refs := [] } ∨ .timRest ∈ W.parts)
    (h_planes : pln.planes = s.pln.planes ∨ .planes ∈ W.parts) (h_fs : pln.fs = s.pln.fs ∨ .fs ∈ W.parts)
    (h_dst : pln.dst = s.pln.dst ∨ .dst ∈ W.parts) (h_merge : pln.merge = s.pln.merge ∨ .merge ∈ W.parts)
    (h_pln : { pln with planes := [], fs := [], dst := [], merge := [] } = { s.pln with planes := [], fs := [], dst := [], merge := [] } ∨
      .plnRest ∈ W.parts)
    (h_reqs : rst.reqs = s.rst.reqs ∨ .reqs ∈ W.parts) (h_rst : { rst with reqs := [] } = { s.rst with reqs := [] } ∨ .rstRest ∈ W.parts)
    (h_links : otl.links = s.otl.links ∨ .links ∈ W.parts ∧ .cfg ∈ W.parts) (h_lanes : otl.lanes = s.otl.lanes ∨ .lanes ∈ W.parts)
    (h_rev : sec.reverting = s.sec.reverting ∨ .reverting ∈ W.parts) (h_revAt : sec.revertAt = s.sec.revertAt ∨ .revertAt ∈ W.parts)
    (h_sec : { sec with reverting := none, revertAt := none } = { s.sec with reverting := none, revertAt := none } ∨ .secRest ∈ W.parts) :
    Within W d (Dev.mk s.regs now out freeCtr latches holds host ctl jrn tim pln rst flt otl hbm cmp library tdm mclkOff aud eth fls profile sec
      age mtx avs) ↔ Within W d s := by
  suffices h : Within W s (Dev.mk s.regs now out freeCtr latches holds host ctl jrn tim pln rst flt otl hbm cmp library tdm mclkOff aud eth fls
      profile sec age mtx avs) from ⟨fun k => k.trans h.symm, fun k => k.trans h⟩
  refine ⟨fun _ _ _ => rfl, fun q hq => ?_⟩
  cases q <;> simp only [Same] <;> simp_all

@[simp] theorem within_modCtl {W : Foot} (d s : Dev) (g : Ctl → Ctl) : Within W d (modCtl s g) ↔ Within W d { s with ctl := g s.ctl } := Iff.rfl

@[simp] theorem within_at {W : Foot} (d s : Dev) (t : Nat) (h : .now ∈ W.parts) : Within W d (s.at t) ↔ Within W d s := by
  simp [Dev.at, h]

/-! The footprints. -/

/-- An output. -/
def outFoot : Foot := { parts := [.out] }

/-- A free value taken (log entry 7). -/
def freeFoot : Foot := { parts := [.freeCtr] }

/-- The host rings' state. -/
def hostFoot : Foot := { parts := [.host] }

/-- A message or a write-back (R325, R332). -/
def sigFoot : Foot := { parts := [.out, .host] }

/-- An event: where the event rings stand, the host rings and the outputs (R334). -/
def evtFoot : Foot := { flds := [F.HIF_EVT_STAT_PROD, F.HIF_EVT_STAT_LOST], parts := [.out, .host] }

/-- Completions written (R330, R339). -/
def cplFoot : Foot := { flds := [F.CPL_PROD_PROD, F.CPL_STAT_BACKLOG], parts := [.out, .host] }

/-- A journal record. -/
def recsFoot : Foot := { parts := [.recs] }

/-- A decision: its record, its completion and its ring's stop (R328, R360). -/
def decFoot : Foot := { flds := [F.CPL_PROD_PROD, F.CPL_STAT_BACKLOG], parts := [.out, .host, .recs, .stop] }

/-- A JSN taken, and what the journal counts (R357, R358). -/
def jrnFoot : Foot := { flds := [F.JRN_HEAD_HEAD_JSN, F.JRN_STAT_FULL], parts := [.jrn] }

/-- An asserted reset source (R446 to R451). -/
def resetFoot : Foot :=
  { flds := [F.FUSE_STAT_VALID], blks := [blkRst], parts := [.jrn, .reqs, .rstRest] }

/-- The list of reset sources. -/
def reqsFoot : Foot := { parts := [.reqs] }

/-- An event on an error line with its reactions (R472 to R482). -/
def faultFoot : Foot :=
  { flds := [F.FLS_STAT_STATE, F.PLN_STATE_STATE, F.PLN_STATE_TILE_FAIL, F.PLN_STATE_HBM_FAIL, F.PLN_STATE_COL_FAIL, F.HIF_EVT_STAT_PROD,
      F.HIF_EVT_STAT_LOST],
    blks := [blkSys, blkRst, blkFlt, blkBelay, blkJrn, blkFuse],
    parts := [.epoch, .flt, .host, .jrn, .out, .planes, .reqs, .rstRest, .reverting] }

/-- A HIF that changes state: latched doorbells, completions and events that go on (R318, R319). -/
def moveFoot : Foot :=
  { flds := [F.CPL_CONS_CONS, F.CPL_PROD_PROD, F.CPL_STAT_BACKLOG, F.CRING_PROD_PROD, F.HIF_EVT_STAT_CONS, F.HIF_EVT_STAT_PROD, F.HIF_EVT_STAT_LOST,
      F.HIF_STAT_STATE],
    parts := [.out, .host, .recs] }

/-- The ring commands (R315 to R340). -/
def ringFoot : Foot := { flds := ringFields, parts := [.now, .out, .host, .recs, .adopted, .stop] }

/-- COMMAND_ACCEPT (R325 to R328). -/
def acceptFoot : Foot := { flds := jrnFields ++ ringFields, parts := [.now, .out, .host, .jrn, .recs, .stop, .lastId] }

/-- HIF_PERST (R336). -/
def perstFoot : Foot := { blks := [blkHif], parts := [.now, .out, .host, .reqs, .recs] }

/-- The pending list, and a decision (R81, R360). -/
def pendFoot : Foot := { decFoot with parts := .pend :: decFoot.parts }

/-- PENDING of the destinations (R92). -/
def pendingFoot : Foot := { flds := [F.PLN_DSTSTAT_PENDING] }

/-- A mechanism's stored configuration (R362). -/
def mechFoot : Foot := { parts := [.ctlRest] }

/-- Output state of destinations, and the events it raises. -/
def dstFoot : Foot := { flds := evtFields, parts := [.out, .host, .dst] }

/-- A destination's evaluation (R92). -/
def evalFoot : Foot :=
  { flds := [F.PLN_DSTSTAT_TEAM, F.PLN_DSTSTAT_IN_TEAM, F.PLN_DSTSTAT_HELD, F.PLN_DSTSTAT_CONCEALING, F.PLN_DSTSTAT_CAUSE] ++ evtFields,
    parts := [.out, .host, .dst] }

/-- The load registers (R107). -/
def loadFoot : Foot :=
  { flds := [F.PLN_BAND_COMP_RUN, F.PLN_LOAD_ACTIVE_ACTIVE, F.PLN_LOAD_NONSHED_NONSHED, F.PLN_LOAD_TOTAL_TOTAL, F.PLN_PAGES_USED] }

/-- The compositors' engine. -/
def cmpFoot : Foot := { parts := [.cmp] }

/-- The synchronisers' engine, and the events it raises. -/
def fsFoot : Foot := { flds := evtFields, parts := [.out, .host, .fs] }

/-- The planes' states. -/
def planePartFoot : Foot := { parts := [.planes] }

/-- The synchronisers' engine. -/
def fsPartFoot : Foot := { parts := [.fs] }

/-- What PLN_FSSTAT shows of a synchroniser, and PLN_SRCSTAT of a generator or compositor. -/
def fsStatFoot : Foot :=
  { flds := [F.PLN_FSSTAT_MODE, F.PLN_FSSTAT_PAGES, F.PLN_FSSTAT_PRIO, F.PLN_FSSTAT_SHED, F.PLN_FSSTAT_SHEDDABLE, F.PLN_SRCPOS_OFFSET,
      F.PLN_SRCSTAT_FORMAT, F.PLN_SRCSTAT_FRAC, F.PLN_SRCSTAT_IFACE, F.PLN_SRCSTAT_KIND, F.PLN_SRCSTAT_RATE_MISMATCH] }

/-- A completed frame of a synchroniser (R100). -/
def fillFoot : Foot := { flds := [F.PLN_FSSTAT_FILL], parts := [.fs] }

/-- An underrun (R115). -/
def underFoot : Foot := { flds := F.PLN_UNDERRUN_CNT_COUNT :: evtFields, parts := [.now, .out, .host, .fs, .dst] }

/-- The monitored references. -/
def refsFoot : Foot := { parts := [.refs] }

/-- The lanes' engine, and a lane's stage. -/
def lanesFoot : Foot := { flds := [F.LANE_STAT_STAGE], parts := [.lanes] }

/-- The links' engine. -/
def linksFoot : Foot := { parts := [.links, .cfg] }

/-- The CFG items of the links (R251). -/
def cfgFoot : Foot := { parts := [.out, .cfg] }

/-- The merge's own state and counts. -/
def mergeCoreFoot : Foot := { flds := mergeFields, parts := [.merge] }

/-- The merge (R127 to R133). -/
def mergeFoot : Foot := { flds := mergeFields, parts := [.now, .merge, .links, .cfg] }

/-- The egress (R247). -/
def egressFoot : Foot := { mergeFoot with parts := .out :: mergeFoot.parts }

/-- A TDM port that runs or restarts (R221 to R236). -/
def tdmPortFoot : Foot := { blks := [blkTdm], flds := evtFields, parts := [.now, .out, .freeCtr, .host, .tdm, .tdmAssoc, .mclkOff] }

/-- A TDM port's restart: no clock flag with it. -/
def restartFoot : Foot := { blks := [blkTdm], parts := [.out, .tdm, .tdmAssoc] }

/-- The audio engine's state. -/
def audFoot : Foot := { parts := [.aud] }

/-- The free sample-rate converters (R215). -/
def asrcFoot : Foot := { flds := [F.AUD_ASRC_FREE] }

/-- AUDIO_FLOW_UNTIMED (R213). -/
def untimedFoot : Foot := { flds := [F.AUD_SRCSTAT_UNTIMED], parts := [.now, .aud] }

/-- ASRC_LOCK (R215). -/
def asrcLockFoot : Foot := { flds := [F.AUD_SRCSTAT_ASRC_LOCKED], parts := [.now, .aud] }

/-- The commands of the DPLL and its references (R49 to R72). -/
def refFoot : Foot := { blks := [blkDpll], flds := jrnFields ++ evtFields, parts := [.now, .out, .host, .jrn, .refs, .timRest] }

/-- The commands of sources and synchronisers (R42 to R48, R100 to R115). -/
def syncFoot : Foot := { flds := srcFields ++ evtFields, parts := [.now, .out, .host, .planes, .fs, .dst, .merge, .plnRest, .cfg] }

/-- The commands of links and lanes (R241 to R289). -/
def linkFoot : Foot := { blks := [blkTile, blkLane], flds := evtFields, parts := [.now, .out, .host, .links, .cfg, .lanes, .refs] }

/-- The commands of the Ethernet ports (R290 to R314). -/
def ethFoot : Foot :=
  { blks := [blkMac, blkLane], flds := F.PLN_FSSTAT_FILL :: mergeFields ++ evtFields,
    parts := [.now, .out, .host, .eth, .merge, .fs, .lanes] }

/-- The commands of the always-on domain, the stacks, the flash store and the monitors. -/
def mgmtFoot : Foot :=
  { blks := [blkSys, blkRst, blkFlt, blkBelay, blkJrn, blkSec, blkFls, blkPeer, blkAge, blkFuse, blkHbm], flds := managementFields,
    parts := [.now, .out, .host, .jrn, .reqs, .rstRest, .flt, .fls, .hbm, .avs, .age, .freeCtr, .profile, .reverting, .revertAt, .epoch,
      .planes, .fs, .dst] }

/-- Every register block but the control matrix. -/
def dataBlks : List Nat :=
  [blkSys, blkRst, blkFlt, blkBelay, blkHif, blkJrn, blkSec, blkFls, blkDpll, blkTdm, blkPeer, blkAge, blkFuse, blkPln, blkTile, blkHbm, blkAud,
   blkCmp, blkMac, blkLane]

/-- What a command due at a destination may change, its route apart (R82). -/
def switchFoot : Foot :=
  { blks := dataBlks,
    parts := [.out, .host, .recs, .adopted, .stop, .lastId, .epoch, .pend, .fsync, .ref, .ctlRest, .jrn, .planes, .fs, .dst, .merge,
      .plnRest, .reqs, .rstRest, .flt, .reverting, .revertAt, .secRest, .tdmAssoc] }

/-- The route entries. -/
def routesFoot : Foot := { parts := [.routes] }

/-- A command due at a destination (R82). -/
def dueFoot : Foot := { switchFoot with parts := .routes :: switchFoot.parts }

/-- A switching instant (R82). -/
def instantFoot : Foot := { dueFoot with parts := .now :: dueFoot.parts }

/-- A switching instant with the CFG items that follow it (R251). -/
def slotFoot : Foot := { instantFoot with parts := .cfg :: instantFoot.parts }

/-- A compositor's prefetch instant (R150). -/
def prefetchFoot : Foot :=
  { blks := dataBlks,
    parts := [.now, .out, .host, .recs, .adopted, .stop, .lastId, .epoch, .pend, .fsync, .ref, .ctlRest, .jrn, .planes, .fs, .dst, .merge,
      .plnRest, .reqs, .rstRest, .flt, .cmp, .reverting, .revertAt, .secRest] }

/-- A plane that trains, fails or returns (R121, R142). -/
def planeFoot : Foot :=
  { blks := dataBlks,
    parts := [.now, .out, .host, .epoch, .jrn, .planes, .fs, .dst, .merge, .plnRest, .reqs, .rstRest, .flt, .cmp, .reverting] }

/-- A grid instant of the audio engine but for the audio state: the TDM ports and the commands that fall due (R200, R234). -/
def tdmSetFoot : Foot :=
  { blks := dataBlks,
    parts := [.now, .out, .freeCtr, .host, .recs, .adopted, .stop, .lastId, .epoch, .pend, .ctlRest, .jrn, .planes, .fs, .dst, .merge, .plnRest,
      .reqs, .rstRest, .flt, .reverting, .revertAt, .secRest, .tdm, .tdmAssoc] }

/-- The TDM ports' commands (R221 to R236). -/
def tdmFoot : Foot := { tdmSetFoot with parts := .mclkOff :: tdmSetFoot.parts }

/-- A grid instant (R200). -/
def gridFoot : Foot := { tdmSetFoot with parts := .aud :: tdmSetFoot.parts }

/-- The control matrix's fields that R503 does not guard. -/
def freeMtxFields : List Fld := 
  [F.MTX_CTRL_AGE, F.MTX_CTRL_REMAP_HIF1, F.MTX_CTRL_REMAP_HIF0, F.MTX_CTRL_REMAP_PP1, F.MTX_CTRL_REMAP_PP0, F.MTX_QOS_BELAY,
   F.MTX_QOS_FLS, F.MTX_QOS_SEC, F.MTX_QOS_JRN, F.MTX_QOS_HIF1, F.MTX_QOS_HIF0, F.MTX_QOS_PP1, F.MTX_QOS_PP0,
   F.MTX_ERR_INFO_VALID, F.MTX_ERR_INFO_KIND, F.MTX_ERR_INFO_WRITE, F.MTX_ERR_INFO_MASTER, F.MTX_ERR_ADDR_ADDR,
   F.MTX_ERRCNT_COUNT, F.MTX_STAT_LOCK_ERR]

/-- Every part of the device. -/
def allParts : List Part :=
  [.now, .out, .freeCtr, .latches, .holds, .host, .jrn, .flt, .hbm, .cmp, .library, .tdm, .tdmAssoc, .mclkOff, .aud, .eth, .fls, .profile, .age,
   .mtx, .avs, .recs, .adopted, .stop, .lastId, .epoch, .pend, .routes, .fsync, .ref, .ctlRest, .refs, .timRest, .planes, .fs, .dst, .merge,
   .plnRest, .reqs, .rstRest, .links, .cfg, .lanes, .reverting, .revertAt, .secRest]

/-- Everything but what R503 guards: LOCK and the windows. -/
def anyFoot : Foot := { blks := (List.range 32).erase blkMtx, flds := freeMtxFields, parts := allParts }

end Sys2Proof.Machine
end

section
/-! Footprints of the shared operations: events, completions, the journal, resets, fences and the error lines. -/

namespace Sys2Proof.Machine

variable {W : Foot}

@[simp] theorem within_emit (d s : Dev) (o : Out) (h : outFoot.le W = true) : Within W d (emit s o) ↔ Within W d s := by
  refine Within.skip (V := outFoot) ?_ h
  unfold emit
  simp (decide := true)

@[simp] theorem within_emits (d s : Dev) (os : List Out) (h : outFoot.le W = true) : Within W d (emits s os) ↔ Within W d s := by
  refine Within.skip (V := outFoot) ?_ h
  unfold emits
  simp (decide := true)

@[simp] theorem within_takeFree (d s : Dev) (w : ℕ) (h : freeFoot.le W = true) : Within W d (takeFree s w).2 ↔ Within W d s := by
  refine Within.skip (V := freeFoot) ?_ h
  unfold takeFree
  simp (decide := true)

@[simp] theorem within_setRing (d s : Dev) (k r : ℕ) (x : RingSt) (h : hostFoot.le W = true) : Within W d (setRing s k r x) ↔ Within W d s := by
  refine Within.skip (V := hostFoot) ?_ h
  unfold setRing
  simp (decide := true)

@[simp] theorem within_setHif (d s : Dev) (k : ℕ) (x : HifSt) (h : hostFoot.le W = true) : Within W d (setHif s k x) ↔ Within W d s := by
  refine Within.skip (V := hostFoot) ?_ h
  unfold setHif
  simp (decide := true)

@[simp] theorem within_sendMsix (d s : Dev) (k v : ℕ) (h : sigFoot.le W = true) : Within W d (sendMsix s k v) ↔ Within W d s := by
  refine Within.skip (V := sigFoot) ?_ h
  unfold sendMsix
  simp (decide := true) [↓within_ite]

@[simp] theorem within_putEvent (d s : Dev) (k entry : ℕ) (h : evtFoot.le W = true) : Within W d (putEvent s k entry) ↔ Within W d s := by
  refine Within.skip (V := evtFoot) ?_ h
  unfold putEvent
  simp (decide := true) [↓within_ite]

@[simp] theorem within_offerEvent (d s : Dev) (k code entry : ℕ) (h : evtFoot.le W = true) :
    Within W d (offerEvent s k code entry) ↔ Within W d s := by
  refine Within.skip (V := evtFoot) ?_ h
  unfold offerEvent
  simp (decide := true) [↓within_ite]

@[simp] theorem within_raise (d s : Dev) (code src jsn detail : ℕ) (h : evtFoot.le W = true) :
    Within W d (raise s code src jsn detail) ↔ Within W d s := by
  refine Within.skip (V := evtFoot) ?_ h
  unfold raise
  simp (decide := true) [↓within_ite]

@[simp] theorem within_writeBack (d s : Dev) (k r : ℕ) (h : sigFoot.le W = true) : Within W d (writeBack s k r) ↔ Within W d s := by
  refine Within.skip (V := sigFoot) ?_ h
  unfold writeBack
  simp (decide := true) [↓within_ite]

@[simp] theorem within_signalRing (d s : Dev) (k r : ℕ) (h : sigFoot.le W = true) : Within W d (signalRing s k r) ↔ Within W d s := by
  refine Within.skip (V := sigFoot) ?_ h
  unfold signalRing
  simp (decide := true)

@[simp] theorem within_writeCpl (d s : Dev) (k r : ℕ) (c : Cpl) (h : cplFoot.le W = true) : Within W d (writeCpl s k r c) ↔ Within W d s := by
  refine Within.skip (V := cplFoot) ?_ h
  unfold writeCpl
  simp (decide := true) [↓within_ite]

@[simp] theorem within_deliverList (d s : Dev) (k r : ℕ) (cs : List Cpl) (h : cplFoot.le W = true) :
    Within W d (deliverList k r cs s).1 ↔ Within W d s := by
  refine Within.skip (V := cplFoot) ?_ h
  induction cs generalizing s with
  | nil => rfl
  | cons c cs ih =>
    simp only [deliverList, apply_ite Prod.fst, within_ite]
    split
    · exact ((within_writeCpl s s k r c (by decide)).mpr (.refl _ _)).trans (ih _)
    · exact ih s

@[simp] theorem within_deliver (d s : Dev) (k r : ℕ) (h : cplFoot.le W = true) : Within W d (deliver s k r) ↔ Within W d s := by
  refine Within.skip (V := cplFoot) ?_ h
  unfold deliver
  simp (decide := true) [↓within_ite]

@[simp] theorem within_deliverAll (d s : Dev) (h : cplFoot.le W = true) : Within W d (deliverAll s) ↔ Within W d s := by
  refine Within.skip (V := cplFoot) ?_ h
  unfold deliverAll
  simp (decide := true)

@[simp] theorem within_modRec (d s : Dev) (jsn : ℕ) (f : JRec → JRec) (h : recsFoot.le W = true) : Within W d (modRec s jsn f) ↔ Within W d s := by
  refine Within.skip (V := recsFoot) ?_ h
  unfold modRec
  simp (decide := true)

@[simp] theorem within_queueCpls (d s : Dev) (k r : ℕ) (cs : List Cpl) (h : cplFoot.le W = true) :
    Within W d (queueCpls s k r cs) ↔ Within W d s := by
  refine Within.skip (V := cplFoot) ?_ h
  unfold queueCpls
  simp (decide := true)

@[simp] theorem within_queueDup (d s : Dev) (k r : ℕ) (c : Cpl) (h : cplFoot.le W = true) : Within W d (queueDup s k r c) ↔ Within W d s := by
  refine Within.skip (V := cplFoot) ?_ h
  unfold queueDup
  simp (decide := true)

@[simp] theorem within_decideCmd (d s : Dev) (jsn status applied detail : ℕ) (h : decFoot.le W = true) :
    Within W d (decideCmd s jsn status applied detail) ↔ Within W d s := by
  refine Within.skip (V := decFoot) ?_ h
  unfold decideCmd
  split
  · rfl
  · simp (decide := true) [↓within_ite]

@[simp] theorem within_nextJsn (d s : Dev) (h : jrnFoot.le W = true) : Within W d (nextJsn s).2 ↔ Within W d s := by
  refine Within.skip (V := jrnFoot) ?_ h
  unfold nextJsn
  simp (decide := true)

@[simp] theorem within_journal (d s : Dev) (n : ℕ) (h : jrnFoot.le W = true) : Within W d (journal s n) ↔ Within W d s := by
  refine Within.skip (V := jrnFoot) ?_ h
  unfold journal
  simp (decide := true) [↓within_ite]

@[simp] theorem within_fwAction (d s : Dev) (h : jrnFoot.le W = true) : Within W d (fwAction s).2 ↔ Within W d s := by
  refine Within.skip (V := jrnFoot) ?_ h
  unfold fwAction
  simp (decide := true)

@[simp] theorem within_setPlaneSt (d s : Dev) (p : ℕ) (x : PlaneSt) (h : planePartFoot.le W = true) :
    Within W d (setPlaneSt s p x) ↔ Within W d s := by
  refine Within.skip (V := planePartFoot) ?_ h
  unfold setPlaneSt
  simp (decide := true)

@[simp] theorem within_setPp (d s : Dev) (n v : ℕ) (h : faultFoot.le W = true) : Within W d (setPp s n v) ↔ Within W d s := by
  refine Within.skip (V := faultFoot) ?_ h
  unfold setPp
  simp (decide := true)

@[simp] theorem within_syncDegraded (d s : Dev) (h : faultFoot.le W = true) : Within W d (syncDegraded s) ↔ Within W d s := by
  refine Within.skip (V := faultFoot) ?_ h
  unfold syncDegraded
  simp (decide := true)

@[simp] theorem within_historyWindow (d s : Dev) (h : faultFoot.le W = true) : Within W d (historyWindow s) ↔ Within W d s := by
  refine Within.skip (V := faultFoot) ?_ h
  unfold historyWindow
  simp (decide := true)

@[simp] theorem within_syncFltMode (d s : Dev) (h : faultFoot.le W = true) : Within W d (syncFltMode s) ↔ Within W d s := by
  refine Within.skip (V := faultFoot) ?_ h
  unfold syncFltMode
  simp (decide := true) only [setFs, within_setF_skip, within_self]

@[simp] theorem within_setDev (d s : Dev) (v : ℕ) (h : faultFoot.le W = true) : Within W d (setDev s v) ↔ Within W d s := by
  refine Within.skip (V := faultFoot) ?_ h
  unfold setDev
  simp (decide := true)

@[simp] theorem within_setPlane (d s : Dev) (p v cause : ℕ) (jsn : optParam ℕ 0) (h : faultFoot.le W = true) :
    Within W d (setPlane s p v cause jsn) ↔ Within W d s := by
  refine Within.skip (V := faultFoot) ?_ h
  unfold setPlane
  simp (decide := true) only [↓within_ite, within_syncDegraded, within_raise, within_setPlaneSt, within_setF_skip, within_self, ite_self]

@[simp] theorem within_abortFuse (d s : Dev) (h : resetFoot.le W = true) : Within W d (abortFuse s) ↔ Within W d s := by
  refine Within.skip (V := resetFoot) ?_ h
  unfold abortFuse
  simp (decide := true)

theorem causeField_hits {src reach : Nat} {g : Fld} (h : causeField src reach = some g) : resetFoot.hits (g.code % 262144) = true := by
  unfold causeField at h
  split at h
  case h_4 | h_6 =>
    obtain rfl := Option.some.inj h
    split <;> decide
  case h_9 => cases h
  all_goals
    obtain rfl := Option.some.inj h
    decide

@[simp] theorem within_assertReset (d s : Dev) (reach unit src : ℕ) (pulse : Bool) (h : resetFoot.le W = true) :
    Within W d (assertReset s reach unit src pulse) ↔ Within W d s := by
  refine Within.skip (V := resetFoot) ?_ h
  unfold assertReset
  cases hc : causeField src reach with
  | none => simp (decide := true) [↓within_ite]
  | some g => simp (decide := true) [↓within_ite, causeField_hits hc]

@[simp] theorem within_releaseReset (d s : Dev) (reach unit src : ℕ) (h : reqsFoot.le W = true) :
    Within W d (releaseReset s reach unit src) ↔ Within W d s := by
  refine Within.skip (V := reqsFoot) ?_ h
  unfold releaseReset
  simp (decide := true)

@[simp] theorem within_dropReset (d s : Dev) (reach unit src : ℕ) (h : reqsFoot.le W = true) :
    Within W d (dropReset s reach unit src) ↔ Within W d s := by
  refine Within.skip (V := reqsFoot) ?_ h
  unfold dropReset
  simp (decide := true)

@[simp] theorem within_enteredReset (d s : Dev) (reach unit src : ℕ) (h : reqsFoot.le W = true) :
    Within W d (enteredReset s reach unit src) ↔ Within W d s := by
  refine Within.skip (V := reqsFoot) ?_ h
  unfold enteredReset
  simp (decide := true)

@[simp] theorem within_faultHalt (d s : Dev) (h : faultFoot.le W = true) : Within W d (faultHalt s) ↔ Within W d s := by
  refine Within.skip (V := faultFoot) ?_ h
  unfold faultHalt
  simp (decide := true)

@[simp] theorem within_markRevert (d s : Dev) (cause : ℕ) (h : faultFoot.le W = true) : Within W d (markRevert s cause) ↔ Within W d s := by
  refine Within.skip (V := faultFoot) ?_ h
  unfold markRevert
  simp (decide := true) [↓within_ite]

@[simp] theorem within_undegrade (d s : Dev) (p : ℕ) (h : faultFoot.le W = true) : Within W d (undegrade s p) ↔ Within W d s := by
  refine Within.skip (V := faultFoot) ?_ h
  unfold undegrade
  simp (decide := true) [↓within_ite]

@[simp] theorem within_fence (d s : Dev) (cause : ℕ) (h : faultFoot.le W = true) : Within W d (fence s cause) ↔ Within W d s := by
  refine Within.skip (V := faultFoot) ?_ h
  unfold fence
  simp (decide := true) [↓within_ite]

@[simp] theorem within_degradePlane (d s : Dev) (p cause : ℕ) (h : faultFoot.le W = true) : Within W d (degradePlane s p cause) ↔ Within W d s := by
  refine Within.skip (V := faultFoot) ?_ h
  unfold degradePlane
  simp (decide := true) [↓within_ite]

@[simp] theorem within_outOfService (d s : Dev) (b : ℕ) (h : faultFoot.le W = true) : Within W d (outOfService s b) ↔ Within W d s := by
  refine Within.skip (V := faultFoot) ?_ h
  unfold outOfService
  simp (decide := true) [↓within_ite]

@[simp] theorem within_planeReaction (d s : Dev) (p src : ℕ) (h : faultFoot.le W = true) : Within W d (planeReaction s p src) ↔ Within W d s := by
  refine Within.skip (V := faultFoot) ?_ h
  unfold planeReaction
  simp (decide := true) [↓within_ite]

@[simp] theorem within_react (d s : Dev) (b act : ℕ) (h : faultFoot.le W = true) : Within W d (react s b act) ↔ Within W d s := by
  refine Within.skip (V := faultFoot) ?_ h
  unfold react
  simp (decide := true) [↓within_ite]

@[simp] theorem within_driveFaultN (d s : Dev) (h : outFoot.le W = true) : Within W d (driveFaultN s) ↔ Within W d s := by
  refine Within.skip (V := outFoot) ?_ h
  unfold driveFaultN
  simp (decide := true)

@[simp] theorem within_capture (d s : Dev) (b cause sub : ℕ) (h : faultFoot.le W = true) : Within W d (capture s b cause sub).2 ↔ Within W d s := by
  refine Within.skip (V := faultFoot) ?_ h
  unfold capture
  simp (decide := true) [↓within_ite, apply_ite Prod.snd]

@[simp] theorem within_logFault (d s : Dev) (b entry : ℕ) (h : faultFoot.le W = true) : Within W d (logFault s b entry) ↔ Within W d s := by
  refine Within.skip (V := faultFoot) ?_ h
  unfold logFault
  simp (decide := true) [↓within_ite]

@[simp] theorem within_faultEvent (d s : Dev) (b cause sub : ℕ) (h : faultFoot.le W = true) :
    Within W d (faultEvent s b cause sub) ↔ Within W d s := by
  refine Within.skip (V := faultFoot) ?_ h
  unfold faultEvent
  simp (decide := true) [↓within_ite]

end Sys2Proof.Machine
end

section
/-! Footprints of the host rings (R315 to R340). -/

namespace Sys2Proof.Machine

open Sys2Proof.Claims

variable {W : Foot}

@[simp] theorem within_doorbellOk (d s : Dev) (k r value size : ℕ) (h : ringFoot.le W = true) :
    Within W d (doorbellOk s k r value size).2 ↔ Within W d s := by
  refine Within.skip (V := ringFoot) ?_ h
  unfold doorbellOk
  simp (decide := true) [↓within_ite, apply_ite Prod.snd]

@[simp] theorem within_commandDoorbell (d s : Dev) (k r value : ℕ) (h : ringFoot.le W = true) :
    Within W d (commandDoorbell s k r value) ↔ Within W d s := by
  refine Within.skip (V := ringFoot) ?_ h
  unfold commandDoorbell
  simp (decide := true) [↓within_ite]

@[simp] theorem within_consumeCpl (d s : Dev) (k r value : ℕ) (h : moveFoot.le W = true) : Within W d (consumeCpl s k r value) ↔ Within W d s := by
  refine Within.skip (V := moveFoot) ?_ h
  unfold consumeCpl
  simp (decide := true) [↓within_setF_skip, ↓within_modCtl, ↓within_setRing, ↓within_deliver, ↓within_mk_skip]

@[simp] theorem within_completionDoorbell (d s : Dev) (k r value : ℕ) (h : ringFoot.le W = true) :
    Within W d (completionDoorbell s k r value) ↔ Within W d s := by
  refine Within.skip (V := ringFoot) ?_ h
  unfold completionDoorbell
  simp (decide := true) [↓within_ite]

@[simp] theorem within_consumeEvt (d s : Dev) (k value : ℕ) (h : moveFoot.le W = true) : Within W d (consumeEvt s k value) ↔ Within W d s := by
  refine Within.skip (V := moveFoot) ?_ h
  unfold consumeEvt
  dsimp only
  split
  · simp (decide := true)
  · split <;> simp (decide := true)

@[simp] theorem within_eventDoorbell (d s : Dev) (k value : ℕ) (h : ringFoot.le W = true) : Within W d (eventDoorbell s k value) ↔ Within W d s := by
  refine Within.skip (V := ringFoot) ?_ h
  unfold eventDoorbell
  simp (decide := true) [↓within_ite]

@[simp] theorem within_passCommand (d s : Dev) (k r : ℕ) (h : acceptFoot.le W = true) : Within W d (passCommand s k r) ↔ Within W d s := by
  refine Within.skip (V := acceptFoot) ?_ h
  unfold passCommand
  simp (decide := true) [↓within_ite]

@[simp] theorem within_acceptDup (d s : Dev) (k r cmdId : ℕ) (h : acceptFoot.le W = true) : Within W d (acceptDup s k r cmdId) ↔ Within W d s := by
  refine Within.skip (V := acceptFoot) ?_ h
  unfold acceptDup
  dsimp only
  repeat' split
  all_goals simp (decide := true) [↓within_passCommand, ↓within_queueCpls, ↓within_queueDup, ↓within_setRing]

@[simp] theorem within_acceptNew (d s : Dev) (k r : ℕ) (e b : Sys2Proof.Bytes) (h : acceptFoot.le W = true) :
    Within W d (acceptNew s k r e b) ↔ Within W d s := by
  refine Within.skip (V := acceptFoot) ?_ h
  unfold acceptNew
  dsimp only
  split <;> simp (decide := true)

@[simp] theorem within_stopDma (d s : Dev) (k r : ℕ) (h : acceptFoot.le W = true) : Within W d (stopDma s k r) ↔ Within W d s := by
  refine Within.skip (V := acceptFoot) ?_ h
  unfold stopDma
  simp (decide := true)

@[simp] theorem within_commandAccept (d s : Dev) (fetch : Option (Sys2Proof.Bytes × Sys2Proof.Bytes)) (peerAck : Bool) (h : acceptFoot.le W = true) :
    Within W d (commandAccept s fetch peerAck) ↔ Within W d s := by
  refine Within.skip (V := acceptFoot) ?_ h
  unfold commandAccept
  split
  · rfl
  · simp (decide := true)
    split <;> simp (decide := true) [↓within_ite]

@[simp] theorem within_writebackWrite (d s : Dev) (k r : ℕ) (h : ringFoot.le W = true) : Within W d (writebackWrite s k r) ↔ Within W d s := by
  refine Within.skip (V := ringFoot) ?_ h
  unfold writebackWrite
  simp (decide := true) [↓within_ite]

@[simp] theorem within_coalesceTimer (d s : Dev) (k r : ℕ) (h : sigFoot.le W = true) : Within W d (coalesceTimer s k r) ↔ Within W d s := by
  refine Within.skip (V := sigFoot) ?_ h
  unfold coalesceTimer
  simp (decide := true) [↓within_ite]

@[simp] theorem within_eventIrqTimer (d s : Dev) (k : ℕ) (h : sigFoot.le W = true) : Within W d (eventIrqTimer s k) ↔ Within W d s := by
  refine Within.skip (V := sigFoot) ?_ h
  unfold eventIrqTimer
  simp (decide := true) [↓within_ite]

@[simp] theorem within_cringEnable (d s : Dev) (k r : ℕ) (h : ringFoot.le W = true) : Within W d (cringEnable s k r) ↔ Within W d s := by
  refine Within.skip (V := ringFoot) ?_ h
  unfold cringEnable
  simp (decide := true) [↓within_ite]

@[simp] theorem within_cringDisable (d s : Dev) (k r : ℕ) (h : ringFoot.le W = true) : Within W d (cringDisable s k r) ↔ Within W d s := by
  refine Within.skip (V := ringFoot) ?_ h
  unfold cringDisable
  simp (decide := true)

@[simp] theorem within_cringResume (d s : Dev) (k r : ℕ) (h : ringFoot.le W = true) : Within W d (cringResume s k r) ↔ Within W d s := by
  refine Within.skip (V := ringFoot) ?_ h
  unfold cringResume
  simp (decide := true)

@[simp] theorem within_cplCoalesceWrite (d s : Dev) (k r us n : ℕ) (h : ringFoot.le W = true) :
    Within W d (cplCoalesceWrite s k r us n) ↔ Within W d s := by
  refine Within.skip (V := ringFoot) ?_ h
  unfold cplCoalesceWrite
  simp (decide := true) [↓within_ite]

@[simp] theorem within_evtRingEnable (d s : Dev) (k : ℕ) (h : ringFoot.le W = true) : Within W d (evtRingEnable s k) ↔ Within W d s := by
  refine Within.skip (V := ringFoot) ?_ h
  unfold evtRingEnable
  simp (decide := true) [↓within_ite]

@[simp] theorem within_clearHifRegs (d s : Dev) (k : ℕ) (h : perstFoot.le W = true) : Within W d (clearHifRegs s k) ↔ Within W d s := by
  refine Within.skip (V := perstFoot) ((within_filterRegs _ _ _ fun e he => ?_).mpr (.refl _ _)) h
  simp only [Bool.not_eq_false', Bool.and_eq_true, beq_iff_eq] at he
  rw [Foot.hits, he.1]
  rfl

@[simp] theorem within_hifEnterReset (d s : Dev) (k : ℕ) (h : perstFoot.le W = true) : Within W d (hifEnterReset s k) ↔ Within W d s := by
  refine Within.skip (V := perstFoot) ?_ h
  unfold hifEnterReset
  simp (decide := true)

@[simp] theorem within_rewriteRing (d s : Dev) (k r : ℕ) (h : outFoot.le W = true) : Within W d (rewriteRing s k r) ↔ Within W d s := by
  refine Within.skip (V := outFoot) ?_ h
  unfold rewriteRing
  simp (decide := true)

@[simp] theorem within_takeLatches (d s : Dev) (k r : ℕ) (h : moveFoot.le W = true) : Within W d (takeLatches s k r) ↔ Within W d s := by
  refine Within.skip (V := moveFoot) ?_ h
  unfold takeLatches
  dsimp only
  repeat' split
  all_goals simp (decide := true) [↓within_setRing, ↓within_setF_skip, ↓within_consumeCpl]

@[simp] theorem within_sendPending (d s : Dev) (k : ℕ) (h : sigFoot.le W = true) : Within W d (sendPending s k) ↔ Within W d s := by
  refine Within.skip (V := sigFoot) ?_ h
  unfold sendPending
  simp (decide := true) [↓within_ite]

@[simp] theorem within_setMsixWord (d s : Dev) (k i v : ℕ) (h : anyFoot.le W = true) : Within W d (setMsixWord s k i v) ↔ Within W d s := by
  refine Within.skip (V := anyFoot) ?_ h
  unfold setMsixWord
  simp (decide := true) [↓within_ite]

@[simp] theorem within_msixWrite (d s : Dev) (k off size v : ℕ) (h : anyFoot.le W = true) : Within W d (msixWrite s k off size v) ↔ Within W d s := by
  refine Within.skip (V := anyFoot) ?_ h
  unfold msixWrite
  simp (decide := true) [↓within_ite]

@[simp] theorem within_hifMove (d s : Dev) (k : ℕ) (h : moveFoot.le W = true) : Within W d (hifMove s k) ↔ Within W d s := by
  refine Within.skip (V := moveFoot) ?_ h
  unfold hifMove
  simp (decide := true) [↓within_ite]
  split <;> simp (decide := true) [↓within_ite]

/-- A HIF's reset source is listed; no field and nothing else of the device goes with it. -/
theorem within_assertReset_hif (d s : Dev) (unit src : ℕ) (pulse : Bool) (h : reqsFoot.le W = true) :
    Within W d (assertReset s 6 unit src pulse) ↔ Within W d s := by
  refine Within.skip (V := reqsFoot) ?_ h
  simp (decide := true) [assertReset, ↓within_ite]

@[simp] theorem within_hifPerst (d s : Dev) (k : ℕ) (asserted : Bool) (h : perstFoot.le W = true) :
    Within W d (hifPerst s k asserted) ↔ Within W d s := by
  refine Within.skip (V := perstFoot) ?_ h
  unfold hifPerst
  split
  · simp (decide := true) [within_assertReset_hif]
  · simp (decide := true)

@[simp] theorem within_hifLinkChange (d s : Dev) (k : ℕ) (link bme d0 : Bool) (speed width : ℕ) (h : ringFoot.le W = true) :
    Within W d (hifLinkChange s k link bme d0 speed width) ↔ Within W d s := by
  refine Within.skip (V := ringFoot) ?_ h
  unfold hifLinkChange
  simp (decide := true) [↓within_ite]

end Sys2Proof.Machine
end

section
/-! Footprints of scheduling (R77 to R81). -/

namespace Sys2Proof.Machine

open Sys2Proof.Claims

variable {W : Foot}

@[simp] theorem within_setRoute (d s : Dev) (k : ℕ) (x : Route) (h : routesFoot.le W = true) : Within W d (setRoute s k x) ↔ Within W d s := by
  refine Within.skip (V := routesFoot) ?_ h
  unfold setRoute
  simp (decide := true)

@[simp] theorem within_setFsCfg (d s : Dev) (k : ℕ) (x : FsCfg) (h : anyFoot.le W = true) : Within W d (setFsCfg s k x) ↔ Within W d s := by
  refine Within.skip (V := anyFoot) ?_ h
  unfold setFsCfg
  simp (decide := true)

@[simp] theorem within_setMech (d s : Dev) (kind idx : ℕ) (x : Mech) (h : mechFoot.le W = true) :
    Within W d (setMech s kind idx x) ↔ Within W d s := by
  refine Within.skip (V := mechFoot) ?_ h
  unfold setMech
  simp (decide := true)

@[simp] theorem within_setDst (d s : Dev) (p e : ℕ) (x : DstSt) (h : dstFoot.le W = true) : Within W d (setDst s p e x) ↔ Within W d s := by
  refine Within.skip (V := dstFoot) ?_ h
  unfold setDst
  simp (decide := true)

@[simp] theorem within_withCmd (d s : Dev) (t jsn op : ℕ) (k : Dev → JRec → Dev) (hk : ∀ s j, Within W s (k s j)) (h : .now ∈ W.parts) :
    Within W d (withCmd s t jsn op k) ↔ Within W d s := by
  suffices hs : Within W s (withCmd s t jsn op k) from ⟨fun q => q.trans hs.symm, fun q => q.trans hs⟩
  have hn : Within W s (s.at t) := (within_at s s t h).mpr (.refl _ _)
  unfold withCmd
  dsimp only
  split
  · exact hn
  · rw [within_ite]
    split
    · exact hn
    · exact hn.trans (hk _ _)

@[simp] theorem within_refuse (d s : Dev) (j : JRec) (r : Refuse) (h : decFoot.le W = true) : Within W d (refuse s j r) ↔ Within W d s := by
  refine Within.skip (V := decFoot) ?_ h
  unfold refuse
  simp (decide := true)

@[simp] theorem within_sweepUnknown (d s : Dev) (h : decFoot.le W = true) : Within W d (sweepUnknown s) ↔ Within W d s := by
  refine Within.skip (V := decFoot) ?_ h
  unfold sweepUnknown
  simp (decide := true) [↓within_ite]

@[simp] theorem within_syncPending (d s : Dev) (k : ℕ) (h : pendingFoot.le W = true) : Within W d (syncPending s k) ↔ Within W d s := by
  refine Within.skip (V := pendingFoot) ?_ h
  unfold syncPending
  simp (decide := true) [↓within_ite]

@[simp] theorem within_schedule (d s : Dev) (x : Pend) (h : anyFoot.le W = true) : Within W d (schedule s x) ↔ Within W d s := by
  refine Within.skip (V := anyFoot) ?_ h
  unfold schedule
  simp (decide := true) [↓within_ite]

@[simp] theorem within_unpend (d s : Dev) (jsn : ℕ) (h : pendFoot.le W = true) : Within W d (unpend s jsn) ↔ Within W d s := by
  refine Within.skip (V := pendFoot) ?_ h
  unfold unpend
  simp (decide := true)

@[simp] theorem within_scheduleFrame (d s : Dev) (j : JRec) (dl : ℕ → ℕ) (h : anyFoot.le W = true) :
    Within W d (scheduleFrame s j dl) ↔ Within W d s := by
  refine Within.skip (V := anyFoot) ?_ h
  unfold scheduleFrame
  split <;> simp (decide := true)

@[simp] theorem within_finishFrame (d s : Dev) (x : Pend) (n : ℕ) (h : pendFoot.le W = true) : Within W d (finishFrame s x n) ↔ Within W d s := by
  refine Within.skip (V := pendFoot) ?_ h
  unfold finishFrame
  simp (decide := true)

@[simp] theorem within_fenceRefusal (d s : Dev) (h : faultFoot.le W = true) : Within W d (fenceRefusal s) ↔ Within W d s := by
  refine Within.skip (V := faultFoot) ?_ h
  unfold fenceRefusal
  simp (decide := true) [↓within_ite]

@[simp] theorem within_fenced (d s : Dev) (jsn recorded : ℕ) (set : Dev → Dev) (hset : Within W s (set s)) (h : faultFoot.le W = true) :
    Within W d (fenced s jsn recorded set).2 ↔ Within W d s := by
  suffices hs : Within W s (fenced s jsn recorded set).2 from ⟨fun q => q.trans hs.symm, fun q => q.trans hs⟩
  unfold fenced
  split
  · simp [h]
  · exact hset

end Sys2Proof.Machine
end

section
/-! Footprints of the switching commands (R74 to R98). -/

namespace Sys2Proof.Machine

open Sys2Proof.Claims

variable {W : Foot}

@[simp] theorem within_validateItems (d s : Dev) (j : JRec) (owner : ℕ) (items : List RawItem) (inv rng : List (Bool × ℕ × ℕ)) (h : anyFoot.le W = true) :
    Within W d (validateItems s j owner items inv rng) ↔ Within W d s := by
  refine Within.skip (V := anyFoot) ?_ h
  unfold validateItems
  dsimp only
  repeat' split
  all_goals simp (decide := true) [↓within_refuse, ↓within_schedule]

@[simp] theorem within_takeCmd (d s : Dev) (j : JRec) (h : anyFoot.le W = true) : Within W d (takeCmd s j) ↔ Within W d s := by
  refine Within.skip (V := anyFoot) ?_ h
  unfold takeCmd
  simp (decide := true)

@[simp] theorem within_salvoCmd (d s : Dev) (j : JRec) (h : anyFoot.le W = true) : Within W d (salvoCmd s j) ↔ Within W d s := by
  refine Within.skip (V := anyFoot) ?_ h
  unfold salvoCmd
  simp (decide := true)

@[simp] theorem within_scheduleDest (d s : Dev) (j : JRec) (key owner : ℕ) (h : anyFoot.le W = true) :
    Within W d (scheduleDest s j key owner) ↔ Within W d s := by
  refine Within.skip (V := anyFoot) ?_ h
  unfold scheduleDest
  dsimp only
  split <;> simp (decide := true)

@[simp] theorem within_protectCmd (d s : Dev) (j : JRec) (h : anyFoot.le W = true) : Within W d (protectCmd s j) ↔ Within W d s := by
  refine Within.skip (V := anyFoot) ?_ h
  unfold protectCmd
  split <;> simp (decide := true)

@[simp] theorem within_destPolicyCmd (d s : Dev) (j : JRec) (h : anyFoot.le W = true) : Within W d (destPolicyCmd s j) ↔ Within W d s := by
  refine Within.skip (V := anyFoot) ?_ h
  unfold destPolicyCmd
  split <;> simp (decide := true)

@[simp] theorem within_groupSetCmd (d s : Dev) (j : JRec) (h : anyFoot.le W = true) : Within W d (groupSetCmd s j) ↔ Within W d s := by
  refine Within.skip (V := anyFoot) ?_ h
  unfold groupSetCmd
  dsimp only
  repeat' split
  all_goals simp (decide := true) [↓within_refuse, ↓within_schedule]

@[simp] theorem within_applyGroup (d s : Dev) (x : Pend) (n : ℕ) (h : switchFoot.le W = true) : Within W d (applyGroup s x n) ↔ Within W d s := by
  refine Within.skip (V := switchFoot) ?_ h
  unfold applyGroup
  split <;> simp (decide := true) [↓within_ite]

@[simp] theorem within_modPend (d s : Dev) (jsn : ℕ) (f : Pend → Pend) (h : pendFoot.le W = true) : Within W d (modPend s jsn f) ↔ Within W d s := by
  refine Within.skip (V := pendFoot) ?_ h
  unfold modPend
  simp (decide := true)

@[simp] theorem within_markItem (d s : Dev) (jsn k st n : ℕ) (h : pendFoot.le W = true) : Within W d (markItem s jsn k st n) ↔ Within W d s := by
  refine Within.skip (V := pendFoot) ?_ h
  unfold markItem
  simp (decide := true)

@[simp] theorem within_settle (d s : Dev) (jsn : ℕ) (h : pendFoot.le W = true) : Within W d (settle s jsn) ↔ Within W d s := by
  refine Within.skip (V := pendFoot) ?_ h
  unfold settle
  split <;> simp (decide := true) [↓within_ite]

@[simp] theorem within_withdraw (d s : Dev) (k jsn : ℕ) (h : pendFoot.le W = true) : Within W d (withdraw s k jsn) ↔ Within W d s := by
  refine Within.skip (V := pendFoot) ?_ h
  unfold withdraw
  simp (decide := true) [↓within_ite]

@[simp] theorem within_followAudio (d s : Dev) (k cut q n jsn : ℕ) (h : switchFoot.le W = true) :
    Within W d (followAudio s k cut q n jsn) ↔ Within W d s := by
  refine Within.skip (V := switchFoot) ?_ h
  unfold followAudio
  simp (decide := true) [↓within_ite]

@[simp] theorem within_applyDue (d s : Dev) (k n : ℕ) (x : Pend) (h : dueFoot.le W = true) : Within W d (applyDue s k n x) ↔ Within W d s := by
  refine Within.skip (V := dueFoot) ?_ h
  unfold applyDue
  split
  · rfl
  · simp (decide := true) [↓within_ite]
    split <;> simp (decide := true) [↓within_ite]

@[simp] theorem within_concealEvents (d s : Dev) (p e old new : ℕ) (h : evtFoot.le W = true) :
    Within W d (concealEvents s p e old new) ↔ Within W d s := by
  refine Within.skip (V := evtFoot) ?_ h
  unfold concealEvents
  simp (decide := true) [↓within_ite]

@[simp] theorem within_teamResumes (d s : Dev) (p e : ℕ) (h : dstFoot.le W = true) : Within W d (teamResumes s p e) ↔ Within W d s := by
  refine Within.skip (V := dstFoot) ?_ h
  unfold teamResumes
  simp (decide := true) [↓within_ite]

@[simp] theorem within_evalDst (d s : Dev) (p e : ℕ) (h : evalFoot.le W = true) : Within W d (evalDst s p e) ↔ Within W d s := by
  refine Within.skip (V := evalFoot) ?_ h
  unfold evalDst
  simp (decide := true)

@[simp] theorem within_routeDoubleBit (d s : Dev) (p : ℕ) (h : faultFoot.le W = true) : Within W d (routeDoubleBit s p) ↔ Within W d s := by
  refine Within.skip (V := faultFoot) ?_ h
  unfold routeDoubleBit
  simp (decide := true)

@[simp] theorem within_routeEcc (d s : Dev) (p ecc : ℕ) (h : switchFoot.le W = true) : Within W d (routeEcc s p ecc) ↔ Within W d s := by
  refine Within.skip (V := switchFoot) ?_ h
  unfold routeEcc
  simp (decide := true) [↓within_ite]

/-- A port that takes another destination: of the TDM ports nothing else changes (R235). -/
theorem within_assoc (s : Dev) (q v : ℕ) (h : .tdmAssoc ∈ W.parts) :
    Within W s { s with tdm := mset {} s.tdm q { (mget {} s.tdm q : TdmSt) with assoc := v } } := by
  refine ⟨fun _ _ _ => rfl, fun r hr => ?_⟩
  cases r
  case tdmAssoc => exact absurd h hr
  case tdm =>
    intro k
    dsimp only
    by_cases hk : k = q
    · rw [hk, mget_mset_same]
      rfl
    · rw [mget_mset_ne _ _ _ _ _ hk]
  all_goals simp [Same]

@[simp] theorem within_adoptAssoc (d s : Dev) (p e : ℕ) (h : switchFoot.le W = true) : Within W d (adoptAssoc s p e) ↔ Within W d s := by
  refine Within.skip (V := switchFoot) ?_ h
  unfold adoptAssoc
  refine within_foldl _ (fun s q => ?_) _ s
  split
  · rfl
  · rw [within_ite]
    split
    · exact within_assoc _ _ _ (by decide)
    · rfl

/-- What follows the start of a switching instant. -/
theorem within_switchingInstant_at (s : Dev) (t p e ecc : ℕ) : Within dueFoot (s.at t) (switchingInstant s t p e ecc) := by
  unfold switchingInstant
  simp (decide := true) only [↓within_ite, within_adoptAssoc, within_evalDst, within_syncPending, ite_self]
  refine (within_foldl_skip _ _ _ _ fun s x => ?_).mpr (by simp (decide := true))
  split
  · rfl
  · simp (decide := true) [↓within_ite]

@[simp] theorem within_switchingInstant (d s : Dev) (t p e ecc : ℕ) (h : instantFoot.le W = true) :
    Within W d (switchingInstant s t p e ecc) ↔ Within W d s := by
  refine Within.skip (V := instantFoot) ?_ h
  exact .trans (by simp (decide := true)) ((within_switchingInstant_at s t p e ecc).mono (by decide))

end Sys2Proof.Machine
end

section
/-! Footprints of load and bands (R107 to R117). -/

namespace Sys2Proof.Machine

open Sys2Proof.Claims

variable {W : Foot}

@[simp] theorem within_syncLoad (d s : Dev) (p : ℕ) (h : loadFoot.le W = true) : Within W d (syncLoad s p) ↔ Within W d s := by
  refine Within.skip (V := loadFoot) ?_ h
  unfold syncLoad
  simp (decide := true)

@[simp] theorem within_syncLoads (d s : Dev) (h : loadFoot.le W = true) : Within W d (syncLoads s) ↔ Within W d s := by
  refine Within.skip (V := loadFoot) ?_ h
  unfold syncLoads
  simp (decide := true)

@[simp] theorem within_setShedFlag (d s : Dev) (p : ℕ) (comp : Bool) (idx v : ℕ) (h : planeFoot.le W = true) :
    Within W d (setShedFlag s p comp idx v) ↔ Within W d s := by
  refine Within.skip (V := planeFoot) ?_ h
  unfold setShedFlag
  simp (decide := true) [↓within_ite]

@[simp] theorem within_pendMode (d s : Dev) (p n : ℕ) (h : planeFoot.le W = true) : Within W d (pendMode s p n) ↔ Within W d s := by
  refine Within.skip (V := planeFoot) ?_ h
  unfold pendMode
  simp (decide := true)

@[simp] theorem within_compKindNone (d s : Dev) (p c : ℕ) (h : anyFoot.le W = true) : Within W d (compKindNone s p c) ↔ Within W d s := by
  refine Within.skip (V := anyFoot) ?_ h
  unfold compKindNone
  simp (decide := true)

@[simp] theorem within_shedItem (d s : Dev) (p reason : ℕ) (i : Item) (h : anyFoot.le W = true) :
    Within W d (shedItem s p reason i) ↔ Within W d s := by
  refine Within.skip (V := anyFoot) ?_ h
  unfold shedItem
  simp (decide := true) [↓within_ite]

@[simp] theorem within_shedWhile (d s : Dev) (p reason : ℕ) (needed : Dev → Bool) (l : List Item) (h : anyFoot.le W = true) :
    Within W d (shedWhile p reason needed l s) ↔ Within W d s := by
  refine Within.skip (V := anyFoot) ?_ h
  induction l generalizing s with
  | nil => rfl
  | cons i r ih =>
    rw [shedWhile, within_ite]
    split
    · exact ((within_shedItem s s p reason i (by decide)).mpr (.refl _ _)).trans (ih _)
    · rfl

@[simp] theorem within_shedPlane (d s : Dev) (p reason : ℕ) (h : anyFoot.le W = true) : Within W d (shedPlane s p reason) ↔ Within W d s := by
  refine Within.skip (V := anyFoot) ?_ h
  unfold shedPlane
  simp (decide := true) [↓within_ite]

@[simp] theorem within_setCmp (d s : Dev) (p c : ℕ) (x : CmpSt) (h : cmpFoot.le W = true) : Within W d (setCmp s p c x) ↔ Within W d s := by
  refine Within.skip (V := cmpFoot) ?_ h
  unfold setCmp
  simp (decide := true)

@[simp] theorem within_freshTaps (d s : Dev) (p c : ℕ) (h : cmpFoot.le W = true) : Within W d (freshTaps s p c) ↔ Within W d s := by
  refine Within.skip (V := cmpFoot) ?_ h
  unfold freshTaps
  simp (decide := true)

@[simp] theorem within_restoreItem (d s : Dev) (p reason : ℕ) (i : ShedItem) (h : anyFoot.le W = true) :
    Within W d (restoreItem s p reason i) ↔ Within W d s := by
  refine Within.skip (V := anyFoot) ?_ h
  unfold restoreItem
  simp (decide := true) [↓within_ite]

@[simp] theorem within_restoreList (d s : Dev) (p : ℕ) (l : List ShedItem) (h : anyFoot.le W = true) :
    Within W d (restoreList p l s) ↔ Within W d s := by
  refine Within.skip (V := anyFoot) ?_ h
  induction l generalizing s with
  | nil => rfl
  | cons i r ih =>
    rw [restoreList, within_ite]
    split
    · exact ((within_restoreItem s s p 5 i (by decide)).mpr (.refl _ _)).trans (ih _)
    · rfl

@[simp] theorem within_restorePlane (d s : Dev) (p : ℕ) (h : anyFoot.le W = true) : Within W d (restorePlane s p) ↔ Within W d s := by
  refine Within.skip (V := anyFoot) ?_ h
  unfold restorePlane
  simp (decide := true)

end Sys2Proof.Machine
end

section
/-! Footprints of sources and synchronisers (R42 to R48, R99 to R120). -/

namespace Sys2Proof.Machine

open Sys2Proof.Claims

variable {W : Foot}

@[simp] theorem within_fsyncSetCmd (d s : Dev) (j : JRec) (h : anyFoot.le W = true) : Within W d (fsyncSetCmd s j) ↔ Within W d s := by
  refine Within.skip (V := anyFoot) ?_ h
  unfold fsyncSetCmd
  split <;> simp (decide := true)

@[simp] theorem within_keepCharge (d s : Dev) (p n : ℕ) (c : FsCfg) (h : anyFoot.le W = true) : Within W d (keepCharge s p n c) ↔ Within W d s := by
  refine Within.skip (V := anyFoot) ?_ h
  unfold keepCharge
  simp (decide := true) [↓within_ite]

@[simp] theorem within_applyFsync (d s : Dev) (x : Pend) (j : JRec) (n : ℕ) (h : anyFoot.le W = true) :
    Within W d (applyFsync s x j n) ↔ Within W d s := by
  refine Within.skip (V := anyFoot) ?_ h
  unfold applyFsync
  simp (decide := true) [↓within_ite]

@[simp] theorem within_budgetModeCmd (d s : Dev) (j : JRec) (h : anyFoot.le W = true) : Within W d (budgetModeCmd s j) ↔ Within W d s := by
  refine Within.skip (V := anyFoot) ?_ h
  unfold budgetModeCmd
  split <;> simp (decide := true)

@[simp] theorem within_applyBudgetMode (d s : Dev) (x : Pend) (j : JRec) (n : ℕ) (h : anyFoot.le W = true) :
    Within W d (applyBudgetMode s x j n) ↔ Within W d s := by
  refine Within.skip (V := anyFoot) ?_ h
  unfold applyBudgetMode
  simp (decide := true) only [↓within_ite, within_finishFrame, within_decideCmd, within_unpend, ite_self]
  refine (within_fenced _ _ _ _ _ (within_foldl _ (fun s p => ?_) _ _) (by decide)).mpr (.refl _ _)
  simp (decide := true)

@[simp] theorem within_setFs_prime (d s : Dev) (p n : ℕ) (x : FsSt) (h : fsPartFoot.le W = true) : Within W d (setFs' s p n x) ↔ Within W d s := by
  refine Within.skip (V := fsPartFoot) ?_ h
  unfold setFs'
  simp (decide := true)

@[simp] theorem within_underrunEvent (d s : Dev) (p n kind oversize : ℕ) (h : evtFoot.le W = true) :
    Within W d (underrunEvent s p n kind oversize) ↔ Within W d s := by
  refine Within.skip (V := evtFoot) ?_ h
  unfold underrunEvent
  simp (decide := true)

@[simp] theorem within_enterKind (d s : Dev) (p n old new : ℕ) (x : SrcSt) (h : fsFoot.le W = true) :
    Within W d (enterKind s p n old new x) ↔ Within W d s := by
  refine Within.skip (V := fsFoot) ?_ h
  unfold enterKind
  simp (decide := true) [↓within_ite]

@[simp] theorem within_syncFsStat (d s : Dev) (p n : ℕ) (h : fsStatFoot.le W = true) : Within W d (syncFsStat s p n) ↔ Within W d s := by
  refine Within.skip (V := fsStatFoot) ?_ h
  unfold syncFsStat
  simp (decide := true)

@[simp] theorem within_syncSrc (d s : Dev) (p n : ℕ) (x : SrcSt) (rm mt link ds : ℕ) (skew : Option ℤ) (h : syncFoot.le W = true) :
    Within W d (syncSrc s p n x rm mt link ds skew) ↔ Within W d s := by
  refine Within.skip (V := syncFoot) ?_ h
  unfold syncSrc
  simp (decide := true)

@[simp] theorem within_innerSource (d s : Dev) (p n : ℕ) (h : fsStatFoot.le W = true) : Within W d (innerSource s p n) ↔ Within W d s := by
  refine Within.skip (V := fsStatFoot) ?_ h
  unfold innerSource
  simp (decide := true)

@[simp] theorem within_sourceFrameStart (d s : Dev) (t p n : ℕ) (o : Sys2Proof.SrcObs) (h : syncFoot.le W = true) :
    Within W d (sourceFrameStart s t p n o) ↔ Within W d s := by
  refine Within.skip (V := syncFoot) ?_ h
  unfold sourceFrameStart
  simp (decide := true) [↓within_ite]

@[simp] theorem within_signalLoss (d s : Dev) (h : anyFoot.le W = true) : Within W d (signalLoss s) ↔ Within W d s := by
  refine Within.skip (V := anyFoot) ?_ h
  unfold signalLoss
  simp (decide := true) [↓within_ite]

@[simp] theorem within_memberCause (d s : Dev) (p cause k : ℕ) (h : syncFoot.le W = true) : Within W d (memberCause s p cause k) ↔ Within W d s := by
  refine Within.skip (V := syncFoot) ?_ h
  unfold memberCause
  simp (decide := true)

@[simp] theorem within_memberResumes (d s : Dev) (p k : ℕ) (h : syncFoot.le W = true) : Within W d (memberResumes s p k) ↔ Within W d s := by
  refine Within.skip (V := syncFoot) ?_ h
  unfold memberResumes
  simp (decide := true)

@[simp] theorem within_recordTeam (d s : Dev) (p m c : ℕ) (e : ℕ × Team) (h : syncFoot.le W = true) :
    Within W d (recordTeam p m c s e) ↔ Within W d s := by
  refine Within.skip (V := syncFoot) ?_ h
  unfold recordTeam
  simp (decide := true) [↓within_ite]

@[simp] theorem within_decideTeam (d s : Dev) (p m : ℕ) (e : ℕ × Team) (h : syncFoot.le W = true) :
    Within W d (decideTeam s p m e) ↔ Within W d s := by
  refine Within.skip (V := syncFoot) ?_ h
  unfold decideTeam
  simp (decide := true) [↓within_ite]

@[simp] theorem within_countSlip (d s : Dev) (p n drop count : ℕ) (h : syncFoot.le W = true) :
    Within W d (countSlip s p n drop count) ↔ Within W d s := by
  refine Within.skip (V := syncFoot) ?_ h
  unfold countSlip
  simp (decide := true) [↓within_ite]

@[simp] theorem within_memberOnly (d s : Dev) (p n : ℕ) (fail : Bool) (h : syncFoot.le W = true) :
    Within W d (memberOnly s p n fail) ↔ Within W d s := by
  refine Within.skip (V := syncFoot) ?_ h
  unfold memberOnly
  exact within_foldl _ (fun s _ => within_foldl _ (fun s _ => by simp (decide := true)) _ s) _ s

@[simp] theorem within_cutoffChoice (d s : Dev) (t p n m : ℕ) (h : syncFoot.le W = true) : Within W d (cutoffChoice s t p n m) ↔ Within W d s := by
  refine Within.skip (V := syncFoot) ?_ h
  unfold cutoffChoice
  simp (decide := true) [↓within_ite]

@[simp] theorem within_fsyncCutoff (d s : Dev) (t p n m : ℕ) (h : syncFoot.le W = true) : Within W d (fsyncCutoff s t p n m) ↔ Within W d s := by
  refine Within.skip (V := syncFoot) ?_ h
  unfold fsyncCutoff
  simp (decide := true) [↓within_ite]

@[simp] theorem within_completeFrame (d s : Dev) (p n frame : ℕ) (h : fillFoot.le W = true) :
    Within W d (completeFrame s p n frame) ↔ Within W d s := by
  refine Within.skip (V := fillFoot) ?_ h
  unfold completeFrame
  dsimp only
  split
  · rfl
  · simp (decide := true)

@[simp] theorem within_fsyncFrameComplete (d s : Dev) (t p n frame : ℕ) (h : syncFoot.le W = true) :
    Within W d (fsyncFrameComplete s t p n frame) ↔ Within W d s := by
  refine Within.skip (V := syncFoot) ?_ h
  unfold fsyncFrameComplete
  simp (decide := true)

@[simp] theorem within_ipHoldExpire (d s : Dev) (t p n frame : ℕ) (h : syncFoot.le W = true) :
    Within W d (ipHoldExpire s t p n frame) ↔ Within W d s := by
  refine Within.skip (V := syncFoot) ?_ h
  unfold ipHoldExpire
  simp (decide := true) [↓within_ite]

@[simp] theorem within_bandSensorRead (d s : Dev) (t p : ℕ) (temp : ℤ) (h : syncFoot.le W = true) :
    Within W d (bandSensorRead s t p temp) ↔ Within W d s := by
  refine Within.skip (V := syncFoot) ?_ h
  unfold bandSensorRead
  simp (decide := true) [↓within_ite]

@[simp] theorem within_powerSample (d s : Dev) (t : ℕ) (reading : Option (ℕ × ℕ)) (rail : ℕ) (h : anyFoot.le W = true) :
    Within W d (powerSample s t reading rail) ↔ Within W d s := by
  refine Within.skip (V := anyFoot) ?_ h
  unfold powerSample
  split <;> simp (decide := true) [↓within_ite]

@[simp] theorem within_powerShedStep (d s : Dev) (t : ℕ) (h : anyFoot.le W = true) : Within W d (powerShedStep s t) ↔ Within W d s := by
  refine Within.skip (V := anyFoot) ?_ h
  unfold powerShedStep
  dsimp only
  repeat' split
  all_goals simp (decide := true) [↓within_shedItem, ↓within_faultEvent, ↓within_raise, ↓within_mk_skip]

@[simp] theorem within_powerRestoreStep (d s : Dev) (t rise : ℕ) (h : anyFoot.le W = true) :
    Within W d (powerRestoreStep s t rise) ↔ Within W d s := by
  refine Within.skip (V := anyFoot) ?_ h
  unfold powerRestoreStep
  dsimp only
  repeat' split
  all_goals simp (decide := true) [↓within_restoreItem, ↓within_mk_skip]

@[simp] theorem within_underrun (d s : Dev) (t p kind n : ℕ) (h : underFoot.le W = true) : Within W d (underrun s t p kind n) ↔ Within W d s := by
  refine Within.skip (V := underFoot) ?_ h
  unfold underrun
  split <;> simp (decide := true)

end Sys2Proof.Machine
end

section
/-! Footprints of house time and the references (R49 to R72). -/

namespace Sys2Proof.Machine

open Sys2Proof.Claims

variable {W : Foot}

@[simp] theorem within_houseTimeSnapshot (d s : Dev) (t : ℕ) (h : refFoot.le W = true) : Within W d (houseTimeSnapshot s t) ↔ Within W d s := by
  refine Within.skip (V := refFoot) ?_ h
  unfold houseTimeSnapshot
  simp (decide := true)

@[simp] theorem within_clockMonitorWindow (d s : Dev) (t c count : ℕ) (h : anyFoot.le W = true) :
    Within W d (clockMonitorWindow s t c count) ↔ Within W d s := by
  refine Within.skip (V := anyFoot) ?_ h
  unfold clockMonitorWindow
  simp (decide := true) [↓within_ite]

@[simp] theorem within_setRef (d s : Dev) (r : ℕ) (x : RefSt) (h : refsFoot.le W = true) : Within W d (setRef s r x) ↔ Within W d s := by
  refine Within.skip (V := refsFoot) ?_ h
  unfold setRef
  simp (decide := true)

@[simp] theorem within_syncRef (d s : Dev) (i : ℕ) (h : refFoot.le W = true) : Within W d (syncRef s i) ↔ Within W d s := by
  refine Within.skip (V := refFoot) ?_ h
  unfold syncRef
  split <;> simp (decide := true)

@[simp] theorem within_syncRefs (d s : Dev) (h : refFoot.le W = true) : Within W d (syncRefs s) ↔ Within W d s := by
  refine Within.skip (V := refFoot) ?_ h
  unfold syncRefs
  simp (decide := true)

@[simp] theorem within_observe (d s : Dev) (obs : List Sys2Proof.RefObs) (h : refFoot.le W = true) : Within W d (observe s obs) ↔ Within W d s := by
  refine Within.skip (V := refFoot) ?_ h
  unfold observe
  simp (decide := true) [↓within_ite]

@[simp] theorem within_signalReturn (d s : Dev) (obs : List Sys2Proof.RefObs) (h : anyFoot.le W = true) :
    Within W d (signalReturn s obs) ↔ Within W d s := by
  refine Within.skip (V := anyFoot) ?_ h
  unfold signalReturn
  simp (decide := true) [↓within_ite]

@[simp] theorem within_enterHoldover (d s : Dev) (jsn : ℕ) (h : refFoot.le W = true) : Within W d (enterHoldover s jsn) ↔ Within W d s := by
  refine Within.skip (V := refFoot) ?_ h
  unfold enterHoldover
  simp (decide := true) [↓within_ite]

@[simp] theorem within_moveRef (d s : Dev) (new reason : ℕ) (cmd : optParam (Option ℕ) none) (h : refFoot.le W = true) :
    Within W d (moveRef s new reason cmd) ↔ Within W d s := by
  refine Within.skip (V := refFoot) ?_ h
  unfold moveRef
  split <;> simp (decide := true) [↓within_ite]

@[simp] theorem within_reselect (d s : Dev) (reason : ℕ) (h : refFoot.le W = true) : Within W d (reselect s reason) ↔ Within W d s := by
  refine Within.skip (V := refFoot) ?_ h
  unfold reselect
  simp (decide := true)

@[simp] theorem within_driftEvent (d s : Dev) (r old new soft drift : ℕ) (h : refFoot.le W = true) :
    Within W d (driftEvent s r old new soft drift) ↔ Within W d s := by
  refine Within.skip (V := refFoot) ?_ h
  unfold driftEvent
  simp (decide := true) [↓within_ite]

@[simp] theorem within_qualOne (d s : Dev) (o : Sys2Proof.RefObs) (h : refFoot.le W = true) : Within W d (qualOne s o) ↔ Within W d s := by
  refine Within.skip (V := refFoot) ?_ h
  unfold qualOne
  simp (decide := true) [↓within_ite]

@[simp] theorem within_qualMoves (d s old : Dev) (h : refFoot.le W = true) : Within W d (qualMoves old s) ↔ Within W d s := by
  refine Within.skip (V := refFoot) ?_ h
  unfold qualMoves
  dsimp only
  split
  · simp (decide := true) [↓within_ite]
  · split
    · simp (decide := true)
    · split <;> split <;> simp (decide := true)

@[simp] theorem within_refQualWindow (d s : Dev) (t : ℕ) (nco : ℤ) (obs : List Sys2Proof.RefObs) (h : refFoot.le W = true) :
    Within W d (refQualWindow s t nco obs) ↔ Within W d s := by
  refine Within.skip (V := refFoot) ?_ h
  unfold refQualWindow
  simp (decide := true) [↓within_ite]

@[simp] theorem within_refLossOfSignal (d s : Dev) (t r : ℕ) (obs : List Sys2Proof.RefObs) (h : refFoot.le W = true) :
    Within W d (refLossOfSignal s t r obs) ↔ Within W d s := by
  refine Within.skip (V := refFoot) ?_ h
  unfold refLossOfSignal
  simp (decide := true) [↓within_ite]

@[simp] theorem within_refWtrExpire (d s : Dev) (t r : ℕ) (obs : List Sys2Proof.RefObs) (h : refFoot.le W = true) :
    Within W d (refWtrExpire s t r obs) ↔ Within W d s := by
  refine Within.skip (V := refFoot) ?_ h
  unfold refWtrExpire
  simp (decide := true) [↓within_ite]

@[simp] theorem within_dpllLocked (d s : Dev) (t since : ℕ) (h : refFoot.le W = true) : Within W d (dpllLocked s t since) ↔ Within W d s := by
  refine Within.skip (V := refFoot) ?_ h
  unfold dpllLocked
  simp (decide := true) [↓within_ite]

@[simp] theorem within_refSlewComplete (d s : Dev) (t : ℕ) (h : refFoot.le W = true) : Within W d (refSlewComplete s t) ↔ Within W d s := by
  refine Within.skip (V := refFoot) ?_ h
  unfold refSlewComplete
  simp (decide := true) [↓within_ite]

@[simp] theorem within_peerTiming (d s : Dev) (t peerTime rtt : ℕ) (h : refFoot.le W = true) :
    Within W d (peerTiming s t peerTime rtt) ↔ Within W d s := by
  refine Within.skip (V := refFoot) ?_ h
  unfold peerTiming
  simp (decide := true)

@[simp] theorem within_refPolicyCmd (d s : Dev) (j : JRec) (h : anyFoot.le W = true) : Within W d (refPolicyCmd s j) ↔ Within W d s := by
  refine Within.skip (V := anyFoot) ?_ h
  unfold refPolicyCmd
  split <;> simp (decide := true)

@[simp] theorem within_applyRefPolicy (d s : Dev) (x : Pend) (j : JRec) (n : ℕ) (h : anyFoot.le W = true) :
    Within W d (applyRefPolicy s x j n) ↔ Within W d s := by
  refine Within.skip (V := anyFoot) ?_ h
  unfold applyRefPolicy
  simp (decide := true) [↓within_ite]

@[simp] theorem within_cancelPend (d s : Dev) (x : Pend) (h : anyFoot.le W = true) : Within W d (cancelPend s x) ↔ Within W d s := by
  refine Within.skip (V := anyFoot) ?_ h
  unfold cancelPend
  split <;> simp (decide := true)

@[simp] theorem within_houseRateChange (d s : Dev) (t : ℕ) (h : anyFoot.le W = true) : Within W d (houseRateChange s t) ↔ Within W d s := by
  refine Within.skip (V := anyFoot) ?_ h
  unfold houseRateChange
  dsimp only
  split <;> simp (decide := true) [↓within_ite]

@[simp] theorem within_refAlignCmd (d s : Dev) (j : JRec) (h : anyFoot.le W = true) : Within W d (refAlignCmd s j) ↔ Within W d s := by
  refine Within.skip (V := anyFoot) ?_ h
  unfold refAlignCmd
  split <;> simp (decide := true)

@[simp] theorem within_stepPend (d s : Dev) (old first : ℕ) (h : anyFoot.le W = true) : Within W d (stepPend s old first) ↔ Within W d s := by
  refine Within.skip (V := anyFoot) ?_ h
  unfold stepPend
  simp (decide := true) [↓within_ite]

@[simp] theorem within_alignStep (d s : Dev) (n : ℕ) (h : anyFoot.le W = true) : Within W d (alignStep s n) ↔ Within W d s := by
  refine Within.skip (V := anyFoot) ?_ h
  unfold alignStep
  simp (decide := true) [↓within_ite]

@[simp] theorem within_applyRefAlign (d s : Dev) (x : Pend) (j : JRec) (n : ℕ) (h : anyFoot.le W = true) :
    Within W d (applyRefAlign s x j n) ↔ Within W d s := by
  refine Within.skip (V := anyFoot) ?_ h
  unfold applyRefAlign
  simp (decide := true) [↓within_ite]

end Sys2Proof.Machine
end

section
/-! Footprints of the lanes (R265 to R289). -/

namespace Sys2Proof.Machine

open Sys2Proof.Claims

variable {W : Foot}

@[simp] theorem within_setLane (d s : Dev) (p l : ℕ) (x : LaneSt) (h : lanesFoot.le W = true) : Within W d (setLane s p l x) ↔ Within W d s := by
  refine Within.skip (V := lanesFoot) ?_ h
  unfold setLane
  simp (decide := true)

@[simp] theorem within_enterStage (d s : Dev) (p l st : ℕ) (h : lanesFoot.le W = true) : Within W d (enterStage s p l st) ↔ Within W d s := by
  refine Within.skip (V := lanesFoot) ?_ h
  unfold enterStage
  simp (decide := true)

@[simp] theorem within_useTaps (d s : Dev) (p l : ℕ) (taps : List ℤ) (h : linkFoot.le W = true) : Within W d (useTaps s p l taps) ↔ Within W d s := by
  refine Within.skip (V := linkFoot) ?_ h
  unfold useTaps
  simp (decide := true)

@[simp] theorem within_enterCdr (d s : Dev) (p l : ℕ) (h : linkFoot.le W = true) : Within W d (enterCdr s p l) ↔ Within W d s := by
  refine Within.skip (V := linkFoot) ?_ h
  unfold enterCdr
  simp (decide := true)

@[simp] theorem within_laneFail (d s : Dev) (p l err : ℕ) (h : linkFoot.le W = true) : Within W d (laneFail s p l err) ↔ Within W d s := by
  refine Within.skip (V := linkFoot) ?_ h
  unfold laneFail
  simp (decide := true) [↓within_ite]

@[simp] theorem within_laneStageTimeout (d s : Dev) (t p l : ℕ) (h : linkFoot.le W = true) :
    Within W d (laneStageTimeout s t p l) ↔ Within W d s := by
  refine Within.skip (V := linkFoot) ?_ h
  unfold laneStageTimeout
  dsimp only
  split <;> simp (decide := true) [↓within_ite]

@[simp] theorem within_doReversal (d s : Dev) (p l far : ℕ) (h : linkFoot.le W = true) : Within W d (doReversal s p l far) ↔ Within W d s := by
  refine Within.skip (V := linkFoot) ?_ h
  unfold doReversal
  simp (decide := true) [↓within_ite]

@[simp] theorem within_answerTap (d s : Dev) (p l : ℕ) (o : Sys2Proof.TrainObs) (h : linkFoot.le W = true) :
    Within W d (answerTap s p l o) ↔ Within W d s := by
  refine Within.skip (V := linkFoot) ?_ h
  unfold answerTap
  simp (decide := true) [↓within_ite]

@[simp] theorem within_tuneFar (d s : Dev) (p l : ℕ) (o : Sys2Proof.TrainObs) (h : linkFoot.le W = true) :
    Within W d (tuneFar s p l o) ↔ Within W d s := by
  refine Within.skip (V := linkFoot) ?_ h
  unfold tuneFar
  dsimp only
  split <;> simp (decide := true) [↓within_ite]

@[simp] theorem within_trainStage (d s : Dev) (p l : ℕ) (o : Sys2Proof.TrainObs) (h : linkFoot.le W = true) :
    Within W d (trainStage s p l o) ↔ Within W d s := by
  refine Within.skip (V := linkFoot) ?_ h
  unfold trainStage
  dsimp only
  repeat' split
  all_goals simp (decide := true) [↓within_enterStage, ↓within_setFs_skip, ↓within_setLane, ↓within_setF_skip, ↓within_doReversal]

@[simp] theorem within_fastFrame (d s : Dev) (p l n : ℕ) (o : Sys2Proof.TrainObs) (h : linkFoot.le W = true) :
    Within W d (fastFrame s p l n o) ↔ Within W d s := by
  refine Within.skip (V := linkFoot) ?_ h
  unfold fastFrame
  simp (decide := true) [↓within_ite]

@[simp] theorem within_trainingFrame (d s : Dev) (t p l : ℕ) (o : Sys2Proof.TrainObs) (h : linkFoot.le W = true) :
    Within W d (trainingFrame s t p l o) ↔ Within W d s := by
  refine Within.skip (V := linkFoot) ?_ h
  unfold trainingFrame
  dsimp only
  repeat' split
  all_goals simp (decide := true) [↓within_fastFrame, ↓within_setF_skip, ↓within_tuneFar, ↓within_answerTap, ↓within_trainStage, ↓within_emit, ↓within_setLane]

@[simp] theorem within_fomMean (d s : Dev) (p l fom : ℕ) (h : anyFoot.le W = true) : Within W d (fomMean s p l fom) ↔ Within W d s := by
  refine Within.skip (V := anyFoot) ?_ h
  unfold fomMean
  simp (decide := true)

@[simp] theorem within_laneLowFom (d s : Dev) (t p l fom : ℕ) (h : anyFoot.le W = true) : Within W d (laneLowFom s t p l fom) ↔ Within W d s := by
  refine Within.skip (V := anyFoot) ?_ h
  unfold laneLowFom
  simp (decide := true) [↓within_ite]

end Sys2Proof.Machine
end

section
/-! Footprints of the links (R241 to R264). -/

namespace Sys2Proof.Machine

open Sys2Proof.Claims

variable {W : Foot}

@[simp] theorem within_setLnk (d s : Dev) (p l : ℕ) (x : LnkSt) (h : linksFoot.le W = true) : Within W d (setLnk s p l x) ↔ Within W d s := by
  refine Within.skip (V := linksFoot) ?_ h
  unfold setLnk
  simp (decide := true)

@[simp] theorem within_sendCfg (d s : Dev) (p l c content seq : ℕ) (h : outFoot.le W = true) :
    Within W d (sendCfg s p l c content seq) ↔ Within W d s := by
  refine Within.skip (V := outFoot) ?_ h
  unfold sendCfg
  simp (decide := true)

/-- A link that differs in the CFG items alone. -/
theorem within_setLnk_cfg (d s : Dev) (p l : ℕ) (x : LnkSt) (hx : x.butCfg = (lnkSt s p l).butCfg) (h : cfgFoot.le W = true) :
    Within W d (setLnk s p l x) ↔ Within W d s := by
  refine Within.skip (V := cfgFoot) ⟨fun _ _ _ => rfl, fun q hq => ?_⟩ h
  cases q
  case cfg => exact absurd (by decide) hq
  case links =>
    intro k
    by_cases hk : k = ix p l
    · rw [hk]
      simpa only [Same, setLnk, mget_mset_same, lnkSt] using hx
    · simp only [setLnk, mget_mset_ne _ _ _ _ _ hk]
  all_goals simp [Same, setLnk]

@[simp] theorem within_cfgItem (d s : Dev) (p l c : ℕ) (all : Bool) (h : cfgFoot.le W = true) : Within W d (cfgItem s p l c all) ↔ Within W d s := by
  refine Within.skip (V := cfgFoot) ?_ h
  unfold cfgItem
  dsimp only
  split
  · simp (decide := true) [↓within_ite]
  · rw [within_sendCfg _ _ _ _ _ _ _ (by decide)]
    refine (within_setLnk_cfg _ _ _ _ _ ?_ (by decide)).mpr (.refl _ _)
    rfl

@[simp] theorem within_cfgAll (d s : Dev) (p l : ℕ) (all : Bool) (h : cfgFoot.le W = true) : Within W d (cfgAll s p l all) ↔ Within W d s := by
  refine Within.skip (V := cfgFoot) ?_ h
  unfold cfgAll
  simp (decide := true)

@[simp] theorem within_linkUp (d s : Dev) (p l : ℕ) (h : linkFoot.le W = true) : Within W d (linkUp s p l) ↔ Within W d s := by
  refine Within.skip (V := linkFoot) ?_ h
  unfold linkUp
  simp (decide := true) [↓within_ite]

@[simp] theorem within_linkGo (d s : Dev) (p l new cause : ℕ) (jsn : optParam ℕ 0) (h : linkFoot.le W = true) :
    Within W d (linkGo s p l new cause jsn) ↔ Within W d s := by
  refine Within.skip (V := linkFoot) ?_ h
  unfold linkGo
  simp (decide := true) [↓within_ite]

@[simp] theorem within_linkEval (d s : Dev) (p l cause : ℕ) (h : linkFoot.le W = true) : Within W d (linkEval s p l cause) ↔ Within W d s := by
  refine Within.skip (V := linkFoot) ?_ h
  unfold linkEval
  simp (decide := true) [↓within_ite]

@[simp] theorem within_restripeEvent (d s : Dev) (p l tx n old new : ℕ) (h : linkFoot.le W = true) :
    Within W d (restripeEvent s p l tx n old new) ↔ Within W d s := by
  refine Within.skip (V := linkFoot) ?_ h
  unfold restripeEvent
  simp (decide := true)

@[simp] theorem within_restripe (d s : Dev) (p l tx old new : ℕ) (h : linkFoot.le W = true) :
    Within W d (restripe s p l tx old new) ↔ Within W d s := by
  refine Within.skip (V := linkFoot) ?_ h
  unfold restripe
  simp (decide := true) [↓within_ite]

@[simp] theorem within_sendReq (d s : Dev) (p l mask : ℕ) (h : linkFoot.le W = true) : Within W d (sendReq s p l mask) ↔ Within W d s := by
  refine Within.skip (V := linkFoot) ?_ h
  unfold sendReq
  simp (decide := true)

@[simp] theorem within_amReceived (d s : Dev) (t p l k period : ℕ) (valid skew : Bool) (h : linkFoot.le W = true) :
    Within W d (amReceived s t p l k period valid skew) ↔ Within W d s := by
  refine Within.skip (V := linkFoot) ?_ h
  unfold amReceived
  simp (decide := true) [↓within_ite]

@[simp] theorem within_lastLane (d s : Dev) (p l : ℕ) (h : linkFoot.le W = true) : Within W d (lastLane s p l) ↔ Within W d s := by
  refine Within.skip (V := linkFoot) ?_ h
  unfold lastLane
  simp (decide := true) [↓within_ite]

@[simp] theorem within_laneLoss (d s : Dev) (t p l mask : ℕ) (h : linkFoot.le W = true) : Within W d (laneLoss s t p l mask) ↔ Within W d s := by
  refine Within.skip (V := linkFoot) ?_ h
  unfold laneLoss
  simp (decide := true) [↓within_ite]

@[simp] theorem within_laneReturn (d s : Dev) (t p l k : ℕ) (h : linkFoot.le W = true) : Within W d (laneReturn s t p l k) ↔ Within W d s := by
  refine Within.skip (V := linkFoot) ?_ h
  unfold laneReturn
  simp (decide := true) [↓within_ite]
  split <;> simp (decide := true) [↓within_ite]

@[simp] theorem within_restripeReq (d s : Dev) (t p l mask id : ℕ) (h : linkFoot.le W = true) :
    Within W d (restripeReq s t p l mask id) ↔ Within W d s := by
  refine Within.skip (V := linkFoot) ?_ h
  unfold restripeReq
  simp (decide := true) [↓within_ite]

@[simp] theorem within_sendMask (d s : Dev) (p l mask id k period idle : ℕ) (h : linkFoot.le W = true) :
    Within W d (sendMask s p l mask id k period idle) ↔ Within W d s := by
  refine Within.skip (V := linkFoot) ?_ h
  unfold sendMask
  simp (decide := true)

@[simp] theorem within_switchRound (d s : Dev) (t p l k period : ℕ) (h : linkFoot.le W = true) :
    Within W d (switchRound s t p l k period) ↔ Within W d s := by
  refine Within.skip (V := linkFoot) ?_ h
  unfold switchRound
  dsimp only
  split <;> simp (decide := true)

@[simp] theorem within_maskReceived (d s : Dev) (t p l mask id : ℕ) (h : linkFoot.le W = true) :
    Within W d (maskReceived s t p l mask id) ↔ Within W d s := by
  refine Within.skip (V := linkFoot) ?_ h
  unfold maskReceived
  dsimp only
  split <;> simp (decide := true) [↓within_ite]

@[simp] theorem within_sendTiming (d s : Dev) (p l : ℕ) (h : linkFoot.le W = true) : Within W d (sendTiming s p l) ↔ Within W d s := by
  refine Within.skip (V := linkFoot) ?_ h
  unfold sendTiming
  simp (decide := true) [↓within_ite]

@[simp] theorem within_timingBlock (d s : Dev) (t p l : ℕ) (rx : Option Sys2Proof.TimingObs) (h : linkFoot.le W = true) :
    Within W d (timingBlock s t p l rx) ↔ Within W d s := by
  refine Within.skip (V := linkFoot) ?_ h
  unfold timingBlock
  split <;> simp (decide := true) [↓within_ite]

@[simp] theorem within_delayReq (d s : Dev) (t p l seq t1 t2 : ℕ) (h : linkFoot.le W = true) :
    Within W d (delayReq s t p l seq t1 t2) ↔ Within W d s := by
  refine Within.skip (V := linkFoot) ?_ h
  unfold delayReq
  simp (decide := true)

@[simp] theorem within_delayResp (d s : Dev) (t p l seq t1 t2 t3 : ℕ) (h : linkFoot.le W = true) :
    Within W d (delayResp s t p l seq t1 t2 t3) ↔ Within W d s := by
  refine Within.skip (V := linkFoot) ?_ h
  unfold delayResp
  simp (decide := true) [↓within_ite]

@[simp] theorem within_delayMeasure (d s : Dev) (t p l : ℕ) (h : linkFoot.le W = true) : Within W d (delayMeasure s t p l) ↔ Within W d s := by
  refine Within.skip (V := linkFoot) ?_ h
  unfold delayMeasure
  simp (decide := true) [↓within_ite]

@[simp] theorem within_presence (d s : Dev) (t p l : ℕ) (o : Sys2Proof.PresObs) (h : linkFoot.le W = true) :
    Within W d (presence s t p l o) ↔ Within W d s := by
  refine Within.skip (V := linkFoot) ?_ h
  unfold presence
  simp (decide := true) [↓within_ite]

@[simp] theorem within_presenceSend (d s : Dev) (t p l : ℕ) (h : linkFoot.le W = true) : Within W d (presenceSend s t p l) ↔ Within W d s := by
  refine Within.skip (V := linkFoot) ?_ h
  unfold presenceSend
  simp (decide := true) [↓within_ite, ↓within_emit]

@[simp] theorem within_presenceTimeout (d s : Dev) (t p l : ℕ) (h : linkFoot.le W = true) : Within W d (presenceTimeout s t p l) ↔ Within W d s := by
  refine Within.skip (V := linkFoot) ?_ h
  unfold presenceTimeout
  simp (decide := true) [↓within_ite]

@[simp] theorem within_cfgRepeat (d s : Dev) (t p l : ℕ) (h : linkFoot.le W = true) : Within W d (cfgRepeat s t p l) ↔ Within W d s := by
  refine Within.skip (V := linkFoot) ?_ h
  unfold cfgRepeat
  simp (decide := true) [↓within_ite]

@[simp] theorem within_startTraining (d s : Dev) (p l : ℕ) (h : linkFoot.le W = true) : Within W d (startTraining s p l) ↔ Within W d s := by
  refine Within.skip (V := linkFoot) ?_ h
  unfold startTraining
  simp (decide := true) [↓within_ite]

@[simp] theorem within_linkTrainTimeout (d s : Dev) (t p l : ℕ) (h : linkFoot.le W = true) :
    Within W d (linkTrainTimeout s t p l) ↔ Within W d s := by
  refine Within.skip (V := linkFoot) ?_ h
  unfold linkTrainTimeout
  simp (decide := true) [↓within_ite]

@[simp] theorem within_linkIdleTimeout (d s : Dev) (t p l : ℕ) (h : linkFoot.le W = true) : Within W d (linkIdleTimeout s t p l) ↔ Within W d s := by
  refine Within.skip (V := linkFoot) ?_ h
  unfold linkIdleTimeout
  simp (decide := true) [↓within_ite]

@[simp] theorem within_laneSignalDetect (d s : Dev) (t p l : ℕ) (h : linkFoot.le W = true) :
    Within W d (laneSignalDetect s t p l) ↔ Within W d s := by
  refine Within.skip (V := linkFoot) ?_ h
  unfold laneSignalDetect
  simp (decide := true) [↓within_ite]

@[simp] theorem within_uncorrectable (d s : Dev) (t p l k corrected : ℕ) (h : linkFoot.le W = true) :
    Within W d (uncorrectable s t p l k corrected) ↔ Within W d s := by
  refine Within.skip (V := linkFoot) ?_ h
  unfold uncorrectable
  simp (decide := true) [↓within_ite]

@[simp] theorem within_afterFast (d s : Dev) (p l : ℕ) (h : linkFoot.le W = true) : Within W d (afterFast s p l) ↔ Within W d s := by
  refine Within.skip (V := linkFoot) ?_ h
  unfold afterFast
  simp (decide := true) [↓within_ite]

@[simp] theorem within_trainingFrameLink (d s : Dev) (t p l : ℕ) (o : Sys2Proof.TrainObs) (h : linkFoot.le W = true) :
    Within W d (trainingFrameLink s t p l o) ↔ Within W d s := by
  refine Within.skip (V := linkFoot) ?_ h
  unfold trainingFrameLink
  simp (decide := true) [↓within_ite]

@[simp] theorem within_linkSetCmd (d s : Dev) (j : JRec) (h : anyFoot.le W = true) : Within W d (linkSetCmd s j) ↔ Within W d s := by
  refine Within.skip (V := anyFoot) ?_ h
  unfold linkSetCmd
  split <;> simp (decide := true)

@[simp] theorem within_linkIdle (d s : Dev) (p l jsn : ℕ) (h : anyFoot.le W = true) : Within W d (linkIdle s p l jsn) ↔ Within W d s := by
  refine Within.skip (V := anyFoot) ?_ h
  unfold linkIdle
  simp (decide := true) [↓within_ite]

@[simp] theorem within_linkWake (d s : Dev) (p l : ℕ) (h : anyFoot.le W = true) : Within W d (linkWake s p l) ↔ Within W d s := by
  refine Within.skip (V := anyFoot) ?_ h
  unfold linkWake
  simp (decide := true) [↓within_ite]

@[simp] theorem within_linkOff (d s : Dev) (p l jsn : ℕ) (h : anyFoot.le W = true) : Within W d (linkOff s p l jsn) ↔ Within W d s := by
  refine Within.skip (V := anyFoot) ?_ h
  unfold linkOff
  simp (decide := true)

@[simp] theorem within_linkModeApply (d s : Dev) (p l old new jsn : ℕ) (h : anyFoot.le W = true) :
    Within W d (linkModeApply s p l old new jsn) ↔ Within W d s := by
  refine Within.skip (V := anyFoot) ?_ h
  unfold linkModeApply
  simp (decide := true) [↓within_ite]

@[simp] theorem within_applyLinkSet (d s : Dev) (x : Pend) (j : JRec) (n : ℕ) (h : anyFoot.le W = true) :
    Within W d (applyLinkSet s x j n) ↔ Within W d s := by
  refine Within.skip (V := anyFoot) ?_ h
  unfold applyLinkSet
  simp (decide := true) only [↓within_ite, within_finishFrame, within_decideCmd, within_unpend, ite_self]
  refine (within_fenced _ _ _ _ _ ((within_foldl_skip _ _ _ _ fun s p => ?_).mpr ?_) (by decide)).mpr (.refl _ _)
  · simp (decide := true) [↓within_ite]
  · simp (decide := true)

@[simp] theorem within_cfgSlot (d s before : Dev) (q k : ℕ) (h : cfgFoot.le W = true) : Within W d (cfgSlot before s q k) ↔ Within W d s := by
  refine Within.skip (V := cfgFoot) ?_ h
  unfold cfgSlot
  simp (decide := true) [↓within_ite]

@[simp] theorem within_cfgChanged (d s : Dev) (h : cfgFoot.le W = true) : Within W d (cfgChanged s) ↔ Within W d s := by
  refine Within.skip (V := cfgFoot) ?_ h
  unfold cfgChanged
  simp (decide := true) [↓within_ite]

@[simp] theorem within_sourceFrame (d s : Dev) (t p n : ℕ) (o : Sys2Proof.SrcObs) (h : syncFoot.le W = true) :
    Within W d (sourceFrame s t p n o) ↔ Within W d s := by
  refine Within.skip (V := syncFoot) ?_ h
  unfold sourceFrame
  simp (decide := true) [↓within_ite]

@[simp] theorem within_switchInstant (d s : Dev) (t p e ecc : ℕ) (h : slotFoot.le W = true) :
    Within W d (switchInstant s t p e ecc) ↔ Within W d s := by
  refine Within.skip (V := slotFoot) ?_ h
  unfold switchInstant
  simp (decide := true)

end Sys2Proof.Machine
end

section
/-! Footprints of the merge and the planes (R121 to R148). -/

namespace Sys2Proof.Machine

open Sys2Proof.Claims

variable {W : Foot}

@[simp] theorem within_setMerge (d s : Dev) (k : ℕ) (x : MergeSt) (h : mergeCoreFoot.le W = true) : Within W d (setMerge s k x) ↔ Within W d s := by
  refine Within.skip (V := mergeCoreFoot) ?_ h
  unfold setMerge
  simp (decide := true)

@[simp] theorem within_mergeCount (d s : Dev) (p n : ℕ) (f : Fld) (k : ℕ) (h : W.hits (f.code % 262144) = true) :
    Within W d (mergeCount s p n f k) ↔ Within W d s := by
  unfold mergeCount
  simp [h]

@[simp] theorem within_countGone (d s : Dev) (p n : ℕ) (f : Fld) (num : ℕ) (hf : W.hits (f.code % 262144) = true) (h : mergeCoreFoot.le W = true) :
    Within W d (countGone s p n f num) ↔ Within W d s := by
  suffices hs : Within W s (countGone s p n f num) from ⟨fun q => q.trans hs.symm, fun q => q.trans hs⟩
  unfold countGone
  dsimp only
  split
  · rfl
  · simp [hf, h]

@[simp] theorem within_clearMerge (d s : Dev) (key : ℕ) (h : mergeCoreFoot.le W = true) : Within W d (clearMerge s key) ↔ Within W d s := by
  refine Within.skip (V := mergeCoreFoot) ?_ h
  unfold clearMerge
  simp (decide := true)

@[simp] theorem within_mergeArrive (d s : Dev) (key p n cap num : ℕ) (before : ℕ → ℕ → Bool) (own : Bool) (h : mergeCoreFoot.le W = true) :
    Within W d (mergeArrive s key p n cap num before own).2 ↔ Within W d s := by
  refine Within.skip (V := mergeCoreFoot) ?_ h
  unfold mergeArrive
  dsimp only
  repeat' split
  all_goals simp (decide := true) [↓within_clearMerge, ↓within_mergeCount, ↓within_setMerge]

@[simp] theorem within_segmentReceived (d s : Dev) (t p n : ℕ) (o : Sys2Proof.SegObs) (h : mergeFoot.le W = true) :
    Within W d (segmentReceived s t p n o) ↔ Within W d s := by
  refine Within.skip (V := mergeFoot) ?_ h
  unfold segmentReceived
  simp (decide := true) [↓within_ite]

@[simp] theorem within_mergeHistoryTimeout (d s : Dev) (t p n : ℕ) (h : mergeFoot.le W = true) :
    Within W d (mergeHistoryTimeout s t p n) ↔ Within W d s := by
  refine Within.skip (V := mergeFoot) ?_ h
  unfold mergeHistoryTimeout
  dsimp only
  split <;> simp (decide := true) [↓within_ite]

@[simp] theorem within_egressSegment (d s : Dev) (t p e n k : ℕ) (missing : Bool) (srcFrame : ℕ) (h : egressFoot.le W = true) :
    Within W d (egressSegment s t p e n k missing srcFrame) ↔ Within W d s := by
  refine Within.skip (V := egressFoot) ?_ h
  unfold egressSegment
  simp (decide := true) [↓within_ite]

@[simp] theorem within_planeTrainingDone (d s : Dev) (t p : ℕ) (h : planeFoot.le W = true) : Within W d (planeTrainingDone s t p) ↔ Within W d s := by
  refine Within.skip (V := planeFoot) ?_ h
  unfold planeTrainingDone
  simp (decide := true) [↓within_ite]

@[simp] theorem within_planeStateTimeout (d s : Dev) (t p : ℕ) (h : planeFoot.le W = true) : Within W d (planeStateTimeout s t p) ↔ Within W d s := by
  refine Within.skip (V := planeFoot) ?_ h
  unfold planeStateTimeout
  simp (decide := true) [↓within_ite]

end Sys2Proof.Machine
end

section
/-! Footprints of the stacks (R383 to R398). -/

namespace Sys2Proof.Machine

open Sys2Proof.Claims

variable {W : Foot}

@[simp] theorem within_setHbm (d s : Dev) (p : ℕ) (x : HbmSt) (h : mgmtFoot.le W = true) : Within W d (setHbm s p x) ↔ Within W d s := by
  refine Within.skip (V := mgmtFoot) ?_ h
  unfold setHbm
  simp (decide := true)

@[simp] theorem within_trainLane (d s : Dev) (p : ℕ) (o : Sys2Proof.EyeObs) (l : ℕ) (h : mgmtFoot.le W = true) :
    Within W d (trainLane s p o l) ↔ Within W d s := by
  refine Within.skip (V := mgmtFoot) ?_ h
  unfold trainLane
  simp (decide := true)

@[simp] theorem within_hbmTrainDone (d s : Dev) (t p : ℕ) (eyes : List Sys2Proof.EyeObs) (h : mgmtFoot.le W = true) :
    Within W d (hbmTrainDone s t p eyes) ↔ Within W d s := by
  refine Within.skip (V := mgmtFoot) ?_ h
  unfold hbmTrainDone
  simp (decide := true) [↓within_ite]
  split <;> simp (decide := true)

@[simp] theorem within_hbmEyeTrack (d s : Dev) (t p l left right : ℕ) (h : mgmtFoot.le W = true) :
    Within W d (hbmEyeTrack s t p l left right) ↔ Within W d s := by
  refine Within.skip (V := mgmtFoot) ?_ h
  unfold hbmEyeTrack
  simp (decide := true) [↓within_ite]

@[simp] theorem within_hbmRefresh (d s : Dev) (t p pc b : ℕ) (idle held : Bool) (h : mgmtFoot.le W = true) :
    Within W d (hbmRefresh s t p pc b idle held) ↔ Within W d s := by
  refine Within.skip (V := mgmtFoot) ?_ h
  unfold hbmRefresh
  simp (decide := true) [↓within_ite]

@[simp] theorem within_hbmReqPromote (d s : Dev) (t p pc issued : ℕ) (rt : Bool) (h : mgmtFoot.le W = true) :
    Within W d (hbmReqPromote s t p pc issued rt) ↔ Within W d s := by
  refine Within.skip (V := mgmtFoot) ?_ h
  unfold hbmReqPromote
  simp (decide := true) [↓within_ite]

@[simp] theorem within_hbmUe (d s : Dev) (p addr : ℕ) (h : mgmtFoot.le W = true) : Within W d (hbmUe s p addr) ↔ Within W d s := by
  refine Within.skip (V := mgmtFoot) ?_ h
  unfold hbmUe
  simp (decide := true) [↓within_ite]

@[simp] theorem within_hbmUeReader (d s : Dev) (p : ℕ) (o : Sys2Proof.HbmRead) (h : mgmtFoot.le W = true) :
    Within W d (hbmUeReader s p o) ↔ Within W d s := by
  refine Within.skip (V := mgmtFoot) ?_ h
  unfold hbmUeReader
  split <;> simp (decide := true)

@[simp] theorem within_hbmScrub (d s : Dev) (t p : ℕ) (o : Sys2Proof.HbmRead) (h : mgmtFoot.le W = true) :
    Within W d (hbmScrub s t p o) ↔ Within W d s := by
  refine Within.skip (V := mgmtFoot) ?_ h
  unfold hbmScrub
  dsimp only
  split <;> simp (decide := true) [↓within_ite]

end Sys2Proof.Machine
end

section
/-! Footprints of composition (R150 to R190). -/

namespace Sys2Proof.Machine

open Sys2Proof.Claims

variable {W : Foot}

@[simp] theorem within_scheduleComp (d s : Dev) (j : JRec) (k aux : ℕ) (h : anyFoot.le W = true) :
    Within W d (scheduleComp s j k aux) ↔ Within W d s := by
  refine Within.skip (V := anyFoot) ?_ h
  unfold scheduleComp
  split <;> simp (decide := true)

@[simp] theorem within_compSetCmd (d s : Dev) (j : JRec) (h : anyFoot.le W = true) : Within W d (compSetCmd s j) ↔ Within W d s := by
  refine Within.skip (V := anyFoot) ?_ h
  unfold compSetCmd
  dsimp only
  split <;> simp (decide := true)

@[simp] theorem within_compStateCmd (d s : Dev) (j : JRec) (h : anyFoot.le W = true) : Within W d (compStateCmd s j) ↔ Within W d s := by
  refine Within.skip (V := anyFoot) ?_ h
  unfold compStateCmd
  split <;> simp (decide := true)

@[simp] theorem within_releaseLines (d s : Dev) (p c : ℕ) (h : prefetchFoot.le W = true) : Within W d (releaseLines s p c) ↔ Within W d s := by
  refine Within.skip (V := prefetchFoot) ?_ h
  unfold releaseLines
  simp (decide := true)

@[simp] theorem within_applyCompSet (d s : Dev) (p c : ℕ) (x : Pend) (j : JRec) (h : prefetchFoot.le W = true) :
    Within W d (applyCompSet s p c x j) ↔ Within W d s := by
  refine Within.skip (V := prefetchFoot) ?_ h
  unfold applyCompSet
  simp (decide := true) only [↓within_ite, within_syncLoads, within_finishFrame, within_decideCmd, within_unpend, ite_self]
  refine (within_fenced _ _ _ _ _ ?_ (by decide)).mpr (.refl _ _)
  exact (within_setMech _ _ _ _ _ (by decide)).mpr (within_foldl _ (fun s p => by simp (decide := true)) _ _)

@[simp] theorem within_applyCompState (d s : Dev) (p c : ℕ) (x : Pend) (j : JRec) (h : prefetchFoot.le W = true) :
    Within W d (applyCompState s p c x j) ↔ Within W d s := by
  refine Within.skip (V := prefetchFoot) ?_ h
  unfold applyCompState
  simp (decide := true) only [↓within_ite, within_syncLoads, within_finishFrame, within_decideCmd, within_unpend, ite_self]
  refine (within_fenced _ _ _ _ _ ((within_foldl_skip _ _ _ _ fun s p => ?_).mpr (by simp (decide := true))) (by decide)).mpr (.refl _ _)
  simp (decide := true) [↓within_ite]

@[simp] theorem within_applyComps (d s : Dev) (p c n : ℕ) (h : prefetchFoot.le W = true) : Within W d (applyComps s p c n) ↔ Within W d s := by
  refine Within.skip (V := prefetchFoot) ?_ h
  unfold applyComps
  refine within_foldl _ (fun s _ => ?_) _ s
  split
  · split
    · rfl
    · simp (decide := true) [↓within_ite]
  · rfl

@[simp] theorem within_tapEvents (d s : Dev) (p c l prev was new vt : ℕ) (h : prefetchFoot.le W = true) :
    Within W d (tapEvents s p c l prev was new vt) ↔ Within W d s := by
  refine Within.skip (V := prefetchFoot) ?_ h
  unfold tapEvents
  simp (decide := true) [↓within_ite]

@[simp] theorem within_recheckLayers (d s : Dev) (p c : ℕ) (h : prefetchFoot.le W = true) : Within W d (recheckLayers s p c) ↔ Within W d s := by
  refine Within.skip (V := prefetchFoot) ?_ h
  unfold recheckLayers
  simp (decide := true) [↓within_ite]

@[simp] theorem within_prefetchFit (d s : Dev) (p c : ℕ) (h : prefetchFoot.le W = true) : Within W d (prefetchFit s p c) ↔ Within W d s := by
  refine Within.skip (V := prefetchFoot) ?_ h
  unfold prefetchFit
  simp (decide := true) only [setFs, within_setF_skip, within_setCmp]
  exact (within_foldl_skip _ _ _ _ fun s l => by simp (decide := true)).mpr (by simp (decide := true))

@[simp] theorem within_compPrefetch (d s : Dev) (t p c : ℕ) (px : List Sys2Proof.LayPix) (h : prefetchFoot.le W = true) :
    Within W d (compPrefetch s t p c px) ↔ Within W d s := by
  refine Within.skip (V := prefetchFoot) ?_ h
  unfold compPrefetch
  dsimp only
  repeat' split
  all_goals simp (decide := true) [↓within_ite, ↓within_applyComps, ↓within_prefetchFit, ↓within_emit]

@[simp] theorem within_lutLoadCmd (d s : Dev) (j : JRec) (h : anyFoot.le W = true) : Within W d (lutLoadCmd s j) ↔ Within W d s := by
  refine Within.skip (V := anyFoot) ?_ h
  unfold lutLoadCmd
  dsimp only
  repeat' split
  all_goals simp (decide := true) [↓within_refuse, ↓within_schedule]

@[simp] theorem within_applyLut (d s : Dev) (x : Pend) (j : JRec) (n : ℕ) (h : anyFoot.le W = true) :
    Within W d (applyLut s x j n) ↔ Within W d s := by
  refine Within.skip (V := anyFoot) ?_ h
  unfold applyLut
  simp (decide := true) [↓within_ite]

@[simp] theorem within_genSetCmd (d s : Dev) (j : JRec) (h : anyFoot.le W = true) : Within W d (genSetCmd s j) ↔ Within W d s := by
  refine Within.skip (V := anyFoot) ?_ h
  unfold genSetCmd
  split <;> simp (decide := true)

@[simp] theorem within_syncGen (d s : Dev) (p g : ℕ) (h : planeFoot.le W = true) : Within W d (syncGen s p g) ↔ Within W d s := by
  refine Within.skip (V := planeFoot) ?_ h
  unfold syncGen
  simp (decide := true)

@[simp] theorem within_applyGen (d s : Dev) (x : Pend) (j : JRec) (n : ℕ) (h : anyFoot.le W = true) :
    Within W d (applyGen s x j n) ↔ Within W d s := by
  refine Within.skip (V := anyFoot) ?_ h
  unfold applyGen
  simp (decide := true) only [↓within_ite, within_syncLoads, within_finishFrame, within_decideCmd, within_unpend, ite_self]
  refine (within_fenced _ _ _ _ _ ((within_foldl_skip _ _ _ _ fun s p => ?_).mpr ?_) (by decide)).mpr (.refl _ _)
  · simp (decide := true)
  · simp (decide := true)

@[simp] theorem within_syncStills (d s : Dev) (h : planeFoot.le W = true) : Within W d (syncStills s) ↔ Within W d s := by
  refine Within.skip (V := planeFoot) ?_ h
  unfold syncStills
  simp (decide := true)

@[simp] theorem within_stillLoadCmd (d s : Dev) (j : JRec) (h : anyFoot.le W = true) : Within W d (stillLoadCmd s j) ↔ Within W d s := by
  refine Within.skip (V := anyFoot) ?_ h
  unfold stillLoadCmd
  split <;> simp (decide := true)

@[simp] theorem within_applyStill (d s : Dev) (x : Pend) (j : JRec) (n : ℕ) (h : anyFoot.le W = true) :
    Within W d (applyStill s x j n) ↔ Within W d s := by
  refine Within.skip (V := anyFoot) ?_ h
  unfold applyStill
  dsimp only
  split
  · simp (decide := true)
  · rw [within_syncStills _ _ (by decide), within_decideCmd _ _ _ _ _ _ (by decide), within_unpend _ _ _ (by decide)]
    exact (within_fenced _ _ _ _ _ (by simp (decide := true)) (by decide)).mpr (.refl _ _)

@[simp] theorem within_libraryCopy (d s : Dev) (t kind idx : ℕ) (h : anyFoot.le W = true) : Within W d (libraryCopy s t kind idx) ↔ Within W d s := by
  refine Within.skip (V := anyFoot) ?_ h
  unfold libraryCopy
  simp (decide := true) [↓within_ite]

end Sys2Proof.Machine
end

section
/-! Footprints of the TDM ports (R221 to R240). -/

namespace Sys2Proof.Machine

open Sys2Proof.Claims

variable {W : Foot}

@[simp] theorem within_setTdm (d s : Dev) (p : ℕ) (x : TdmSt) (h : restartFoot.le W = true) : Within W d (setTdm s p x) ↔ Within W d s := by
  refine Within.skip (V := restartFoot) ?_ h
  unfold setTdm
  simp (decide := true)

@[simp] theorem within_setAud (d s : Dev) (p : ℕ) (x : AudSt) (h : audFoot.le W = true) : Within W d (setAud s p x) ↔ Within W d s := by
  refine Within.skip (V := audFoot) ?_ h
  unfold setAud
  simp (decide := true)

@[simp] theorem within_fusePins (d s : Dev) (l : List ℕ) (h : outFoot.le W = true) : Within W d (fusePins s l) ↔ Within W d s := by
  refine Within.skip (V := outFoot) ?_ h
  unfold fusePins
  simp (decide := true)

@[simp] theorem within_tdmSetCmd (d s : Dev) (j : JRec) (h : anyFoot.le W = true) : Within W d (tdmSetCmd s j) ↔ Within W d s := by
  refine Within.skip (V := anyFoot) ?_ h
  unfold tdmSetCmd
  split <;> simp (decide := true)

@[simp] theorem within_landMask (d s : Dev) (p tx rx origin : ℕ) (h : restartFoot.le W = true) :
    Within W d (landMask s p tx rx origin) ↔ Within W d s := by
  refine Within.skip (V := restartFoot) ?_ h
  unfold landMask
  simp (decide := true)

@[simp] theorem within_restartPins (d s : Dev) (p : ℕ) (h : outFoot.le W = true) : Within W d (restartPins s p) ↔ Within W d s := by
  refine Within.skip (V := outFoot) ?_ h
  unfold restartPins
  simp (decide := true) [↓within_ite]

@[simp] theorem within_restartPort (d s : Dev) (p : ℕ) (h : restartFoot.le W = true) : Within W d (restartPort s p) ↔ Within W d s := by
  refine Within.skip (V := restartFoot) ?_ h
  unfold restartPort
  simp (decide := true)

/-- The fields that TDM_SET writes are of the TDM block. -/
theorem within_setTdmFields (d s : Dev) (k v w : ℕ) (e : Bytes) (h : Foot.le { blks := [blkTdm] } W = true) :
    Within W d (setFs s k ((F.TDM_CFG_PLANE, v) :: (F.TDM_STAT_VIDEO_DEST, w) :: tdmFields e)) ↔ Within W d s := by
  refine Within.skip (V := { blks := [blkTdm] }) ?_ h
  simp (decide := true) [tdmFields]

@[simp] theorem within_applyTdm (d s : Dev) (x : Pend) (j : JRec) (h : tdmSetFoot.le W = true) :
    Within W d (applyTdm s x j) ↔ Within W d s := by
  refine Within.skip (V := tdmSetFoot) ?_ h
  unfold applyTdm
  simp (decide := true) only [↓within_ite, within_finishFrame, within_decideCmd, within_unpend, ite_self]
  refine (within_fenced _ _ _ _ _ ?_ (by decide)).mpr (.refl _ _)
  have hset (u : Dev) (k v w : ℕ) (m : Mech) : Within tdmSetFoot u (setFs (setMech u mkTdm k m) k
      ((F.TDM_CFG_PLANE, v) :: (F.TDM_STAT_VIDEO_DEST, w) :: tdmFields j.desc)) := by
    rw [within_setTdmFields _ _ _ _ _ _ (by decide), within_setMech _ _ _ _ _ (by decide)]
  simp (decide := true) [↓within_ite, ↓within_landMask, ↓within_restartPort, hset]

@[simp] theorem within_applyTdms (d s : Dev) (only : Option ℕ) (h : tdmSetFoot.le W = true) : Within W d (applyTdms s only) ↔ Within W d s := by
  refine Within.skip (V := tdmSetFoot) ?_ h
  unfold applyTdms
  refine within_foldl _ (fun s _ => ?_) _ s
  split
  · split
    · rfl
    · simp (decide := true) [↓within_ite]
  · rfl

@[simp] theorem within_startPort (d s : Dev) (p : ℕ) (h : tdmPortFoot.le W = true) : Within W d (startPort s p) ↔ Within W d s := by
  refine Within.skip (V := tdmPortFoot) ?_ h
  unfold startPort
  simp (decide := true) [↓within_ite]

@[simp] theorem within_tdmRestart (d s : Dev) (t p : ℕ) (h : anyFoot.le W = true) : Within W d (tdmRestart s t p) ↔ Within W d s := by
  refine Within.skip (V := anyFoot) ?_ h
  unfold tdmRestart
  simp (decide := true)

@[simp] theorem within_tdmMaskWrite (d s : Dev) (t p tx rx : ℕ) (h : tdmPortFoot.le W = true) :
    Within W d (tdmMaskWrite s t p tx rx) ↔ Within W d s := by
  refine Within.skip (V := tdmPortFoot) ?_ h
  unfold tdmMaskWrite
  simp (decide := true)

@[simp] theorem within_choosePlane (d s : Dev) (p : ℕ) (h : tdmPortFoot.le W = true) : Within W d (choosePlane s p) ↔ Within W d s := by
  refine Within.skip (V := tdmPortFoot) ?_ h
  unfold choosePlane
  simp (decide := true) [↓within_ite]

@[simp] theorem within_activateMasks (d s : Dev) (p : ℕ) (h : tdmPortFoot.le W = true) : Within W d (activateMasks s p) ↔ Within W d s := by
  refine Within.skip (V := tdmPortFoot) ?_ h
  unfold activateMasks
  simp (decide := true) [↓within_ite]

@[simp] theorem within_rxSlot (d s : Dev) (p width k w : ℕ) (h : tdmPortFoot.le W = true) : Within W d (rxSlot p width s k w).1 ↔ Within W d s := by
  refine Within.skip (V := tdmPortFoot) ?_ h
  unfold rxSlot
  simp (decide := true) [↓within_ite, apply_ite Prod.fst]

@[simp] theorem within_rxFrame (d s : Dev) (p : ℕ) (words : List ℕ) (h : tdmPortFoot.le W = true) : Within W d (rxFrame s p words).1 ↔ Within W d s := by
  refine Within.skip (V := tdmPortFoot) ?_ h
  unfold rxFrame
  refine List.foldlRecOn (motive := fun a : Dev × List (Option ℕ) => Within tdmPortFoot s a.1) _ _ (.refl _ _) fun a ha k _ => ?_
  dsimp only
  split
  · exact (within_rxSlot s a.1 p _ k _ (by decide)).mpr ha
  · exact ha

@[simp] theorem within_steerSend (d s : Dev) (p : ℕ) (arrived : List (List Sys2Proof.OutSamp)) (absent : Bool) (h : tdmPortFoot.le W = true) :
    Within W d (steerSend s p arrived absent).1 ↔ Within W d s := by
  refine Within.skip (V := tdmPortFoot) ?_ h
  unfold steerSend
  split <;> simp (decide := true) [↓within_ite]

@[simp] theorem within_steerFrame (d s : Dev) (p : ℕ) (arrived : List (List Sys2Proof.OutSamp)) (absent : Bool) (h : tdmPortFoot.le W = true) :
    Within W d (steerFrame s p arrived absent).1 ↔ Within W d s := by
  refine Within.skip (V := tdmPortFoot) ?_ h
  unfold steerFrame
  simp (decide := true) [↓within_ite, apply_ite Prod.fst]

/-- What follows the TDM_SET commands that fall due keeps to the port. -/
theorem within_tdmFrame_applied (s : Dev) (t p : ℕ) (words : List ℕ) (arrived : List (List OutSamp)) (absent : Bool) :
    Within tdmPortFoot (applyTdms (s.at t) (some p)) (tdmFrame s t p words arrived absent) := by
  unfold tdmFrame
  simp (decide := true) [↓within_ite, apply_ite Prod.fst]

@[simp] theorem within_tdmFrame (d s : Dev) (t p : ℕ) (words : List ℕ) (arrived : List (List OutSamp)) (absent : Bool) (h : tdmFoot.le W = true) :
    Within W d (tdmFrame s t p words arrived absent) ↔ Within W d s := by
  refine Within.skip (V := tdmFoot) ?_ h
  refine .trans ?_ ((within_tdmFrame_applied s t p words arrived absent).mono (by decide))
  simp (decide := true)

@[simp] theorem within_tdmSteerLimit (d s : Dev) (t p : ℕ) (h : tdmPortFoot.le W = true) : Within W d (tdmSteerLimit s t p) ↔ Within W d s := by
  refine Within.skip (V := tdmPortFoot) ?_ h
  unfold tdmSteerLimit
  dsimp only
  split <;> simp (decide := true) [↓within_ite]

@[simp] theorem within_tdmMclkLoss (d s : Dev) (t : ℕ) (h : anyFoot.le W = true) : Within W d (tdmMclkLoss s t) ↔ Within W d s := by
  refine Within.skip (V := anyFoot) ?_ h
  unfold tdmMclkLoss
  simp (decide := true) [↓within_ite]

@[simp] theorem within_tdmMclkReturn (d s : Dev) (t : ℕ) (h : tdmPortFoot.le W = true) : Within W d (tdmMclkReturn s t) ↔ Within W d s := by
  refine Within.skip (V := tdmPortFoot) ?_ h
  unfold tdmMclkReturn
  simp (decide := true) [↓within_ite]

@[simp] theorem within_tdmBclkCheck (d s : Dev) (t p count : ℕ) (h : anyFoot.le W = true) : Within W d (tdmBclkCheck s t p count) ↔ Within W d s := by
  refine Within.skip (V := anyFoot) ?_ h
  unfold tdmBclkCheck
  simp (decide := true) [↓within_ite]

end Sys2Proof.Machine
end

section
/-! Footprints of the audio engine (R192 to R220). -/

namespace Sys2Proof.Machine

open Sys2Proof.Claims

variable {W : Foot}

@[simp] theorem within_audioMapCmd (d s : Dev) (j : JRec) (h : anyFoot.le W = true) : Within W d (audioMapCmd s j) ↔ Within W d s := by
  refine Within.skip (V := anyFoot) ?_ h
  unfold audioMapCmd
  split <;> simp (decide := true)

@[simp] theorem within_setTap (d s : Dev) (w : ℕ × ℕ) (h : gridFoot.le W = true) : Within W d (setTap s w) ↔ Within W d s := by
  refine Within.skip (V := gridFoot) ?_ h
  unfold setTap
  simp (decide := true)

@[simp] theorem within_syncAsrc (d s : Dev) (h : asrcFoot.le W = true) : Within W d (syncAsrc s) ↔ Within W d s := by
  refine Within.skip (V := asrcFoot) ?_ h
  unfold syncAsrc
  simp (decide := true)

@[simp] theorem within_applyBlk (d s : Dev) (jsn : ℕ) (buf : Sys2Proof.Bytes) (b : MapBlk) (h : gridFoot.le W = true) :
    Within W d (applyBlk jsn buf s b) ↔ Within W d s := by
  refine Within.skip (V := gridFoot) ?_ h
  unfold applyBlk
  simp (decide := true) [↓within_ite]

@[simp] theorem within_applyMap (d s : Dev) (x : Pend) (j : JRec) (h : gridFoot.le W = true) :
    Within W d (applyMap s x j) ↔ Within W d s := by
  refine Within.skip (V := gridFoot) ?_ h
  unfold applyMap
  simp (decide := true) only [↓within_ite, within_finishFrame, within_decideCmd, within_unpend, ite_self]
  refine (within_fenced _ _ _ _ _ ?_ (by decide)).mpr (.refl _ _)
  rw [within_syncAsrc _ _ (by decide), within_foldl_skip _ _ _ _ fun s k => by simp (decide := true), within_setMech _ _ _ _ _ (by decide)]

@[simp] theorem within_applyMaps (d s : Dev) (h : gridFoot.le W = true) : Within W d (applyMaps s) ↔ Within W d s := by
  refine Within.skip (V := gridFoot) ?_ h
  unfold applyMaps
  refine within_foldl _ (fun s _ => ?_) _ s
  split
  · split <;> simp (decide := true)
  · rfl

@[simp] theorem within_audioFollowCmd (d s : Dev) (j : JRec) (h : anyFoot.le W = true) : Within W d (audioFollowCmd s j) ↔ Within W d s := by
  refine Within.skip (V := anyFoot) ?_ h
  unfold audioFollowCmd
  dsimp only
  repeat' split
  all_goals simp (decide := true) [↓within_refuse, ↓within_schedule, ↓within_scheduleFrame]

@[simp] theorem within_applyFollowSet (d s : Dev) (x : Pend) (j : JRec) (n : ℕ) (h : anyFoot.le W = true) :
    Within W d (applyFollowSet s x j n) ↔ Within W d s := by
  refine Within.skip (V := anyFoot) ?_ h
  unfold applyFollowSet
  simp (decide := true) only [↓within_ite, within_finishFrame, within_decideCmd, within_unpend, ite_self]
  split <;> refine (within_fenced _ _ _ _ _ ((within_foldl_skip _ _ _ _ fun s p => ?_).mpr ?_) (by decide)).mpr (.refl _ _) <;>
    simp (decide := true)

@[simp] theorem within_trackObs (d s : Dev) (p : ℕ) (obs : List Sys2Proof.SampObs) (h : gridFoot.le W = true) :
    Within W d (trackObs s p obs) ↔ Within W d s := by
  refine Within.skip (V := gridFoot) ?_ h
  unfold trackObs
  simp (decide := true) [↓within_ite]

@[simp] theorem within_stepDest (d s : Dev) (p e : ℕ) (h : gridFoot.le W = true) : Within W d (stepDest s p e) ↔ Within W d s := by
  refine Within.skip (V := gridFoot) ?_ h
  unfold stepDest
  simp (decide := true)

@[simp] theorem within_advance (d s : Dev) (p : ℕ) (h : gridFoot.le W = true) : Within W d (advance s p) ↔ Within W d s := by
  refine Within.skip (V := gridFoot) ?_ h
  unfold advance
  simp (decide := true)

@[simp] theorem within_syncChan (d s : Dev) (obs : List Sys2Proof.SampObs) (p j ch : ℕ) (h : gridFoot.le W = true) :
    Within W d (syncChan s obs p j ch) ↔ Within W d s := by
  refine Within.skip (V := gridFoot) ?_ h
  unfold syncChan
  simp (decide := true)

@[simp] theorem within_syncChans (d s : Dev) (obs : List Sys2Proof.SampObs) (p j : ℕ) (h : gridFoot.le W = true) :
    Within W d (syncChans s obs p j) ↔ Within W d s := by
  refine Within.skip (V := gridFoot) ?_ h
  unfold syncChans
  simp (decide := true) [↓within_ite]

@[simp] theorem within_audioGrid (d s : Dev) (t p : ℕ) (obs : List Sys2Proof.SampObs) (h : gridFoot.le W = true) :
    Within W d (audioGrid s t p obs) ↔ Within W d s := by
  refine Within.skip (V := gridFoot) ?_ h
  unfold audioGrid
  simp (decide := true) [↓within_ite]

@[simp] theorem within_audioFlowUntimed (d s : Dev) (t p n : ℕ) (h : untimedFoot.le W = true) :
    Within W d (audioFlowUntimed s t p n) ↔ Within W d s := by
  refine Within.skip (V := untimedFoot) ?_ h
  unfold audioFlowUntimed
  dsimp only
  split <;> simp (decide := true) [↓within_ite]

@[simp] theorem within_asrcLock (d s : Dev) (t p ch : ℕ) (h : asrcLockFoot.le W = true) : Within W d (asrcLock s t p ch) ↔ Within W d s := by
  refine Within.skip (V := asrcLockFoot) ?_ h
  unfold asrcLock
  dsimp only
  split <;> simp (decide := true)

end Sys2Proof.Machine
end

section
/-! Footprints of the Ethernet ports (R290 to R314). -/

namespace Sys2Proof.Machine

open Sys2Proof.Claims

variable {W : Foot}

@[simp] theorem within_setInst (d s : Dev) (p i : ℕ) (x : EthInst) (h : ethFoot.le W = true) : Within W d (setInst s p i x) ↔ Within W d s := by
  refine Within.skip (V := ethFoot) ?_ h
  unfold setInst
  simp (decide := true)

@[simp] theorem within_setEthFlow (d s : Dev) (p f : ℕ) (x : EthFlow) (h : ethFoot.le W = true) : Within W d (setEthFlow s p f x) ↔ Within W d s := by
  refine Within.skip (V := ethFoot) ?_ h
  unfold setEthFlow
  simp (decide := true)

@[simp] theorem within_macCount (d s : Dev) (p i k n : ℕ) (h : ethFoot.le W = true) : Within W d (macCount s p i k n) ↔ Within W d s := by
  refine Within.skip (V := ethFoot) ?_ h
  unfold macCount
  simp (decide := true)

@[simp] theorem within_ethSend (d s : Dev) (p i kind len content : ℕ) (h : ethFoot.le W = true) :
    Within W d (ethSend s p i kind len content) ↔ Within W d s := by
  refine Within.skip (V := ethFoot) ?_ h
  unfold ethSend
  simp (decide := true)

@[simp] theorem within_syncCls (d s : Dev) (h : planeFoot.le W = true) : Within W d (syncCls s) ↔ Within W d s := by
  refine Within.skip (V := planeFoot) ?_ h
  unfold syncCls
  simp (decide := true)

@[simp] theorem within_flowView (d s : Dev) (h : mechFoot.le W = true) : Within W d (flowView s) ↔ Within W d s := by
  refine Within.skip (V := mechFoot) ?_ h
  unfold flowView
  refine within_foldl _ (fun s _ => ?_) _ s
  split
  · split <;> simp (decide := true)
  · rfl

@[simp] theorem within_flowSetCmd (d s : Dev) (j : JRec) (h : anyFoot.le W = true) : Within W d (flowSetCmd s j) ↔ Within W d s := by
  refine Within.skip (V := anyFoot) ?_ h
  unfold flowSetCmd
  split <;> simp (decide := true)

@[simp] theorem within_dueReports (d s : Dev) (p i group : ℕ) (h : anyFoot.le W = true) : Within W d (dueReports s p i group) ↔ Within W d s := by
  refine Within.skip (V := anyFoot) ?_ h
  unfold dueReports
  simp (decide := true)

@[simp] theorem within_entryChanged (d s : Dev) (p : ℕ) (old new : Sys2Proof.Bytes) (f : ℕ) (h : anyFoot.le W = true) :
    Within W d (entryChanged s p old new f) ↔ Within W d s := by
  refine Within.skip (V := anyFoot) ?_ h
  unfold entryChanged
  simp (decide := true) [↓within_ite]

@[simp] theorem within_newSource (d s : Dev) (p n : ℕ) (h : anyFoot.le W = true) : Within W d (newSource s p n) ↔ Within W d s := by
  refine Within.skip (V := anyFoot) ?_ h
  unfold newSource
  simp (decide := true)

@[simp] theorem within_applyFlow (d s : Dev) (x : Pend) (j : JRec) (n : ℕ) (h : anyFoot.le W = true) :
    Within W d (applyFlow s x j n) ↔ Within W d s := by
  refine Within.skip (V := anyFoot) ?_ h
  unfold applyFlow
  simp (decide := true) [↓within_ite]

@[simp] theorem within_macFilterCmd (d s : Dev) (j : JRec) (h : anyFoot.le W = true) : Within W d (macFilterCmd s j) ↔ Within W d s := by
  refine Within.skip (V := anyFoot) ?_ h
  unfold macFilterCmd
  split <;> simp (decide := true)

@[simp] theorem within_applyFilter (d s : Dev) (x : Pend) (j : JRec) (n : ℕ) (h : anyFoot.le W = true) :
    Within W d (applyFilter s x j n) ↔ Within W d s := by
  refine Within.skip (V := anyFoot) ?_ h
  unfold applyFilter
  dsimp only
  split <;> simp (decide := true) [↓within_ite]

@[simp] theorem within_ptpSetCmd (d s : Dev) (j : JRec) (h : anyFoot.le W = true) : Within W d (ptpSetCmd s j) ↔ Within W d s := by
  refine Within.skip (V := anyFoot) ?_ h
  unfold ptpSetCmd
  split <;> simp (decide := true)

@[simp] theorem within_applyPtp (d s : Dev) (x : Pend) (j : JRec) (n : ℕ) (h : anyFoot.le W = true) :
    Within W d (applyPtp s x j n) ↔ Within W d s := by
  refine Within.skip (V := anyFoot) ?_ h
  unfold applyPtp
  simp (decide := true) [↓within_ite]

@[simp] theorem within_statsSnapshotCmd (d s : Dev) (j : JRec) (h : anyFoot.le W = true) : Within W d (statsSnapshotCmd s j) ↔ Within W d s := by
  refine Within.skip (V := anyFoot) ?_ h
  unfold statsSnapshotCmd
  split <;> simp (decide := true)

@[simp] theorem within_snapPlane (d s : Dev) (p : ℕ) (h : anyFoot.le W = true) : Within W d (snapPlane s p) ↔ Within W d s := by
  refine Within.skip (V := anyFoot) ?_ h
  unfold snapPlane
  simp (decide := true)

@[simp] theorem within_applyStats (d s : Dev) (x : Pend) (j : JRec) (n : ℕ) (h : anyFoot.le W = true) :
    Within W d (applyStats s x j n) ↔ Within W d s := by
  refine Within.skip (V := anyFoot) ?_ h
  unfold applyStats
  simp (decide := true) [↓within_ite]

theorem within_setEth (d s : Dev) (e : EthSt) (h : .eth ∈ W.parts) : Within W d { s with eth := e } ↔ Within W d s := by
  simp [h]

@[simp] theorem within_capture_prime (d s : Dev) (p i why err : ℕ) (o : EthObs) (h : ethFoot.le W = true) :
    Within W d (capture' s p i why err o) ↔ Within W d s := by
  refine Within.skip (V := ethFoot) ?_ h
  unfold capture'
  dsimp only
  split
  · simp (decide := true)
  · rw [within_setEth _ _ _ (by decide), within_setF_skip _ _ _ _ _ (by decide), within_emit _ _ _ (by decide)]

@[simp] theorem within_takePacket (d s : Dev) (p : ℕ) (f : FlowAt) (anc old : Bool) (o : Sys2Proof.EthObs) (h : ethFoot.le W = true) :
    Within W d (takePacket s p f anc old o) ↔ Within W d s := by
  refine Within.skip (V := ethFoot) ?_ h
  unfold takePacket
  split <;> simp (decide := true) [↓within_ite]

@[simp] theorem within_ethFrameRx (d s : Dev) (t p i : ℕ) (o : Sys2Proof.EthObs) (h : ethFoot.le W = true) :
    Within W d (ethFrameRx s t p i o) ↔ Within W d s := by
  refine Within.skip (V := ethFoot) ?_ h
  unfold ethFrameRx
  simp (decide := true) [↓within_ite]
  split <;> simp (decide := true) [↓within_ite]

@[simp] theorem within_captureIrq (d s : Dev) (t p : ℕ) (h : ethFoot.le W = true) : Within W d (captureIrq s t p) ↔ Within W d s := by
  refine Within.skip (V := ethFoot) ?_ h
  unfold captureIrq
  simp (decide := true) [↓within_ite]

@[simp] theorem within_capReset (d s : Dev) (p : ℕ) (h : ethFoot.le W = true) : Within W d (capReset s p) ↔ Within W d s := by
  refine Within.skip (V := ethFoot) ?_ h
  unfold capReset
  rw [within_setEth _ _ _ (by decide), within_setF_skip _ _ _ _ _ (by decide), within_setF_skip _ _ _ _ _ (by decide)]

@[simp] theorem within_macCapqReset (d s : Dev) (p : ℕ) (base : Bool) (v : ℕ) (h : ethFoot.le W = true) :
    Within W d (macCapqReset s p base v) ↔ Within W d s := by
  refine Within.skip (V := ethFoot) ?_ h
  unfold macCapqReset
  simp (decide := true) [↓within_ite]

@[simp] theorem within_instEvent (d s : Dev) (p i new old cause : ℕ) (h : ethFoot.le W = true) :
    Within W d (instEvent s p i new old cause) ↔ Within W d s := by
  refine Within.skip (V := ethFoot) ?_ h
  unfold instEvent
  simp (decide := true)

@[simp] theorem within_instGo (d s : Dev) (p i new cause : ℕ) (h : ethFoot.le W = true) : Within W d (instGo s p i new cause) ↔ Within W d s := by
  refine Within.skip (V := ethFoot) ?_ h
  unfold instGo
  simp (decide := true) [↓within_ite]

@[simp] theorem within_instStages (d s : Dev) (p i new : ℕ) (h : ethFoot.le W = true) : Within W d (instStages s p i new) ↔ Within W d s := by
  refine Within.skip (V := ethFoot) ?_ h
  unfold instStages
  simp (decide := true) [↓within_ite]

@[simp] theorem within_ethLinkChange (d s : Dev) (t p i new : ℕ) (timeout : Bool) (h : ethFoot.le W = true) :
    Within W d (ethLinkChange s t p i new timeout) ↔ Within W d s := by
  refine Within.skip (V := ethFoot) ?_ h
  unfold ethLinkChange
  simp (decide := true) [↓within_ite]

@[simp] theorem within_sendReport (d s : Dev) (p i group : ℕ) (h : ethFoot.le W = true) : Within W d (sendReport s p i group) ↔ Within W d s := by
  refine Within.skip (V := ethFoot) ?_ h
  unfold sendReport
  simp (decide := true)

@[simp] theorem within_igmpReport (d s : Dev) (t p i group : ℕ) (h : ethFoot.le W = true) : Within W d (igmpReport s t p i group) ↔ Within W d s := by
  refine Within.skip (V := ethFoot) ?_ h
  unfold igmpReport
  dsimp only
  split <;> simp (decide := true) [↓within_ite]

@[simp] theorem within_igmpQueryResponse (d s : Dev) (t p i : ℕ) (h : ethFoot.le W = true) :
    Within W d (igmpQueryResponse s t p i) ↔ Within W d s := by
  refine Within.skip (V := ethFoot) ?_ h
  unfold igmpQueryResponse
  dsimp only
  split <;> simp (decide := true) [↓within_ite]

@[simp] theorem within_ptpDelayReqSend (d s : Dev) (t n : ℕ) (h : ethFoot.le W = true) : Within W d (ptpDelayReqSend s t n) ↔ Within W d s := by
  refine Within.skip (V := ethFoot) ?_ h
  unfold ptpDelayReqSend
  simp (decide := true) [↓within_ite]

@[simp] theorem within_portRestart (d s : Dev) (p q : ℕ) (h : ethFoot.le W = true) : Within W d (portRestart s p q) ↔ Within W d s := by
  refine Within.skip (V := ethFoot) ?_ h
  unfold portRestart
  simp (decide := true) [↓within_ite]

@[simp] theorem within_macPortcfgMode (d s : Dev) (p q mode : ℕ) (h : ethFoot.le W = true) :
    Within W d (macPortcfgMode s p q mode) ↔ Within W d s := by
  refine Within.skip (V := ethFoot) ?_ h
  unfold macPortcfgMode
  simp (decide := true) [↓within_ite]

@[simp] theorem within_macPortcfgMedium (d s : Dev) (p q medium an : ℕ) (h : ethFoot.le W = true) :
    Within W d (macPortcfgMedium s p q medium an) ↔ Within W d s := by
  refine Within.skip (V := ethFoot) ?_ h
  unfold macPortcfgMedium
  simp (decide := true) [↓within_ite]

@[simp] theorem within_ipPacketSend (d s : Dev) (t p idx n k len : ℕ) (missing anc overAllow : Bool) (h : ethFoot.le W = true) :
    Within W d (ipPacketSend s t p idx n k len missing anc overAllow) ↔ Within W d s := by
  refine Within.skip (V := ethFoot) ?_ h
  unfold ipPacketSend
  split <;> simp (decide := true) [↓within_ite]

end Sys2Proof.Machine
end

section
/-! Footprints of the flash store (R399 to R421). -/

namespace Sys2Proof.Machine

open Sys2Proof.Claims

variable {W : Foot}

@[simp] theorem within_setFls (d s : Dev) (ch : ℕ) (x : FlsSt) (h : mgmtFoot.le W = true) : Within W d (setFls s ch x) ↔ Within W d s := by
  refine Within.skip (V := mgmtFoot) ?_ h
  unfold setFls
  simp (decide := true)

@[simp] theorem within_setFlsState (d s : Dev) (ch v : ℕ) (h : mgmtFoot.le W = true) : Within W d (setFlsState s ch v) ↔ Within W d s := by
  refine Within.skip (V := mgmtFoot) ?_ h
  unfold setFlsState
  simp (decide := true)

@[simp] theorem within_setPool (d s : Dev) (ch : ℕ) (tlc : Bool) (p : FlsPool) (h : mgmtFoot.le W = true) :
    Within W d (setPool s ch tlc p) ↔ Within W d s := by
  refine Within.skip (V := mgmtFoot) ?_ h
  unfold setPool
  simp (decide := true)

@[simp] theorem within_syncPools (d s : Dev) (ch : ℕ) (h : mgmtFoot.le W = true) : Within W d (syncPools s ch) ↔ Within W d s := by
  refine Within.skip (V := mgmtFoot) ?_ h
  unfold syncPools
  simp (decide := true)

@[simp] theorem within_retireBlock (d s : Dev) (ch : ℕ) (tlc : Bool) (block : ℕ) (h : mgmtFoot.le W = true) :
    Within W d (retireBlock s ch tlc block) ↔ Within W d s := by
  refine Within.skip (V := mgmtFoot) ?_ h
  unfold retireBlock
  simp (decide := true) [↓within_ite]

@[simp] theorem within_flushCheck (d s : Dev) (h : mgmtFoot.le W = true) : Within W d (flushCheck s) ↔ Within W d s := by
  refine Within.skip (V := mgmtFoot) ?_ h
  unfold flushCheck
  split <;> simp (decide := true) [↓within_ite]

@[simp] theorem within_flashProgramDone (d s : Dev) (t ch block : ℕ) (ok : Bool) (h : mgmtFoot.le W = true) :
    Within W d (flashProgramDone s t ch block ok) ↔ Within W d s := by
  refine Within.skip (V := mgmtFoot) ?_ h
  unfold flashProgramDone
  simp (decide := true) [↓within_ite]

@[simp] theorem within_flashTargetTimeout (d s : Dev) (t ch target : ℕ) (flush : Bool) (h : mgmtFoot.le W = true) :
    Within W d (flashTargetTimeout s t ch target flush) ↔ Within W d s := by
  refine Within.skip (V := mgmtFoot) ?_ h
  unfold flashTargetTimeout
  simp (decide := true) [↓within_ite]

@[simp] theorem within_flashEraseDone (d s : Dev) (t ch : ℕ) (tlc : Bool) (block : ℕ) (ok : Bool) (h : mgmtFoot.le W = true) :
    Within W d (flashEraseDone s t ch tlc block ok) ↔ Within W d s := by
  refine Within.skip (V := mgmtFoot) ?_ h
  unfold flashEraseDone
  simp (decide := true) [↓within_ite]

@[simp] theorem within_flashReadDone (d s : Dev) (t ch : ℕ) (o : Sys2Proof.ReadObs) (h : mgmtFoot.le W = true) :
    Within W d (flashReadDone s t ch o) ↔ Within W d s := by
  refine Within.skip (V := mgmtFoot) ?_ h
  unfold flashReadDone
  simp (decide := true) [↓within_ite]
  split <;> simp (decide := true) [↓within_ite]

@[simp] theorem within_loadDir (d s : Dev) (ch : ℕ) (e : Sys2Proof.DirObs) (h : mgmtFoot.le W = true) :
    Within W d (loadDir s ch e) ↔ Within W d s := by
  refine Within.skip (V := mgmtFoot) ?_ h
  unfold loadDir
  simp (decide := true)

@[simp] theorem within_formatChan (d s : Dev) (ch : ℕ) (scan : Option Sys2Proof.DirObs) (h : mgmtFoot.le W = true) :
    Within W d (formatChan s ch scan) ↔ Within W d s := by
  refine Within.skip (V := mgmtFoot) ?_ h
  unfold formatChan
  split <;> simp (decide := true)

@[simp] theorem within_flashMount (d s : Dev) (t ch : ℕ) (profile : Sys2Proof.Bytes) (o : Sys2Proof.MountObs) (h : mgmtFoot.le W = true) :
    Within W d (flashMount s t ch profile o) ↔ Within W d s := by
  refine Within.skip (V := mgmtFoot) ?_ h
  unfold flashMount
  repeat' split
  all_goals simp (decide := true) [↓within_ite, ↓within_setFs_skip, ↓within_setFls, ↓within_setFlsState, ↓within_formatChan, ↓within_loadDir, ↓within_setF_skip, ↓within_mk_skip]

@[simp] theorem within_flashRebuildDone (d s : Dev) (t ch : ℕ) (h : mgmtFoot.le W = true) : Within W d (flashRebuildDone s t ch) ↔ Within W d s := by
  refine Within.skip (V := mgmtFoot) ?_ h
  unfold flashRebuildDone
  simp (decide := true) [↓within_ite]

@[simp] theorem within_flashDirRewrite (d s : Dev) (t ch : ℕ) (h : mgmtFoot.le W = true) : Within W d (flashDirRewrite s t ch) ↔ Within W d s := by
  refine Within.skip (V := mgmtFoot) ?_ h
  unfold flashDirRewrite
  simp (decide := true) [↓within_ite]

@[simp] theorem within_flashWearLevel (d s : Dev) (t ch : ℕ) (tlc : Bool) (h : mgmtFoot.le W = true) :
    Within W d (flashWearLevel s t ch tlc) ↔ Within W d s := by
  refine Within.skip (V := mgmtFoot) ?_ h
  unfold flashWearLevel
  dsimp only
  repeat' split
  all_goals simp (decide := true) [↓within_setPool, ↓within_emit, ↓within_setFls]

@[simp] theorem within_startScrub (d s : Dev) (ch : ℕ) (h : mgmtFoot.le W = true) : Within W d (startScrub s ch) ↔ Within W d s := by
  refine Within.skip (V := mgmtFoot) ?_ h
  unfold startScrub
  simp (decide := true)

@[simp] theorem within_nandTempRead (d s : Dev) (t ch : ℕ) (temp : Option ℤ) (h : mgmtFoot.le W = true) :
    Within W d (nandTempRead s t ch temp) ↔ Within W d s := by
  refine Within.skip (V := mgmtFoot) ?_ h
  unfold nandTempRead
  simp (decide := true) [↓within_ite]

@[simp] theorem within_flashScrubDone (d s : Dev) (t ch : ℕ) (h : mgmtFoot.le W = true) : Within W d (flashScrubDone s t ch) ↔ Within W d s := by
  refine Within.skip (V := mgmtFoot) ?_ h
  unfold flashScrubDone
  simp (decide := true) [↓within_ite]

@[simp] theorem within_serviceScrub (d s : Dev) (ch : ℕ) (h : anyFoot.le W = true) : Within W d (serviceScrub s ch) ↔ Within W d s := by
  refine Within.skip (V := anyFoot) ?_ h
  unfold serviceScrub
  simp (decide := true) [↓within_ite]

end Sys2Proof.Machine
end

section
/-! Footprints of the journal and the Belay (R341 to R370). -/

namespace Sys2Proof.Machine

open Sys2Proof.Claims

variable {W : Foot}

@[simp] theorem within_holdToFrame (d s : Dev) (j : JRec) (h : anyFoot.le W = true) : Within W d (holdToFrame s j) ↔ Within W d s := by
  refine Within.skip (V := anyFoot) ?_ h
  unfold holdToFrame
  simp (decide := true)

@[simp] theorem within_nopCmd (d s : Dev) (j : JRec) (h : anyFoot.le W = true) : Within W d (nopCmd s j) ↔ Within W d s := by
  refine Within.skip (V := anyFoot) ?_ h
  unfold nopCmd
  split <;> simp (decide := true) [↓within_ite]

@[simp] theorem within_applyNop (d s : Dev) (x : Pend) (n : ℕ) (h : anyFoot.le W = true) : Within W d (applyNop s x n) ↔ Within W d s := by
  refine Within.skip (V := anyFoot) ?_ h
  unfold applyNop
  simp (decide := true)

@[simp] theorem within_actOrHold (d s : Dev) (j : JRec) (act : Dev → JRec → Dev) (ha : Within W s (act s j)) (h : anyFoot.le W = true) :
    Within W d (actOrHold s j act) ↔ Within W d s := by
  suffices hs : Within W s (actOrHold s j act) from ⟨fun q => q.trans hs.symm, fun q => q.trans hs⟩
  unfold actOrHold
  split
  · simp [h]
  · exact ha

@[simp] theorem within_endUntimed (d s : Dev) (jsn detail : ℕ) (h : anyFoot.le W = true) : Within W d (endUntimed s jsn detail) ↔ Within W d s := by
  refine Within.skip (V := anyFoot) ?_ h
  unfold endUntimed
  simp (decide := true)

@[simp] theorem within_failUntimed (d s : Dev) (jsn : ℕ) (r : Refuse) (h : anyFoot.le W = true) :
    Within W d (failUntimed s jsn r) ↔ Within W d s := by
  refine Within.skip (V := anyFoot) ?_ h
  unfold failUntimed
  simp (decide := true)

@[simp] theorem within_markRunning (d s : Dev) (jsn : ℕ) (h : anyFoot.le W = true) : Within W d (markRunning s jsn) ↔ Within W d s := by
  refine Within.skip (V := anyFoot) ?_ h
  unfold markRunning
  simp (decide := true)

@[simp] theorem within_writeCheckpoint (d s : Dev) (h : mgmtFoot.le W = true) : Within W d (writeCheckpoint s) ↔ Within W d s := by
  refine Within.skip (V := mgmtFoot) ?_ h
  unfold writeCheckpoint
  simp (decide := true) [↓within_ite]

@[simp] theorem within_checkpointAct (d s : Dev) (j : JRec) (h : anyFoot.le W = true) : Within W d (checkpointAct s j) ↔ Within W d s := by
  refine Within.skip (V := anyFoot) ?_ h
  unfold checkpointAct
  simp (decide := true)

@[simp] theorem within_checkpointCmd (d s : Dev) (j : JRec) (h : anyFoot.le W = true) : Within W d (checkpointCmd s j) ↔ Within W d s := by
  refine Within.skip (V := anyFoot) ?_ h
  unfold checkpointCmd
  split <;> simp (decide := true)

@[simp] theorem within_checkpointTimer (d s : Dev) (t : ℕ) (h : mgmtFoot.le W = true) : Within W d (checkpointTimer s t) ↔ Within W d s := by
  refine Within.skip (V := mgmtFoot) ?_ h
  unfold checkpointTimer
  simp (decide := true) [↓within_ite]

@[simp] theorem within_flushNow (d s : Dev) (h : mgmtFoot.le W = true) : Within W d (flushNow s) ↔ Within W d s := by
  refine Within.skip (V := mgmtFoot) ?_ h
  unfold flushNow
  simp (decide := true) [↓within_ite]

@[simp] theorem within_journalFlush (d s : Dev) (t : ℕ) (h : mgmtFoot.le W = true) : Within W d (journalFlush s t) ↔ Within W d s := by
  refine Within.skip (V := mgmtFoot) ?_ h
  unfold journalFlush
  simp (decide := true) [↓within_ite]

@[simp] theorem within_belayHb (d s : Dev) (t n : ℕ) (h : mgmtFoot.le W = true) : Within W d (belayHb s t n) ↔ Within W d s := by
  refine Within.skip (V := mgmtFoot) ?_ h
  unfold belayHb
  simp (decide := true) [↓within_ite]

@[simp] theorem within_belayHbMiss (d s : Dev) (t : ℕ) (h : mgmtFoot.le W = true) : Within W d (belayHbMiss s t) ↔ Within W d s := by
  refine Within.skip (V := mgmtFoot) ?_ h
  unfold belayHbMiss
  simp (decide := true) [↓within_ite]

@[simp] theorem within_fenceDrainDone (d s : Dev) (t : ℕ) (h : mgmtFoot.le W = true) : Within W d (fenceDrainDone s t) ↔ Within W d s := by
  refine Within.skip (V := mgmtFoot) ?_ h
  unfold fenceDrainDone
  dsimp only
  repeat' split
  all_goals simp (decide := true) [↓within_releaseReset, ↓within_setF_skip, ↓within_mk_skip]

@[simp] theorem within_syncBist (d s : Dev) (h : mgmtFoot.le W = true) : Within W d (syncBist s) ↔ Within W d s := by
  refine Within.skip (V := mgmtFoot) ?_ h
  unfold syncBist
  simp (decide := true)

@[simp] theorem within_ppBistDone (d s : Dev) (t n : ℕ) (pass : Bool) (h : mgmtFoot.le W = true) :
    Within W d (ppBistDone s t n pass) ↔ Within W d s := by
  refine Within.skip (V := mgmtFoot) ?_ h
  unfold ppBistDone
  simp (decide := true) [↓within_ite]

@[simp] theorem within_handover (d s : Dev) (h : mgmtFoot.le W = true) : Within W d (handover s) ↔ Within W d s := by
  refine Within.skip (V := mgmtFoot) ?_ h
  unfold handover
  simp (decide := true) [↓within_ite]

@[simp] theorem within_ppSwitchAct (d s : Dev) (j : JRec) (h : anyFoot.le W = true) : Within W d (ppSwitchAct s j) ↔ Within W d s := by
  refine Within.skip (V := anyFoot) ?_ h
  unfold ppSwitchAct
  split <;> simp (decide := true)

@[simp] theorem within_ppSwitchCmd (d s : Dev) (j : JRec) (h : anyFoot.le W = true) : Within W d (ppSwitchCmd s j) ↔ Within W d s := by
  refine Within.skip (V := anyFoot) ?_ h
  unfold ppSwitchCmd
  split <;> simp (decide := true)

@[simp] theorem within_adoptRing (d s : Dev) (o r : ℕ) (h : anyFoot.le W = true) : Within W d (adoptRing s o r) ↔ Within W d s := by
  refine Within.skip (V := anyFoot) ?_ h
  unfold adoptRing
  simp (decide := true)

@[simp] theorem within_ringAdoptAct (d s : Dev) (j : JRec) (h : anyFoot.le W = true) : Within W d (ringAdoptAct s j) ↔ Within W d s := by
  refine Within.skip (V := anyFoot) ?_ h
  unfold ringAdoptAct
  split <;> simp (decide := true)

@[simp] theorem within_ringAdoptCmd (d s : Dev) (j : JRec) (h : anyFoot.le W = true) : Within W d (ringAdoptCmd s j) ↔ Within W d s := by
  refine Within.skip (V := anyFoot) ?_ h
  unfold ringAdoptCmd
  split <;> simp (decide := true)

@[simp] theorem within_abandonSurvey (d s : Dev) (h : anyFoot.le W = true) : Within W d (abandonSurvey s) ↔ Within W d s := by
  refine Within.skip (V := anyFoot) ?_ h
  unfold abandonSurvey
  split
  · rfl
  · simp (decide := true)
    split <;> simp (decide := true)

@[simp] theorem within_bivouacEnter (d s : Dev) (x : Pend) (j : JRec) (h : anyFoot.le W = true) : Within W d (bivouacEnter s x j) ↔ Within W d s := by
  refine Within.skip (V := anyFoot) ?_ h
  unfold bivouacEnter
  split <;> simp (decide := true) [↓within_ite]

@[simp] theorem within_bivouacSelfRefreshDone (d s : Dev) (t : ℕ) (ok0 ok1 : Bool) (h : anyFoot.le W = true) :
    Within W d (bivouacSelfRefreshDone s t ok0 ok1) ↔ Within W d s := by
  refine Within.skip (V := anyFoot) ?_ h
  unfold bivouacSelfRefreshDone
  dsimp only
  split <;> simp (decide := true) [↓within_ite]

@[simp] theorem within_emptySyncs (d s : Dev) (p : ℕ) (h : anyFoot.le W = true) : Within W d (emptySyncs s p) ↔ Within W d s := by
  refine Within.skip (V := anyFoot) ?_ h
  unfold emptySyncs
  simp (decide := true)

@[simp] theorem within_bivouacExit (d s : Dev) (j : JRec) (a : ℕ) (h : anyFoot.le W = true) : Within W d (bivouacExit s j a) ↔ Within W d s := by
  refine Within.skip (V := anyFoot) ?_ h
  unfold bivouacExit
  simp (decide := true) [↓within_ite]

@[simp] theorem within_bivouacSettle (d s : Dev) (h : anyFoot.le W = true) : Within W d (bivouacSettle s) ↔ Within W d s := by
  refine Within.skip (V := anyFoot) ?_ h
  unfold bivouacSettle
  split <;> simp (decide := true) [↓within_ite]

@[simp] theorem within_bivouacCmd (d s : Dev) (j : JRec) (h : anyFoot.le W = true) : Within W d (bivouacCmd s j) ↔ Within W d s := by
  refine Within.skip (V := anyFoot) ?_ h
  unfold bivouacCmd
  split <;> simp (decide := true) [↓within_ite]

@[simp] theorem within_tryService (d s : Dev) (h : anyFoot.le W = true) : Within W d (tryService s) ↔ Within W d s := by
  refine Within.skip (V := anyFoot) ?_ h
  unfold tryService
  simp (decide := true) [↓within_ite]

end Sys2Proof.Machine
end

section
/-! Footprints of firmware and security (R422 to R445). -/

namespace Sys2Proof.Machine

open Sys2Proof.Claims

variable {W : Foot}

@[simp] theorem within_setSlot (d s : Dev) (k : ℕ) (x : FwSlot) (h : anyFoot.le W = true) : Within W d (setSlot s k x) ↔ Within W d s := by
  refine Within.skip (V := anyFoot) ?_ h
  unfold setSlot
  simp (decide := true)

@[simp] theorem within_setRunning (d s : Dev) (k : ℕ) (img : FwImg) (h : anyFoot.le W = true) : Within W d (setRunning s k img) ↔ Within W d s := by
  refine Within.skip (V := anyFoot) ?_ h
  unfold setRunning
  simp (decide := true)

@[simp] theorem within_syncKeys (d s : Dev) (h : anyFoot.le W = true) : Within W d (syncKeys s) ↔ Within W d s := by
  refine Within.skip (V := anyFoot) ?_ h
  unfold syncKeys
  simp (decide := true)

@[simp] theorem within_enrolOwner (d s : Dev) (j : JRec) (h : anyFoot.le W = true) : Within W d (enrolOwner s j) ↔ Within W d s := by
  refine Within.skip (V := anyFoot) ?_ h
  unfold enrolOwner
  simp (decide := true)

@[simp] theorem within_stageHere (d s : Dev) (b : Sys2Proof.Bytes) (h : anyFoot.le W = true) : Within W d (stageHere s b) ↔ Within W d s := by
  refine Within.skip (V := anyFoot) ?_ h
  unfold stageHere
  simp (decide := true) [↓within_ite]

@[simp] theorem within_stageImage (d s : Dev) (j : JRec) (h : anyFoot.le W = true) : Within W d (stageImage s j) ↔ Within W d s := by
  refine Within.skip (V := anyFoot) ?_ h
  unfold stageImage
  simp (decide := true) [↓within_ite]

@[simp] theorem within_fwStageAct (d s : Dev) (j : JRec) (h : anyFoot.le W = true) : Within W d (fwStageAct s j) ↔ Within W d s := by
  refine Within.skip (V := anyFoot) ?_ h
  unfold fwStageAct
  simp (decide := true) [↓within_ite]

@[simp] theorem within_fwStageCmd (d s : Dev) (j : JRec) (h : anyFoot.le W = true) : Within W d (fwStageCmd s j) ↔ Within W d s := by
  refine Within.skip (V := anyFoot) ?_ h
  unfold fwStageCmd
  split <;> simp (decide := true)

@[simp] theorem within_dropSched (d s : Dev) (h : anyFoot.le W = true) : Within W d (dropSched s) ↔ Within W d s := by
  refine Within.skip (V := anyFoot) ?_ h
  unfold dropSched
  split <;> simp (decide := true)

@[simp] theorem within_withdrawSched (d s : Dev) (h : anyFoot.le W = true) : Within W d (withdrawSched s) ↔ Within W d s := by
  refine Within.skip (V := anyFoot) ?_ h
  unfold withdrawSched
  split <;> simp (decide := true)

@[simp] theorem within_fwScheduleCmd (d s : Dev) (j : JRec) (h : anyFoot.le W = true) : Within W d (fwScheduleCmd s j) ↔ Within W d s := by
  refine Within.skip (V := anyFoot) ?_ h
  unfold fwScheduleCmd
  dsimp only
  repeat' split
  all_goals simp (decide := true) [↓within_refuse, ↓within_withdrawSched, ↓within_setFs_skip, ↓within_schedule, ↓within_mk_skip]

@[simp] theorem within_campActivate (d s : Dev) (x : Pend) (n : ℕ) (h : anyFoot.le W = true) : Within W d (campActivate s x n) ↔ Within W d s := by
  refine Within.skip (V := anyFoot) ?_ h
  unfold campActivate
  simp (decide := true)

@[simp] theorem within_applyFwSchedule (d s : Dev) (x : Pend) (n : ℕ) (h : anyFoot.le W = true) :
    Within W d (applyFwSchedule s x n) ↔ Within W d s := by
  refine Within.skip (V := anyFoot) ?_ h
  unfold applyFwSchedule
  simp (decide := true) [↓within_ite]

@[simp] theorem within_endUpdate (d s : Dev) (h : anyFoot.le W = true) : Within W d (endUpdate s) ↔ Within W d s := by
  refine Within.skip (V := anyFoot) ?_ h
  unfold endUpdate
  simp (decide := true)

@[simp] theorem within_commitTrial (d s : Dev) (h : anyFoot.le W = true) : Within W d (commitTrial s) ↔ Within W d s := by
  refine Within.skip (V := anyFoot) ?_ h
  unfold commitTrial
  simp (decide := true)

@[simp] theorem within_raiseCommitted (d s e : Dev) (jsn : ℕ) (h : evtFoot.le W = true) : Within W d (raiseCommitted s e jsn) ↔ Within W d s := by
  unfold raiseCommitted
  simp [h]

@[simp] theorem within_fwConfirmAct (d s : Dev) (j : JRec) (h : anyFoot.le W = true) : Within W d (fwConfirmAct s j) ↔ Within W d s := by
  refine Within.skip (V := anyFoot) ?_ h
  unfold fwConfirmAct
  simp (decide := true) [↓within_ite]

@[simp] theorem within_fwConfirmCmd (d s : Dev) (j : JRec) (h : anyFoot.le W = true) : Within W d (fwConfirmCmd s j) ↔ Within W d s := by
  refine Within.skip (V := anyFoot) ?_ h
  unfold fwConfirmCmd
  split <;> simp (decide := true)

@[simp] theorem within_revertNow (d s : Dev) (cause : ℕ) (h : mgmtFoot.le W = true) : Within W d (revertNow s cause) ↔ Within W d s := by
  refine Within.skip (V := mgmtFoot) ?_ h
  unfold revertNow
  simp (decide := true) [↓within_ite]

@[simp] theorem within_revert (d s : Dev) (cause : ℕ) (h : mgmtFoot.le W = true) : Within W d (revert s cause) ↔ Within W d s := by
  refine Within.skip (V := mgmtFoot) ?_ h
  unfold revert
  simp (decide := true) [↓within_ite]

@[simp] theorem within_revertDue (d s : Dev) (n : ℕ) (h : anyFoot.le W = true) : Within W d (revertDue s n) ↔ Within W d s := by
  refine Within.skip (V := anyFoot) ?_ h
  unfold revertDue
  split <;> simp (decide := true) [↓within_ite]

@[simp] theorem within_discardStage (d s : Dev) (h : anyFoot.le W = true) : Within W d (discardStage s) ↔ Within W d s := by
  refine Within.skip (V := anyFoot) ?_ h
  unfold discardStage
  simp (decide := true) [↓within_ite]

@[simp] theorem within_fwAbortAct (d s : Dev) (j : JRec) (h : anyFoot.le W = true) : Within W d (fwAbortAct s j) ↔ Within W d s := by
  refine Within.skip (V := anyFoot) ?_ h
  unfold fwAbortAct
  split <;> simp (decide := true)

@[simp] theorem within_fwAbortCmd (d s : Dev) (j : JRec) (h : anyFoot.le W = true) : Within W d (fwAbortCmd s j) ↔ Within W d s := by
  refine Within.skip (V := anyFoot) ?_ h
  unfold fwAbortCmd
  split <;> simp (decide := true)

@[simp] theorem within_fwWindowExpire (d s : Dev) (t : ℕ) (h : mgmtFoot.le W = true) : Within W d (fwWindowExpire s t) ↔ Within W d s := by
  refine Within.skip (V := mgmtFoot) ?_ h
  unfold fwWindowExpire
  dsimp only
  split <;> simp (decide := true) [↓within_ite, ↓within_revert, ↓within_setF_skip]

@[simp] theorem within_fwResumeTimeout (d s : Dev) (t : ℕ) (h : mgmtFoot.le W = true) : Within W d (fwResumeTimeout s t) ↔ Within W d s := by
  refine Within.skip (V := mgmtFoot) ?_ h
  unfold fwResumeTimeout
  simp (decide := true) [↓within_ite]

@[simp] theorem within_fwSelftestFail (d s : Dev) (t : ℕ) (h : mgmtFoot.le W = true) : Within W d (fwSelftestFail s t) ↔ Within W d s := by
  refine Within.skip (V := mgmtFoot) ?_ h
  unfold fwSelftestFail
  simp (decide := true)

@[simp] theorem within_finishRevert (d s : Dev) (cause : ℕ) (h : anyFoot.le W = true) : Within W d (finishRevert s cause) ↔ Within W d s := by
  refine Within.skip (V := anyFoot) ?_ h
  unfold finishRevert
  simp (decide := true)

@[simp] theorem within_finishActivate (d s : Dev) (jsn : ℕ) (h : anyFoot.le W = true) : Within W d (finishActivate s jsn) ↔ Within W d s := by
  refine Within.skip (V := anyFoot) ?_ h
  unfold finishActivate
  dsimp only
  split <;> simp (decide := true)

@[simp] theorem within_finishTakeover (d s : Dev) (h : anyFoot.le W = true) : Within W d (finishTakeover s) ↔ Within W d s := by
  refine Within.skip (V := anyFoot) ?_ h
  unfold finishTakeover
  dsimp only
  repeat' split
  all_goals simp (decide := true) [↓within_finishActivate, ↓within_decideCmd, ↓within_finishRevert, ↓within_endUntimed, ↓within_mk_skip]

@[simp] theorem within_restartSurvey (d s : Dev) (h : anyFoot.le W = true) : Within W d (restartSurvey s) ↔ Within W d s := by
  refine Within.skip (V := anyFoot) ?_ h
  unfold restartSurvey
  simp (decide := true) [↓within_ite]

@[simp] theorem within_resume (d s : Dev) (h : anyFoot.le W = true) : Within W d (resume s) ↔ Within W d s := by
  refine Within.skip (V := anyFoot) ?_ h
  unfold resume
  simp (decide := true) [↓within_ite]

@[simp] theorem within_takeoverComplete (d s : Dev) (t : ℕ) (h : anyFoot.le W = true) : Within W d (takeoverComplete s t) ↔ Within W d s := by
  refine Within.skip (V := anyFoot) ?_ h
  unfold takeoverComplete
  simp (decide := true) [↓within_ite]

@[simp] theorem within_entropyFail (d s : Dev) (t : ℕ) (h : mgmtFoot.le W = true) : Within W d (entropyFail s t) ↔ Within W d s := by
  refine Within.skip (V := mgmtFoot) ?_ h
  unfold entropyFail
  simp (decide := true)

@[simp] theorem within_attestAct (d s : Dev) (j : JRec) (h : anyFoot.le W = true) : Within W d (attestAct s j) ↔ Within W d s := by
  refine Within.skip (V := anyFoot) ?_ h
  unfold attestAct
  simp (decide := true)

@[simp] theorem within_attestCmd (d s : Dev) (j : JRec) (h : anyFoot.le W = true) : Within W d (attestCmd s j) ↔ Within W d s := by
  refine Within.skip (V := anyFoot) ?_ h
  unfold attestCmd
  split <;> simp (decide := true)

@[simp] theorem within_enterCamp (d s : Dev) (why : ℕ) (h : anyFoot.le W = true) : Within W d (enterCamp s why) ↔ Within W d s := by
  refine Within.skip (V := anyFoot) ?_ h
  unfold enterCamp
  simp (decide := true) [↓within_ite]

@[simp] theorem within_dropTrial (d s : Dev) (k : ℕ) (h : anyFoot.le W = true) : Within W d (dropTrial s k) ↔ Within W d s := by
  refine Within.skip (V := anyFoot) ?_ h
  unfold dropTrial
  simp (decide := true) [↓within_ite]

@[simp] theorem within_bootSlot (d s : Dev) (k : ℕ) (trial : Bool) (h : anyFoot.le W = true) : Within W d (bootSlot s k trial) ↔ Within W d s := by
  refine Within.skip (V := anyFoot) ?_ h
  unfold bootSlot
  simp (decide := true) [↓within_ite]

@[simp] theorem within_bootFallback (d s : Dev) (k : ℕ) (h : anyFoot.le W = true) : Within W d (bootFallback s k) ↔ Within W d s := by
  refine Within.skip (V := anyFoot) ?_ h
  unfold bootFallback
  simp (decide := true)

@[simp] theorem within_chooseSlot (d s : Dev) (good : List Bool) (h : anyFoot.le W = true) : Within W d (chooseSlot s good) ↔ Within W d s := by
  refine Within.skip (V := anyFoot) ?_ h
  unfold chooseSlot
  dsimp only
  repeat' split
  all_goals simp (decide := true) [↓within_enterCamp, ↓within_bootFallback, ↓within_bootSlot, ↓within_setSlot]

@[simp] theorem within_bootSelect (d s : Dev) (t : ℕ) (good : List Bool) (h : anyFoot.le W = true) :
    Within W d (bootSelect s t good) ↔ Within W d s := by
  refine Within.skip (V := anyFoot) ?_ h
  unfold bootSelect
  simp (decide := true) [↓within_ite]

end Sys2Proof.Machine
end

section
/-! Footprints of Pair (R371 to R382). -/

namespace Sys2Proof.Machine

open Sys2Proof.Claims

variable {W : Foot}

@[simp] theorem within_syncPeerCopy (d s : Dev) (h : mgmtFoot.le W = true) : Within W d (syncPeerCopy s) ↔ Within W d s := by
  refine Within.skip (V := mgmtFoot) ?_ h
  unfold syncPeerCopy
  simp (decide := true)

@[simp] theorem within_setRole (d s : Dev) (v cause : ℕ) (jsn : optParam ℕ 0) (h : mgmtFoot.le W = true) :
    Within W d (setRole s v cause jsn) ↔ Within W d s := by
  refine Within.skip (V := mgmtFoot) ?_ h
  unfold setRole
  simp (decide := true)

@[simp] theorem within_takeRole (d s : Dev) (cause : ℕ) (h : mgmtFoot.le W = true) : Within W d (takeRole s cause) ↔ Within W d s := by
  refine Within.skip (V := mgmtFoot) ?_ h
  unfold takeRole
  simp (decide := true)

@[simp] theorem within_giveRole (d s : Dev) (cause : ℕ) (h : mgmtFoot.le W = true) : Within W d (giveRole s cause) ↔ Within W d s := by
  refine Within.skip (V := mgmtFoot) ?_ h
  unfold giveRole
  simp (decide := true)

@[simp] theorem within_evalRole (d s : Dev) (h : mgmtFoot.le W = true) : Within W d (evalRole s) ↔ Within W d s := by
  refine Within.skip (V := mgmtFoot) ?_ h
  unfold evalRole
  simp (decide := true) [↓within_ite]

theorem within_setJrn (d s : Dev) (e : JrnSt) (h : .jrn ∈ W.parts) : Within W d { s with jrn := e } ↔ Within W d s := by
  simp [h]

@[simp] theorem within_activeSelChange (d s : Dev) (t : ℕ) (own peer : Bool) (h : mgmtFoot.le W = true) :
    Within W d (activeSelChange s t own peer) ↔ Within W d s := by
  refine Within.skip (V := mgmtFoot) ?_ h
  unfold activeSelChange
  rw [within_evalRole _ _ (by decide), within_setJrn _ _ _ (by decide), within_setF_skip _ _ _ _ _ (by decide), within_at _ _ _ (by decide)]

@[simp] theorem within_peerLost (d s : Dev) (t : ℕ) (h : mgmtFoot.le W = true) : Within W d (peerLost s t) ↔ Within W d s := by
  refine Within.skip (V := mgmtFoot) ?_ h
  have hs (f : Fld) (v : ℕ) (e : JrnSt) (hf : mgmtFoot.hits (f.code % 262144) = true) :
      Within mgmtFoot s { setF (s.at t) f 0 v with jrn := e } := by
    rw [within_setJrn _ _ _ (by decide), within_setF_skip _ _ _ _ _ hf, within_at _ _ _ (by decide)]
  unfold peerLost
  dsimp only
  split
  · exact hs _ _ _ rfl
  · split <;> simp (decide := true) only [↓within_evalRole, ↓within_setRole, ↓within_syncPeerCopy] <;> exact hs _ _ _ rfl

@[simp] theorem within_peerLinkReturn (d s : Dev) (t : ℕ) (peerActive : Bool) (h : mgmtFoot.le W = true) : Within W d (peerLinkReturn s t peerActive) ↔ Within W d s := by
  refine Within.skip (V := mgmtFoot) ?_ h
  have hs (f : Fld) (v : ℕ) (e : JrnSt) (hf : mgmtFoot.hits (f.code % 262144) = true) :
      Within mgmtFoot s { setF (s.at t) f 0 v with jrn := e } := by
    rw [within_setJrn _ _ _ (by decide), within_setF_skip _ _ _ _ _ hf, within_at _ _ _ (by decide)]
  unfold peerLinkReturn
  dsimp only
  split
  · exact hs _ _ _ rfl
  · split <;> simp (decide := true) only [↓within_ite, ↓within_evalRole, ↓within_setRole, ↓within_syncPeerCopy, ite_self] <;> exact hs _ _ _ rfl

@[simp] theorem within_belayOutToggle (d s : Dev) (t : ℕ) (h : mgmtFoot.le W = true) : Within W d (belayOutToggle s t) ↔ Within W d s := by
  refine Within.skip (V := mgmtFoot) ?_ h
  unfold belayOutToggle
  simp (decide := true) [↓within_ite]

@[simp] theorem within_pairSetAct (d s : Dev) (j : JRec) (h : anyFoot.le W = true) : Within W d (pairSetAct s j) ↔ Within W d s := by
  refine Within.skip (V := anyFoot) ?_ h
  unfold pairSetAct
  split <;> simp (decide := true) [↓within_ite]

@[simp] theorem within_pairSetCmd (d s : Dev) (j : JRec) (h : anyFoot.le W = true) : Within W d (pairSetCmd s j) ↔ Within W d s := by
  refine Within.skip (V := anyFoot) ?_ h
  unfold pairSetCmd
  split <;> simp (decide := true)

@[simp] theorem within_takeForward (d s : Dev) (k r : ℕ) (e b : Sys2Proof.Bytes) (h : anyFoot.le W = true) :
    Within W d (takeForward s k r e b) ↔ Within W d s := by
  refine Within.skip (V := anyFoot) ?_ h
  unfold takeForward
  simp (decide := true) [↓within_ite]

@[simp] theorem within_takeRecord (d s : Dev) (r : JRec) (h : anyFoot.le W = true) : Within W d (takeRecord s r) ↔ Within W d s := by
  refine Within.skip (V := anyFoot) ?_ h
  unfold takeRecord
  simp (decide := true) [↓within_ite]
  split <;> simp (decide := true) [↓within_ite]

@[simp] theorem within_followFw (d s : Dev) (j : JRec) (h : anyFoot.le W = true) : Within W d (followFw s j) ↔ Within W d s := by
  refine Within.skip (V := anyFoot) ?_ h
  unfold followFw
  repeat' split
  all_goals simp (decide := true) [↓within_stageHere, ↓within_raiseCommitted, ↓within_commitTrial, ↓within_discardStage, ↓within_setF_skip, ↓within_dropSched, ↓within_revert]

@[simp] theorem within_takeLoad (d s : Dev) (x : Pend) (h : anyFoot.le W = true) : Within W d (takeLoad s x) ↔ Within W d s := by
  refine Within.skip (V := anyFoot) ?_ h
  unfold takeLoad
  simp (decide := true) [↓within_ite]

@[simp] theorem within_takeDecision (d s : Dev) (jsn : ℕ) (e : Dec) (h : anyFoot.le W = true) : Within W d (takeDecision s jsn e) ↔ Within W d s := by
  refine Within.skip (V := anyFoot) ?_ h
  unfold takeDecision
  split <;> simp (decide := true) [↓within_ite]

@[simp] theorem within_peerRecord (d s : Dev) (t : ℕ) (m : PeerMsg) (h : anyFoot.le W = true) : Within W d (peerRecord s t m) ↔ Within W d s := by
  refine Within.skip (V := anyFoot) ?_ h
  unfold peerRecord
  split <;> simp (decide := true) [↓within_ite]

@[simp] theorem within_pairResyncDone (d s : Dev) (t : ℕ) (image : Ctl) (head : ℕ) (h : anyFoot.le W = true) :
    Within W d (pairResyncDone s t image head) ↔ Within W d s := by
  refine Within.skip (V := anyFoot) ?_ h
  unfold pairResyncDone
  simp (decide := true) [↓within_ite]
  split <;> simp (decide := true) [↓within_ite]

@[simp] theorem within_joinPeerTimeout (d s : Dev) (t : ℕ) (h : anyFoot.le W = true) : Within W d (joinPeerTimeout s t) ↔ Within W d s := by
  refine Within.skip (V := anyFoot) ?_ h
  unfold joinPeerTimeout
  dsimp only
  split <;> simp (decide := true) [↓within_ite]

end Sys2Proof.Machine
end

section
/-! Footprints of faults and rails (R471 to R483, R510 to R514). -/

namespace Sys2Proof.Machine

open Sys2Proof.Claims

variable {W : Foot}

@[simp] theorem within_faultLine (d s : Dev) (t b cause sub : ℕ) (region : Bool) (h : mgmtFoot.le W = true) :
    Within W d (faultLine s t b cause sub region) ↔ Within W d s := by
  refine Within.skip (V := mgmtFoot) ?_ h
  unfold faultLine
  simp (decide := true) [↓within_ite]

@[simp] theorem within_blockReturn (d s : Dev) (b : ℕ) (h : mgmtFoot.le W = true) : Within W d (blockReturn s b) ↔ Within W d s := by
  refine Within.skip (V := mgmtFoot) ?_ h
  unfold blockReturn
  simp (decide := true) [↓within_ite]

@[simp] theorem within_ppReturn (d s : Dev) (b : ℕ) (h : mgmtFoot.le W = true) : Within W d (ppReturn s b) ↔ Within W d s := by
  refine Within.skip (V := mgmtFoot) ?_ h
  unfold ppReturn
  simp (decide := true) [↓within_ite]

@[simp] theorem within_clearBit (d s : Dev) (b : ℕ) (h : mgmtFoot.le W = true) : Within W d (clearBit s b) ↔ Within W d s := by
  refine Within.skip (V := mgmtFoot) ?_ h
  unfold clearBit
  simp (decide := true) [↓within_ite, ↓within_setF_skip, ↓within_raise, ↓within_driveFaultN, ↓within_ppReturn, ↓within_blockReturn, ↓within_mk_skip]

@[simp] theorem within_fltStatusClear (d s : Dev) (t mask : ℕ) (h : mgmtFoot.le W = true) : Within W d (fltStatusClear s t mask) ↔ Within W d s := by
  refine Within.skip (V := mgmtFoot) ?_ h
  unfold fltStatusClear
  simp (decide := true)

@[simp] theorem within_fltClearCheck (d s : Dev) (t b : ℕ) (persists : Bool) (h : mgmtFoot.le W = true) :
    Within W d (fltClearCheck s t b persists) ↔ Within W d s := by
  refine Within.skip (V := mgmtFoot) ?_ h
  unfold fltClearCheck
  simp (decide := true) [↓within_ite]

@[simp] theorem within_fltFirstClear (d s : Dev) (t : ℕ) (h : mgmtFoot.le W = true) : Within W d (fltFirstClear s t) ↔ Within W d s := by
  refine Within.skip (V := mgmtFoot) ?_ h
  unfold fltFirstClear
  simp (decide := true)

@[simp] theorem within_fltReactWrite (d s : Dev) (t b value : ℕ) (h : mgmtFoot.le W = true) :
    Within W d (fltReactWrite s t b value) ↔ Within W d s := by
  refine Within.skip (V := mgmtFoot) ?_ h
  unfold fltReactWrite
  simp (decide := true) [↓within_ite]

@[simp] theorem within_fltModeWindow (d s : Dev) (t : ℕ) (h : mgmtFoot.le W = true) : Within W d (fltModeWindow s t) ↔ Within W d s := by
  refine Within.skip (V := mgmtFoot) ?_ h
  unfold fltModeWindow
  dsimp only
  split <;> simp (decide := true) [↓within_ite]

@[simp] theorem within_faultLogWrite (d s : Dev) (t : ℕ) (h : mgmtFoot.le W = true) : Within W d (faultLogWrite s t) ↔ Within W d s := by
  refine Within.skip (V := mgmtFoot) ?_ h
  unfold faultLogWrite
  dsimp only
  split <;> simp (decide := true) [↓within_ite]

@[simp] theorem within_monitorSample (d s : Dev) (t : ℕ) (slack : List ℕ) (h : mgmtFoot.le W = true) :
    Within W d (monitorSample s t slack) ↔ Within W d s := by
  refine Within.skip (V := mgmtFoot) ?_ h
  unfold monitorSample
  simp (decide := true) [↓within_ite]

@[simp] theorem within_thermalSample (d s : Dev) (t : ℕ) (e : List ℤ) (h : mgmtFoot.le W = true) :
    Within W d (thermalSample s t e) ↔ Within W d s := by
  refine Within.skip (V := mgmtFoot) ?_ h
  unfold thermalSample
  simp (decide := true) [↓within_ite]

@[simp] theorem within_avsTry (d s : Dev) (rail mv : ℕ) (ok : Bool) (h : mgmtFoot.le W = true) : Within W d (avsTry s rail mv ok) ↔ Within W d s := by
  refine Within.skip (V := mgmtFoot) ?_ h
  unfold avsTry
  simp (decide := true) [↓within_ite]

@[simp] theorem within_avsMove (d s : Dev) (mv : ℕ) (ok : Bool) (h : mgmtFoot.le W = true) : Within W d (avsMove s mv ok) ↔ Within W d s := by
  refine Within.skip (V := mgmtFoot) ?_ h
  unfold avsMove
  simp (decide := true) [↓within_ite]

@[simp] theorem within_avsWrite (d s : Dev) (t rail mv : ℕ) (ok : Bool) (h : mgmtFoot.le W = true) :
    Within W d (avsWrite s t rail mv ok) ↔ Within W d s := by
  refine Within.skip (V := mgmtFoot) ?_ h
  unfold avsWrite
  simp (decide := true) [↓within_ite]

@[simp] theorem within_avsStep (d s : Dev) (t : ℕ) (ok : Bool) (h : mgmtFoot.le W = true) : Within W d (avsStep s t ok) ↔ Within W d s := by
  refine Within.skip (V := mgmtFoot) ?_ h
  unfold avsStep
  simp (decide := true) [↓within_ite]

@[simp] theorem within_railOutOfWindow (d s : Dev) (t rail level since : ℕ) (h : mgmtFoot.le W = true) :
    Within W d (railOutOfWindow s t rail level since) ↔ Within W d s := by
  refine Within.skip (V := mgmtFoot) ?_ h
  unfold railOutOfWindow
  simp (decide := true) [↓within_ite]

end Sys2Proof.Machine
end

section
/-! Footprints of surveys and ageing (R484 to R492). -/

namespace Sys2Proof.Machine

open Sys2Proof.Claims

variable {W : Foot}

@[simp] theorem within_startSurvey (d s : Dev) (jsn : Option ℕ) (replan : Bool) (h : mgmtFoot.le W = true) :
    Within W d (startSurvey s jsn replan) ↔ Within W d s := by
  refine Within.skip (V := mgmtFoot) ?_ h
  unfold startSurvey
  simp (decide := true)

@[simp] theorem within_marginSurveyAct (d s : Dev) (j : JRec) (h : anyFoot.le W = true) : Within W d (marginSurveyAct s j) ↔ Within W d s := by
  refine Within.skip (V := anyFoot) ?_ h
  unfold marginSurveyAct
  simp (decide := true) [↓within_ite]

@[simp] theorem within_marginSurveyCmd (d s : Dev) (j : JRec) (h : anyFoot.le W = true) : Within W d (marginSurveyCmd s j) ↔ Within W d s := by
  refine Within.skip (V := anyFoot) ?_ h
  unfold marginSurveyCmd
  split <;> simp (decide := true)

@[simp] theorem within_surveySchedule (d s : Dev) (t : ℕ) (h : mgmtFoot.le W = true) : Within W d (surveySchedule s t) ↔ Within W d s := by
  refine Within.skip (V := mgmtFoot) ?_ h
  unfold surveySchedule
  simp (decide := true) [↓within_ite]

@[simp] theorem within_measure (d s : Dev) (k : ℕ) (v : ℤ) (unit : ℕ) (h : anyFoot.le W = true) : Within W d (measure s k v unit) ↔ Within W d s := by
  refine Within.skip (V := anyFoot) ?_ h
  unfold measure
  simp (decide := true) [↓within_ite]

@[simp] theorem within_markStepped (d s : Dev) (k : ℕ) (h : anyFoot.le W = true) : Within W d (markStepped s k) ↔ Within W d s := by
  refine Within.skip (V := anyFoot) ?_ h
  unfold markStepped
  simp (decide := true) [↓within_ite]

@[simp] theorem within_markLimit (d s : Dev) (k : ℕ) (h : anyFoot.le W = true) : Within W d (markLimit s k) ↔ Within W d s := by
  refine Within.skip (V := anyFoot) ?_ h
  unfold markLimit
  simp (decide := true) [↓within_ite]

@[simp] theorem within_surveyAvs (d s : Dev) (worst : ℕ) (ok : Bool) (h : anyFoot.le W = true) :
    Within W d (surveyAvs s worst ok) ↔ Within W d s := by
  refine Within.skip (V := anyFoot) ?_ h
  unfold surveyAvs
  simp (decide := true) [↓within_ite]

@[simp] theorem within_surveyEye (d s : Dev) (p lane : ℕ) (o : Sys2Proof.EyeObs) (h : anyFoot.le W = true) :
    Within W d (surveyEye s p lane o) ↔ Within W d s := by
  refine Within.skip (V := anyFoot) ?_ h
  unfold surveyEye
  simp (decide := true) [↓within_ite]

@[simp] theorem within_surveyLane (d s : Dev) (pl lane below here above : ℕ) (h : anyFoot.le W = true) :
    Within W d (surveyLane s pl lane below here above) ↔ Within W d s := by
  refine Within.skip (V := anyFoot) ?_ h
  unfold surveyLane
  simp (decide := true) [↓within_ite]

@[simp] theorem within_replanBudget (d s : Dev) (p : ℕ) (h : anyFoot.le W = true) : Within W d (replanBudget s p) ↔ Within W d s := by
  refine Within.skip (V := anyFoot) ?_ h
  unfold replanBudget
  split <;> simp (decide := true) [↓within_ite, ↓within_fwAction, ↓within_setF_skip, ↓within_markStepped, ↓within_setPlaneSt, ↓within_mk_skip]

@[simp] theorem within_surveyStep (d s : Dev) (t : ℕ) (o : Sys2Proof.SurveyObs) (h : anyFoot.le W = true) :
    Within W d (surveyStep s t o) ↔ Within W d s := by
  refine Within.skip (V := anyFoot) ?_ h
  unfold surveyStep
  split <;> simp (decide := true) [↓within_ite]

@[simp] theorem within_writeItem (d s : Dev) (stale : List ℕ) (k : ℕ) (h : anyFoot.le W = true) :
    Within W d (writeItem s stale k) ↔ Within W d s := by
  refine Within.skip (V := anyFoot) ?_ h
  unfold writeItem
  repeat' split
  all_goals simp (decide := true) [↓within_setFs_skip]

@[simp] theorem within_ageingReport (d s : Dev) (t : ℕ) (h : anyFoot.le W = true) : Within W d (ageingReport s t) ↔ Within W d s := by
  refine Within.skip (V := anyFoot) ?_ h
  unfold ageingReport
  simp (decide := true) [↓within_ite]
  split <;> simp (decide := true) [↓within_ite]

end Sys2Proof.Machine
end

section
/-! Footprints of resets (R446 to R470). -/

namespace Sys2Proof.Machine

open Sys2Proof.Claims

variable {W : Foot}

/-- A narrow reset loses no field of the control matrix. -/
theorem codeBlk_of_losesField {reach unit c i : ℕ} (hr : reach < 7) (h : losesField reach unit c i = true) : 14 ≤ codeBlk c := by
  unfold losesField at h
  dsimp only at h
  split at h
  next => omega
  next => omega
  next =>
    simp only [Bool.and_eq_true, decide_eq_true_eq] at h
    omega
  next =>
    simp only [Bool.and_eq_true, Bool.or_eq_true, beq_iff_eq] at h
    omega
  next =>
    split at h
    · simp only [Bool.and_eq_true, beq_iff_eq] at h
      omega
    · simp only [Bool.and_eq_true, Bool.or_eq_true, beq_iff_eq] at h
      omega
  next =>
    simp only [Bool.and_eq_true, beq_iff_eq] at h
    omega
  next => cases h

theorem hits_of_losesField {reach unit c i : ℕ} (hc : c < 262144) (hr : reach < 7) (h : losesField reach unit c i = true) :
    anyFoot.hits c = true := by
  have hb := codeBlk_of_losesField hr h
  have hlt : codeBlk c < 32 := by unfold codeBlk; omega
  have key : ∀ b < 32, 14 ≤ b → anyFoot.blks.contains b = true := by decide
  rw [Foot.hits, key _ hlt hb, Bool.true_or]

theorem within_loseFields (d s : Dev) (reach unit : ℕ) (hr : reach < 7) :
    Within anyFoot d (loseFields s reach unit) ↔ Within anyFoot d s :=
  within_filterRegs _ _ _ fun e he => hits_of_losesField (Nat.mod_lt _ (by decide)) hr (by simpa using he)

@[simp] theorem within_floatPins (d s : Dev) (h : mgmtFoot.le W = true) : Within W d (floatPins s) ↔ Within W d s := by
  refine Within.skip (V := mgmtFoot) ?_ h
  unfold floatPins
  simp (decide := true)

@[simp] theorem within_enterLane (d s : Dev) (p l : ℕ) (h : anyFoot.le W = true) : Within W d (enterLane s p l) ↔ Within W d s := by
  refine Within.skip (V := anyFoot) ?_ h
  unfold enterLane
  simp (decide := true)

@[simp] theorem within_enterLink (d s : Dev) (p l : ℕ) (h : anyFoot.le W = true) : Within W d (enterLink s p l) ↔ Within W d s := by
  refine Within.skip (V := anyFoot) ?_ h
  unfold enterLink
  simp (decide := true) [↓within_ite]

@[simp] theorem within_enterTile (d s : Dev) (p t : ℕ) (h : anyFoot.le W = true) : Within W d (enterTile s p t) ↔ Within W d s := by
  refine Within.skip (V := anyFoot) ?_ h
  unfold enterTile
  simp (decide := true) [↓within_ite]

@[simp] theorem within_enterPlane (d s : Dev) (p src : ℕ) : Within anyFoot d (enterPlane s p src) ↔ Within anyFoot d s := by
  refine Within.skip (V := anyFoot) ?_ (by decide)
  unfold enterPlane
  rw [within_setFs_skip _ _ _ _ (by simp (decide := true)), within_setF_skip _ _ _ _ _ (by split <;> decide), within_loseFields _ _ _ _ (by decide),
    within_setPlaneSt _ _ _ _ (by decide)]
  simp (decide := true)

@[simp] theorem within_enterPp (d s : Dev) (n : ℕ) (h : anyFoot.le W = true) : Within W d (enterPp s n) ↔ Within W d s := by
  refine Within.skip (V := anyFoot) ?_ h
  unfold enterPp
  simp (decide := true)

@[simp] theorem within_dropNarrow (d s : Dev) (h : anyFoot.le W = true) : Within W d (dropNarrow s) ↔ Within W d s := by
  refine Within.skip (V := anyFoot) ?_ h
  unfold dropNarrow
  simp (decide := true)

@[simp] theorem within_enterControl (d s : Dev) (h : anyFoot.le W = true) : Within W d (enterControl s) ↔ Within W d s := by
  refine Within.skip (V := anyFoot) ?_ h
  unfold enterControl
  simp (decide := true)

@[simp] theorem within_enterReq (d s : Dev) (r : RstReq) : Within anyFoot d (enterReq s r) ↔ Within anyFoot d s := by
  refine Within.skip (V := anyFoot) ?_ (by decide)
  unfold enterReq
  split
  · simp (decide := true)
  · simp (decide := true)
  · simp (decide := true)
  · simp (decide := true) [within_loseFields]
  · rw [within_loseFields _ _ _ _ (by decide)]
    simp (decide := true) [↓within_ite]
  · simp (decide := true) [within_loseFields]
  · rfl

@[simp] theorem within_coldReleased (d s : Dev) (h : mgmtFoot.le W = true) : Within W d (coldReleased s) ↔ Within W d s := by
  refine Within.skip (V := mgmtFoot) ?_ h
  unfold coldReleased
  simp (decide := true) [↓within_ite]

@[simp] theorem within_resetClockFallback (d s : Dev) (t step unit : ℕ) (h : mgmtFoot.le W = true) :
    Within W d (resetClockFallback s t step unit) ↔ Within W d s := by
  refine Within.skip (V := mgmtFoot) ?_ h
  unfold resetClockFallback
  simp (decide := true) [↓within_ite]

@[simp] theorem within_sampleStraps (d s : Dev) (samples : List ℕ) (h : anyFoot.le W = true) :
    Within W d (sampleStraps s samples) ↔ Within W d s := by
  refine Within.skip (V := anyFoot) ?_ h
  unfold sampleStraps
  simp (decide := true)

/-- The windows are written on a boot that finds LOCK 0 (R503). -/
theorem within_releasePp (s : Dev) (hl : getF s F.MTX_CTRL_LOCK 0 = 1) : Within anyFoot s (releasePp s) := by
  rw [releasePp, if_pos hl]

@[simp] theorem within_trainPlane (d s : Dev) (p : ℕ) (h : anyFoot.le W = true) : Within W d (trainPlane s p) ↔ Within W d s := by
  refine Within.skip (V := anyFoot) ?_ h
  unfold trainPlane
  simp (decide := true)

@[simp] theorem within_releasePlane (d s : Dev) (p : ℕ) (h : anyFoot.le W = true) : Within W d (releasePlane s p) ↔ Within W d s := by
  refine Within.skip (V := anyFoot) ?_ h
  unfold releasePlane
  simp (decide := true) [↓within_ite]

@[simp] theorem within_releaseLane (d s : Dev) (u : ℕ) (h : anyFoot.le W = true) : Within W d (releaseLane s u) ↔ Within W d s := by
  refine Within.skip (V := anyFoot) ?_ h
  unfold releaseLane
  simp (decide := true) [↓within_ite]

theorem within_releaseDom (s : Dev) (k : Dom) (straps : List ℕ) (hl : getF s F.MTX_CTRL_LOCK 0 = 1) :
    Within anyFoot s (releaseDom s k straps) := by
  have h (e : RstSt) : Within anyFoot s { s with rst := e } := by simp (decide := true)
  unfold releaseDom
  dsimp only
  split
  · exact (within_sampleStraps _ _ _ (by decide)).mpr (h _)
  · exact (h _).trans (within_releasePp _ hl)
  · exact (within_hifMove _ _ _ (by decide)).mpr (h _)
  · exact (within_releasePlane _ _ _ (by decide)).mpr (h _)
  · exact (within_releaseLane _ _ _ (by decide)).mpr (h _)
  · exact h _

/-- LOCK is not among what anything may change. -/
theorem Within.lock {s u : Dev} (h : Within anyFoot s u) : getF u F.MTX_CTRL_LOCK 0 = getF s F.MTX_CTRL_LOCK 0 := h.fld _ _ (by decide)

theorem within_releaseDoms (s : Dev) (l : List Dom) (straps : List ℕ) (hl : getF s F.MTX_CTRL_LOCK 0 = 1) :
    Within anyFoot s (l.foldl (fun s e => releaseDom s e straps) s) := by
  induction l generalizing s with
  | nil => rfl
  | cons k l ih =>
    have h := within_releaseDom s k straps hl
    exact h.trans (ih _ (h.lock.trans hl))

theorem within_resetReleaseStep (s : Dev) (t : ℕ) (ready : Bool) (absent straps : List ℕ) (refCount : ℕ) (hl : getF s F.MTX_CTRL_LOCK 0 = 1) :
    Within anyFoot s (resetReleaseStep s t ready absent straps refCount) := by
  have hn : Within anyFoot s (s.at t) := (within_at s s t (by decide)).mpr (.refl _ _)
  unfold resetReleaseStep
  dsimp only
  split
  · exact hn
  · rw [within_ite]
    split
    · exact hn
    · rw [within_ite]
      split
      · exact hn.trans (by simp (decide := true))
      · refine hn.trans (.trans ?_ (within_releaseDoms _ _ straps hl))
        simp (decide := true) [hn.symm]

theorem within_resetClockReturn (s : Dev) (t step unit : ℕ) (hl : getF s F.MTX_CTRL_LOCK 0 = 1) :
    Within anyFoot s (resetClockReturn s t step unit) := by
  have hn : Within anyFoot s (s.at t) := (within_at s s t (by decide)).mpr (.refl _ _)
  unfold resetClockReturn
  dsimp only
  rw [within_ite]
  split
  · exact hn
  · rw [within_ite]
    have h : Within anyFoot s { s.at t with rst := { s.rst with clkWait := s.rst.clkWait.filter (· != ({ step := step, unit := unit } : Dom)) } } :=
      hn.trans (by simp (decide := true) [hn.symm])
    split
    · exact h
    · exact h.trans (within_releaseDom _ _ _ hl)

@[simp] theorem within_pwrgood (d s : Dev) (t : ℕ) (high : Bool) (h : mgmtFoot.le W = true) : Within W d (pwrgood s t high) ↔ Within W d s := by
  refine Within.skip (V := mgmtFoot) ?_ h
  unfold pwrgood
  simp (decide := true) [↓within_ite]

@[simp] theorem within_resetN (d s : Dev) (t : ℕ) (low : Bool) (h : mgmtFoot.le W = true) : Within W d (resetN s t low) ↔ Within W d s := by
  refine Within.skip (V := mgmtFoot) ?_ h
  unfold resetN
  simp (decide := true) [↓within_ite]

@[simp] theorem within_swErr (d s : Dev) (h : mgmtFoot.le W = true) : Within W d (swErr s) ↔ Within W d s := by
  refine Within.skip (V := mgmtFoot) ?_ h
  unfold swErr
  simp (decide := true)

@[simp] theorem within_syncHeld (d s : Dev) (h : mgmtFoot.le W = true) : Within W d (syncHeld s) ↔ Within W d s := by
  refine Within.skip (V := mgmtFoot) ?_ h
  unfold syncHeld
  simp (decide := true)

@[simp] theorem within_freePlane (d s : Dev) (reach u : ℕ) (h : mgmtFoot.le W = true) : Within W d (freePlane s reach u) ↔ Within W d s := by
  refine Within.skip (V := mgmtFoot) ?_ h
  unfold freePlane
  simp (decide := true) [↓within_ite]

@[simp] theorem within_rstSwPulse (d s : Dev) (t key reach index : ℕ) (h : mgmtFoot.le W = true) :
    Within W d (rstSwPulse s t key reach index) ↔ Within W d s := by
  refine Within.skip (V := mgmtFoot) ?_ h
  unfold rstSwPulse
  simp (decide := true) [↓within_ite]
  split <;> simp (decide := true) [↓within_ite]

@[simp] theorem within_rstSwHold (d s : Dev) (t key reach index : ℕ) (h : mgmtFoot.le W = true) :
    Within W d (rstSwHold s t key reach index) ↔ Within W d s := by
  refine Within.skip (V := mgmtFoot) ?_ h
  unfold rstSwHold
  simp (decide := true) [↓within_ite]
  split <;> simp (decide := true)

@[simp] theorem within_rstSwRelease (d s : Dev) (t key reach index : ℕ) (h : mgmtFoot.le W = true) :
    Within W d (rstSwRelease s t key reach index) ↔ Within W d s := by
  refine Within.skip (V := mgmtFoot) ?_ h
  unfold rstSwRelease
  simp (decide := true) [↓within_ite]
  split <;> simp (decide := true)

@[simp] theorem within_watchdog (d s : Dev) (t : ℕ) (h : mgmtFoot.le W = true) : Within W d (watchdog s t) ↔ Within W d s := by
  refine Within.skip (V := mgmtFoot) ?_ h
  unfold watchdog
  simp (decide := true) [↓within_ite]

@[simp] theorem within_tripLevel (d s : Dev) (h : mgmtFoot.le W = true) : Within W d (tripLevel s).2 ↔ Within W d s := by
  refine Within.skip (V := mgmtFoot) ?_ h
  unfold tripLevel
  split <;> simp (decide := true)

@[simp] theorem within_thermalTrip (d s : Dev) (t : ℕ) (e : List ℤ) (h : mgmtFoot.le W = true) : Within W d (thermalTrip s t e) ↔ Within W d s := by
  refine Within.skip (V := mgmtFoot) ?_ h
  unfold thermalTrip
  simp (decide := true) [↓within_ite]

@[simp] theorem within_thermalHoldEnd (d s : Dev) (t since : ℕ) (h : mgmtFoot.le W = true) :
    Within W d (thermalHoldEnd s t since) ↔ Within W d s := by
  refine Within.skip (V := mgmtFoot) ?_ h
  unfold thermalHoldEnd
  simp (decide := true) [↓within_ite]

@[simp] theorem within_fuseLoadDone (d s : Dev) (t : ℕ) (good : Bool) (h : mgmtFoot.le W = true) :
    Within W d (fuseLoadDone s t good) ↔ Within W d s := by
  refine Within.skip (V := mgmtFoot) ?_ h
  unfold fuseLoadDone
  simp (decide := true) [↓within_ite]

@[simp] theorem within_fuseParityCheck (d s : Dev) (t : ℕ) (bad : Bool) (h : mgmtFoot.le W = true) :
    Within W d (fuseParityCheck s t bad) ↔ Within W d s := by
  refine Within.skip (V := mgmtFoot) ?_ h
  unfold fuseParityCheck
  simp (decide := true) [↓within_ite]

@[simp] theorem within_jtagInstruction (d s : Dev) (i : ℕ) (h : mgmtFoot.le W = true) : Within W d (jtagInstruction s i) ↔ Within W d s := by
  refine Within.skip (V := mgmtFoot) ?_ h
  unfold jtagInstruction
  simp (decide := true) [↓within_ite]

@[simp] theorem within_loadCtl (d s : Dev) (h : anyFoot.le W = true) : Within W d (loadCtl s) ↔ Within W d s := by
  refine Within.skip (V := anyFoot) ?_ h
  unfold loadCtl
  simp (decide := true) [↓within_ite]

@[simp] theorem within_reopenRecs (d s : Dev) (h : anyFoot.le W = true) : Within W d (reopenRecs s) ↔ Within W d s := by
  refine Within.skip (V := anyFoot) ?_ h
  unfold reopenRecs
  simp (decide := true)

@[simp] theorem within_replanPend (d s : Dev) (x : Pend) (h : anyFoot.le W = true) : Within W d (replanPend s x) ↔ Within W d s := by
  refine Within.skip (V := anyFoot) ?_ h
  unfold replanPend
  simp (decide := true) [↓within_ite]

@[simp] theorem within_replanAll (d s : Dev) (h : anyFoot.le W = true) : Within W d (replanAll s) ↔ Within W d s := by
  refine Within.skip (V := anyFoot) ?_ h
  unfold replanAll
  simp (decide := true)

@[simp] theorem within_loadMac (d s : Dev) (p u : ℕ) (b : Sys2Proof.Bytes) (h : planeFoot.le W = true) :
    Within W d (loadMac s p u b) ↔ Within W d s := by
  refine Within.skip (V := planeFoot) ?_ h
  unfold loadMac
  simp (decide := true)

@[simp] theorem within_loadMech (d s : Dev) (p : ℕ) (e : ℕ × Mech) (h : planeFoot.le W = true) : Within W d (loadMech p s e) ↔ Within W d s := by
  refine Within.skip (V := planeFoot) ?_ h
  unfold loadMech
  simp (decide := true) [↓within_ite]
  split <;> simp (decide := true) [↓within_ite]

@[simp] theorem within_loadPlane (d s : Dev) (p : ℕ) (h : planeFoot.le W = true) : Within W d (loadPlane s p) ↔ Within W d s := by
  refine Within.skip (V := planeFoot) ?_ h
  unfold loadPlane
  simp (decide := true) [↓within_ite]

@[simp] theorem within_loadTdm (d s : Dev) (e : ℕ × Mech) (h : anyFoot.le W = true) : Within W d (loadTdm s e) ↔ Within W d s := by
  refine Within.skip (V := anyFoot) ?_ h
  unfold loadTdm
  simp (decide := true) [↓within_ite, ↓within_landMask, ↓within_setTdmFields]

@[simp] theorem within_loadAll (d s : Dev) (h : anyFoot.le W = true) : Within W d (loadAll s) ↔ Within W d s := by
  refine Within.skip (V := anyFoot) ?_ h
  unfold loadAll
  simp (decide := true)

@[simp] theorem within_loadSched (d s : Dev) (h : anyFoot.le W = true) : Within W d (loadSched s) ↔ Within W d s := by
  refine Within.skip (V := anyFoot) ?_ h
  unfold loadSched
  simp (decide := true)

@[simp] theorem within_openTrial (d s : Dev) (h : anyFoot.le W = true) : Within W d (openTrial s) ↔ Within W d s := by
  refine Within.skip (V := anyFoot) ?_ h
  unfold openTrial
  simp (decide := true) [↓within_ite]

@[simp] theorem within_reportNoWindow (d s : Dev) (h : anyFoot.le W = true) : Within W d (reportNoWindow s) ↔ Within W d s := by
  refine Within.skip (V := anyFoot) ?_ h
  unfold reportNoWindow
  simp (decide := true) [↓within_ite]

@[simp] theorem within_enterService (d s : Dev) (h : anyFoot.le W = true) : Within W d (enterService s) ↔ Within W d s := by
  refine Within.skip (V := anyFoot) ?_ h
  unfold enterService
  simp (decide := true)

@[simp] theorem within_replayDone (d s : Dev) (t : ℕ) (h : anyFoot.le W = true) : Within W d (replayDone s t) ↔ Within W d s := by
  refine Within.skip (V := anyFoot) ?_ h
  unfold replayDone
  dsimp only
  split
  · simp (decide := true)
  · split
    · simp (decide := true)
    · rw [within_enterService _ _ (by decide), within_sweepUnknown _ _ (by decide), within_setDev _ _ _ (by decide), within_setJrn _ _ _ (by decide),
        within_setF_skip _ _ _ _ _ (by decide), within_replanAll _ _ (by decide)]
      simp (decide := true)

@[simp] theorem within_planeReturn (d s : Dev) (t p : ℕ) (h : planeFoot.le W = true) : Within W d (planeReturn s t p) ↔ Within W d s := by
  refine Within.skip (V := planeFoot) ?_ h
  unfold planeReturn
  simp (decide := true) [↓within_ite]

@[simp] theorem within_pairJoin (d s : Dev) (t : ℕ) (image : Ctl) (head : ℕ) (h : anyFoot.le W = true) :
    Within W d (pairJoin s t image head) ↔ Within W d s := by
  refine Within.skip (V := anyFoot) ?_ h
  unfold pairJoin
  simp (decide := true) [↓within_ite]

@[simp] theorem within_bootDevice (d s : Dev) (t : ℕ) (good : List Bool) (h : anyFoot.le W = true) :
    Within W d (bootDevice s t good) ↔ Within W d s := by
  refine Within.skip (V := anyFoot) ?_ h
  unfold bootDevice
  simp (decide := true) [↓within_ite]

@[simp] theorem within_takeover (d s : Dev) (t : ℕ) (h : anyFoot.le W = true) : Within W d (takeover s t) ↔ Within W d s := by
  refine Within.skip (V := anyFoot) ?_ h
  unfold takeover
  simp (decide := true)

end Sys2Proof.Machine
end

section
/-! Footprints of the house frame. -/

namespace Sys2Proof.Machine

open Sys2Proof.Claims

variable {W : Foot}

@[simp] theorem within_applyAt (d s : Dev) (x : Pend) (j : JRec) (n : ℕ) (h : anyFoot.le W = true) : Within W d (applyAt s x j n) ↔ Within W d s := by
  refine Within.skip (V := anyFoot) ?_ h
  unfold applyAt
  split <;> simp (decide := true) [↓within_ite]

@[simp] theorem within_applyOne (d s : Dev) (n : ℕ) (x : Pend) (h : anyFoot.le W = true) : Within W d (applyOne s n x) ↔ Within W d s := by
  refine Within.skip (V := anyFoot) ?_ h
  unfold applyOne
  repeat' split
  all_goals simp (decide := true) [↓within_applyAt]

@[simp] theorem within_applyFrame (d s : Dev) (n : ℕ) (h : anyFoot.le W = true) : Within W d (applyFrame s n) ↔ Within W d s := by
  refine Within.skip (V := anyFoot) ?_ h
  unfold applyFrame
  simp (decide := true)

@[simp] theorem within_shedFrame (d s : Dev) (p : ℕ) (h : anyFoot.le W = true) : Within W d (shedFrame s p) ↔ Within W d s := by
  refine Within.skip (V := anyFoot) ?_ h
  unfold shedFrame
  simp (decide := true) [↓within_ite]

@[simp] theorem within_ageUnderruns (d s : Dev) (h : anyFoot.le W = true) : Within W d (ageUnderruns s) ↔ Within W d s := by
  refine Within.skip (V := anyFoot) ?_ h
  unfold ageUnderruns
  simp (decide := true)

@[simp] theorem within_returnFrame (d s : Dev) (p : ℕ) (h : anyFoot.le W = true) : Within W d (returnFrame s p) ↔ Within W d s := by
  refine Within.skip (V := anyFoot) ?_ h
  unfold returnFrame
  simp (decide := true) [↓within_ite]

@[simp] theorem within_consumedMarks (d s : Dev) (h : anyFoot.le W = true) : Within W d (consumedMarks s) ↔ Within W d s := by
  refine Within.skip (V := anyFoot) ?_ h
  unfold consumedMarks
  simp (decide := true) [↓within_ite]

@[simp] theorem within_timingAll (d s : Dev) (h : anyFoot.le W = true) : Within W d (timingAll s) ↔ Within W d s := by
  refine Within.skip (V := anyFoot) ?_ h
  unfold timingAll
  simp (decide := true)

@[simp] theorem within_houseFrameStart (d s : Dev) (t : ℕ) (obs : List Sys2Proof.RefObs) (h : anyFoot.le W = true) :
    Within W d (houseFrameStart s t obs) ↔ Within W d s := by
  refine Within.skip (V := anyFoot) ?_ h
  unfold houseFrameStart
  simp (decide := true) [↓within_ite]

end Sys2Proof.Machine
end

section
/-! Footprints of register access (R5 to R9). -/

namespace Sys2Proof.Machine

open Sys2Proof.Claims

variable {W : Foot}

/-- Every register of the map. -/
def allRegs : List RegDef := (List.range 21).flatMap regsOf

theorem mem_of_findReg {l : List RegDef} {o : ℕ} {q : RegDef × ℕ × ℕ} (h : findReg l o = some q) : q.1 ∈ l := by
  induction l with
  | nil => cases h
  | cons r l ih =>
    rw [findReg] at h
    split at h
    · cases h
      exact List.mem_cons_self
    · exact List.mem_cons_of_mem _ (ih h)

theorem mem_allRegs_of_regsOf {b : ℕ} {r : RegDef} (h : r ∈ regsOf b) : r ∈ allRegs := by
  refine List.mem_flatMap.mpr ⟨b, ?_, h⟩
  by_contra hb
  simp only [List.mem_range] at hb
  unfold regsOf at h
  split at h
  all_goals try omega
  cases h

theorem mem_of_locateReg {a : ℕ} {h : RegHit} (hl : locateReg a = some h) : h.d ∈ allRegs := by
  unfold locateReg at hl
  dsimp only at hl
  split at hl
  · cases hl
  next b u t _ =>
    split at hl
    · split at hl
      next d j z hf =>
        cases hl
        exact mem_allRegs_of_regsOf (b := 20) (mem_of_findReg hf)
      · cases hl
    · split at hl
      · cases hl
      · split at hl
        next d j z hf =>
          cases hl
          exact mem_allRegs_of_regsOf (mem_of_findReg hf)
        · cases hl

/-- No field that a read clears is guarded by R503. -/
theorem rc_unguarded {r : RegDef} (hr : r ∈ allRegs) {f : Fld} (hf : f ∈ r.flds) (ha : f.acc = .rc) : anyFoot.hits (f.code % 262144) = true := by
  have key : ∀ r ∈ allRegs, ∀ f ∈ r.flds, f.acc = .rc → anyFoot.hits (f.code % 262144) = true := by decide +kernel
  exact key r hr f hf ha

/-- LOCK and the windows stand in registers of their own. -/
theorem unguarded_of_has {r : RegDef} (hr : r ∈ allRegs) (h1 : r.has F.MTX_CTRL_LOCK = false) (h2 : r.has F.MTX_WIN_BASE_BASE = false)
    (h3 : r.has F.MTX_WIN_LIM_LAST = false) {f : Fld} (hf : f ∈ r.flds) : anyFoot.hits (f.code % 262144) = true := by
  have key : ∀ r ∈ allRegs, r.has F.MTX_CTRL_LOCK = false → r.has F.MTX_WIN_BASE_BASE = false → r.has F.MTX_WIN_LIM_LAST = false →
      ∀ f ∈ r.flds, anyFoot.hits (f.code % 262144) = true := by decide +kernel
  exact key r hr h1 h2 h3 f hf

theorem within_foldl_mem {α : Type} {W : Foot} (g : Dev → α → Dev) (l : List α) (h : ∀ s, ∀ a ∈ l, Within W s (g s a)) (s : Dev) :
    Within W s (l.foldl g s) := by
  induction l generalizing s with
  | nil => exact .refl W s
  | cons a r ih => exact (h s a List.mem_cons_self).trans (ih (fun s b hb => h s b (List.mem_cons_of_mem _ hb)) _)

theorem within_clearRc (d s : Dev) (r : RegDef) (i lo n : ℕ) (hr : r ∈ allRegs) :
    Within anyFoot d (clearRc s r i lo n) ↔ Within anyFoot d s := by
  refine Within.skip (V := anyFoot) ?_ (by decide)
  refine within_foldl_mem _ _ (fun s f hf => ?_) _
  split
  next h => exact within_setF _ _ _ _ (rc_unguarded hr hf h.1)
  · rfl

@[simp] theorem within_setLatch (d s : Dev) (m base : ℕ) (v : Option ℕ) (h : anyFoot.le W = true) :
    Within W d (setLatch s m base v) ↔ Within W d s := by
  refine Within.skip (V := anyFoot) ?_ h
  unfold setLatch
  simp (decide := true)

@[simp] theorem within_dpllSnapshot (d s : Dev) (m : ℕ) (h : anyFoot.le W = true) : Within W d (dpllSnapshot s m) ↔ Within W d s := by
  refine Within.skip (V := anyFoot) ?_ h
  unfold dpllSnapshot
  simp (decide := true)
  repeat' split
  all_goals simp (decide := true) [↓within_setLatch]

theorem within_readReg (d s : Dev) (m base : ℕ) (h : RegHit) (size : ℕ) (hr : h.d ∈ allRegs) :
    Within anyFoot d (readReg s m base h size).2 ↔ Within anyFoot d s := by
  refine Within.skip (V := anyFoot) ?_ (by decide)
  unfold readReg
  dsimp only
  split
  · simp (decide := true) [↓within_ite]
  · split
    · simp (decide := true) [within_clearRc _ _ _ _ _ _ hr]
    · split
      · simp [within_clearRc _ _ _ _ _ _ hr]
      · split
        · simp (decide := true) [↓within_ite]
        · simp [within_clearRc _ _ _ _ _ _ hr]

theorem within_writeF (d s : Dev) (m i new ones : ℕ) (f : Fld) (h : W.hits (f.code % 262144) = true) :
    Within W d (writeF s m i new ones f) ↔ Within W d s := by
  suffices hs : Within W s (writeF s m i new ones f) from ⟨fun q => q.trans hs.symm, fun q => q.trans hs⟩
  unfold writeF
  split
  · rw [within_ite]
    split
    · rfl
    · exact within_setF _ _ _ _ h
  · exact within_setF _ _ _ _ h
  · rfl

theorem within_writeFields (s : Dev) (m : ℕ) (r : RegDef) (i new ones : ℕ) (h : ∀ f ∈ r.flds, W.hits (f.code % 262144) = true) :
    Within W s (writeFields s m r i new ones) :=
  within_foldl_mem _ _ (fun _ _ hf => (within_writeF _ _ _ _ _ _ _ (h _ hf)).mpr (.refl _ _)) _

@[simp] theorem within_lockedField (d s : Dev) (en : Bool) (err f : Fld) (i v : ℕ) (hf : W.hits (f.code % 262144) = true)
    (he : W.hits (err.code % 262144) = true) : Within W d (lockedField s en err f i v) ↔ Within W d s := by
  unfold lockedField
  simp [↓within_ite, hf, he]

@[simp] theorem within_writeCringCfg (d s : Dev) (i new : ℕ) (h : anyFoot.le W = true) : Within W d (writeCringCfg s i new) ↔ Within W d s := by
  refine Within.skip (V := anyFoot) ?_ h
  unfold writeCringCfg
  simp (decide := true) [↓within_ite]

@[simp] theorem within_writeCplCfg (d s : Dev) (i new : ℕ) (h : anyFoot.le W = true) : Within W d (writeCplCfg s i new) ↔ Within W d s := by
  refine Within.skip (V := anyFoot) ?_ h
  unfold writeCplCfg
  simp (decide := true)

@[simp] theorem within_writeEvtCfg (d s : Dev) (i new : ℕ) (h : anyFoot.le W = true) : Within W d (writeEvtCfg s i new) ↔ Within W d s := by
  refine Within.skip (V := anyFoot) ?_ h
  unfold writeEvtCfg
  simp (decide := true) [↓within_ite]

@[simp] theorem within_writePortCfg (d s : Dev) (i new : ℕ) (h : anyFoot.le W = true) : Within W d (writePortCfg s i new) ↔ Within W d s := by
  refine Within.skip (V := anyFoot) ?_ h
  unfold writePortCfg
  simp (decide := true)

@[simp] theorem within_writeCapqCfg (d s : Dev) (i new : ℕ) (h : anyFoot.le W = true) : Within W d (writeCapqCfg s i new) ↔ Within W d s := by
  refine Within.skip (V := anyFoot) ?_ h
  unfold writeCapqCfg
  simp (decide := true)

@[simp] theorem within_writeRstSw (d s : Dev) (t v : ℕ) (h : anyFoot.le W = true) : Within W d (writeRstSw s t v) ↔ Within W d s := by
  refine Within.skip (V := anyFoot) ?_ h
  unfold writeRstSw
  split <;> simp (decide := true)

theorem mget_of_ne_default {α : Type} {d e : α} {m : SMap α} {k : ℕ} (h : mget d m k ≠ d) : mget e m k = mget d m k := by
  induction m with
  | nil => exact absurd rfl h
  | cons a r ih =>
    by_cases hk : a.1 = k
    · simp [mget, hk]
    · simp only [mget, hk, if_false] at h ⊢
      exact ih h

/-- LOCK written again is the same register file. -/
theorem within_setLock (s : Dev) (hl : getF s F.MTX_CTRL_LOCK 0 = 1) : Within W s (setF s F.MTX_CTRL_LOCK 0 1) := by
  refine ⟨fun f i _ => ?_, fun q _ => by cases q <;> simp [Same]⟩
  by_cases hk : fkey f i = fkey F.MTX_CTRL_LOCK 0
  · have h1 : getF (setF s F.MTX_CTRL_LOCK 0 1) F.MTX_CTRL_LOCK 0 = 1 := getF_setF_same _ _ _ _
    have hd : resetAt F.MTX_CTRL_LOCK 0 = 0 := by decide
    unfold getF at h1 hl ⊢
    rw [hk, mget_of_ne_default (d := resetAt F.MTX_CTRL_LOCK 0) (by rw [h1, hd]; decide), h1,
      mget_of_ne_default (d := resetAt F.MTX_CTRL_LOCK 0) (by rw [hl, hd]; decide), hl]
  · simp only [getF, setF, mget_mset_other hk]

/-- With LOCK 1 a write to it changes neither LOCK nor a window (R503). -/
theorem within_lockWrite (s : Dev) (m v : ℕ) (hl : getF s F.MTX_CTRL_LOCK 0 = 1) : Within anyFoot s (lockWrite s m v) := by
  unfold lockWrite
  split
  · rfl
  · split
    · exact within_setLock s hl
    · simp (decide := true)

@[simp] theorem within_remapWrite (d s : Dev) (m k v : ℕ) (h : anyFoot.le W = true) : Within W d (remapWrite s m k v) ↔ Within W d s := by
  refine Within.skip (V := anyFoot) ?_ h
  unfold remapWrite
  simp (decide := true) [↓within_ite]

theorem within_winWrite (s : Dev) (m i : ℕ) (lim : Bool) (v : ℕ) (hl : getF s F.MTX_CTRL_LOCK 0 = 1) :
    Within anyFoot s (winWrite s m i lim v) := by
  simp (decide := true) [winWrite, hl, ↓within_ite]

theorem within_writeMtxCtrl (s : Dev) (m new : ℕ) (hl : getF s F.MTX_CTRL_LOCK 0 = 1) : Within anyFoot s (writeMtxCtrl s m new) := by
  unfold writeMtxCtrl
  dsimp only
  refine .trans ?_ (within_lockWrite _ _ _ ?_)
  · simp (decide := true) [↓within_ite]
  · refine .trans (Within.lock ?_) hl
    simp (decide := true) [↓within_ite]

@[simp] theorem within_writeErrInfo (d s : Dev) (ones : ℕ) (h : anyFoot.le W = true) : Within W d (writeErrInfo s ones) ↔ Within W d s := by
  refine Within.skip (V := anyFoot) ?_ h
  unfold writeErrInfo
  simp (decide := true) [↓within_ite]

theorem within_storeReg (s : Dev) (t m : ℕ) (r : RegDef) (i new ones : ℕ) (hr : r ∈ allRegs) (hl : getF s F.MTX_CTRL_LOCK 0 = 1) :
    Within anyFoot s (storeReg s t m r i new ones) := by
  simp (decide := true) [storeReg, ↓within_ite, within_winWrite _ _ _ _ _ hl, within_writeMtxCtrl _ _ _ hl]
  intros
  exact within_writeFields _ _ _ _ _ _ fun _ hf => unguarded_of_has hr ‹_› ‹_› ‹_› hf

theorem within_writeReg (s : Dev) (t m base : ℕ) (h : RegHit) (size value : ℕ) (hr : h.d ∈ allRegs) (hl : getF s F.MTX_CTRL_LOCK 0 = 1) :
    Within anyFoot s (writeReg s t m base h size value) := by
  have hh (e : SMap ℕ) : Within anyFoot s { s with holds := e } := by simp (decide := true)
  unfold writeReg
  dsimp only
  split
  · rfl
  · split
    · exact within_storeReg _ _ _ _ _ _ _ hr hl
    · split
      · exact hh _
      · split
        · exact (hh _).trans (within_storeReg _ _ _ _ _ _ _ hr hl)
        · exact (hh _).trans (within_storeReg _ _ _ _ _ _ _ hr hl)

@[simp] theorem within_mtxFail (d s : Dev) (m addr kind : ℕ) (write : Bool) (h : anyFoot.le W = true) :
    Within W d (mtxFail s m addr kind write) ↔ Within W d s := by
  refine Within.skip (V := anyFoot) ?_ h
  unfold mtxFail
  simp (decide := true) [↓within_ite]

@[simp] theorem within_mtxAnswer (d s : Dev) (m size : ℕ) (write : Bool) (h : anyFoot.le W = true) :
    Within W d (mtxAnswer s m size write) ↔ Within W d s := by
  refine Within.skip (V := anyFoot) ?_ h
  unfold mtxAnswer
  simp (decide := true) [↓within_ite]

@[simp] theorem within_mtxError (d s : Dev) (m addr size kind : ℕ) (write : Bool) (h : anyFoot.le W = true) :
    Within W d (mtxError s m addr size kind write) ↔ Within W d s := by
  refine Within.skip (V := anyFoot) ?_ h
  unfold mtxError
  simp (decide := true)

@[simp] theorem within_regMiss (d s : Dev) (m a size : ℕ) (write : Bool) (h : anyFoot.le W = true) :
    Within W d (regMiss s m a size write) ↔ Within W d s := by
  refine Within.skip (V := anyFoot) ?_ h
  unfold regMiss
  simp (decide := true) [↓within_ite]

theorem within_accessWrite (s : Dev) (t m a size value : ℕ) (hl : getF s F.MTX_CTRL_LOCK 0 = 1) :
    Within anyFoot s (accessWrite s t m a size value) := by
  unfold accessWrite
  split
  · simp (decide := true)
  · split
    · simp (decide := true)
    · split
      · simp (decide := true)
      next h hloc =>
        split
        · simp (decide := true)
        · exact within_writeReg _ _ _ _ _ _ _ (mem_of_locateReg hloc) hl

theorem within_accessRead (d s : Dev) (m a size : ℕ) : Within anyFoot d (accessRead s m a size) ↔ Within anyFoot d s := by
  refine Within.skip (V := anyFoot) ?_ (by decide)
  unfold accessRead
  split
  · simp (decide := true)
  · split
    · simp (decide := true)
    · split
      · simp (decide := true)
      next h hloc => simp (decide := true) [within_readReg _ _ _ _ _ _ (mem_of_locateReg hloc)]

@[simp] theorem within_bar2Write (d s : Dev) (k off size value : ℕ) (h : anyFoot.le W = true) :
    Within W d (bar2Write s k off size value) ↔ Within W d s := by
  refine Within.skip (V := anyFoot) ?_ h
  unfold bar2Write
  simp (decide := true) [↓within_ite]

theorem within_writeAt (s : Dev) (t m addr size value : ℕ) (hl : getF s F.MTX_CTRL_LOCK 0 = 1) :
    Within anyFoot s (writeAt s t m addr size value) := by
  unfold writeAt
  split
  · exact within_accessWrite _ _ _ _ _ _ hl
  · simp (decide := true)
  · simp (decide := true)

theorem within_readAt (d s : Dev) (m addr size : ℕ) : Within anyFoot d (readAt s m addr size) ↔ Within anyFoot d s := by
  refine Within.skip (V := anyFoot) ?_ (by decide)
  unfold readAt
  split
  · exact (within_accessRead _ _ _ _ _).mpr (.refl _ _)
  · simp (decide := true)
  · simp (decide := true)

theorem within_registerWrite (s : Dev) (t m addr size value : ℕ) (hl : getF s F.MTX_CTRL_LOCK 0 = 1) :
    Within anyFoot s (registerWrite s t m addr size value) := by
  have hn : Within anyFoot s (s.at t) := (within_at s s t (by decide)).mpr (.refl _ _)
  unfold registerWrite
  dsimp only
  split
  · exact hn.trans (within_writeAt _ _ _ _ _ _ hl)
  · exact hn

theorem within_rcRead (d s : Dev) (t m addr size : ℕ) : Within anyFoot d (rcRead s t m addr size) ↔ Within anyFoot d s := by
  refine Within.skip (V := anyFoot) ?_ (by decide)
  simp (decide := true) [rcRead, ↓within_ite, within_readAt]

theorem within_latchedRead (d s : Dev) (t m addr size : ℕ) : Within anyFoot d (latchedRead s t m addr size) ↔ Within anyFoot d s := by
  refine Within.skip (V := anyFoot) ?_ (by decide)
  simp (decide := true) [latchedRead, ↓within_ite, within_readAt]

theorem within_dpllSnapshotRead (d s : Dev) (t m : ℕ) (whole : Bool) : Within anyFoot d (dpllSnapshotRead s t m whole) ↔ Within anyFoot d s := by
  refine Within.skip (V := anyFoot) ?_ (by decide)
  simp (decide := true) [dpllSnapshotRead, ↓within_ite, within_accessRead]

end Sys2Proof.Machine
end

section
/-! Footprints of the control matrix (R493 to R509). -/

namespace Sys2Proof.Machine

open Sys2Proof.Claims

variable {W : Foot}

@[simp] theorem within_freeBytes (d s : Dev) (n : ℕ) (h : freeFoot.le W = true) : Within W d (freeBytes s n).2 ↔ Within W d s := by
  refine Within.skip (V := freeFoot) ?_ h
  induction n generalizing s with
  | zero => rfl
  | succ n ih => exact .trans ((within_takeFree s s 8 (by decide)).mpr (.refl _ _)) (ih _)

theorem within_serve (s : Dev) (t : ℕ) (mem : Memory) (r : MtxReq) (hl : getF s F.MTX_CTRL_LOCK 0 = 1) : Within anyFoot s (serve s t mem r) := by
  simp (decide := true) [serve, ↓within_ite, within_accessWrite _ _ _ _ _ _ hl, within_accessRead]

theorem within_arbitrate (t tg n : ℕ) (q : Dev × Memory) (l : List MtxReq) (hl : getF q.1 F.MTX_CTRL_LOCK 0 = 1) :
    Within anyFoot q.1 (arbitrate t tg n q l).1 := by
  induction n generalizing q l with
  | zero => rfl
  | succ n ih =>
    rw [arbitrate]
    split
    · rfl
    next r _ =>
      have hs : Within anyFoot q.1 (serve { q.1 with mtx := { q.1.mtx with last := mset 7 q.1.mtx.last tg r.master } } t q.2 r) :=
        .trans (by simp (decide := true)) (within_serve _ t q.2 r hl)
      exact hs.trans (ih (serve _ t q.2 r, serveMem _ q.2 r) _ (hs.lock.trans hl))

@[simp] theorem within_failAll (d s : Dev) (l : List MtxReq) (h : anyFoot.le W = true) : Within W d (failAll s l) ↔ Within W d s := by
  refine Within.skip (V := anyFoot) ?_ h
  exact within_foldl _ (fun s _ => within_foldl _ (fun s _ => by simp (decide := true)) _ s) _ s

theorem within_arbitrateAll (t : ℕ) (l : ℕ → List MtxReq) (tgs : List ℕ) (q : Dev × Memory) (hl : getF q.1 F.MTX_CTRL_LOCK 0 = 1) :
    Within anyFoot q.1 (tgs.foldl (fun q tg => arbitrate t tg (l tg).length q (l tg)) q).1 := by
  induction tgs generalizing q with
  | nil => rfl
  | cons tg tgs ih =>
    have h := within_arbitrate t tg (l tg).length q (l tg) hl
    exact h.trans (ih _ (h.lock.trans hl))

theorem within_mtxTransaction (s : Dev) (mem : Memory) (t : ℕ) (reqs : List MtxReq) (hl : getF s F.MTX_CTRL_LOCK 0 = 1) :
    Within anyFoot s (mtxTransaction s mem t reqs).1 := by
  have hf (l m : List MtxReq) : Within anyFoot s (failAll (l.foldl (fun s r => mtxAnswer s r.master r.size r.write) (s.at t)) m) := by
    simp (decide := true)
  unfold mtxTransaction
  exact .trans (hf _ _) (within_arbitrateAll _ _ _ (failAll _ _, mem) ((hf _ _).lock.trans hl))

@[simp] theorem within_mtxTimeout (d s : Dev) (t : ℕ) (r : Sys2Proof.MtxReq) (h : anyFoot.le W = true) :
    Within W d (mtxTimeout s t r) ↔ Within W d s := by
  refine Within.skip (V := anyFoot) ?_ h
  unfold mtxTimeout
  simp (decide := true) [↓within_ite]

theorem within_mtxLockWrite (s : Dev) (t m v : ℕ) (hl : getF s F.MTX_CTRL_LOCK 0 = 1) : Within anyFoot s (mtxLockWrite s t m v) :=
  ((within_at s s t (by decide)).mpr (.refl _ _)).trans (within_lockWrite _ _ _ hl)

@[simp] theorem within_mtxRemapWrite (d s : Dev) (t m k v : ℕ) (h : anyFoot.le W = true) : Within W d (mtxRemapWrite s t m k v) ↔ Within W d s := by
  refine Within.skip (V := anyFoot) ?_ h
  unfold mtxRemapWrite
  simp (decide := true)

theorem within_mtxWinWrite (s : Dev) (t m i : ℕ) (lim : Bool) (v : ℕ) (hl : getF s F.MTX_CTRL_LOCK 0 = 1) :
    Within anyFoot s (mtxWinWrite s t m i lim v) := by
  unfold mtxWinWrite
  split
  · exact ((within_at s s t (by decide)).mpr (.refl _ _)).trans (within_winWrite _ _ _ _ _ hl)
  · rfl

end Sys2Proof.Machine
end

section
/-! LOCK and the windows of the control matrix (R503). -/

namespace Sys2Proof.Machine

open Sys2Proof.Claims

/-- A source that is neither WARM nor COLD and has not been entered. -/
theorem any_reach_of_narrow {s : Dev} (h : ¬ WideEntry s) {k : ℕ} (hk : 7 ≤ k) :
    ((s.rst.reqs.filter fun r => !r.entered).any fun r => r.reach == k) = false := by
  rw [List.any_eq_false]
  intro r hr hreach
  obtain ⟨hmem, hent⟩ := List.mem_filter.mp hr
  exact h ⟨r, hmem, by simpa using hent, by simpa using (beq_iff_eq.mp hreach).ge.trans' hk⟩

/-- The entry of narrow resets. -/
theorem within_resetEntry (s : Dev) (t : ℕ) (h : ¬ WideEntry s) : Within anyFoot s (resetEntry s t) := by
  have h7 := any_reach_of_narrow h (le_refl 7)
  have h8 := any_reach_of_narrow h (show 7 ≤ 8 by decide)
  unfold resetEntry
  simp (decide := true) [Dev.at, h7, h8, ↓within_ite]

/-- Once LOCK is 1, a command that is not POR or the entry of a WARM or COLD reset changes neither LOCK nor a window. -/
theorem exec_within_unlocked {c : Instr} {s u : State} (hl : getF s.dev F.MTX_CTRL_LOCK 0 = 1) (hu : exec c s = .next u)
    (hpor : ∀ t, c ≠ .por t true) (hent : ∀ t, c = .resetEntry t → ¬ WideEntry s.dev) : Within anyFoot s.dev u.dev := by
  cases c
  case registerWrite => cases hu; exact within_registerWrite _ _ _ _ _ _ hl
  case rcRead => cases hu; exact (within_rcRead _ _ _ _ _ _).mpr (.refl _ _)
  case latchedRead => cases hu; exact (within_latchedRead _ _ _ _ _ _).mpr (.refl _ _)
  case dpllSnapshotRead => cases hu; exact (within_dpllSnapshotRead _ _ _ _ _).mpr (.refl _ _)
  case mtxTransaction => cases hu; exact within_mtxTransaction _ _ _ _ hl
  case mtxLockWrite => cases hu; exact within_mtxLockWrite _ _ _ _ hl
  case mtxWinWrite => cases hu; exact within_mtxWinWrite _ _ _ _ _ _ hl
  case resetReleaseStep => cases hu; exact within_resetReleaseStep _ _ _ _ _ _ hl
  case resetClockReturn => cases hu; exact within_resetClockReturn _ _ _ _ hl
  case resetEntry t => cases hu; exact within_resetEntry _ _ (hent t rfl)
  case por t asserted =>
    cases asserted
    · cases hu
      simp (decide := true) [por, ↓within_ite]
    · exact absurd rfl (hpor t)
  all_goals cases hu; simp (decide := true)

theorem unguarded_windowFields : ∀ f ∈ windowFields, anyFoot.hits (f.code % 262144) = false := by decide

/-- Settles O57: what R503 guards is outside every such command's footprint. -/
theorem onlyResetsUnlock : Obligations.OnlyResetsUnlock := fun _ _ _ hl hu hpor hent =>
  have h := exec_within_unlocked hl hu hpor hent
  ⟨h.lock.trans hl, fun f hf i => h.fld f i (unguarded_windowFields f hf)⟩

end Sys2Proof.Machine
end

section
/-! Frames as equations: a device within a footprint is the old one with the parts replaced that may change. -/

namespace Sys2Proof.Machine

open Sys2Proof.Claims

/-! Parts read by name. -/

theorem Within.out {W : Foot} {s u : Dev} (h : Within W s u) (hW : .out ∉ W.parts) : u.out = s.out := h.part .out hW
theorem Within.now {W : Foot} {s u : Dev} (h : Within W s u) (hW : .now ∉ W.parts) : u.now = s.now := h.part .now hW
theorem Within.jrn {W : Foot} {s u : Dev} (h : Within W s u) (hW : .jrn ∉ W.parts) : u.jrn = s.jrn := h.part .jrn hW
theorem Within.pend {W : Foot} {s u : Dev} (h : Within W s u) (hW : .pend ∉ W.parts) : u.ctl.pend = s.ctl.pend := h.part .pend hW
theorem Within.epoch {W : Foot} {s u : Dev} (h : Within W s u) (hW : .epoch ∉ W.parts) : u.ctl.epoch = s.ctl.epoch := h.part .epoch hW
theorem Within.adopted {W : Foot} {s u : Dev} (h : Within W s u) (hW : .adopted ∉ W.parts) : u.ctl.adopted = s.ctl.adopted := h.part .adopted hW
theorem Within.ref {W : Foot} {s u : Dev} (h : Within W s u) (hW : .ref ∉ W.parts) : u.ctl.ref = s.ctl.ref := h.part .ref hW

theorem Within.sec {W : Foot} {s u : Dev} (h : Within W s u) (hW : .secRest ∉ W.parts) (hv : .reverting ∉ W.parts) (ha : .revertAt ∉ W.parts) :
    u.sec = s.sec := by
  have hr : u.sec.reverting = s.sec.reverting := h.part .reverting hv
  have hat : u.sec.revertAt = s.sec.revertAt := h.part .revertAt ha
  calc u.sec = { u.sec with reverting := s.sec.reverting, revertAt := s.sec.revertAt } := by rw [← hr, ← hat]
    _ = s.sec := congrArg (fun x : SecSt => { x with reverting := s.sec.reverting, revertAt := s.sec.revertAt }) (h.part .secRest hW)

theorem Within.rst {W : Foot} {s u : Dev} (h : Within W s u) (hW : .rstRest ∉ W.parts) (hq : .reqs ∉ W.parts) : u.rst = s.rst := by
  have hr : u.rst.reqs = s.rst.reqs := h.part .reqs hq
  calc u.rst = { u.rst with reqs := s.rst.reqs } := by rw [← hr]
    _ = s.rst := congrArg (fun x : RstSt => { x with reqs := s.rst.reqs }) (h.part .rstRest hW)

theorem Within.tim {W : Foot} {s u : Dev} (h : Within W s u) (hW : .timRest ∉ W.parts) (hq : .refs ∉ W.parts) : u.tim = s.tim := by
  have hr : u.tim.refs = s.tim.refs := h.part .refs hq
  calc u.tim = { u.tim with refs := s.tim.refs } := by rw [← hr]
    _ = s.tim := congrArg (fun x : TimSt => { x with refs := s.tim.refs }) (h.part .timRest hW)

/-- The new value of what may change, the old one of what may not. -/
def keep {α : Type} (W : Foot) (q : Part) (a b : α) : α := if q ∈ W.parts then b else a

theorem keep_eq {α : Type} {W : Foot} {q : Part} {a b : α} (h : q ∉ W.parts → b = a) : keep W q a b = b := by
  unfold keep
  split
  next => rfl
  next hq => exact (h hq).symm

theorem keep_of_mem {α : Type} {W : Foot} {q : Part} (a b : α) (h : q ∈ W.parts) : keep W q a b = b := if_pos h

theorem keep_of_not_mem {α : Type} {W : Foot} {q : Part} (a b : α) (h : q ∉ W.parts) : keep W q a b = a := if_neg h

theorem Within.eq_keep {W : Foot} {s u : Dev} (h : Within W s u) :
    u = {
      regs := u.regs, now := keep W .now s.now u.now, out := keep W .out s.out u.out, freeCtr := keep W .freeCtr s.freeCtr u.freeCtr,
      latches := keep W .latches s.latches u.latches, holds := keep W .holds s.holds u.holds, host := keep W .host s.host u.host,
      ctl := { keep W .ctlRest s.ctl u.ctl with recs := keep W .recs s.ctl.recs u.ctl.recs, adopted := keep W .adopted s.ctl.adopted u.ctl.adopted, stop := keep W .stop s.ctl.stop u.ctl.stop, lastId := keep W .lastId s.ctl.lastId u.ctl.lastId, epoch := keep W .epoch s.ctl.epoch u.ctl.epoch, pend := keep W .pend s.ctl.pend u.ctl.pend, routes := keep W .routes s.ctl.routes u.ctl.routes, fsync := keep W .fsync s.ctl.fsync u.ctl.fsync, ref := keep W .ref s.ctl.ref u.ctl.ref },
      jrn := keep W .jrn s.jrn u.jrn, tim := { keep W .timRest s.tim u.tim with refs := keep W .refs s.tim.refs u.tim.refs },
      pln := { keep W .plnRest s.pln u.pln with planes := keep W .planes s.pln.planes u.pln.planes, fs := keep W .fs s.pln.fs u.pln.fs, dst := keep W .dst s.pln.dst u.pln.dst, merge := keep W .merge s.pln.merge u.pln.merge },
      rst := { keep W .rstRest s.rst u.rst with reqs := keep W .reqs s.rst.reqs u.rst.reqs }, flt := keep W .flt s.flt u.flt,
      otl := { links := keep W .cfg s.otl.links u.otl.links, lanes := keep W .lanes s.otl.lanes u.otl.lanes }, hbm := keep W .hbm s.hbm u.hbm,
      cmp := keep W .cmp s.cmp u.cmp, library := keep W .library s.library u.library, tdm := keep W .tdmAssoc s.tdm u.tdm,
      mclkOff := keep W .mclkOff s.mclkOff u.mclkOff, aud := keep W .aud s.aud u.aud, eth := keep W .eth s.eth u.eth,
      fls := keep W .fls s.fls u.fls, profile := keep W .profile s.profile u.profile,
      sec := { keep W .secRest s.sec u.sec with reverting := keep W .reverting s.sec.reverting u.sec.reverting, revertAt := keep W .revertAt s.sec.revertAt u.sec.revertAt },
      age := keep W .age s.age u.age, mtx := keep W .mtx s.mtx u.mtx, avs := keep W .avs s.avs u.avs } := by
  rcases u with ⟨u_regs, u_now, u_out, u_freeCtr, u_latches, u_holds, u_host, u_ctl, u_jrn, u_tim, u_pln, u_rst, u_flt, u_otl, u_hbm, u_cmp, u_library, u_tdm, u_mclkOff, u_aud, u_eth, u_fls, u_profile, u_sec, u_age, u_mtx, u_avs⟩
  simp only [Dev.mk.injEq]
  refine ⟨trivial, (keep_eq (h.part .now)).symm, (keep_eq (h.part .out)).symm, (keep_eq (h.part .freeCtr)).symm, (keep_eq (h.part .latches)).symm, (keep_eq (h.part .holds)).symm, (keep_eq (h.part .host)).symm, ?ctl, (keep_eq (h.part .jrn)).symm, ?tim, ?pln, ?rst, (keep_eq (h.part .flt)).symm, ?otl, (keep_eq (h.part .hbm)).symm, (keep_eq (h.part .cmp)).symm, (keep_eq (h.part .library)).symm, (keep_eq (h.part .tdmAssoc)).symm, (keep_eq (h.part .mclkOff)).symm, (keep_eq (h.part .aud)).symm, (keep_eq (h.part .eth)).symm, (keep_eq (h.part .fls)).symm, (keep_eq (h.part .profile)).symm, ?sec, (keep_eq (h.part .age)).symm, (keep_eq (h.part .mtx)).symm, (keep_eq (h.part .avs)).symm⟩
  case tim =>
    rw [keep_eq (h.part .refs)]
    by_cases hq : .timRest ∈ W.parts
    · rw [keep_of_mem _ _ hq]
    · rw [keep_of_not_mem _ _ hq]
      exact congrArg (fun x : TimSt => { x with refs := u_tim.refs }) (h.part .timRest hq)
  case pln =>
    rw [keep_eq (h.part .planes), keep_eq (h.part .fs), keep_eq (h.part .dst), keep_eq (h.part .merge)]
    by_cases hq : .plnRest ∈ W.parts
    · rw [keep_of_mem _ _ hq]
    · rw [keep_of_not_mem _ _ hq]
      exact congrArg (fun x : PlnSt => { x with planes := u_pln.planes, fs := u_pln.fs, dst := u_pln.dst, merge := u_pln.merge }) (h.part .plnRest hq)
  case rst =>
    rw [keep_eq (h.part .reqs)]
    by_cases hq : .rstRest ∈ W.parts
    · rw [keep_of_mem _ _ hq]
    · rw [keep_of_not_mem _ _ hq]
      exact congrArg (fun x : RstSt => { x with reqs := u_rst.reqs }) (h.part .rstRest hq)
  case sec =>
    rw [keep_eq (h.part .reverting), keep_eq (h.part .revertAt)]
    by_cases hq : .secRest ∈ W.parts
    · rw [keep_of_mem _ _ hq]
    · rw [keep_of_not_mem _ _ hq]
      exact congrArg (fun x : SecSt => { x with reverting := u_sec.reverting, revertAt := u_sec.revertAt }) (h.part .secRest hq)
  case ctl =>
    rw [keep_eq (h.part .recs), keep_eq (h.part .adopted), keep_eq (h.part .stop), keep_eq (h.part .lastId), keep_eq (h.part .epoch), keep_eq (h.part .pend), keep_eq (h.part .routes), keep_eq (h.part .fsync), keep_eq (h.part .ref)]
    by_cases hq : .ctlRest ∈ W.parts
    · rw [keep_of_mem _ _ hq]
    · rw [keep_of_not_mem _ _ hq]
      obtain ⟨h1, h2, h3, h4, h5, h6, h7, h8⟩ := h.part .ctlRest hq
      dsimp only at h1 h2 h3 h4 h5 h6 h7 h8
      rw [← h1, ← h2, ← h3, ← h4, ← h5, ← h6, ← h7, ← h8]
  case otl => rw [keep_eq (h.part .cfg), keep_eq (h.part .lanes)]

end Sys2Proof.Machine
end

section
/-! The frames of the ring, timing, source, synchroniser and management commands. -/

namespace Sys2Proof.Machine

open Sys2Proof.Claims

/-- The registers of `W` are those of the blocks `bs` and the fields `fs`. -/
def Foot.regsIn (W : Foot) (bs : List Nat) (fs : List Fld) : Bool :=
  W.blks.all bs.contains && W.flds.all fun g => bs.contains (codeBlk (g.code % 262144)) || fs.any fun k => g.code % 262144 == k.code

theorem Within.only {W : Foot} {bs : List Nat} {fs : List Fld} {d u : Dev} (h : Within W d u) (hW : W.regsIn bs fs = true) : Only bs fs d u := by
  intro f i hb hf
  refine h.fld f i (Bool.eq_false_iff.mpr fun hc => ?_)
  simp only [Foot.regsIn, Bool.and_eq_true, List.all_eq_true, Bool.or_eq_true, List.any_eq_true, beq_iff_eq, List.contains_iff_mem] at hW
  simp only [Foot.hits, Bool.or_eq_true, List.any_eq_true, beq_iff_eq, List.contains_iff_mem] at hc
  obtain ⟨hblk, hfld⟩ := hW
  obtain hc | ⟨g, hg, hfg⟩ := hc
  · exact hb _ (hblk _ hc) rfl
  · obtain hgb | ⟨k, hk, hgk⟩ := hfld g hg
    · exact hb _ hgb (by rw [hfg])
    · exact hf k hk (by rw [hfg, hgk])

/-- Link `l` in all but its CFG items. -/
theorem Within.lnkSt {W : Foot} {d u : Dev} (h : Within W d u) (hW : .links ∉ W.parts) (q l : ℕ) :
    lnkSt u q l = { lnkSt d q l with cfgSeq := (lnkSt u q l).cfgSeq, cfg := (lnkSt u q l).cfg } :=
  congrArg (fun x : LnkSt => { x with cfgSeq := (Machine.lnkSt u q l).cfgSeq, cfg := (Machine.lnkSt u q l).cfg }) (h.part .links hW (ix q l))

theorem within_ringCmd {c : Instr} (hc : isRingCmd c) {s u : State} (hu : exec c s = .next u) : Within ringFoot s.dev u.dev := by
  cases c <;> simp only [isRingCmd] at hc <;> (cases hu; simp (decide := true))

theorem within_refCmd {c : Instr} (hc : isRefCmd c) {s u : State} (hu : exec c s = .next u) : Within refFoot s.dev u.dev := by
  cases c <;> simp only [isRefCmd] at hc <;> (cases hu; simp (decide := true))

theorem within_syncCmd {c : Instr} (hc : isSyncCmd c) {s u : State} (hu : exec c s = .next u) : Within syncFoot s.dev u.dev := by
  cases c <;> simp only [isSyncCmd] at hc <;> (cases hu; simp (decide := true))

theorem within_managementCmd {c : Instr} (hc : isManagementCmd c) {s u : State} (hu : exec c s = .next u) : Within mgmtFoot s.dev u.dev := by
  cases c <;> simp only [isManagementCmd] at hc <;> (cases hu; simp (decide := true))

/-- Settles O27: the footprints of those commands, read as equations. -/
theorem registerSideCommandsKeepTheRest : Obligations.RegisterSideCommandsKeepTheRest := by
  refine ⟨⟨fun c hc s u hu => ?ring, fun c hc s u hu => ?accept, fun c hc s u hu => ?perst⟩, fun c hc s u hu => ?ref, fun c hc s u hu => ?sync⟩
  case ring =>
    have h := within_ringCmd hc hu
    exact ⟨h.only (by decide), h.eq_keep⟩
  case accept =>
    obtain ⟨t, f, a, rfl⟩ := hc
    have h : Within acceptFoot s.dev u.dev := by cases hu; simp (decide := true)
    exact ⟨h.only (by decide), h.eq_keep⟩
  case perst =>
    obtain ⟨t, k, a, rfl⟩ := hc
    have h : Within perstFoot s.dev u.dev := by cases hu; simp (decide := true)
    exact ⟨h.only (by decide), h.eq_keep⟩
  case ref =>
    have h := within_refCmd hc hu
    exact ⟨h.only (by decide), h.eq_keep⟩
  case sync =>
    have h := within_syncCmd hc hu
    exact ⟨h.only (by decide), h.eq_keep, h.lnkSt (by decide)⟩

/-- Settles O56: the footprint of those commands, read as an equation. -/
theorem managementCommandsKeepTheRest : Obligations.ManagementCommandsKeepTheRest := fun _ hc _ _ hu =>
  have h := within_managementCmd hc hu
  ⟨h.only (by decide), h.eq_keep⟩

end Sys2Proof.Machine
end

section
/-! The frames of the data-path, audio, link and Ethernet commands. -/

namespace Sys2Proof.Machine

open Sys2Proof.Claims

/-! The routes that a switching instant leaves alone. -/

/-- Every route entry but `k` is the same. -/
def OtherRoutes (k : ℕ) (s u : Dev) : Prop := ∀ j, j ≠ k → routeOf u j = routeOf s j

theorem OtherRoutes.refl (k : ℕ) (s : Dev) : OtherRoutes k s s := fun _ _ => rfl

theorem OtherRoutes.trans {k : ℕ} {s u v : Dev} (h : OtherRoutes k s u) (g : OtherRoutes k u v) : OtherRoutes k s v :=
  fun j hj => (g j hj).trans (h j hj)

theorem Within.otherRoutes {W : Foot} {s u : Dev} (h : Within W s u) (hW : .routes ∉ W.parts) (k : ℕ) : OtherRoutes k s u :=
  fun j _ => congrArg (fun m : SMap Route => mget ({} : Route) m j) (h.part .routes hW)

theorem otherRoutes_setRoute (s : Dev) (k : ℕ) (x : Route) : OtherRoutes k s (setRoute s k x) := fun _ hj => mget_mset_ne _ _ _ _ _ hj

theorem otherRoutes_fenced_setRoute (s : Dev) (k jsn recorded : ℕ) (x : Dev → Route) :
    OtherRoutes k s (fenced s jsn recorded fun s => setRoute s k (x s)).2 := by
  unfold fenced
  split
  · exact Within.otherRoutes (W := faultFoot) (by simp (decide := true)) (by decide) k
  · exact otherRoutes_setRoute s k _

theorem otherRoutes_applyDue (s : Dev) (k n : ℕ) (x : Pend) : OtherRoutes k s (applyDue s k n x) := by
  have same {u v : Dev} (h : Within switchFoot u v) : OtherRoutes k u v := h.otherRoutes (by decide) k
  unfold applyDue
  split
  · exact .refl k s
  next i _ =>
    dsimp only
    split
    · exact same (by simp (decide := true) [↓within_ite])
    · split
      · exact same (by simp (decide := true))
      · generalize hf : fenced s x.jsn _ _ = f
        have hk : OtherRoutes k s f.2 := by
          rw [← hf]
          exact otherRoutes_fenced_setRoute s k x.jsn _ _
        exact hk.trans (same (by simp (decide := true) [↓within_ite]))

theorem otherRoutes_foldl {α : Type} (k : ℕ) (g : Dev → α → Dev) (h : ∀ s a, OtherRoutes k s (g s a)) (l : List α) (s : Dev) :
    OtherRoutes k s (l.foldl g s) := by
  induction l generalizing s with
  | nil => exact .refl k s
  | cons a r ih => exact (h s a).trans (ih _)

theorem pkey_routeEcc (s : Dev) (p ecc q d : ℕ) : pkey (routeEcc s p ecc) q d = pkey s q d := by
  have h : (routeEcc s p ecc).ctl.pair = s.ctl.pair := by
    unfold routeEcc
    split
    · rfl
    · split
      · have hf : Within faultFoot s (routeDoubleBit s p) := by simp (decide := true)
        exact (hf.part .ctlRest (by decide)).1
      · rfl
  unfold pkey
  rw [h]

theorem otherRoutes_switchingInstant (s : Dev) (t p d ecc : ℕ) : OtherRoutes (pkey s p d) s (switchingInstant s t p d ecc) := by
  have same {W : Foot} {u v : Dev} (h : Within W u v) (hW : .routes ∉ W.parts) : OtherRoutes (pkey s p d) u v := h.otherRoutes hW _
  have hecc : OtherRoutes (pkey s p d) s (routeEcc (s.at t) p ecc) :=
    .trans (fun _ _ => rfl) (same (W := switchFoot) (u := s.at t) (by simp (decide := true)) (by decide))
  unfold switchingInstant
  dsimp only
  rw [pkey_routeEcc, show pkey (s.at t) p d = pkey s p d from rfl]
  generalize hf : List.foldl _ (routeEcc (s.at t) p ecc) _ = f
  have hk : OtherRoutes (pkey s p d) (routeEcc (s.at t) p ecc) f := by
    rw [← hf]
    refine otherRoutes_foldl _ _ (fun u x => ?_) _ _
    split
    · exact .refl _ u
    · split
      · exact same (W := switchFoot) (by simp (decide := true)) (by decide)
      · exact otherRoutes_applyDue u _ _ _
  exact hecc.trans (hk.trans (same (W := switchFoot) (by simp (decide := true) [↓within_ite]) (by decide)))

/-! The links that a switching instant leaves alone. -/

theorem lnkSt_cfgItem_ne (s : Dev) (p l c q k : ℕ) (all : Bool) (h : ix q k ≠ ix p l) : lnkSt (cfgItem s p l c all) q k = lnkSt s q k := by
  unfold cfgItem
  dsimp only
  split
  · split <;> rfl
  · exact mget_mset_ne _ _ _ _ _ h

theorem lnkSt_cfgSlot_ne (b s : Dev) (p d q k : ℕ) (h : ix q k ≠ ix p (d / 64)) : lnkSt (cfgSlot b s p d) q k = lnkSt s q k := by
  unfold cfgSlot
  split
  · exact lnkSt_cfgItem_ne _ _ _ _ _ _ _ h
  · rfl

theorem lnkSt_switchInstant_ne (s : Dev) (t p d ecc q l : ℕ) (hq : q < 2) (hl : l ≠ d / 64) :
    lnkSt (switchInstant s t p d ecc) q l = lnkSt s q l := by
  have h := (within_switchingInstant_at s t p d ecc).part .cfg (by decide)
  unfold switchInstant
  rw [lnkSt_cfgSlot_ne _ _ _ _ _ _ (by unfold ix; omega), lnkSt_cfgSlot_ne _ _ _ _ _ _ (by unfold ix; omega)]
  exact congrArg (fun m : SMap LnkSt => mget ({} : LnkSt) m (ix q l)) h

/-- Port `q` in all but the destination it follows. -/
theorem Within.tdmSt {W : Foot} {d u : Dev} (h : Within W d u) (hW : .tdm ∉ W.parts) (q : ℕ) :
    tdmSt u q = { tdmSt d q with assoc := (tdmSt u q).assoc } :=
  congrArg (fun x : TdmSt => { x with assoc := (Machine.tdmSt u q).assoc }) (h.part .tdm hW q)

/-! TDM ports with no TDM_SET waiting. -/

theorem applyTdms_of_none (s : Dev) (only : Option ℕ) (h : ∀ x ∈ s.ctl.pend, x.op ≠ 0x32) : applyTdms s only = s := by
  have key (l : List Pend) (hl : ∀ x ∈ l, x.op ≠ 0x32) (g : Dev → Pend → Dev) (hg : ∀ s x, x.op ≠ 0x32 → g s x = s) : l.foldl g s = s := by
    induction l with
    | nil => rfl
    | cons x r ih =>
      rw [List.foldl_cons, hg _ _ (hl x List.mem_cons_self)]
      exact ih fun y hy => hl y (List.mem_cons_of_mem _ hy)
  exact key _ h _ fun s x hx => if_neg fun hc => hx hc.1

theorem within_tdmCmd {c : Instr} (hc : isTdmCmd c) {s u : State} (hu : exec c s = .next u) : Within tdmFoot s.dev u.dev := by
  cases c <;> simp only [isTdmCmd] at hc <;> (cases hu; simp (decide := true))

theorem within_tdmCmd_of_none {c : Instr} (hc : isTdmCmd c) {s u : State} (hu : exec c s = .next u) (h : ∀ x ∈ s.dev.ctl.pend, x.op ≠ 0x32) :
    Within tdmPortFoot s.dev u.dev := by
  cases c <;> simp only [isTdmCmd] at hc
  case tdmFrame t p words arrived absent =>
    cases hu
    have hn : applyTdms (s.dev.at t) (some p) = s.dev.at t := applyTdms_of_none (s.dev.at t) (some p) h
    have hf := within_tdmFrame_applied s.dev t p words arrived absent
    rw [hn] at hf
    exact .trans (by simp (decide := true)) hf
  all_goals cases hu; simp (decide := true)

/-! The other families. -/

theorem within_mergeCmd {c : Instr} (hc : isMergeCmd c) {s u : State} (hu : exec c s = .next u) : Within egressFoot s.dev u.dev := by
  cases c <;> simp only [isMergeCmd] at hc <;> (cases hu; simp (decide := true))

theorem within_linkCmd {c : Instr} (hc : isLinkCmd c) {s u : State} (hu : exec c s = .next u) : Within linkFoot s.dev u.dev := by
  cases c <;> simp only [isLinkCmd] at hc <;> (cases hu; simp (decide := true))

theorem within_ethCmd {c : Instr} (hc : isEthCmd c) {s u : State} (hu : exec c s = .next u) : Within ethFoot s.dev u.dev := by
  cases c <;> simp only [isEthCmd] at hc <;> (cases hu; simp (decide := true))

theorem now_switchInstant (s : Dev) (t p d ecc : ℕ) : (switchInstant s t p d ecc).now = t := by
  have h : Within cfgFoot (switchingInstant s t p d ecc) (switchInstant s t p d ecc) := by
    unfold switchInstant
    simp (decide := true)
  exact (h.now (by decide)).trans ((within_switchingInstant_at s t p d ecc).now (by decide))

theorem otherRoutes_switchInstant (s : Dev) (t p d ecc : ℕ) : OtherRoutes (pkey s p d) s (switchInstant s t p d ecc) := by
  have h : Within cfgFoot (switchingInstant s t p d ecc) (switchInstant s t p d ecc) := by
    unfold switchInstant
    simp (decide := true)
  exact (otherRoutes_switchingInstant s t p d ecc).trans (h.otherRoutes (by decide) _)

/-- `W` with the whole control state. -/
def Foot.andCtl (W : Foot) : Foot := { W with parts := [.routes, .fsync, .ref] ++ W.parts }

/-- What a switching instant keeps: the other routes, the other parts, and the other links. -/
theorem switchInstant_keeps {s u : Dev} {t p d ecc : ℕ} (hd : u = switchInstant s t p d ecc) :
    (∀ k, k ≠ pkey s p d → routeOf u k = routeOf s k) ∧
    u = { s with now := t, regs := u.regs, out := u.out, host := u.host, ctl := u.ctl, jrn := u.jrn, pln := u.pln, rst := u.rst,
                 flt := u.flt, sec := u.sec, tdm := u.tdm, otl := { s.otl with links := u.otl.links } } ∧
    (∀ q, tdmSt u q = { tdmSt s q with assoc := (tdmSt u q).assoc }) ∧
    ∀ q < 2, ∀ l, lnkSt u q l = { lnkSt s q l with cfgSeq := (lnkSt u q l).cfgSeq, cfg := (lnkSt u q l).cfg } ∧
      (l ≠ d / 64 → lnkSt u q l = lnkSt s q l) := by
  have h : Within slotFoot s u := by rw [hd]; simp (decide := true)
  have hr : OtherRoutes (pkey s p d) s u := by rw [hd]; exact otherRoutes_switchInstant _ _ _ _ _
  have hl (q l : ℕ) (hq : q < 2) (hl : l ≠ d / 64) : lnkSt u q l = lnkSt s q l := by
    rw [hd]
    exact lnkSt_switchInstant_ne _ _ _ _ _ q l hq hl
  have hnow : u.now = t := by rw [hd]; exact now_switchInstant _ _ _ _ _
  clear hd
  have he := h.eq_keep
  rw [hnow] at he
  exact ⟨hr, he, h.tdmSt (by decide), fun q hq l => ⟨h.lnkSt (by decide) q l, hl q l hq⟩⟩

theorem exec_switchingInstant (s : State) (t : ℕ) (p : Fin 2) (d : Fin 1792) (ecc : Fin 3) :
    exec (.switchingInstant t p d ecc) s = .next { s with dev := switchInstant s.dev t p d ecc } := rfl

theorem dev_switchingInstant {s u : State} {t : ℕ} {p : Fin 2} {d : Fin 1792} {ecc : Fin 3} (hu : exec (.switchingInstant t p d ecc) s = .next u) :
    u.dev = switchInstant s.dev t p d ecc := by
  rw [exec_switchingInstant] at hu
  injection hu with h
  rw [← h]

/-- What a compositor's prefetch instant keeps. -/
theorem compPrefetch_keeps {s u : State} {t : ℕ} {p : Fin 2} {k : Fin 32} {px : List LayPix} (hu : exec (.compPrefetch t p k px) s = .next u) :
    u.dev.ctl.routes = s.dev.ctl.routes ∧
    u.dev = { s.dev with now := u.dev.now, regs := u.dev.regs, out := u.dev.out, host := u.dev.host, ctl := u.dev.ctl, jrn := u.dev.jrn,
                         pln := u.dev.pln, rst := u.dev.rst, flt := u.dev.flt, cmp := u.dev.cmp, sec := u.dev.sec } := by
  have h : Within prefetchFoot s.dev u.dev := by cases hu; simp (decide := true)
  exact ⟨h.part .routes (by decide), (h.mono (W := prefetchFoot.andCtl) (by decide)).eq_keep⟩

/-- What a plane's training and its timeouts keep. -/
theorem planeCmd_keeps {c : Instr} {s u : State} (hc : ∃ t p, c = .planeTrainingDone t p ∨ c = .planeStateTimeout t p) (hu : exec c s = .next u) :
    u.dev = { s.dev with now := u.dev.now, regs := u.dev.regs, out := u.dev.out, host := u.dev.host,
                         ctl := { s.dev.ctl with epoch := u.dev.ctl.epoch }, jrn := u.dev.jrn, pln := u.dev.pln, rst := u.dev.rst,
                         flt := u.dev.flt, cmp := u.dev.cmp, sec := { s.dev.sec with reverting := u.dev.sec.reverting } } := by
  have h : Within planeFoot s.dev u.dev := by
    obtain ⟨t, p, rfl | rfl⟩ := hc <;> (cases hu; simp (decide := true))
  exact h.eq_keep

/-- What the TDM ports' commands keep, and what they keep while no TDM_SET waits. -/
theorem tdmCmd_keeps {c : Instr} (hc : isTdmCmd c) {s u : State} (hu : exec c s = .next u) :
    u.dev.ctl.routes = s.dev.ctl.routes ∧ u.dev.ctl.fsync = s.dev.ctl.fsync ∧ u.dev.ctl.ref = s.dev.ctl.ref ∧
    u.dev = { s.dev with now := u.dev.now, regs := u.dev.regs, out := u.dev.out, freeCtr := u.dev.freeCtr, host := u.dev.host,
                         ctl := u.dev.ctl, jrn := u.dev.jrn, pln := u.dev.pln, rst := u.dev.rst, flt := u.dev.flt, sec := u.dev.sec,
                         tdm := u.dev.tdm, mclkOff := u.dev.mclkOff } ∧
    ((∀ x ∈ s.dev.ctl.pend, x.op ≠ 0x32) → Only [blkTdm] evtFields s.dev u.dev ∧
      u.dev = { s.dev with now := u.dev.now, regs := u.dev.regs, out := u.dev.out, freeCtr := u.dev.freeCtr, host := u.dev.host,
                           tdm := u.dev.tdm, mclkOff := u.dev.mclkOff }) := by
  have h := within_tdmCmd hc hu
  refine ⟨h.part .routes (by decide), h.part .fsync (by decide), h.part .ref (by decide), (h.mono (W := tdmFoot.andCtl) (by decide)).eq_keep, fun hn => ?_⟩
  have h' := within_tdmCmd_of_none hc hu hn
  exact ⟨h'.only (by decide), h'.eq_keep⟩

/-- What an instant of the audio grid keeps. -/
theorem audioGridSample_keeps {s u : State} {t : ℕ} {p : Fin 2} {o : List SampObs} (hu : exec (.audioGridSample t p o) s = .next u) :
    u.dev.ctl.routes = s.dev.ctl.routes ∧ u.dev.ctl.fsync = s.dev.ctl.fsync ∧ u.dev.ctl.ref = s.dev.ctl.ref ∧
    u.dev = { s.dev with now := u.dev.now, regs := u.dev.regs, out := u.dev.out, freeCtr := u.dev.freeCtr, host := u.dev.host,
                         ctl := u.dev.ctl, jrn := u.dev.jrn, pln := u.dev.pln, rst := u.dev.rst, flt := u.dev.flt, sec := u.dev.sec,
                         tdm := u.dev.tdm, aud := u.dev.aud } := by
  have h : Within gridFoot s.dev u.dev := by cases hu; simp (decide := true)
  exact ⟨h.part .routes (by decide), h.part .fsync (by decide), h.part .ref (by decide), (h.mono (W := gridFoot.andCtl) (by decide)).eq_keep⟩

/-- Settles O40: the footprints of those commands, read as equations, and the route and the links of a switching instant. -/
theorem dataPathCommandsKeepTheRest : Obligations.DataPathCommandsKeepTheRest := by
  refine ⟨⟨fun c hc s u hu => ?merge, fun s u t p d ecc hu => ?instant, fun c hc s u hu => ?prefetch, fun c hc s u hu => planeCmd_keeps hc hu⟩,
    ⟨fun c hc s u hu => tdmCmd_keeps hc hu, fun c hc s u hu => ?untimed, fun c hc s u hu => ?asrc, fun c hc s u hu => ?grid⟩,
    fun c hc s u hu => ?link, fun c hc s u hu => ?eth⟩
  case merge =>
    have h := within_mergeCmd hc hu
    exact ⟨h.only (by decide), h.eq_keep⟩
  case instant =>
    exact switchInstant_keeps (dev_switchingInstant hu)
  case prefetch =>
    obtain ⟨t, p, k, px, rfl⟩ := hc
    exact compPrefetch_keeps hu
  case untimed =>
    obtain ⟨t, p, n, rfl⟩ := hc
    have h : Within untimedFoot s.dev u.dev := by cases hu; simp (decide := true)
    exact ⟨h.only (by decide), h.eq_keep⟩
  case asrc =>
    obtain ⟨t, p, n, rfl⟩ := hc
    have h : Within asrcLockFoot s.dev u.dev := by cases hu; simp (decide := true)
    exact ⟨h.only (by decide), h.eq_keep⟩
  case grid =>
    obtain ⟨t, p, o, rfl⟩ := hc
    exact audioGridSample_keeps hu
  case link =>
    have h := within_linkCmd hc hu
    exact ⟨h.only (by decide), h.eq_keep⟩
  case eth =>
    have h := within_ethCmd hc hu
    exact ⟨h.only (by decide), h.eq_keep⟩

end Sys2Proof.Machine
end

section
/-! What validation does with a host command: the records and the pending list after a decision, and after scheduling. -/

namespace Sys2Proof.Machine

open Sys2Proof.Claims

/-- A command that gives the device `d` and changes nothing else. -/
theorem gives_of {c : Instr} {s : State} {d : Dev} {P : Dev → Prop} (h : exec c s = .next { s with dev := d }) (hP : P d) : Gives c s P :=
  ⟨_, h, hP⟩

/-- A part outside the footprint that `g` reads alone. -/
theorem Within.recOf {W : Foot} {s u : Dev} (h : Within W s u) (hW : .recs ∉ W.parts) (n : ℕ) : recOf u n = recOf s n := by
  have hr : u.ctl.recs = s.ctl.recs := h.part .recs hW
  unfold Machine.recOf
  rw [hr]

/-- An accepted command that validates runs its validation `k`. -/
theorem withCmd_of_validates {s : Dev} {op : ℕ} {j : JRec} (h : Validates s op j) (t : ℕ) (k : Dev → JRec → Dev) :
    withCmd s t j.jsn op k = k (s.at t) j := by
  have hj : recOf (s.at t) j.jsn = some j := h.journalled
  have hl : [2, 4, 5].contains (role (s.at t)) = false := h.leads
  have hf : blocked (s.at t) j = false := h.free
  unfold withCmd
  simp only [hj, h.opcode, h.undecided, h.fresh, at_jrn, h.runs, hl, hf]
  simp

theorem recOf_modRec (s : Dev) (n : ℕ) (g : JRec → JRec) (hg : ∀ r, (g r).jsn = r.jsn) : recOf (modRec s n g) n = (recOf s n).map g := by
  have h := find_map_rec s.ctl.recs n n g hg
  simp only [if_true] at h
  exact h

theorem decided_decideCmd {s : Dev} {j : JRec} (hj : recOf s j.jsn = some j) (hd : j.dec = none) (hf : isFollower s = false) (st ap dt : ℕ) :
    Decided (decideCmd s j.jsn st ap dt) j.jsn st ap dt := ⟨_, recOf_decideCmd hj hd hf, rfl⟩

theorem decided_of_within {W : Foot} {s u : Dev} {n st ap dt : ℕ} (h : Decided s n st ap dt) (hw : Within W s u) (hW : .recs ∉ W.parts) :
    Decided u n st ap dt := by
  obtain ⟨j, hj, hd⟩ := h
  exact ⟨j, (hw.recOf hW n).trans hj, hd⟩

theorem within_decFoot_decideCmd (s : Dev) (jsn st ap dt : ℕ) : Within decFoot s (decideCmd s jsn st ap dt) :=
  (within_decideCmd _ _ _ _ _ _ (by decide)).mpr (.refl _ _)

theorem decided_endUntimed {s : Dev} {j : JRec} (hj : recOf s j.jsn = some j) (hd : j.dec = none) (hf : isFollower s = false) (dt : ℕ) :
    Decided (endUntimed s j.jsn dt) j.jsn stDone (hfn s) dt :=
  decided_decideCmd (s := unpend s j.jsn) hj hd hf _ _ _

theorem decided_failUntimed {s : Dev} {j : JRec} (hj : recOf s j.jsn = some j) (hd : j.dec = none) (hf : isFollower s = false) (r : Refuse) :
    Decided (failUntimed s j.jsn r) j.jsn r.1 0 r.2 :=
  decided_decideCmd (s := unpend s j.jsn) hj hd hf _ _ _

/-! Scheduling. -/

theorem ctl_syncPending (s : Dev) (k : ℕ) : (syncPending s k).ctl = s.ctl := by
  unfold syncPending
  dsimp only
  split <;> rfl

theorem ctl_foldl_syncPending (l : List PItem) (s : Dev) : (l.foldl (fun s i => syncPending s i.key) s).ctl = s.ctl := by
  induction l generalizing s with
  | nil => rfl
  | cons i r ih => exact (ih _).trans (ctl_syncPending s i.key)

/-- The control state once `x` waits. -/
def scheduled (c : Ctl) (x : Pend) : Ctl :=
  { c with pend := insPend x c.pend, recs := c.recs.map fun r => if r.jsn = x.jsn then { r with validated := true } else r }

theorem ctl_schedule (s : Dev) (x : Pend) : (schedule s x).ctl = scheduled s.ctl x := by
  unfold schedule
  dsimp only
  split
  · rw [ctl_foldl_syncPending]
    rfl
  · rfl

theorem pend_schedule (s : Dev) (x : Pend) : (schedule s x).ctl.pend = insPend x s.ctl.pend := by rw [ctl_schedule]; rfl

theorem recOf_schedule {s : Dev} {j : JRec} (hj : recOf s j.jsn = some j) (x : Pend) (hx : x.jsn = j.jsn) :
    recOf (schedule s x) j.jsn = some { j with validated := true } := by
  have h := recOf_modRec s x.jsn (fun r => { r with validated := true }) fun _ => rfl
  rw [hx, hj] at h
  unfold recOf
  rw [ctl_schedule]
  unfold scheduled
  rw [hx]
  exact h

/-! Refusals. -/

/-- Validation `k` refuses what the checks `c` refuse. -/
def Refuses (c : Dev → JRec → Option Refuse) (k : Dev → JRec → Dev) : Prop := ∀ s j r, c s j = some r → k s j = refuse s j r

theorem refuses_of_match (c : Dev → JRec → Option Refuse) (k : Dev → JRec → Dev) :
    Refuses c fun s j => match c s j with | some r => refuse s j r | none => k s j := by
  intro s j r h
  simp only [h]

theorem refuses_validateItems (owner : JRec → ℕ) (items : JRec → List RawItem) (inv rng : JRec → List (Bool × ℕ × ℕ)) :
    Refuses (fun s j => salvoChecks s j (owner j) (items j) (inv j) (rng j)) fun s j => validateItems s j (owner j) (items j) (inv j) (rng j) := by
  intro s j r h
  unfold validateItems
  simp only [h]

/-- Command `e` runs a validation that refuses what its checks refuse. -/
def RunsChecks (e : HostCmd) : Prop :=
  ∃ k, (∀ (s : State) t n, exec (e.cmd t n) s = .next { s with dev := withCmd s.dev t n e.op k }) ∧ Refuses e.checks k

theorem runsChecks_hostCmds : ∀ e ∈ hostCmds, RunsChecks e := by
  have run {e : HostCmd} (k : Dev → JRec → Dev) (h : ∀ (s : State) t n, exec (e.cmd t n) s = .next { s with dev := withCmd s.dev t n e.op k })
      (hk : Refuses e.checks k) : RunsChecks e := ⟨k, h, hk⟩
  simp only [hostCmds, List.forall_mem_append, List.forall_mem_cons, List.not_mem_nil, IsEmpty.forall_iff, implies_true, and_true]
  refine ⟨⟨run nopCmd (fun _ _ _ => rfl) (refuses_of_match _ _), run nopCmd (fun _ _ _ => rfl) (refuses_of_match _ _),
    run takeCmd (fun _ _ _ => rfl) (refuses_validateItems _ _ _ _), run salvoCmd (fun _ _ _ => rfl) (refuses_validateItems _ _ _ _),
    run protectCmd (fun _ _ _ => rfl) (refuses_of_match _ _), run groupSetCmd (fun _ _ _ => rfl) (refuses_of_match _ _),
    run fsyncSetCmd (fun _ _ _ => rfl) (refuses_of_match _ _), run destPolicyCmd (fun _ _ _ => rfl) (refuses_of_match _ _),
    run compSetCmd (fun _ _ _ => rfl) (refuses_of_match _ _), run compStateCmd (fun _ _ _ => rfl) (refuses_of_match _ _),
    run lutLoadCmd (fun _ _ _ => rfl) (refuses_of_match _ _), run genSetCmd (fun _ _ _ => rfl) (refuses_of_match _ _),
    run stillLoadCmd (fun _ _ _ => rfl) (refuses_of_match _ _), run audioMapCmd (fun _ _ _ => rfl) (refuses_of_match _ _),
    run audioFollowCmd (fun _ _ _ => rfl) (refuses_of_match _ _), run tdmSetCmd (fun _ _ _ => rfl) (refuses_of_match _ _),
    run refPolicyCmd (fun _ _ _ => rfl) (refuses_of_match _ _)⟩,
    run refAlignCmd (fun _ _ _ => rfl) (refuses_of_match _ _), run ptpSetCmd (fun _ _ _ => rfl) (refuses_of_match _ _),
    run linkSetCmd (fun _ _ _ => rfl) (refuses_of_match _ _), run flowSetCmd (fun _ _ _ => rfl) (refuses_of_match _ _),
    run macFilterCmd (fun _ _ _ => rfl) (refuses_of_match _ _), run budgetModeCmd (fun _ _ _ => rfl) (refuses_of_match _ _),
    run statsSnapshotCmd (fun _ _ _ => rfl) (refuses_of_match _ _), run fwStageCmd (fun _ _ _ => rfl) (refuses_of_match _ _),
    run fwScheduleCmd (fun _ _ _ => rfl) (refuses_of_match _ _), run fwConfirmCmd (fun _ _ _ => rfl) (refuses_of_match _ _),
    run fwAbortCmd (fun _ _ _ => rfl) (refuses_of_match _ _), run attestCmd (fun _ _ _ => rfl) (refuses_of_match _ _),
    run checkpointCmd (fun _ _ _ => rfl) (refuses_of_match _ _), run ppSwitchCmd (fun _ _ _ => rfl) (refuses_of_match _ _),
    run ringAdoptCmd (fun _ _ _ => rfl) (refuses_of_match _ _), run bivouacCmd (fun _ _ _ => rfl) (refuses_of_match _ _),
    run marginSurveyCmd (fun _ _ _ => rfl) (refuses_of_match _ _), run pairSetCmd (fun _ _ _ => rfl) (refuses_of_match _ _)⟩

/-- Settles O6: every validation tries its checks first, and a refusal decides the command and nothing else. -/
theorem refusedCommandCompletes : Obligations.RefusedCommandCompletes := by
  intro e he s t j r hv hr
  obtain ⟨k, hk, href⟩ := runsChecks_hostCmds e he
  refine ⟨_, hk s t j.jsn, ?_⟩
  dsimp only
  rw [withCmd_of_validates hv, href _ _ _ hr]
  exact ⟨decided_decideCmd (s := s.dev.at t) hv.journalled hv.undecided hv.leads _ _ _,
    (within_decFoot_decideCmd _ _ _ _ _).part .pend (by decide)⟩

/-! NOP and BARRIER. -/

theorem holds_nopCmd {s : Dev} {op t : ℕ} {j : JRec} (hv : Validates s op j) (hc : nopChecks (s.at t) j = none)
    (ha : targetAhead (s.at t) j = true) :
    (nopCmd (s.at t) j).ctl.pend = insPend { jsn := j.jsn, op := op, frame := j.target, atFrame := true } s.ctl.pend ∧
      recOf (nopCmd (s.at t) j) j.jsn = some { j with validated := true } := by
  simp only [nopCmd, hc, ha, if_true, holdToFrame]
  exact ⟨by rw [pend_schedule, hv.opcode]; rfl, recOf_schedule (s := s.at t) hv.journalled _ rfl⟩

theorem decides_nopCmd {s : Dev} {op t : ℕ} {j : JRec} (hv : Validates s op j) (hc : nopChecks (s.at t) j = none)
    (ha : targetAhead (s.at t) j = false) :
    Decided (nopCmd (s.at t) j) j.jsn stDone (if bit j.flags 1 && j.target != 0 then hfn (s.at t) else 0) 0 ∧
      (nopCmd (s.at t) j).ctl.pend = s.ctl.pend := by
  simp only [nopCmd, hc, ha, Bool.false_eq_true, if_false]
  exact ⟨decided_decideCmd (s := s.at t) hv.journalled hv.undecided hv.leads _ _ _,
    (within_decFoot_decideCmd _ _ _ _ _).part .pend (by decide)⟩

/-- Settles O8: with the target frame ahead the command is scheduled there, and otherwise it is decided. -/
theorem nopAndBarrierComplete : Obligations.NopAndBarrierComplete := by
  intro c hc s t j hv hn
  have run : exec (c.1 t j.jsn) s = .next { s with dev := nopCmd (s.dev.at t) j } := by
    rw [← withCmd_of_validates hv t nopCmd]
    simp only [List.mem_cons, List.not_mem_nil, or_false] at hc
    obtain rfl | rfl := hc <;> rfl
  refine ⟨fun ha => ⟨_, run, decides_nopCmd hv hn ha⟩, fun ha => ⟨_, run, holds_nopCmd hv hn ha⟩⟩

/-! A GROUP_SET that names one destination twice waits with one item for it. -/

/-- A GROUP_SET of team 0 with two members, both of them destination handle 0. -/
def twiceRec : JRec := { jsn := 1, hif := 0, ring := 0, cmdId := 1, op := 0x13, flags := 0, target := 0, buf := [],
                         desc := 0x13 :: (List.replicate 25 0 ++ 2 :: List.replicate 37 0) }

/-- A device in SERVICE with that command accepted. -/
def twiceState : State :=
  { State.reset with dev := setF { State.reset.dev with ctl := { recs := [twiceRec] }, jrn := { outage := false } } F.SYS_STATE_STATE 0 4 }

theorem validates_twiceRec : Validates twiceState.dev 0x13 twiceRec where
  journalled := by decide
  opcode := rfl
  undecided := rfl
  fresh := rfl
  runs := by decide
  leads := by decide
  free := by decide

theorem groupSetChecks_twiceRec : groupSetChecks (twiceState.dev.at 0) twiceRec = none := by decide

/-- A GROUP_SET that makes a frame waits there with one item for each destination, however often its members name it. -/
theorem pend_groupSetCmd {s : Dev} {j : JRec} {n why : ℕ} {dfr : Bool} (hc : groupSetChecks s j = none)
    (h : chooseFrame s j.flags j.target (itemsDeadline s (((groupKeys s j).eraseDups ++ (teamOf s (le j.desc 24 1)).members).map fun k => (k, false, 0)))
      (fun _ => true) = some (n, dfr, why)) :
    (groupSetCmd s j).ctl.pend =
      insPend { jsn := j.jsn, op := 0x13, frame := n, atFrame := bit j.flags 1 && j.target != 0, deferred := dfr, reason := why,
                items := (groupKeys s j).eraseDups.map fun k => { idx := le j.desc 24 1, key := k } } s.ctl.pend := by
  unfold groupKeys at h ⊢
  unfold groupSetCmd
  simp only [hc, h]
  exact pend_schedule s _

/-- Refutes O7: a GROUP_SET that names one destination twice waits with one item for it, and the statement asks for two. -/
theorem not_scheduledCommandsWait : ¬ Obligations.ScheduledCommandsWait := by
  rintro ⟨-, h⟩
  obtain ⟨u, hu, hp, -⟩ := h instantCmds[4] (List.getElem_mem _) twiceState 0 _ 0 false twiceRec validates_twiceRec groupSetChecks_twiceRec rfl
  have hd : u.dev = groupSetCmd (twiceState.dev.at 0) twiceRec := by
    rw [← withCmd_of_validates validates_twiceRec 0 groupSetCmd]
    cases hu
    rfl
  rw [hd, pend_groupSetCmd groupSetChecks_twiceRec rfl] at hp
  have hlen := congrArg (List.map fun x : Pend => x.items.length) hp
  exact absurd (show [1] = [2] from hlen) (by decide)

end Sys2Proof.Machine
end

section
/-! The untimed control commands at the moment they act (R349, R354). -/

namespace Sys2Proof.Machine

open Sys2Proof.Claims

/-- An untimed command whose checks pass and whose frame is not ahead acts now. -/
theorem withCmd_acts {s : Dev} {op t : ℕ} {j : JRec} (hv : Validates s op j) (c : Dev → JRec → Option Refuse) (act : Dev → JRec → Dev)
    (hc : c (s.at t) j = none) (ha : targetAhead (s.at t) j = false) :
    withCmd s t j.jsn op (fun s j => match c s j with | some r => refuse s j r | none => actOrHold s j act) = act (s.at t) j := by
  rw [withCmd_of_validates hv]
  simp only [hc, actOrHold, ha, Bool.false_eq_true, if_false]

theorem Within.hfn {W : Foot} {s u : Dev} (h : Within W s u) (hn : .now ∉ W.parts) (hr : .ref ∉ W.parts) : hfn u = hfn s := by
  have hnow : u.now = s.now := h.part .now hn
  have href : u.ctl.ref = s.ctl.ref := h.part .ref hr
  unfold Machine.hfn hfnAt
  rw [hnow, href]

theorem Within.isFollower {W : Foot} {s u : Dev} (h : Within W s u) (hW : W.hits (F.PAIR_STAT_ROLE.code % 262144) = false) :
    isFollower u = isFollower s := by
  unfold Machine.isFollower
  rw [h.fld _ _ hW]

/-- What a command's end keeps, for the parts read after it. -/
theorem within_of_endUntimed (s : Dev) (jsn detail : ℕ) : Within pendFoot s (endUntimed s jsn detail) := by
  unfold endUntimed
  simp (decide := true)

theorem within_of_failUntimed (s : Dev) (jsn : ℕ) (r : Refuse) : Within pendFoot s (failUntimed s jsn r) := by
  unfold failUntimed
  simp (decide := true)

/-- The end of a validated command, after work within `W` that leaves its record and its device's role alone. -/
theorem decided_endUntimed_of_within {W : Foot} {s u : Dev} {op : ℕ} {j : JRec} (hv : Validates s op j) (h : Within W s u)
    (hr : .recs ∉ W.parts) (hW : W.hits (F.PAIR_STAT_ROLE.code % 262144) = false) (dt : ℕ) :
    Decided (endUntimed u j.jsn dt) j.jsn stDone (hfn u) dt :=
  decided_endUntimed ((h.recOf hr _).trans hv.journalled) hv.undecided ((h.isFollower hW).trans hv.leads) dt

/-! CHECKPOINT. -/

/-- A checkpoint of the next sequence number at the last JSN, before the copies hear of it. -/
def ckptHead (s : Dev) : Dev :=
  { setFs s 0 [(F.JRN_CKPT_SEQ, getF s F.JRN_CKPT_SEQ 0 + 1), (F.JRN_CKPT_JSN_JSN, getF s F.JRN_HEAD_HEAD_JSN 0)] with
    jrn := { s.jrn with sinceOlder := s.jrn.sinceLast, sinceLast := 0, lastCkpt := s.now } }

def ckptTailFoot : Foot := { flds := [F.JRN_STAT_FULL, F.JRN_STAT_HBM0, F.JRN_STAT_HBM1], parts := [.out] }

theorem within_writeCheckpoint_head (s : Dev) : Within ckptTailFoot (ckptHead s) (writeCheckpoint s) := by
  unfold writeCheckpoint
  exact (by simp (decide := true) [↓within_ite, ckptHead])

theorem seq_writeCheckpoint (s : Dev) :
    getF (writeCheckpoint s) F.JRN_CKPT_SEQ 0 = (getF s F.JRN_CKPT_SEQ 0 + 1) % 2 ^ F.JRN_CKPT_SEQ.width := by
  rw [(within_writeCheckpoint_head s).fld _ _ (by decide)]
  unfold ckptHead setFs setFs setFs
  rw [← getF_setF_same s F.JRN_CKPT_SEQ 0]
  exact getF_setF_code _ _ _ _ _ _ (by decide)

theorem jsn_writeCheckpoint (s : Dev) :
    getF (writeCheckpoint s) F.JRN_CKPT_JSN_JSN 0 = getF s F.JRN_HEAD_HEAD_JSN 0 % 2 ^ F.JRN_CKPT_JSN_JSN.width := by
  rw [(within_writeCheckpoint_head s).fld _ _ (by decide)]
  exact getF_setF_same _ _ _ _

theorem jrn_writeCheckpoint (s : Dev) :
    (writeCheckpoint s).jrn = { s.jrn with sinceOlder := s.jrn.sinceLast, sinceLast := 0, lastCkpt := s.now } :=
  (within_writeCheckpoint_head s).part .jrn (by decide)

/-- A checkpoint keeps all but its own registers, what the journal counts, and the outputs. -/
def ckptFoot : Foot :=
  { flds := [F.JRN_CKPT_SEQ, F.JRN_CKPT_JSN_JSN, F.JRN_STAT_FULL, F.JRN_STAT_HBM0, F.JRN_STAT_HBM1], parts := [.out, .jrn] }

theorem within_ckptFoot_writeCheckpoint (s : Dev) : Within ckptFoot s (writeCheckpoint s) := by
  unfold writeCheckpoint
  simp (decide := true) [↓within_ite]

theorem validates_at {s : Dev} {op : ℕ} {j : JRec} (h : Validates s op j) (t : ℕ) : Validates (s.at t) op j :=
  ⟨h.1, h.2, h.3, h.4, h.5, h.6, h.7⟩

theorem checkpoint_acts {s d : Dev} {op : ℕ} {j : JRec} (hv : Validates s op j) (hd : checkpointAct s j = d) :
    getF d F.JRN_CKPT_SEQ 0 = (getF s F.JRN_CKPT_SEQ 0 + 1) % 2 ^ F.JRN_CKPT_SEQ.width ∧ d.jrn.lastCkpt = s.now ∧ d.jrn.sinceLast = 0 ∧
      getF d F.JRN_CKPT_JSN_JSN 0 = getF s F.JRN_HEAD_HEAD_JSN 0 % 2 ^ F.JRN_CKPT_JSN_JSN.width ∧
      Decided d j.jsn stDone (hfn s) (getF d F.JRN_CKPT_SEQ 0) := by
  have hdec := decided_endUntimed_of_within hv (within_ckptFoot_writeCheckpoint s) (by decide) (by decide) (getF (writeCheckpoint s) F.JRN_CKPT_SEQ 0)
  rw [(within_ckptFoot_writeCheckpoint s).hfn (by decide) (by decide)] at hdec
  have h : Within pendFoot (writeCheckpoint s) d := by
    rw [← hd]
    exact within_of_endUntimed _ _ _
  have hj : d.jrn = (writeCheckpoint s).jrn := h.jrn (by decide)
  have hseq := h.fld F.JRN_CKPT_SEQ 0 (by decide)
  have hjsn := h.fld F.JRN_CKPT_JSN_JSN 0 (by decide)
  rw [hseq, hjsn, hj, jrn_writeCheckpoint, ← hd]
  exact ⟨seq_writeCheckpoint s, rfl, rfl, jsn_writeCheckpoint s, hdec⟩

/-! ATTEST. -/

theorem mem_out_endUntimed {s : Dev} {j : JRec} (hj : recOf s j.jsn = some j) (hd : j.dec = none) (hf : isFollower s = false) (dt : ℕ) {o : Out}
    (ho : o ∈ s.out) : o ∈ (endUntimed s j.jsn dt).out :=
  (decideCmd_undecided (s := unpend s j.jsn) hj hd hf).grows o ho

theorem attest_acts {s d : Dev} {op : ℕ} {j : JRec} (hv : Validates s op j) (hd : attestAct s j = d) :
    (∃ v, Out.dma (j.hif % 2) (dBufAddr j.desc) 50368 v ∈ d.out) ∧ Decided d j.jsn stDone (hfn s) 0 := by
  have hq : ∃ v, attestAct s j = endUntimed (emit (takeFree s 64).2 (.dma (j.hif % 2) (dBufAddr j.desc) 50368 v)) j.jsn 0 := ⟨_, rfl⟩
  obtain ⟨v, hq⟩ := hq
  rw [← hd, hq]
  have hj : recOf (emit (takeFree s 64).2 (.dma (j.hif % 2) (dBufAddr j.desc) 50368 v)) j.jsn = some j := hv.journalled
  exact ⟨⟨v, mem_out_endUntimed hj hv.undecided hv.leads 0 List.mem_cons_self⟩, decided_endUntimed hj hv.undecided hv.leads 0⟩

/-! MARGIN_SURVEY. -/

theorem surveyRuns_of_checks {s : Dev} {j : JRec} (h : marginSurveyChecks s j = none) : surveyRuns s = false := by
  obtain ⟨-, -, -, h, -⟩ := checksOf_none h
  exact (firstFail_eq_none _).mp h _ List.mem_cons_self

theorem recOf_markRunning {s : Dev} {j : JRec} (hj : recOf s j.jsn = some j) : recOf (markRunning s j.jsn) j.jsn = some { j with validated := true } := by
  have hr := recOf_modRec (unpend s j.jsn) j.jsn (fun r => { r with validated := true }) fun _ => rfl
  have hu : recOf (unpend s j.jsn) j.jsn = some j := hj
  rw [hu] at hr
  exact hr

theorem marginSurvey_acts {s d : Dev} {op : ℕ} {j : JRec} (hv : Validates s op j) (hc : marginSurveyChecks s j = none)
    (hd : marginSurveyAct s j = d) :
    getF d F.AGE_STAT_RUNNING 0 = 1 ∧ getF d F.AGE_STAT_SEQ 0 = (getF s F.AGE_STAT_SEQ 0 + 1) % 2 ^ F.AGE_STAT_SEQ.width ∧
      d.age.startedAt = some s.now ∧ d.age.jsn = some j.jsn ∧ recOf d j.jsn = some { j with validated := true } := by
  unfold marginSurveyAct at hd
  rw [surveyRuns_of_checks hc] at hd
  subst hd
  refine ⟨?_, ?_, rfl, rfl, recOf_markRunning hv.journalled⟩
  · show getF (setF (setF (setF _ F.AGE_STAT_RUNNING 0 1) F.AGE_STAT_SEQ 0 _) F.AGE_STAT_LAST 0 _) F.AGE_STAT_RUNNING 0 = 1
    rw [getF_setF_code _ _ _ _ _ _ (by decide), getF_setF_code _ _ _ _ _ _ (by decide), getF_setF_same]
    rfl
  · show getF (setF (setF _ F.AGE_STAT_SEQ 0 _) F.AGE_STAT_LAST 0 _) F.AGE_STAT_SEQ 0 = _
    rw [getF_setF_code _ _ _ _ _ _ (by decide), getF_setF_same]
    rfl

/-! RING_ADOPT. -/

theorem isAdopted_adoptRing (s : Dev) (o r q : ℕ) : isAdopted (adoptRing s o r) o q = (decide (q = r) || isAdopted s o q) := by
  have h : (adoptRing s o r).ctl.adopted = mset 0 s.ctl.adopted (16 * o + r) 1 := by
    unfold adoptRing
    dsimp only
    rw [(hostOnly_deliver _ _ _).ctl]
    rfl
  unfold isAdopted
  rw [h]
  by_cases hq : q = r
  · simp [hq]
  · rw [mget_mset_ne _ _ _ _ _ (by omega)]
    simp [hq]

theorem isAdopted_foldl_adoptRing (o q : ℕ) (l : List ℕ) (s : Dev) (h : q ∈ l ∨ isAdopted s o q = true) :
    isAdopted (l.foldl (fun s r => adoptRing s o r) s) o q = true := by
  induction l generalizing s with
  | nil => simpa using h
  | cons r l ih =>
    refine ih _ ?_
    rw [isAdopted_adoptRing, List.mem_cons] at *
    simp only [Bool.or_eq_true, decide_eq_true_eq]
    tauto

/-- Adopting rings changes the rings' waiting completions, the marks of adoption, and what delivery touches. -/
def adoptFoot : Foot := { cplFoot with parts := .adopted :: cplFoot.parts }

theorem within_foldl_adoptRing (o : ℕ) (l : List ℕ) (s : Dev) : Within adoptFoot s (l.foldl (fun s r => adoptRing s o r) s) :=
  within_foldl _ (fun s r => by unfold adoptRing; simp (decide := true)) l s

theorem ringAdopt_acts {s d : Dev} {op : ℕ} {j : JRec} (hv : Validates s op j) (hc : ringAdoptChecks s j = none) (hd : ringAdoptAct s j = d) :
    (∀ r, r < 16 → bit (le j.desc 26 2) r = true → isAdopted d (bits (le j.desc 24 1) 0 1) r = true) ∧ Decided d j.jsn stDone (hfn s) 0 := by
  obtain ⟨-, -, hconds, -, -⟩ := checksOf_none hc
  have hw := within_foldl_adoptRing (bits (le j.desc 24 1) 0 1) (maskRings (le j.desc 26 2)) s
  have ha := fun r => isAdopted_foldl_adoptRing (bits (le j.desc 24 1) 0 1) r (maskRings (le j.desc 26 2)) s
  simp only [ringAdoptAct, hconds] at hd
  generalize hu : List.foldl _ s (maskRings (le j.desc 26 2)) = u at *
  have hdec := decided_endUntimed_of_within hv hw (by decide) (by decide) 0
  rw [hw.hfn (by decide) (by decide)] at hdec
  have he := (within_of_endUntimed u j.jsn 0).adopted (by decide)
  subst hd
  refine ⟨fun r hr hb => ?_, hdec⟩
  unfold isAdopted
  rw [he]
  exact ha r (.inl (List.mem_filter.mpr ⟨List.mem_range.mpr hr, hb⟩))

/-! PAIR_SET. -/

theorem bits_lt (n lo w : ℕ) : bits n lo w < 2 ^ w := Nat.mod_lt _ (Nat.two_pow_pos w)

/-- What PAIR_SET to configuration `cfg` puts in force. -/
def pairPut (s : Dev) (jsn cfg : ℕ) : Dev :=
  let s := setMech s mkPair 0 { jsn := jsn, aux := cfg + 1 }
  let s := modCtl s fun c => { c with pair := cfg == 1, ref := { c.ref with prio := defaultPrio (pairId s), jsn := jsn } }
  setFs s 0 [(F.PAIR_STAT_CONFIG, cfg), (F.PAIR_STAT_PAIR_ID, pairId s)]

def roleFoot : Foot := { evtFoot with flds := F.PAIR_STAT_ROLE :: F.JRN_STAT_PEER :: evtFoot.flds }

theorem within_setRole_role (s : Dev) (v cause jsn : ℕ) : Within roleFoot s (setRole s v cause jsn) := by
  unfold setRole syncPeerCopy
  simp (decide := true)

/-- PAIR_SET's completion with frame `n`: the record is decided and the ring gets its entry. -/
def pairEnd (s : Dev) (j : JRec) (n : ℕ) : Dev :=
  let d : Dec := { status := stDone, applied := n, detail := 0 }
  let s := modRec (unpend s j.jsn) j.jsn fun r => { r with dec := some d }
  queueCpls s j.hif j.ring [cplOf s j d]

theorem pairSetAct_eq {s : Dev} {j : JRec} (hc : firstFail (pairConds s j) = none) (hp : pairCfg s ≠ bits (le j.desc 24 1) 0 1 + 1)
    (hm : (mechOf s mkPair 0).jsn < j.jsn) :
    ∃ v n, pairSetAct s j = pairEnd (setRole (pairPut s j.jsn (bits (le j.desc 24 1) 0 1)) v 6 j.jsn) j n := by
  simp only [pairSetAct, hc, hp, if_false, fenced, Nat.not_le.mpr hm, if_true]
  exact ⟨_, _, rfl⟩

def pairEndFoot : Foot := { decFoot with parts := .pend :: decFoot.parts }

theorem within_pairEnd (s : Dev) (j : JRec) (n : ℕ) : Within pairEndFoot s (pairEnd s j n) := by
  unfold pairEnd
  simp (decide := true)

theorem decided_pairEnd {s : Dev} {j : JRec} (hj : recOf s j.jsn = some j) (n : ℕ) : Decided (pairEnd s j n) j.jsn stDone n 0 := by
  have h := recOf_modRec (unpend s j.jsn) j.jsn (fun r => { r with dec := some { status := stDone, applied := n, detail := 0 } }) fun _ => rfl
  have hu : recOf (unpend s j.jsn) j.jsn = some j := hj
  rw [hu] at h
  refine ⟨{ j with dec := some { status := stDone, applied := n, detail := 0 } }, ?_, rfl⟩
  unfold pairEnd
  unfold recOf at h ⊢
  rw [(hostOnly_queueCpls _ _ _ _).ctl]
  exact h

theorem pairSet_acts {s d : Dev} {op : ℕ} {j : JRec} (hv : Validates s op j) (hc : pairSetChecks s j = none)
    (hp : pairCfg s ≠ bits (le j.desc 24 1) 0 1 + 1) (hm : (mechOf s mkPair 0).jsn < j.jsn) (hd : pairSetAct s j = d) :
    d.ctl.pair = (bits (le j.desc 24 1) 0 1 == 1) ∧ pairCfg d = bits (le j.desc 24 1) 0 1 + 1 ∧
      getF d F.PAIR_STAT_CONFIG 0 = bits (le j.desc 24 1) 0 1 ∧ ∃ n, Decided d j.jsn stDone n 0 := by
  obtain ⟨-, -, hconds, -, -⟩ := checksOf_none hc
  obtain ⟨v, n, he⟩ := pairSetAct_eq hconds hp hm
  have hu := within_setRole_role (pairPut s j.jsn (bits (le j.desc 24 1) 0 1)) v 6 j.jsn
  have hr := (hu.recOf (by decide) j.jsn).trans hv.journalled
  rw [hd] at he
  generalize setRole (pairPut s j.jsn (bits (le j.desc 24 1) 0 1)) v 6 j.jsn = u at *
  have hw := within_pairEnd u j n
  have hdec := decided_pairEnd hr n
  rw [← he] at hw hdec
  obtain ⟨hpair, -, -, -, hmech, -⟩ := hu.part .ctlRest (by decide)
  obtain ⟨hpair', -, -, -, hmech', -⟩ := hw.part .ctlRest (by decide)
  refine ⟨hpair'.trans hpair, ?_, ?_, n, hdec⟩
  · unfold pairCfg mechOf
    rw [hmech', hmech]
    simp [pairPut, setFs, setMech, modCtl]
  · rw [hw.fld _ _ (by decide), hu.fld _ _ (by decide)]
    show getF (setF (setF _ F.PAIR_STAT_CONFIG 0 _) F.PAIR_STAT_PAIR_ID 0 _) _ 0 = _
    rw [getF_setF_code _ _ _ _ _ _ (by decide), getF_setF_same]
    exact Nat.mod_eq_of_lt (bits_lt _ _ 1)

/-- Settles O9: each command acts at once, by what its action writes and what the completion after it keeps. -/
theorem untimedCommandsAct : Obligations.UntimedCommandsAct := by
  intro s t j ha
  exact ⟨fun hv hc => ⟨_, rfl, checkpoint_acts (validates_at hv t) (withCmd_acts hv checkpointChecks checkpointAct hc ha).symm⟩,
    fun hv hc => ⟨_, rfl, attest_acts (validates_at hv t) (withCmd_acts hv attestChecks attestAct hc ha).symm⟩,
    fun hv hc => ⟨_, rfl, marginSurvey_acts (validates_at hv t) hc (withCmd_acts hv marginSurveyChecks marginSurveyAct hc ha).symm⟩,
    fun hv hc => ⟨_, rfl, ringAdopt_acts (validates_at hv t) hc (withCmd_acts hv ringAdoptChecks ringAdoptAct hc ha).symm⟩,
    fun hv hc hp hm => ⟨_, rfl, pairSet_acts (validates_at hv t) hc hp hm (withCmd_acts hv pairSetChecks pairSetAct hc ha).symm⟩⟩

end Sys2Proof.Machine
end

section
/-! STILL_LOAD, FW_SCHEDULE and BIVOUAC, the firmware commands and PP_SWITCH (R169, R369, R394, R396, R431 to R437). -/

namespace Sys2Proof.Machine

open Sys2Proof.Claims

/-! The commands that wait with an entry of their own. -/

theorem stillLoadCmd_waits {s d : Dev} {j : JRec} (hv : Validates s 0x24 j) (hc : stillLoadChecks s j = none) (hd : stillLoadCmd s j = d) :
    d.ctl.pend = insPend { jsn := j.jsn, op := 0x24, atFrame := bit j.flags 1 && j.target != 0,
                           frame := if bit j.flags 1 then max j.target (hfn s + 1) else hfn s + 1 } s.ctl.pend ∧
      recOf d j.jsn = some { j with validated := true } := by
  simp only [stillLoadCmd, hc, hv.opcode] at hd
  subst hd
  exact ⟨pend_schedule _ _, recOf_schedule hv.journalled _ rfl⟩

theorem fwScheduleCmd_waits {s d : Dev} {j : JRec} (hv : Validates s 0x71 j) (hc : fwScheduleChecks s j = none) (hs : s.sec.sched = none)
    (hcamp : devState s ≠ dvCamp) {n why : ℕ} {dfr : Bool}
    (hn : chooseFrame s j.flags j.target (fun n => frameStart s n - 540000000) (fun _ => true) = some (n, dfr, why)) (hd : fwScheduleCmd s j = d) :
    d.sec.sched = some (j.jsn, n, confirmSecs j.desc) ∧ fwUpdate d = 3 ∧
      d.ctl.pend = insPend { jsn := j.jsn, op := 0x71, frame := n, atFrame := true, deferred := dfr, reason := why } s.ctl.pend ∧
      recOf d j.jsn = some { j with validated := true } := by
  simp only [fwScheduleCmd, hc, hv.opcode, hcamp, if_false, hn, withdrawSched, hs] at hd
  subst hd
  refine ⟨rfl, ?_, pend_schedule _ _, recOf_schedule (by exact hv.journalled) _ rfl⟩
  show getF (setF (setF _ F.SEC_FW_STAT_UPDATE 0 3) F.SEC_FW_TGT_TARGET 0 n) F.SEC_FW_STAT_UPDATE 0 = 3
  rw [getF_setF_code _ _ _ _ _ _ (by decide), getF_setF_same]
  rfl

theorem bivouacCmd_enters {s d : Dev} {j : JRec} (hv : Validates s 0x83 j) (hc : bivouacChecks s j = none) (he : bit (le j.desc 24 1) 0 = true)
    (hd : bivouacCmd s j = d) :
    d.jrn.bivIn = some (j.jsn, s.now) ∧
      d.ctl.pend = insPend { jsn := j.jsn, op := 0x83, atFrame := bit j.flags 1 && j.target != 0,
                             frame := if bit j.flags 1 then max j.target (hfn s + 1) else hfn s + 1 } s.ctl.pend := by
  simp only [bivouacCmd, hc, hv.opcode, he, if_true] at hd
  subst hd
  exact ⟨rfl, pend_schedule _ _⟩

/-! BIVOUAC's exit: both planes come back up. -/

theorem planeState_setPlane (s : Dev) (p v cause jsn q : ℕ) (hv : v < 8) :
    planeState (setPlane s p v cause jsn) q = if q = p then v else planeState s q := by
  unfold planeState
  by_cases h : planeState s p = v
  · simp only [setPlane, h, if_true]
    split
    next hq => rw [hq]; exact h
    next => rfl
  · have hr : getF (setPlane s p v cause jsn) F.PLN_STATE_STATE q = getF (setF s F.PLN_STATE_STATE p v) F.PLN_STATE_STATE q := by
      simp only [setPlane, h, if_false, syncDegraded]
      rw [getF_setF_code _ _ _ _ _ _ (by decide), getF_raise _ _ _ _ _ _ _ (by decide)]
      rfl
    rw [hr]
    split
    next hq =>
      rw [hq, getF_setF_same]
      exact Nat.mod_eq_of_lt hv
    next hq => exact getF_setF_idx _ _ _ _ _ _ hq

/-- What a plane's change of state changes: its state, when it changed, DEGRADED, and an event. -/
def planeSetFoot : Foot := { flds := F.PLN_STATE_STATE :: F.SYS_STATE_DEGRADED :: evtFoot.flds, parts := .planes :: evtFoot.parts }

theorem within_planeSetFoot_setPlane (s : Dev) (p v cause jsn : ℕ) : Within planeSetFoot s (setPlane s p v cause jsn) := by
  unfold setPlane syncDegraded
  simp (decide := true) only [↓within_ite, within_raise, within_setPlaneSt, within_setF_skip, within_self, ite_self]

/-- BIVOUAC's exit of one stack and its plane. -/
def leaveBivouac (jsn : ℕ) (s : Dev) (p : ℕ) : Dev :=
  emptySyncs (setPlane (if hbmState s p = 5 then s else setF s F.HBM_STAT_STATE p 1) p 1 0 jsn) p

theorem planeState_leaveBivouac (jsn : ℕ) (s : Dev) (p q : ℕ) : planeState (leaveBivouac jsn s p) q = if q = p then 1 else planeState s q := by
  have hp : planeState (if hbmState s p = 5 then s else setF s F.HBM_STAT_STATE p 1) q = planeState s q := by
    split
    · rfl
    · exact getF_setF_code _ _ _ _ _ _ (by decide)
  rw [← hp]
  exact planeState_setPlane _ p 1 0 jsn q (by decide)

/-- BIVOUAC's exit of link `k`: one that idles wakes where it is not held down. -/
def wakeLink (s : Dev) (k : ℕ) : Dev :=
  if linkState s (k / 18) (k % 18) = 4 ∧ (mechOf s mkLink (linkKey s k)).aux % 4 ≠ 1 then linkWake s (k / 18) (k % 18) else s

theorem within_wakeLink (s : Dev) (k : ℕ) : Within linkFoot s (wakeLink s k) := by
  have hw (p l : ℕ) : Within linkFoot s (linkWake s p l) := by
    unfold linkWake
    refine (within_foldl_skip _ _ _ _ fun s k => ?_).mpr ?_
    · simp (decide := true) [↓within_ite]
    · simp (decide := true)
  unfold wakeLink
  split
  · exact hw _ _
  · exact .refl _ _

theorem bivouacExit_eq (s : Dev) (j : JRec) (a : ℕ) : bivouacExit s j a =
    (List.range 36).foldl wakeLink
      (leaveBivouac j.jsn (leaveBivouac j.jsn { markRunning s j.jsn with jrn := { s.jrn with bivOut := some (j.jsn, a) } } 0) 1) := by
  simp only [bivouacExit, List.foldl_cons, List.foldl_nil]
  rfl

def leaveFoot : Foot := { planeSetFoot with flds := F.HBM_STAT_STATE :: planeSetFoot.flds, parts := .fs :: planeSetFoot.parts }

theorem within_leaveBivouac (jsn : ℕ) (s : Dev) (p : ℕ) : Within leaveFoot s (leaveBivouac jsn s p) := by
  have hs : Within leaveFoot s (if hbmState s p = 5 then s else setF s F.HBM_STAT_STATE p 1) := by
    simp (decide := true) [↓within_ite]
  have hp := (within_planeSetFoot_setPlane (if hbmState s p = 5 then s else setF s F.HBM_STAT_STATE p 1) p 1 0 jsn).mono (W := leaveFoot) (by decide)
  refine (hs.trans hp).trans ?_
  unfold leaveBivouac emptySyncs
  exact (by simp (decide := true))

theorem bivouacExit_leaves {s d : Dev} {j : JRec} {a : ℕ} (hd : bivouacExit s j a = d) :
    d.jrn.bivOut = some (j.jsn, a) ∧ planeState d 0 = 1 ∧ planeState d 1 = 1 := by
  rw [bivouacExit_eq] at hd
  generalize hs : ({ markRunning s j.jsn with jrn := { s.jrn with bivOut := some (j.jsn, a) } } : Dev) = x at hd
  have hlinks := within_foldl wakeLink within_wakeLink (List.range 36) (leaveBivouac j.jsn (leaveBivouac j.jsn x 0) 1)
  rw [hd] at hlinks
  have hplane (q : ℕ) : planeState d q = planeState (leaveBivouac j.jsn (leaveBivouac j.jsn x 0) 1) q := hlinks.fld _ _ (by decide)
  refine ⟨?_, ?_, ?_⟩
  · rw [hlinks.jrn (by decide), (within_leaveBivouac _ _ _).jrn (by decide), (within_leaveBivouac _ _ _).jrn (by decide), ← hs]
  · rw [hplane, planeState_leaveBivouac, planeState_leaveBivouac]
    rfl
  · rw [hplane, planeState_leaveBivouac]
    rfl

/-- Settles O10: each entry is scheduled as the validation writes it, and BIVOUAC's exit sets both planes' state. -/
theorem heldCommandsWait : Obligations.HeldCommandsWait := by
  intro s t j
  refine ⟨fun hv hc => ⟨_, rfl, stillLoadCmd_waits (validates_at hv t) hc (withCmd_of_validates hv t stillLoadCmd).symm⟩,
    fun hv hc hs hcamp n dfr why hn =>
      ⟨_, rfl, fwScheduleCmd_waits (validates_at hv t) hc hs hcamp hn (withCmd_of_validates hv t fwScheduleCmd).symm⟩,
    fun hv hc he => ⟨_, rfl, bivouacCmd_enters (validates_at hv t) hc he (withCmd_of_validates hv t bivouacCmd).symm⟩,
    fun hv hc he ha => ⟨_, rfl, ?_⟩⟩
  have hd : bivouacExit (s.dev.at t) j t = withCmd s.dev t j.jsn 0x83 bivouacCmd := by
    rw [withCmd_of_validates hv]
    simp only [bivouacCmd, hc, he, ha, Bool.false_eq_true, if_false]
    rfl
  exact bivouacExit_leaves hd

/-! The firmware commands. -/

theorem sec_endUntimed (s : Dev) (jsn dt : ℕ) : (endUntimed s jsn dt).sec = s.sec :=
  (within_of_endUntimed s jsn dt).sec (by decide) (by decide) (by decide)

theorem fwUpdate_endUntimed (s : Dev) (jsn dt : ℕ) : fwUpdate (endUntimed s jsn dt) = fwUpdate s :=
  (within_of_endUntimed s jsn dt).fld _ _ (by decide)

theorem newSlot_endUntimed (s : Dev) (jsn dt : ℕ) : newSlot (endUntimed s jsn dt) = newSlot s := by
  unfold newSlot
  rw [(within_of_endUntimed s jsn dt).fld F.SEC_FW_STAT_STAGED_SLOT 0 (by decide)]

theorem fwSlot_setSlot (s : Dev) (k i : ℕ) (x : FwSlot) (hk : k < 2) (hi : i < 2) : fwSlot (setSlot s k x) i = if i = k then x else fwSlot s i := by
  have hk' : k = 0 ∨ k = 1 := by omega
  have hi' : i = 0 ∨ i = 1 := by omega
  obtain rfl | rfl := hk' <;> obtain rfl | rfl := hi' <;> rfl

theorem spareSlot_lt (s : Dev) : spareSlot s < 2 := by
  unfold spareSlot
  split
  · decide
  · split <;> decide

/-- What an update changes: the security block and the images. -/
def updateFoot : Foot := { blks := [blkSec], parts := [.out, .secRest, .reverting, .revertAt] }

theorem within_updateFoot_setSlot (s : Dev) (k : ℕ) (x : FwSlot) : Within updateFoot s (setSlot s k x) := by
  unfold setSlot
  split <;> simp (decide := true)

theorem within_updateFoot_stageHere (s : Dev) (b : Bytes) : Within updateFoot s (stageHere s b) := by
  unfold stageHere
  have h := within_updateFoot_setSlot s (spareSlot s) { state := 2, img := imgOf b }
  simp (decide := true) [↓within_ite, h]

theorem fwUpdate_stageHere (s : Dev) (b : Bytes) : fwUpdate (stageHere s b) = 2 := by
  show getF (setF (setF _ F.SEC_FW_STAT_UPDATE 0 2) F.SEC_FW_STAT_STAGED_SLOT 0 _) F.SEC_FW_STAT_UPDATE 0 = 2
  rw [getF_setF_code _ _ _ _ _ _ (by decide), getF_setF_same]
  rfl

theorem newSlot_stageHere (s : Dev) (b : Bytes) : newSlot (stageHere s b) = spareSlot s := by
  have h := spareSlot_lt s
  show getF (setF _ F.SEC_FW_STAT_STAGED_SLOT 0 (spareSlot s)) F.SEC_FW_STAT_STAGED_SLOT 0 % 2 = spareSlot s
  rw [getF_setF_same, Nat.mod_eq_of_lt (show spareSlot s < 2 ^ 3 by omega)]
  exact Nat.mod_eq_of_lt h

theorem stage_stageHere (s : Dev) (b : Bytes) : (stageHere s b).sec.stage = some (imgOf b) := rfl

theorem fwStageAct_stages {s d : Dev} {j : JRec} (hv : Validates s 0x70 j) (hu : fwUpdate s = 0) (hs : s.sec.svn ≤ imgSec j.buf)
    (he : imgEnrol j.buf = false) (hb : imgBound j.buf = false) (hp : s.ctl.pair = false) (hl : getF s F.SEC_FW_STAT_BASECAMP 0 ≠ 3)
    (hd : fwStageAct s j = d) :
    if authReason s j.buf = 0 then
      fwUpdate d = 2 ∧ d.sec.stage = some (imgOf j.buf) ∧ newSlot d = spareSlot s ∧ ∃ det, Decided d j.jsn stDone (hfn s) det
    else fwUpdate d = 0 ∧ Decided d j.jsn stAuth 0 (stageRefusal j.buf (authReason s j.buf)) := by
  have hl' : (getF s F.SEC_FW_STAT_BASECAMP 0 == 3) = false := by simpa using hl
  split
  next hr =>
    have hw := within_updateFoot_stageHere s j.buf
    have he : ∃ det, fwStageAct s j = endUntimed (stageHere s j.buf) j.jsn det := by
      simp [fwStageAct, hu, hr, Nat.not_lt.mpr hs, he, stageImage, hb, hp, hl']
    obtain ⟨det, he⟩ := he
    rw [← hd, he, fwUpdate_endUntimed, sec_endUntimed, newSlot_endUntimed]
    refine ⟨fwUpdate_stageHere _ _, stage_stageHere _ _, newSlot_stageHere _ _, det, ?_⟩
    rw [← hw.hfn (by decide) (by decide)]
    exact decided_endUntimed_of_within hv hw (by decide) (by decide) det
  next hr =>
    have he : fwStageAct s j = failUntimed s j.jsn (stAuth, stageRefusal j.buf (authReason s j.buf)) := by
      simp [fwStageAct, hu, hr]
    rw [← hd, he]
    exact ⟨((within_of_failUntimed _ _ _).fld _ _ (by decide)).trans hu, decided_failUntimed hv.journalled hv.undecided hv.leads _⟩

theorem fwUpdate_endUpdate (s : Dev) : fwUpdate (endUpdate s) = 0 := by
  show getF (setF (setF (setF (setF _ F.SEC_FW_STAT_UPDATE 0 0) F.SEC_FW_STAT_STAGED_SLOT 0 7) F.SEC_FW_STAT_WINDOW_S 0 0) F.SEC_FW_TGT_TARGET 0 0) F.SEC_FW_STAT_UPDATE 0 = 0
  rw [getF_setF_code _ _ _ _ _ _ (by decide), getF_setF_code _ _ _ _ _ _ (by decide), getF_setF_code _ _ _ _ _ _ (by decide), getF_setF_same]
  rfl

/-- A trial's commit: both slots, then the counter, then the end of the update. -/
def commitSlots (s : Dev) : Dev :=
  let t := setSlot s (newSlot s) { state := 5, img := trialImg s }
  setSlot t (1 - newSlot s) { fwSlot t (1 - newSlot s) with state := if (fwSlot t (1 - newSlot s)).state = 0 then 0 else 1 }

theorem within_commitSlots (s : Dev) : Within updateFoot s (commitSlots s) :=
  (within_updateFoot_setSlot _ _ _).trans (within_updateFoot_setSlot _ _ _)

theorem newSlot_lt (s : Dev) : newSlot s < 2 := Nat.mod_lt _ (by decide)

theorem state_commitSlots (s : Dev) : (fwSlot (commitSlots s) (newSlot s)).state = 5 := by
  have h := newSlot_lt s
  unfold commitSlots
  rw [fwSlot_setSlot _ _ _ _ (by omega) h, if_neg (by omega), fwSlot_setSlot _ _ _ _ h h, if_pos rfl]

theorem commitTrial_eq (s : Dev) :
    commitTrial s = endUpdate (syncKeys { commitSlots s with sec := { (commitSlots s).sec with svn := max (commitSlots s).sec.svn (trialImg s).secVer } }) := rfl

theorem svn_setSlot (s : Dev) (k : ℕ) (x : FwSlot) : (setSlot s k x).sec.svn = s.sec.svn := by
  unfold setSlot
  dsimp only
  split <;> rfl

theorem svn_commitTrial (s : Dev) : (commitTrial s).sec.svn = max s.sec.svn (trialImg s).secVer := by
  show max (commitSlots s).sec.svn (trialImg s).secVer = _
  rw [show (commitSlots s).sec.svn = s.sec.svn from (svn_setSlot _ _ _).trans (svn_setSlot _ _ _)]

theorem within_updateFoot_endUpdate (s : Dev) : Within updateFoot s (endUpdate s) := by
  unfold endUpdate
  simp (decide := true)

theorem within_updateFoot_commitTrial (s : Dev) : Within updateFoot s (commitTrial s) := by
  rw [commitTrial_eq]
  refine (within_commitSlots s).trans (.trans ?_ (within_updateFoot_endUpdate _))
  unfold syncKeys
  simp (decide := true)

theorem fwConfirmAct_commits {s d : Dev} {j : JRec} (hv : Validates s 0x72 j) (hc : fwConfirmChecks s j = none) (hd : fwConfirmAct s j = d) :
    (fwSlot d (newSlot s)).state = 5 ∧ d.sec.svn = max s.sec.svn (s.sec.stage.getD s.sec.run).secVer ∧ fwUpdate d = 0 ∧
      ∃ det, Decided d j.jsn stDone (hfn s) det := by
  obtain ⟨-, -, hconf, -, -⟩ := checksOf_none hc
  have hq : (fwUpdate s != 4 || s.sec.hostLoaded) = false := (firstFail_eq_none _).mp hconf _ List.mem_cons_self
  have hno : ¬(fwUpdate s ≠ 4 ∨ s.sec.hostLoaded = true) := by simpa using hq
  have he : ∃ det, fwConfirmAct s j = raiseCommitted (endUntimed (commitTrial s) j.jsn det) s j.jsn := by
    unfold fwConfirmAct
    rw [if_neg hno]
    exact ⟨_, rfl⟩
  obtain ⟨det, he⟩ := he
  have hw := within_updateFoot_commitTrial s
  have hr : Within evtFoot (endUntimed (commitTrial s) j.jsn det) d := by
    rw [← hd, he]
    exact (within_raiseCommitted _ _ _ _ (by decide)).mpr (.refl _ _)
  have hsec : d.sec = (commitTrial s).sec := (hr.sec (by decide) (by decide) (by decide)).trans (sec_endUntimed _ _ _)
  have hdec := decided_endUntimed_of_within hv hw (by decide) (by decide) det
  rw [hw.hfn (by decide) (by decide)] at hdec
  refine ⟨?_, ?_, ?_, det, decided_of_within hdec hr (by decide)⟩
  · have hslot : fwSlot d (newSlot s) = fwSlot (commitTrial s) (newSlot s) := by
      unfold fwSlot
      rw [hsec]
    rw [hslot]
    exact state_commitSlots s
  · rw [hsec]
    exact svn_commitTrial s
  · exact ((hr.fld F.SEC_FW_STAT_UPDATE 0 (by decide)).trans (fwUpdate_endUntimed _ _ _)).trans (fwUpdate_endUpdate _)

theorem fwAbortAct_discards {s d : Dev} {j : JRec} (hv : Validates s 0x73 j) (hu : fwUpdate s = 2) (hd : fwAbortAct s j = d) :
    fwUpdate d = 0 ∧ d.sec.stage = none ∧ Decided d j.jsn stDone (hfn s) 0 := by
  have hw : Within updateFoot s (discardStage s) := by
    unfold discardStage
    refine .trans ?_ (within_updateFoot_endUpdate _)
    split
    · exact within_updateFoot_setSlot _ _ _
    · exact .refl _ _
  have he : fwAbortAct s j = endUntimed (discardStage s) j.jsn 0 := by simp only [fwAbortAct, hu]
  rw [← hd, he, fwUpdate_endUntimed, sec_endUntimed, ← hw.hfn (by decide) (by decide)]
  exact ⟨fwUpdate_endUpdate _, rfl, decided_endUntimed_of_within hv hw (by decide) (by decide) 0⟩

/-! PP_SWITCH. -/

/-- A handover before the role moves: the checkpoint, the epoch raised, validation stopped until the retired epoch has drained. -/
def handoverHead (s : Dev) : Dev :=
  let a := getF s F.BELAY_STAT_ACTIVE_PP 0
  let s := writeCheckpoint s
  let s := { s with
    ctl := { s.ctl with epoch := (s.ctl.epoch + 1) % 2 ^ 32 }
    jrn := { s.jrn with outage := true, draining := some s.now, retired := mset 0 s.jrn.retired a (mget 0 s.jrn.retired a + 1) } }
  let s := setFs s 0 [(F.BELAY_EPOCH_EPOCH, s.ctl.epoch), (F.BELAY_STAT_MISSES, 0)]
  let s := journal s 64
  setF s (if a = 0 then F.MTX_CTRL_REMAP_PP0 else F.MTX_CTRL_REMAP_PP1) 0 0

theorem handover_eq {s : Dev} (h : ppState s (1 - getF s F.BELAY_STAT_ACTIVE_PP 0) = 1) :
    handover s = historyWindow (dropReset (setF (setPp (setPp (handoverHead s) (1 - getF s F.BELAY_STAT_ACTIVE_PP 0) 0)
      (getF s F.BELAY_STAT_ACTIVE_PP 0) 1) F.BELAY_STAT_ACTIVE_PP 0 (1 - getF s F.BELAY_STAT_ACTIVE_PP 0)) 5 (1 - getF s F.BELAY_STAT_ACTIVE_PP 0) 9) := by
  simp only [handover, h, beq_self_eq_true, if_true]
  rfl

theorem ctl_journal (s : Dev) (n : ℕ) : (journal s n).ctl = s.ctl := by
  unfold journal
  dsimp only
  split <;> rfl

theorem outage_journal (s : Dev) (n : ℕ) : (journal s n).jrn.outage = s.jrn.outage := by
  unfold journal
  dsimp only
  split <;> rfl

theorem epoch_handoverHead (s : Dev) : (handoverHead s).ctl.epoch = (s.ctl.epoch + 1) % 2 ^ 32 := by
  have h := (within_ckptFoot_writeCheckpoint s).epoch (by decide)
  unfold handoverHead
  simp only [setF_ctl, ctl_journal, setFs_ctl, h]

theorem outage_handoverHead (s : Dev) : (handoverHead s).jrn.outage = true := by
  unfold handoverHead
  simp only [setF_jrn, outage_journal, setFs_jrn]

theorem handover_to_standby {s d : Dev} {n : ℕ} (ha : getF s F.BELAY_STAT_ACTIVE_PP 0 < 2) (hn : n < 2) (hne : getF s F.BELAY_STAT_ACTIVE_PP 0 ≠ n)
    (h : ppState s n = 1) (hd : handover s = d) :
    getF d F.BELAY_STAT_ACTIVE_PP 0 = n ∧ ppState d n = 0 ∧ d.ctl.epoch = (s.ctl.epoch + 1) % 2 ^ 32 ∧ d.jrn.outage = true := by
  have hsub : 1 - getF s F.BELAY_STAT_ACTIVE_PP 0 = n := by omega
  have hback : getF s F.BELAY_STAT_ACTIVE_PP 0 = 1 - n := by omega
  rw [handover_eq (by rw [hsub]; exact h), hsub, hback] at hd
  generalize hx : handoverHead s = x at hd
  have hep := epoch_handoverHead s
  have hout := outage_handoverHead s
  rw [hx] at hep hout
  subst hd
  have hhist (y : Dev) (f : Fld) (hf : f.code % 262144 ≠ F.FLT_MODE_MODE.code % 262144) (hg : f.code % 262144 ≠ F.FLT_MODE_WINDOW_S.code % 262144) :
      getF (historyWindow y) f 0 = getF y f 0 := by
    show getF (setF (setF _ F.FLT_MODE_MODE 0 1) F.FLT_MODE_WINDOW_S 0 60) f 0 = _
    rw [getF_setF_code _ _ _ _ _ _ hg, getF_setF_code _ _ _ _ _ _ hf]
    rfl
  refine ⟨?_, ?_, hep, hout⟩
  · rw [hhist _ _ (by decide) (by decide)]
    show getF (setF _ F.BELAY_STAT_ACTIVE_PP 0 n) F.BELAY_STAT_ACTIVE_PP 0 = n
    rw [getF_setF_same]
    exact Nat.mod_eq_of_lt hn
  · have hn' : n = 0 ∨ n = 1 := by omega
    unfold ppState
    rw [hhist _ _ (by decide) (by decide), hhist _ _ (by decide) (by decide)]
    obtain rfl | rfl := hn'
    · show getF (setF (setF (setF x F.BELAY_STAT_PP0_STATE 0 0) F.BELAY_STAT_PP1_STATE 0 1) F.BELAY_STAT_ACTIVE_PP 0 0) F.BELAY_STAT_PP0_STATE 0 = 0
      rw [getF_setF_code _ _ _ _ _ _ (by decide), getF_setF_code _ _ _ _ _ _ (by decide), getF_setF_same]
      rfl
    · show getF (setF (setF (setF x F.BELAY_STAT_PP1_STATE 0 0) F.BELAY_STAT_PP0_STATE 0 1) F.BELAY_STAT_ACTIVE_PP 0 1) F.BELAY_STAT_PP1_STATE 0 = 0
      rw [getF_setF_code _ _ _ _ _ _ (by decide), getF_setF_code _ _ _ _ _ _ (by decide), getF_setF_same]
      rfl

theorem ppSwitchAct_switches {s d : Dev} {j : JRec} (hc : ppSwitchChecks s j = none) (ha : getF s F.BELAY_STAT_ACTIVE_PP 0 < 2) (hd : ppSwitchAct s j = d) :
    getF d F.BELAY_STAT_ACTIVE_PP 0 = bits (le j.desc 24 1) 0 1 ∧ ppState d (bits (le j.desc 24 1) 0 1) = 0 ∧
      d.ctl.epoch = (s.ctl.epoch + 1) % 2 ^ 32 ∧ d.jrn.outage = true ∧ d.jrn.ppSwitch = some j.jsn := by
  obtain ⟨-, -, hconf, -, -⟩ := checksOf_none hc
  have hall := (firstFail_eq_none _).mp hconf
  simp only [ppSwitchConds, List.forall_mem_cons] at hall
  obtain ⟨-, hne, hst, -⟩ := hall
  have hne' : getF s F.BELAY_STAT_ACTIVE_PP 0 ≠ bits (le j.desc 24 1) 0 1 := by simpa using hne
  have hst' : ppState s (bits (le j.desc 24 1) 0 1) = 1 := by simpa using hst
  have hu := handover_to_standby (s := markRunning s j.jsn) ha (bits_lt _ _ 1) hne' hst' rfl
  simp only [ppSwitchAct, hconf] at hd
  have hw : Within { evtFoot with flds := F.BELAY_FAILOVERS_COUNT :: evtFoot.flds, parts := .jrn :: evtFoot.parts } (handover (markRunning s j.jsn)) d := by
    rw [← hd]
    simp (decide := true)
  obtain ⟨hpp, hact, hep, hout⟩ := hu
  refine ⟨(hw.fld _ _ (by decide)).trans hpp, ?_, (hw.epoch (by decide)).trans hep, ?_, ?_⟩
  · unfold ppState at hact ⊢
    rw [hw.fld _ _ (by decide), hw.fld _ _ (by decide)]
    exact hact
  · subst hd
    simpa using hout
  · subst hd
    rfl

/-- Settles O11: each firmware command and PP_SWITCH by what its action writes; the checks leave the branch that acts. -/
theorem firmwareCommandsAct : Obligations.FirmwareCommandsAct := by
  intro s t j ha
  exact ⟨fun hv hc hu hs he hb hp hl => ⟨_, rfl, fwStageAct_stages (validates_at hv t) hu hs he hb hp hl (withCmd_acts hv fwStageChecks fwStageAct hc ha).symm⟩,
    fun hv hc => ⟨_, rfl, fwConfirmAct_commits (validates_at hv t) hc (withCmd_acts hv fwConfirmChecks fwConfirmAct hc ha).symm⟩,
    fun hv hc hu => ⟨_, rfl, fwAbortAct_discards (validates_at hv t) hu (withCmd_acts hv fwAbortChecks fwAbortAct hc ha).symm⟩,
    fun hv hc hp => ⟨_, rfl, ppSwitchAct_switches (s := s.dev.at t) hc hp (withCmd_acts hv ppSwitchChecks ppSwitchAct hc ha).symm⟩⟩

end Sys2Proof.Machine
end

section
/-! The fault collector (R471 to R482): what an event on an error line does to the collector's registers, and that the reactions leave them. -/

namespace Sys2Proof.Machine

open Sys2Proof.Claims

variable {W : Foot}

/-- What a fault's reaction and the block's taking out of service may change: of the collector's registers FLT_MODE alone (R474, R477). -/
def reactFoot : Foot :=
  { flds := [F.FLS_STAT_STATE, F.PLN_STATE_STATE, F.PLN_STATE_TILE_FAIL, F.PLN_STATE_HBM_FAIL, F.PLN_STATE_COL_FAIL, F.HIF_EVT_STAT_PROD,
      F.HIF_EVT_STAT_LOST, F.FLT_MODE_MODE, F.FLT_MODE_WINDOW_S],
    blks := [blkSys, blkRst, blkBelay, blkJrn, blkFuse],
    parts := [.epoch, .flt, .host, .jrn, .out, .planes, .reqs, .rstRest, .reverting] }

theorem within_react_setPp (d s : Dev) (n v : ℕ) (h : reactFoot.le W = true) : Within W d (setPp s n v) ↔ Within W d s := by
  refine Within.skip (V := reactFoot) ?_ h
  unfold setPp
  simp (decide := true)

theorem within_react_syncDegraded (d s : Dev) (h : reactFoot.le W = true) : Within W d (syncDegraded s) ↔ Within W d s := by
  refine Within.skip (V := reactFoot) ?_ h
  unfold syncDegraded
  simp (decide := true)

theorem within_react_historyWindow (d s : Dev) (h : reactFoot.le W = true) : Within W d (historyWindow s) ↔ Within W d s := by
  refine Within.skip (V := reactFoot) ?_ h
  unfold historyWindow
  simp (decide := true)

theorem within_react_setPlane (d s : Dev) (p v cause jsn : ℕ) (h : reactFoot.le W = true) : Within W d (setPlane s p v cause jsn) ↔ Within W d s := by
  refine Within.skip (V := reactFoot) ?_ h
  unfold setPlane
  simp (decide := true) only [↓within_ite, within_react_syncDegraded, within_raise, within_setPlaneSt, within_setF_skip, within_self, ite_self]

theorem within_react_markRevert (d s : Dev) (cause : ℕ) (h : reactFoot.le W = true) : Within W d (markRevert s cause) ↔ Within W d s := by
  refine Within.skip (V := reactFoot) ?_ h
  unfold markRevert
  simp (decide := true) [↓within_ite]

theorem within_react_fence (d s : Dev) (cause : ℕ) (h : reactFoot.le W = true) : Within W d (fence s cause) ↔ Within W d s := by
  refine Within.skip (V := reactFoot) ?_ h
  unfold fence
  simp (decide := true) [↓within_ite, within_react_markRevert, within_react_historyWindow, within_react_setPp]

theorem within_react_degradePlane (d s : Dev) (p cause : ℕ) (h : reactFoot.le W = true) : Within W d (degradePlane s p cause) ↔ Within W d s := by
  refine Within.skip (V := reactFoot) ?_ h
  unfold degradePlane
  simp (decide := true) [↓within_ite, within_react_setPlane]

theorem within_react_outOfService (d s : Dev) (b : ℕ) (h : reactFoot.le W = true) : Within W d (outOfService s b) ↔ Within W d s := by
  refine Within.skip (V := reactFoot) ?_ h
  unfold outOfService
  simp (decide := true) [↓within_ite, within_react_degradePlane, within_react_syncDegraded, within_react_setPp]

theorem within_react_planeReaction (d s : Dev) (p src : ℕ) (h : reactFoot.le W = true) : Within W d (planeReaction s p src) ↔ Within W d s := by
  refine Within.skip (V := reactFoot) ?_ h
  unfold planeReaction
  simp (decide := true) [↓within_ite]

theorem within_react_react (d s : Dev) (b act : ℕ) (h : reactFoot.le W = true) : Within W d (react s b act) ↔ Within W d s := by
  refine Within.skip (V := reactFoot) ?_ h
  unfold react
  simp (decide := true) [↓within_ite, within_react_planeReaction, within_react_fence]

/-- What the record of a fault adds to its reaction: LOG_LOST (R476). -/
def faultTailFoot : Foot := { reactFoot with flds := F.FLT_CTRL_LOG_LOST :: reactFoot.flds }

theorem within_faultTail_logFault (d s : Dev) (b entry : ℕ) (h : faultTailFoot.le W = true) : Within W d (logFault s b entry) ↔ Within W d s := by
  refine Within.skip (V := faultTailFoot) ?_ h
  unfold logFault
  simp (decide := true) [↓within_ite]

/-- An event's first writes: its FLT_STATUS bit and its FLT_CAUSE (R473). -/
def faultHead (s : Dev) (b cause sub : ℕ) : Dev :=
  setFs (satAdd (setF s F.FLT_STATUS_BITS 0 (getF s F.FLT_STATUS_BITS 0 ||| 2 ^ b)) F.FLT_CAUSE_COUNT b 1) b
    [(F.FLT_CAUSE_FATAL, b2n (isFatal cause)), (F.FLT_CAUSE_CAUSE, cause), (F.FLT_CAUSE_SUB, sub)]

/-- All that an event does after its capture leaves the collector's records. -/
theorem within_faultEvent_capture (s : Dev) (b cause sub : ℕ) :
    Within faultTailFoot (capture (faultHead s b cause sub) b cause sub).2 (faultEvent s b cause sub) := by
  unfold faultEvent
  dsimp only
  rw [show setFs _ b _ = faultHead s b cause sub from rfl]
  generalize capture (faultHead s b cause sub) b cause sub = q
  simp (decide := true) [↓within_ite, within_react_react, within_react_outOfService, within_faultTail_logFault]

/-- What the capture of an event changes: the record registers (R474). -/
def captureFoot : Foot :=
  { flds := [F.FLT_HISTORY_TIME, F.FLT_HISTORY_SUB, F.FLT_HISTORY_CAUSE, F.FLT_HISTORY_FATAL, F.FLT_HISTORY_BIT, F.FLT_HIST_PTR_NEXT,
      F.FLT_HIST_PTR_TOTAL, F.FLT_FIRST_VALID, F.FLT_FIRST_FATAL, F.FLT_FIRST_CAUSE, F.FLT_FIRST_TIME_TIME, F.FLT_FIRST_SUB_BIT,
      F.FLT_FIRST_SUB_SUB, F.FLT_OVF_OVF] }

theorem within_captureFoot_capture (s : Dev) (b cause sub : ℕ) : Within captureFoot s (capture s b cause sub).2 := by
  unfold capture
  simp (decide := true) [↓within_ite, apply_ite Prod.snd]

/-- A field that neither the capture nor what follows it changes is as the event's first writes leave it. -/
theorem getF_faultEvent_head (s : Dev) (b cause sub : ℕ) (f : Fld) (i : ℕ) (hc : captureFoot.hits (f.code % 262144) = false)
    (ht : faultTailFoot.hits (f.code % 262144) = false) : getF (faultEvent s b cause sub) f i = getF (faultHead s b cause sub) f i :=
  ((within_faultEvent_capture s b cause sub).fld f i ht).trans ((within_captureFoot_capture _ _ _ _).fld f i hc)

theorem status_faultEvent (s : Dev) (b cause sub : ℕ) :
    getF (faultEvent s b cause sub) F.FLT_STATUS_BITS 0 = (getF s F.FLT_STATUS_BITS 0 ||| 2 ^ b) % 2 ^ 48 := by
  rw [getF_faultEvent_head _ _ _ _ _ _ (by decide) (by decide)]
  unfold faultHead setFs setFs setFs setFs
  rw [getF_setF_code _ _ _ _ _ _ (by decide), getF_setF_code _ _ _ _ _ _ (by decide), getF_setF_code _ _ _ _ _ _ (by decide),
    getF_satAdd_code _ _ _ _ _ _ (by decide), getF_setF_same]

/-! Bits of a word. -/

theorem bit_eq_testBit (n k : ℕ) : bit n k = n.testBit k := by
  unfold bit
  rw [Nat.testBit_eq_decide_div_mod_eq, beq_eq_decide]

theorem bit_or (m n k : ℕ) : bit (m ||| n) k = (bit m k || bit n k) := by
  simp only [bit_eq_testBit, Nat.testBit_or]

theorem bit_two_pow (b k : ℕ) : bit (2 ^ b) k = decide (b = k) := by
  rw [bit_eq_testBit, Nat.testBit_two_pow]

theorem bit_mod_two_pow (n w k : ℕ) (h : k < w) : bit (n % 2 ^ w) k = bit n k := by
  rw [bit_eq_testBit, bit_eq_testBit, Nat.testBit_mod_two_pow]
  simp [h]

/-- An event sets its bit and leaves the others (R473). -/
theorem fltBit_faultEvent (s : Dev) (b cause sub k : ℕ) (hk : k < 48) :
    fltBit (faultEvent s b cause sub) k = (decide (b = k) || fltBit s k) := by
  unfold fltBit
  rw [status_faultEvent, bit_mod_two_pow _ _ _ hk, bit_or, bit_two_pow, Bool.or_comm]

theorem fltBit_faultEvent_same (s : Dev) (b cause sub : ℕ) (hb : b < 48) : fltBit (faultEvent s b cause sub) b = true := by
  rw [fltBit_faultEvent _ _ _ _ _ hb]
  simp

theorem fltBit_faultEvent_of_set {s : Dev} {k : ℕ} (b cause sub : ℕ) (hk : k < 48) (h : fltBit s k = true) :
    fltBit (faultEvent s b cause sub) k = true := by
  rw [fltBit_faultEvent _ _ _ _ _ hk, h, Bool.or_true]

theorem Within.fltBit {s u : Dev} (h : Within W s u) (hW : W.hits (F.FLT_STATUS_BITS.code % 262144) = false) (k : ℕ) : fltBit u k = fltBit s k := by
  unfold Claims.fltBit
  rw [h.fld _ _ hW]

end Sys2Proof.Machine
end

section
/-! Register access (R5 to R9): what a write stores, and what a read answers, latches and clears. -/

namespace Sys2Proof.Machine

open Sys2Proof.Claims

/-! Going through a register's fields. -/

theorem getF_setF_fkey {s : Dev} {f g : Fld} {i k v : ℕ} (h : fkey g k ≠ fkey f i) : getF (setF s f i v) g k = getF s g k := mget_mset_other h

/-- `w` changes of element `i` the field that it is given, and nothing else of the registers. -/
def OwnField (i : ℕ) (w : Dev → Fld → Dev) : Prop := ∀ s f g k, fkey g k ≠ fkey f i → getF (w s f) g k = getF s g k

theorem OwnField.foldl_other {i : ℕ} {w : Dev → Fld → Dev} (hw : OwnField i w) (l : List Fld) (s : Dev) {g : Fld} {k : ℕ}
    (h : ∀ f ∈ l, fkey g k ≠ fkey f i) : getF (l.foldl w s) g k = getF s g k := by
  induction l generalizing s with
  | nil => rfl
  | cons f l ih =>
    rw [List.foldl_cons, ih _ fun e he => h e (List.mem_cons_of_mem _ he)]
    exact hw _ _ _ _ (h f List.mem_cons_self)

/-- Each field of a register with distinct fields holds in the end what its own step gives it. -/
theorem OwnField.foldl_field {i : ℕ} {w : Dev → Fld → Dev} (hw : OwnField i w) {val : ℕ → Fld → ℕ} {l : List Fld}
    (hv : ∀ s, ∀ f ∈ l, getF (w s f) f i = val (getF s f i) f) (hl : (l.map fun f => f.code % 262144).Nodup) (s : Dev) {f : Fld} (hf : f ∈ l) :
    getF (l.foldl w s) f i = val (getF s f i) f := by
  induction l generalizing s with
  | nil => cases hf
  | cons g l ih =>
    rw [List.map_cons, List.nodup_cons] at hl
    obtain ⟨hg, hl⟩ := hl
    have hne {e : Fld} (he : e ∈ l) : fkey g i ≠ fkey e i := fkey_ne_of_code _ _ _ _ fun hc =>
      hg (hc ▸ List.mem_map_of_mem (f := fun f : Fld => f.code % 262144) he)
    rw [List.foldl_cons]
    rcases List.mem_cons.mp hf with rfl | hf
    · rw [hw.foldl_other l _ fun e he => hne he]
      exact hv s f List.mem_cons_self
    · rw [ih (fun s e he => hv s e (List.mem_cons_of_mem _ he)) hl _ hf, hw s g f i (hne hf).symm]

/-! Facts about the register map. -/

theorem nodup_flds {r : RegDef} (hr : r ∈ allRegs) : (r.flds.map fun f => f.code % 262144).Nodup := by
  have key : ∀ r ∈ allRegs, (r.flds.map fun f => f.code % 262144).Nodup := by decide +kernel
  exact key r hr

/-- A policy processor's fields stand in the control matrix's registers. -/
theorem blk_of_ppOnly {r : RegDef} (hr : r ∈ allRegs) {f : Fld} (hf : f ∈ r.flds) (h : ppOnly f = true) : r.blk = blkMtx := by
  have key : ∀ r ∈ allRegs, ∀ f ∈ r.flds, ppOnly f = true → r.blk = blkMtx := by decide +kernel
  exact key r hr f hf h

theorem ne_mask_of_ownWrite {r : RegDef} (hr : r ∈ allRegs) (ho : ownWrite r = false) {f : Fld} (hf : f ∈ r.flds) :
    f.code ≠ F.HIF_EVT_MASK_MASK.code := by
  have key : ∀ r ∈ allRegs, ownWrite r = false → ∀ f ∈ r.flds, f.code ≠ F.HIF_EVT_MASK_MASK.code := by decide +kernel
  exact key r hr ho f hf

theorem lo_lt_width {r : RegDef} (hr : r ∈ allRegs) {f : Fld} (hf : f ∈ r.flds) : f.lo < r.width ∧ 0 < f.width := by
  have key : ∀ r ∈ allRegs, ∀ f ∈ r.flds, f.lo < r.width ∧ 0 < f.width := by decide +kernel
  exact key r hr f hf

/-! Writes. -/

theorem ownField_writeF (m i new ones : ℕ) : OwnField i fun s f => writeF s m i new ones f := by
  intro s f g k h
  dsimp only [writeF]
  split
  · split
    · rfl
    · exact getF_setF_fkey h
  · exact getF_setF_fkey h
  · rfl

/-- What a field that held `old` holds after a write of `v` to its register. -/
def stored (v old : ℕ) (f : Fld) : ℕ :=
  match f.acc with
  | .rw => bits v f.lo f.width
  | .w1c => (old - (old &&& bits v f.lo f.width)) % 2 ^ f.width
  | _ => old

theorem written_eq (s : Dev) (f : Fld) (i v : ℕ) : written s f i v = stored v (getF s f i) f := rfl

theorem getF_writeF {m i v : ℕ} {f : Fld} (s : Dev) (hp : ppOnly f = true → isPp m = true) (hm : f.code ≠ F.HIF_EVT_MASK_MASK.code) :
    getF (writeF s m i v v f) f i = stored v (getF s f i) f := by
  have hb : (ppOnly f && !isPp m) = false := by
    cases hq : ppOnly f
    · rfl
    · rw [hp hq]
      rfl
  unfold writeF stored
  cases f.acc with
  | rw =>
    simp only [hb, Bool.false_eq_true, if_false, hm, getF_setF_same]
    exact Nat.mod_eq_of_lt (bits_lt _ _ _)
  | w1c => exact getF_setF_same _ _ _ _
  | ro => rfl
  | rc => rfl
  | wo => rfl

theorem writtenTo_writeFields {s : Dev} {m i v : ℕ} {r : RegDef} (hr : r ∈ allRegs) (ho : ownWrite r = false) (hp : r.blk = blkMtx → isPp m = true) :
    WrittenTo s (writeFields s m r i v v) r i v := by
  have hown := ownField_writeF m i v v
  refine ⟨fun f hf => ?_, fun g k h => hown.foldl_other r.flds s h⟩
  rw [written_eq]
  exact hown.foldl_field (val := stored v) (fun s f hf => getF_writeF s (fun h => hp (blk_of_ppOnly hr hf h)) (ne_mask_of_ownWrite hr ho hf))
    (nodup_flds hr) s hf

theorem storeReg_eq_writeFields {r : RegDef} (ho : ownWrite r = false) (s : Dev) (t m i new ones : ℕ) :
    storeReg s t m r i new ones = writeFields s m r i new ones := by
  simp only [ownWrite, List.any_cons, List.any_nil, Bool.or_eq_false_iff] at ho
  simp [storeReg, ho]

/-- A store to registers of the same contents is a store to the device. -/
theorem writtenTo_of_regs {s s' u : Dev} {r : RegDef} {i v : ℕ} (h : WrittenTo s' u r i v) (hs : s'.regs = s.regs) : WrittenTo s u r i v := by
  obtain ⟨h1, h2⟩ := h
  refine ⟨fun f hf => ?_, fun g k hg => (h2 g k hg).trans (getF_of_regs _ _ hs)⟩
  rw [h1 f hf, written_eq, written_eq, getF_of_regs _ _ hs]

/-- An access that meets a register writes it. -/
theorem registerWrite_of_meets {s : Dev} {m addr size : ℕ} {h : RegHit} (hm : Meets s m addr size true h)
    (hb : hifBlocked m (regSpace m addr) = false) (t v : ℕ) :
    registerWrite s t m addr size v = writeReg (s.at t) t m (regSpace m addr - h.sub) h size v := by
  have hr : reaches (s.at t) m (mtxAddr (regSpace m addr)) size true = true := hm.reach
  have hu : canAccess (s.at t) m = true := hm.up
  simp [registerWrite, hu, writeAt, hm.bar, accessWrite, hm.fits, hr, hm.found, hb]

theorem writtenTo_writeReg_whole {s : Dev} {t m base size v : ℕ} {h : RegHit} (hr : h.d ∈ allRegs) (ho : ownWrite h.d = false)
    (hp : h.d.blk = blkMtx → isPp m = true) (hw : 8 * size = h.d.width) (h128 : h.d.width ≠ 128) :
    WrittenTo s (writeReg s t m base h size v) h.d h.idx (v % 2 ^ (8 * size)) := by
  simp only [writeReg, h128, if_false, hw, if_true, storeReg_eq_writeFields ho]
  exact writtenTo_writeFields hr ho hp

theorem writeReg_low {s : Dev} {t m base v : ℕ} {h : RegHit} (hw : h.d.width = 64) (hs : h.sub = 0) :
    writeReg s t m base h 4 v = { s with holds := mset 0 s.holds (latchKey m base) (v % 2 ^ 32 + 1) } := by
  simp [writeReg, hw, hs]

theorem writtenTo_writeReg_high {s : Dev} {t m base v lo : ℕ} {h : RegHit} (hr : h.d ∈ allRegs) (ho : ownWrite h.d = false)
    (hp : h.d.blk = blkMtx → isPp m = true) (hw : h.d.width = 64) (hs : h.sub = 4) (hl : mget 0 s.holds (latchKey m base) = lo + 1) :
    WrittenTo s (writeReg s t m base h 4 v) h.d h.idx (lo + v % 2 ^ 32 * 2 ^ 32) := by
  have he : writeReg s t m base h 4 v = writeFields { s with holds := mset 0 s.holds (latchKey m base) 0 } m h.d h.idx
      (lo + v % 2 ^ 32 * 2 ^ 32) (lo + v % 2 ^ 32 * 2 ^ 32) := by
    simp [writeReg, hw, hs, hl, storeReg_eq_writeFields ho]
  rw [he]
  exact writtenTo_of_regs (writtenTo_writeFields hr ho hp) rfl

/-- Settles O12: a write goes through the register's fields, and each takes what its access type gives it. -/
theorem registerWriteStores : Obligations.RegisterWriteStores := by
  intro s t m addr v h ho hb hp
  have run {size : ℕ} (hm : Meets s.dev m addr size true h) : exec (.registerWrite t m addr size v) s =
      .next { s with dev := writeReg (s.dev.at t) t m (regSpace m addr - h.sub) h size v } := by
    rw [← registerWrite_of_meets hm hb]
    rfl
  have hr {size : ℕ} (hm : Meets s.dev m addr size true h) : h.d ∈ allRegs := mem_of_locateReg hm.found
  refine ⟨fun hm hw => ⟨_, run hm, ?_⟩, fun hm hw => ⟨_, run hm, ?_⟩, fun hm hw hs => ⟨_, run hm, ?_⟩, fun hm hw hs lo hl => ⟨_, run hm, ?_⟩⟩
  · exact writtenTo_of_regs (writtenTo_writeReg_whole (hr hm) ho hp (by omega) (by omega)) rfl
  · exact writtenTo_of_regs (writtenTo_writeReg_whole (hr hm) ho hp (by omega) (by omega)) rfl
  · rw [writeReg_low hw hs, hs, Nat.sub_zero]
    refine ⟨fun _ _ => rfl, ?_⟩
    simp only [at_holds, mget_mset_same]
  · rw [hs]
    exact writtenTo_of_regs (s' := s.dev.at t) (writtenTo_writeReg_high (hr hm) ho hp hw hs hl) rfl

/-! Reads. -/

theorem ownField_clearRc (i lo n : ℕ) :
    OwnField i fun s f => if f.acc = .rc ∧ f.lo < lo + n ∧ lo < f.lo + f.width then setF s f i f.reset else s := by
  intro s f g k h
  dsimp only
  split
  · exact getF_setF_fkey h
  · rfl

theorem getF_clearRc_other (s : Dev) (r : RegDef) (i lo n : ℕ) {g : Fld} {k : ℕ} (h : ∀ f ∈ r.flds, fkey g k ≠ fkey f i) :
    getF (clearRc s r i lo n) g k = getF s g k := (ownField_clearRc i lo n).foldl_other r.flds s h

theorem getF_clearRc_whole (s : Dev) {r : RegDef} (hr : r ∈ allRegs) (i : ℕ) {f : Fld} (hf : f ∈ r.flds) :
    getF (clearRc s r i 0 r.width) f i = if f.acc = .rc then f.reset % 2 ^ f.width else getF s f i := by
  refine (ownField_clearRc i 0 r.width).foldl_field (val := fun old f => if f.acc = .rc then f.reset % 2 ^ f.width else old)
    (fun s f hf => ?_) (nodup_flds hr) s hf
  obtain ⟨hlo, hw⟩ := lo_lt_width hr hf
  by_cases ha : f.acc = .rc
  · rw [if_pos ⟨ha, by omega, by omega⟩, if_pos ha]
    exact getF_setF_same _ _ _ _
  · rw [if_neg fun h => ha h.1, if_neg ha]

theorem readAt_of_meets {s : Dev} {m addr size : ℕ} {h : RegHit} (hm : Meets s m addr size false h) :
    readAt s m addr size = emit (readReg s m (regSpace m addr - h.sub) h size).2
      (.rdata m size (readReg s m (regSpace m addr - h.sub) h size).1) := by
  have hr := hm.reach
  simp [readAt, hm.bar, accessRead, hm.fits, hr, hm.found]

theorem meets_at {s : Dev} {m addr size : ℕ} {w : Bool} {h : RegHit} (hm : Meets s m addr size w h) (t : ℕ) : Meets (s.at t) m addr size w h :=
  ⟨hm.1, hm.2, hm.3, hm.4, hm.5⟩

theorem exec_rcRead_of_meets {s : State} {m : Fin 8} {addr size : ℕ} {h : RegHit} (hm : Meets s.dev m addr size false h) (t : ℕ) :
    exec (.rcRead t m addr size) s = .next { s with dev := readAt (s.dev.at t) m addr size } := by
  have hu : canAccess (s.dev.at t) m = true := hm.up
  show Host.Outcome.next { s with dev := rcRead s.dev t m addr size } = _
  simp [rcRead, hu]

theorem exec_latchedRead_of_meets {s : State} {m : Fin 8} {addr size : ℕ} {h : RegHit} (hm : Meets s.dev m addr size false h) (t : ℕ) :
    exec (.latchedRead t m addr size) s = .next { s with dev := readAt (s.dev.at t) m addr size } := by
  have hu : canAccess (s.dev.at t) m = true := hm.up
  show Host.Outcome.next { s with dev := latchedRead s.dev t m addr size } = _
  simp [latchedRead, hu]

/-- A whole access that a register takes begins at its first byte. -/
theorem sub_of_meets_whole {s : Dev} {m addr size : ℕ} {w : Bool} {h : RegHit} (hm : Meets s m addr size w h) (hw : 8 * size = h.d.width) :
    h.sub = 0 := by
  have hf := hm.fits
  simp only [sizeFits, hm.found, Bool.and_eq_true, Bool.or_eq_true, beq_iff_eq] at hf
  obtain ⟨⟨hsize, -⟩, hf⟩ := hf
  by_cases h32 : h.d.width = 32
  · rw [if_pos h32] at hf
    simp only [Bool.and_eq_true, beq_iff_eq] at hf
    exact hf.2
  · rw [if_neg h32] at hf
    by_cases h64 : h.d.width = 64
    · rw [if_pos h64] at hf
      simp only [Bool.and_eq_true, Bool.or_eq_true, beq_iff_eq] at hf
      omega
    · omega

theorem readReg_whole {s : Dev} {m base size : ℕ} {h : RegHit} (hn : inSnapshot base = false) (hs : h.sub = 0) (hw : 8 * size = h.d.width) :
    readReg s m base h size = (regVal s h.d h.idx, clearRc s h.d h.idx 0 h.d.width) := by
  simp [readReg, hn, hs, hw]

theorem readReg_low {s : Dev} {m base : ℕ} {h : RegHit} (hn : inSnapshot base = false) (hs : h.sub = 0) (hw : h.d.width = 64) :
    readReg s m base h 4 = (bits (regVal s h.d h.idx) 0 32, setLatch (clearRc s h.d h.idx 0 64) m base (some (regVal s h.d h.idx))) := by
  simp [readReg, hn, hs, hw]

theorem readReg_high {s : Dev} {m base v : ℕ} {h : RegHit} (hn : inSnapshot base = false) (hs : h.sub = 4) (hw : h.d.width = 64)
    (hl : latched s m base = some v) : readReg s m base h 4 = (bits v 32 32, setLatch s m base none) := by
  simp [readReg, hn, hs, hw, hl]

@[simp] theorem latched_setLatch_some (s : Dev) (m base v : ℕ) : latched (setLatch s m base (some v)) m base = some v := by
  simp [latched, setLatch]

@[simp] theorem latched_setLatch_none (s : Dev) (m base : ℕ) : latched (setLatch s m base none) m base = none := by
  simp [latched, setLatch]

theorem latched_setLatch_ne (s : Dev) (m : ℕ) {a b : ℕ} (v : Option ℕ) (h : a ≠ b) : latched (setLatch s m a v) m b = latched s m b := by
  unfold latched setLatch latchKey
  dsimp only
  rw [mget_mset_ne _ _ _ _ _ (by omega)]

theorem out_clearRc (s : Dev) (r : RegDef) (i lo n : ℕ) : (clearRc s r i lo n).out = s.out := by
  unfold clearRc
  induction r.flds generalizing s with
  | nil => rfl
  | cons f l ih =>
    rw [List.foldl_cons, ih]
    split <;> rfl

theorem rcRead_answers {s : Dev} {m addr size : ℕ} {h : RegHit} (hm : Meets s m addr size false h) (hw : 8 * size = h.d.width)
    (hn : inSnapshot (regSpace m addr) = false) :
    (readAt s m addr size).out = .rdata m size (regVal s h.d h.idx) :: s.out ∧
      (∀ f ∈ h.d.flds, getF (readAt s m addr size) f h.idx = if f.acc = .rc then f.reset % 2 ^ f.width else getF s f h.idx) ∧
      ∀ g k, (∀ f ∈ h.d.flds, fkey g k ≠ fkey f h.idx) → getF (readAt s m addr size) g k = getF s g k := by
  have hs := sub_of_meets_whole hm hw
  have hr := mem_of_locateReg hm.found
  rw [readAt_of_meets hm, hs, Nat.sub_zero, readReg_whole hn hs hw]
  exact ⟨congrArg _ (out_clearRc _ _ _ _ _), fun f hf => getF_clearRc_whole s hr _ hf, fun g k hg => getF_clearRc_other s _ _ _ _ hg⟩

theorem bits_zero (v w : ℕ) : bits v 0 w = v % 2 ^ w := by simp [bits]

theorem latchedRead_low {s : Dev} {m addr : ℕ} {h : RegHit} (hm : Meets s m addr 4 false h) (hw : h.d.width = 64) (hs : h.sub = 0)
    (hn : inSnapshot (regSpace m addr - h.sub) = false) :
    (readAt s m addr 4).out = .rdata m 4 (regVal s h.d h.idx % 2 ^ 32) :: s.out ∧
      latched (readAt s m addr 4) m (regSpace m addr) = some (regVal s h.d h.idx) := by
  rw [hs, Nat.sub_zero] at hn
  rw [readAt_of_meets hm, hs, Nat.sub_zero, readReg_low hn hs hw, ← bits_zero]
  exact ⟨congrArg _ (out_clearRc _ _ _ _ _), latched_setLatch_some _ _ _ _⟩

theorem latchedRead_high {s : Dev} {m addr v : ℕ} {h : RegHit} (hm : Meets s m addr 4 false h) (hw : h.d.width = 64) (hs : h.sub = 4)
    (hn : inSnapshot (regSpace m addr - h.sub) = false) (hl : latched s m (regSpace m addr - 4) = some v) :
    (readAt s m addr 4).out = .rdata m 4 (v / 2 ^ 32 % 2 ^ 32) :: s.out ∧
      latched (readAt s m addr 4) m (regSpace m addr - 4) = none ∧ ∀ f i, getF (readAt s m addr 4) f i = getF s f i := by
  rw [hs] at hn
  rw [readAt_of_meets hm, hs, readReg_high hn hs hw hl]
  exact ⟨rfl, latched_setLatch_none _ _ _, fun _ _ => rfl⟩

/-! The DPLL snapshot. -/

/-- One register of the snapshot is latched (R73). -/
def snapStep (m : ℕ) (s : Dev) (k : ℕ) : Dev :=
  match locateReg (dpllHfnAt + 8 * k) with
  | none => s
  | some h => setLatch s m (dpllHfnAt + 8 * k) (some (regVal s h.d h.idx))

theorem dpllSnapshot_eq (s : Dev) (m : ℕ) : dpllSnapshot s m = [0, 1, 2, 3, 4].foldl (snapStep m) s := rfl

theorem regVal_snapStep (m : ℕ) (s : Dev) (k : ℕ) (r : RegDef) (i : ℕ) : regVal (snapStep m s k) r i = regVal s r i := by
  unfold snapStep
  split <;> rfl

theorem latched_foldl_snapStep {m k v : ℕ} {h : RegHit} (hl : locateReg (dpllHfnAt + 8 * k) = some h) (l : List ℕ) (s : Dev)
    (hv : regVal s h.d h.idx = v) (hk : k ∈ l ∨ latched s m (dpllHfnAt + 8 * k) = some v) :
    latched (l.foldl (snapStep m) s) m (dpllHfnAt + 8 * k) = some v := by
  induction l generalizing s with
  | nil => simpa using hk
  | cons j l ih =>
    refine ih _ ((regVal_snapStep _ _ _ _ _).trans hv) ?_
    by_cases hj : j = k
    · subst hj
      right
      unfold snapStep
      rw [hl, ← hv]
      exact latched_setLatch_some _ _ _ _
    · refine hk.imp (fun hk => (List.mem_cons.mp hk).resolve_left (Ne.symm hj)) fun hk => ?_
      unfold snapStep
      split
      · exact hk
      · rw [latched_setLatch_ne _ _ _ (by omega)]
        exact hk

theorem out_dpllSnapshot (s : Dev) (m : ℕ) : (dpllSnapshot s m).out = s.out := by
  have key (l : List ℕ) (x : Dev) : (l.foldl (snapStep m) x).out = x.out := by
    induction l generalizing x with
    | nil => rfl
    | cons k l ih =>
      rw [List.foldl_cons, ih]
      unfold snapStep
      split <;> rfl
  exact key _ s

theorem isSome_locateReg_snap {k : ℕ} (hk : k < 5) : (locateReg (dpllHfnAt + 8 * k)).isSome = true := by
  have key : ∀ k < 5, (locateReg (dpllHfnAt + 8 * k)).isSome = true := by decide +kernel
  exact key k hk

theorem latched_dpllSnapshot (s : Dev) (m : ℕ) {k : ℕ} (hk : k < 5) :
    ∃ h, locateReg (dpllHfnAt + 8 * k) = some h ∧ latched (dpllSnapshot s m) m (dpllHfnAt + 8 * k) = some (regVal s h.d h.idx) := by
  obtain ⟨h, hh⟩ := Option.isSome_iff_exists.mp (isSome_locateReg_snap hk)
  refine ⟨h, hh, ?_⟩
  rw [dpllSnapshot_eq]
  exact latched_foldl_snapStep hh _ _ rfl (.inl (by simp only [List.mem_cons, List.not_mem_nil, or_false]; omega))

/-- DPLL_HFN is a whole register that shows the house frame number. -/
theorem locateReg_hfn : ∃ h, locateReg dpllHfnAt = some h ∧ h.sub = 0 ∧ h.d.flds = [F.DPLL_HFN_HFN] := by
  have key : (locateReg dpllHfnAt).map (fun h => (h.sub, h.d.flds)) = some (0, [F.DPLL_HFN_HFN]) := by decide +kernel
  obtain ⟨h, hh, hq⟩ := Option.map_eq_some_iff.mp key
  obtain ⟨hs, hf⟩ := Prod.mk.inj hq
  exact ⟨h, hh, hs, hf⟩

theorem readF_hfn (s : Dev) (i : ℕ) : readF s F.DPLL_HFN_HFN i = hfn s % 2 ^ 64 := rfl

theorem sizeFits_hfn (whole : Bool) : sizeFits dpllHfnAt (if whole then 8 else 4) = true := by
  cases whole <;> decide +kernel

theorem reaches_at (s : Dev) (t m a size : ℕ) (w : Bool) : reaches (s.at t) m a size w = reaches s m a size w := rfl

theorem dpllSnapshotRead_answers {s : Dev} {m : ℕ} {whole : Bool}
    (hr : reaches s m (mtxAddr dpllHfnAt) (if whole then 8 else 4) false = true) :
    accessRead s m dpllHfnAt (if whole then 8 else 4) =
      emit (dpllSnapshot s m) (.rdata m (if whole then 8 else 4) (hfn s % 2 ^ (if whole then 64 else 32))) := by
  obtain ⟨h, hh, hs, hf⟩ := locateReg_hfn
  obtain ⟨h', hh', hlat⟩ := latched_dpllSnapshot s m (k := 0) (by decide)
  obtain rfl : h = h' := Option.some.inj (hh.symm.trans hh')
  have hlat' : latched (dpllSnapshot s m) m dpllHfnAt = some (hfn s % 2 ^ 64) := by
    refine hlat.trans ?_
    simp only [regVal, hf, List.foldl_cons, List.foldl_nil, readF_hfn]
    simp (decide := true) [Fld.lo]
  have hin : inSnapshot dpllHfnAt = true := by decide
  have hq : readReg s m dpllHfnAt h (if whole then 8 else 4) = (hfn s % 2 ^ (if whole then 64 else 32), dpllSnapshot s m) := by
    simp only [readReg, hin, hs, if_true, and_self, hlat', Option.getD_some, Nat.mul_zero]
    cases whole
    · simp [bits_zero]
    · simp [bits_zero]
  simp only [accessRead, sizeFits_hfn, hr, hh, hs, Nat.sub_zero, hq]
  rfl

theorem latched_emit (s : Dev) (o : Out) (m base : ℕ) : latched (emit s o) m base = latched s m base := rfl

/-- Settles O13: the answer, the latch and the cleared fields, for each kind of read. -/
theorem registerReadsLatchAndClear : Obligations.RegisterReadsLatchAndClear := by
  refine ⟨fun s t m addr size h hm hw hn => ⟨_, exec_rcRead_of_meets hm t, rcRead_answers (meets_at hm t) hw hn⟩,
    fun s t m addr h hm hw hn =>
      ⟨fun hs => ⟨_, exec_latchedRead_of_meets hm t, latchedRead_low (meets_at hm t) hw hs hn⟩,
        fun hs v hl => ⟨_, exec_latchedRead_of_meets hm t, latchedRead_high (meets_at hm t) hw hs hn hl⟩⟩,
    fun s t m whole hu hr => ?_⟩
  have hu' : canAccess (s.dev.at t) m = true := hu
  have hd := dpllSnapshotRead_answers ((reaches_at s.dev t m _ _ _).trans hr)
  have hlat := fun k (hk : k < 5) => latched_dpllSnapshot (s.dev.at t) m hk
  have hout := out_dpllSnapshot (s.dev.at t) m
  generalize dpllSnapshot (s.dev.at t) m = x at hd hlat hout
  refine ⟨{ s with dev := dpllSnapshotRead s.dev t m whole }, rfl, ?_⟩
  simp only [dpllSnapshotRead, hu', if_true, hd]
  exact ⟨by rw [← at_out s.dev t, ← hout]; rfl, fun k hk => by rw [latched_emit]; exact hlat k hk⟩

end Sys2Proof.Machine
end

section
/-! Accesses that fail, the control matrix's own registers, and its transactions (R317, R497 to R508). -/

namespace Sys2Proof.Machine

open Sys2Proof.Claims

variable {W : Foot}

/-! Errors of the matrix. -/

/-- A missed heartbeat changes no register of the collector but FLT_MODE. -/
theorem within_react_belayHbMiss (d s : Dev) (t : ℕ) (h : reactFoot.le W = true) (hn : .now ∈ W.parts) :
    Within W d (belayHbMiss s t) ↔ Within W d s := by
  have key : Within { reactFoot with parts := .now :: reactFoot.parts } s (belayHbMiss s t) := by
    unfold belayHbMiss
    simp (decide := true) [↓within_ite, within_react_fence]
  have hle : ({ reactFoot with parts := .now :: reactFoot.parts } : Foot).le W = true := by
    simp only [Foot.le, List.all_cons, Bool.and_eq_true, List.contains_iff_mem] at h ⊢
    exact ⟨h.1, hn, h.2⟩
  exact ⟨fun q => q.trans (key.mono hle).symm, fun q => q.trans (key.mono hle)⟩

/-- What a failed transaction writes before it raises its event: the count, and the latch while it is free (R499). -/
def mtxLatch (s : Dev) (m addr kind : ℕ) (write : Bool) : Dev :=
  let s := satAdd s F.MTX_ERRCNT_COUNT 0 1
  if getF s F.MTX_ERR_INFO_VALID 0 = 1 then s
  else setFs s 0 [(F.MTX_ERR_INFO_VALID, 1), (F.MTX_ERR_INFO_KIND, kind), (F.MTX_ERR_INFO_WRITE, b2n write),
    (F.MTX_ERR_INFO_MASTER, m), (F.MTX_ERR_ADDR_ADDR, addr)]

/-- The other master's own event (R499). -/
def masterFault (s : Dev) (m : ℕ) : Dev :=
  if m = 4 then faultEvent s 32 6 0 else if m = 5 then faultEvent s 33 6 0 else if m = 6 then faultEvent s 34 6 0
  else if m = 7 then belayHbMiss s s.now else s

theorem mtxFail_eq (s : Dev) (m addr kind : ℕ) (write : Bool) :
    mtxFail s m addr kind write = masterFault (faultEvent (mtxLatch s m addr kind write) 41 (if kind = 4 then 5 else 6) 0) m := rfl

theorem fltBit_masterFault {s : Dev} {k : ℕ} (m : ℕ) (hk : k < 48) (h : fltBit s k = true) : fltBit (masterFault s m) k = true := by
  have hb : Within { reactFoot with parts := .now :: reactFoot.parts } s (belayHbMiss s s.now) :=
    (within_react_belayHbMiss s s s.now (by decide) (by decide)).mpr (.refl _ _)
  unfold masterFault
  split
  · exact fltBit_faultEvent_of_set _ _ _ hk h
  split
  · exact fltBit_faultEvent_of_set _ _ _ hk h
  split
  · exact fltBit_faultEvent_of_set _ _ _ hk h
  split
  · exact (hb.fltBit (by decide) k).trans h
  · exact h

theorem within_mtxAnswer_out (s : Dev) (m size : ℕ) (write : Bool) : Within outFoot s (mtxAnswer s m size write) := by
  unfold mtxAnswer
  simp (decide := true) [↓within_ite]

theorem fltBit_mtxError (s : Dev) (m addr size kind : ℕ) (write : Bool) : fltBit (mtxError s m addr size kind write) 41 = true := by
  unfold mtxError
  rw [(within_mtxAnswer_out _ _ _ _).fltBit (by decide), mtxFail_eq]
  exact fltBit_masterFault m (by decide) (fltBit_faultEvent_same _ _ _ _ (by decide))

theorem rdata_mem_mtxError (s : Dev) (m addr size kind : ℕ) : Out.rdata m size (2 ^ (8 * size) - 1) ∈ (mtxError s m addr size kind false).out := by
  unfold mtxError mtxAnswer
  exact List.mem_cons_self

/-! Accesses that fail (R9, R317, R499). -/

/-- A HIF reaches every register address of its BAR0. -/
theorem reaches_hif {m : ℕ} (hm : m = 2 ∨ m = 3) (s : Dev) (addr size : ℕ) (w : Bool) : reaches s m (mtxAddr (regSpace m addr)) size w = true := by
  have ha : regSpace m addr < 0x10000000 := by
    unfold regSpace
    rw [if_pos hm]
    dsimp only
    split <;> omega
  have ht : mtxTarget (mtxAddr (regSpace m addr)) = 3 := by
    unfold mtxTarget mtxAddr
    rw [if_neg (by omega), if_neg (by omega), if_pos (by omega)]
  unfold reaches
  rw [if_neg (by omega), if_pos (by omega), hifReach, ht]
  rfl

theorem accessWrite_miss {s : Dev} {t m a size v : ℕ} (hf : sizeFits a size = true) (hr : reaches s m (mtxAddr a) size true = true)
    (h : locateReg a = none ∨ hifBlocked m a = true) : accessWrite s t m a size v = regMiss s m a size true := by
  simp only [accessWrite, hf, hr, Bool.not_true, Bool.false_eq_true, if_false]
  split
  · rfl
  next q hq =>
    rw [hq] at h
    rw [if_pos (h.resolve_left (by simp))]

theorem accessRead_miss {s : Dev} {m a size : ℕ} (hf : sizeFits a size = true) (hr : reaches s m (mtxAddr a) size false = true)
    (h : locateReg a = none) : accessRead s m a size = regMiss s m a size false := by
  simp only [accessRead, hf, hr, Bool.not_true, Bool.false_eq_true, if_false, h]

theorem fltBit_accessWrite {s : Dev} {t m a size v : ℕ} (h : sizeFits a size = false ∨ reaches s m (mtxAddr a) size true = false) :
    fltBit (accessWrite s t m a size v) 41 = true := by
  unfold accessWrite
  split
  · exact fltBit_mtxError _ _ _ _ _ _
  next hf =>
    have hr := h.resolve_left (by simpa using hf)
    simp only [hr, Bool.not_false, if_true]
    exact fltBit_mtxError _ _ _ _ _ _

theorem accessRead_fails {s : Dev} {m a size : ℕ} (h : sizeFits a size = false ∨ reaches s m (mtxAddr a) size false = false) :
    fltBit (accessRead s m a size) 41 = true ∧ .rdata m size (2 ^ (8 * size) - 1) ∈ (accessRead s m a size).out := by
  unfold accessRead
  split
  · exact ⟨fltBit_mtxError _ _ _ _ _ _, rdata_mem_mtxError _ _ _ _ _⟩
  next hf =>
    have hr := h.resolve_left (by simpa using hf)
    simp only [hr, Bool.not_false, if_true]
    exact ⟨fltBit_mtxError _ _ _ _ _ _, rdata_mem_mtxError _ _ _ _ _⟩

theorem registerWrite_bar0 {s : Dev} {m addr : ℕ} (hu : canAccess s m = true) (hb : hostBar m addr = 0) (t size v : ℕ) :
    registerWrite s t m addr size v = accessWrite (s.at t) t m (regSpace m addr) size v := by
  have hu' : canAccess (s.at t) m = true := hu
  simp [registerWrite, hu', writeAt, hb]

theorem rcRead_bar0 {s : Dev} {m addr : ℕ} (hu : canAccess s m = true) (hb : hostBar m addr = 0) (t size : ℕ) :
    rcRead s t m addr size = accessRead (s.at t) m (regSpace m addr) size := by
  have hu' : canAccess (s.at t) m = true := hu
  simp [rcRead, hu', readAt, hb]

/-- Settles O14: a miss of a HIF counts in its own error counter; a bad size or an address out of reach is an error of the matrix. -/
theorem failedAccessesAreReported : Obligations.FailedAccessesAreReported := by
  refine ⟨fun s t m addr size v hm hu hb hf => ?_, fun s t m addr size v hu hb => ⟨fun h => ⟨_, rfl, ?_⟩, fun h => ⟨_, rfl, ?_⟩⟩⟩
  · have hm' : (m : ℕ) = 2 ∨ (m : ℕ) = 3 := hm.imp (fun h => by rw [h]; rfl) fun h => by rw [h]; rfl
    refine ⟨fun h => ⟨_, rfl, ?_⟩, fun h => ⟨_, rfl, ?_⟩⟩
    · rw [registerWrite_bar0 hu hb, accessWrite_miss hf (reaches_hif hm' _ _ _ _) h]
      simp only [regMiss, hm', if_true]
    · rw [rcRead_bar0 hu hb, accessRead_miss hf (reaches_hif hm' _ _ _ _) h]
      simp only [regMiss, hm', if_true]
      rfl
  · rw [registerWrite_bar0 hu hb]
    exact fltBit_accessWrite (s := s.dev.at t) h
  · rw [rcRead_bar0 hu hb]
    exact accessRead_fails (s := s.dev.at t) h

/-! The matrix's own registers (R500, R503, R508). -/

theorem winWrite_locked {s : Dev} {m : ℕ} (hm : isPp m = true) (hl : getF s F.MTX_CTRL_LOCK 0 = 1) (i : ℕ) (lim : Bool) (v : ℕ) :
    winWrite s m i lim v = setF s F.MTX_STAT_LOCK_ERR 0 1 := by
  simp [winWrite, hm, hl]

theorem winWrite_base {s : Dev} {m : ℕ} (hm : isPp m = true) (hl : getF s F.MTX_CTRL_LOCK 0 = 0) (i v : ℕ) :
    getF (winWrite s m i false v) F.MTX_WIN_BASE_BASE i = bits v 12 36 ∧ getF (winWrite s m i false v) F.MTX_WIN_BASE_W i = bits v 1 1 ∧
      getF (winWrite s m i false v) F.MTX_WIN_BASE_R i = bits v 0 1 := by
  have he : winWrite s m i false v =
      setF (setF (setF s F.MTX_WIN_BASE_BASE i (bits v 12 36)) F.MTX_WIN_BASE_W i (bits v 1 1)) F.MTX_WIN_BASE_R i (bits v 0 1) := by
    simp [winWrite, hm, hl, setFs]
  rw [he]
  refine ⟨?_, ?_, ?_⟩
  · rw [getF_setF_code _ _ _ _ _ _ (by decide), getF_setF_code _ _ _ _ _ _ (by decide), getF_setF_same]
    exact Nat.mod_eq_of_lt (bits_lt _ _ _)
  · rw [getF_setF_code _ _ _ _ _ _ (by decide), getF_setF_same]
    exact Nat.mod_eq_of_lt (bits_lt _ _ _)
  · rw [getF_setF_same]
    exact Nat.mod_eq_of_lt (bits_lt _ _ _)

theorem winWrite_lim {s : Dev} {m : ℕ} (hm : isPp m = true) (hl : getF s F.MTX_CTRL_LOCK 0 = 0) (i v : ℕ) :
    getF (winWrite s m i true v) F.MTX_WIN_LIM_LAST i = bits v 12 36 := by
  have he : winWrite s m i true v = setF s F.MTX_WIN_LIM_LAST i (bits v 12 36) := by simp [winWrite, hm, hl]
  rw [he, getF_setF_same]
  exact Nat.mod_eq_of_lt (bits_lt _ _ _)

theorem mtxWinWrite_eq (s : Dev) (t m : ℕ) (w : Fin 24) (lim : Bool) (v : ℕ) : mtxWinWrite s t m w lim v = winWrite (s.at t) m w lim v :=
  if_pos w.isLt

/-- A field of one bit holds the bit written to it. -/
theorem getF_setF_bit (s : Dev) (f : Fld) (i : ℕ) (v : Fin 2) (hf : f.width = 1) : getF (setF s f i v) f i = v := by
  rw [getF_setF_same, hf]
  exact Nat.mod_eq_of_lt v.isLt

/-- Settles O15: LOCK, the windows and REMAP by the branches of their writes for a policy processor. -/
theorem matrixRegistersAreGuarded : Obligations.MatrixRegistersAreGuarded := by
  intro s t m hm
  refine ⟨gives_of rfl ?_, fun hl => gives_of rfl ?_, fun hl w lim v => gives_of rfl ?_, fun hl w v => ⟨gives_of rfl ?_, gives_of rfl ?_⟩,
    fun v => ⟨fun h0 => gives_of rfl ?_, fun h1 => gives_of rfl ?_, gives_of rfl ?_, gives_of rfl ?_⟩⟩
  · have he : mtxLockWrite s.dev t m (1 : Fin 2) = setF (s.dev.at t) F.MTX_CTRL_LOCK 0 1 := by simp [mtxLockWrite, lockWrite, hm]
    rw [he, getF_setF_same]
    rfl
  · have hl' : getF (s.dev.at t) F.MTX_CTRL_LOCK 0 = 1 := hl
    have he : mtxLockWrite s.dev t m (0 : Fin 2) = setF (s.dev.at t) F.MTX_STAT_LOCK_ERR 0 1 := by simp [mtxLockWrite, lockWrite, hm, hl']
    rw [he, getF_setF_code _ _ _ _ _ _ (by decide), getF_setF_same]
    exact ⟨hl, rfl⟩
  · rw [mtxWinWrite_eq]
    exact winWrite_locked (s := s.dev.at t) hm hl _ _ _
  · rw [mtxWinWrite_eq]
    exact winWrite_base (s := s.dev.at t) hm hl w v
  · rw [mtxWinWrite_eq]
    exact winWrite_lim (s := s.dev.at t) hm hl w v
  · have he : mtxRemapWrite s.dev t m (0 : Fin 4) v = setF (s.dev.at t) F.MTX_CTRL_REMAP_PP0 0 v := by simp [mtxRemapWrite, remapWrite, h0]
    rw [he]
    exact getF_setF_bit _ _ _ v rfl
  · have he : mtxRemapWrite s.dev t m (1 : Fin 4) v = setF (s.dev.at t) F.MTX_CTRL_REMAP_PP1 0 v := by simp [mtxRemapWrite, remapWrite, h1]
    rw [he]
    exact getF_setF_bit _ _ _ v rfl
  · have he : mtxRemapWrite s.dev t m (2 : Fin 4) v = setF (s.dev.at t) F.MTX_CTRL_REMAP_HIF0 0 v := by simp [mtxRemapWrite, remapWrite, hm]
    rw [he]
    exact getF_setF_bit _ _ _ v rfl
  · have he : mtxRemapWrite s.dev t m (3 : Fin 4) v = setF (s.dev.at t) F.MTX_CTRL_REMAP_HIF1 0 v := by simp [mtxRemapWrite, remapWrite, hm]
    rw [he]
    exact getF_setF_bit _ _ _ v rfl

/-! Transactions (R497, R499). -/

theorem mtxLatch_counts (s : Dev) (m addr kind : ℕ) (write : Bool) :
    getF (mtxLatch s m addr kind write) F.MTX_ERRCNT_COUNT 0 = min (getF s F.MTX_ERRCNT_COUNT 0 + 1) (2 ^ F.MTX_ERRCNT_COUNT.width - 1) := by
  have hw : Within { flds := [F.MTX_ERR_INFO_VALID, F.MTX_ERR_INFO_KIND, F.MTX_ERR_INFO_WRITE, F.MTX_ERR_INFO_MASTER, F.MTX_ERR_ADDR_ADDR] }
      (satAdd s F.MTX_ERRCNT_COUNT 0 1) (mtxLatch s m addr kind write) := by
    unfold mtxLatch
    dsimp only
    split
    · exact .refl _ _
    · simp (decide := true)
  rw [hw.fld _ _ (by decide), getF_satAdd_same]

theorem mtxLatch_latches {s : Dev} (hv : getF s F.MTX_ERR_INFO_VALID 0 = 0) {m addr kind : ℕ} (hm : m < 16) (hk : kind < 16) (write : Bool) :
    getF (mtxLatch s m addr kind write) F.MTX_ERR_INFO_VALID 0 = 1 ∧ getF (mtxLatch s m addr kind write) F.MTX_ERR_INFO_KIND 0 = kind ∧
      getF (mtxLatch s m addr kind write) F.MTX_ERR_INFO_MASTER 0 = m ∧ getF (mtxLatch s m addr kind write) F.MTX_ERR_INFO_WRITE 0 = b2n write := by
  have hv' : getF (satAdd s F.MTX_ERRCNT_COUNT 0 1) F.MTX_ERR_INFO_VALID 0 ≠ 1 := by
    rw [getF_satAdd_code _ _ _ _ _ _ (by decide), hv]
    decide
  have he : mtxLatch s m addr kind write = setF (setF (setF (setF (setF (satAdd s F.MTX_ERRCNT_COUNT 0 1) F.MTX_ERR_INFO_VALID 0 1)
      F.MTX_ERR_INFO_KIND 0 kind) F.MTX_ERR_INFO_WRITE 0 (b2n write)) F.MTX_ERR_INFO_MASTER 0 m) F.MTX_ERR_ADDR_ADDR 0 addr := by
    simp only [mtxLatch, hv', if_false]
    rfl
  rw [he]
  refine ⟨?_, ?_, ?_, ?_⟩
  · rw [getF_setF_code _ _ _ _ _ _ (by decide), getF_setF_code _ _ _ _ _ _ (by decide), getF_setF_code _ _ _ _ _ _ (by decide),
      getF_setF_code _ _ _ _ _ _ (by decide), getF_setF_same]
    rfl
  · rw [getF_setF_code _ _ _ _ _ _ (by decide), getF_setF_code _ _ _ _ _ _ (by decide), getF_setF_code _ _ _ _ _ _ (by decide), getF_setF_same]
    exact Nat.mod_eq_of_lt hk
  · rw [getF_setF_code _ _ _ _ _ _ (by decide), getF_setF_same]
    exact Nat.mod_eq_of_lt hm
  · rw [getF_setF_code _ _ _ _ _ _ (by decide), getF_setF_code _ _ _ _ _ _ (by decide), getF_setF_same]
    cases write <;> rfl

/-- An error of a processor or a HIF keeps what its latch wrote. -/
theorem getF_mtxError {s : Dev} {m addr size kind : ℕ} {write : Bool} (hm : m < 4) (f : Fld) (hf : faultFoot.hits (f.code % 262144) = false) :
    getF (mtxError s m addr size kind write) f 0 = getF (mtxLatch s m addr kind write) f 0 := by
  have hmf : ∀ x, masterFault x m = x := fun x => by
    unfold masterFault
    rw [if_neg (by omega), if_neg (by omega), if_neg (by omega), if_neg (by omega)]
  have hw : Within faultFoot (mtxLatch s m addr kind write) (mtxError s m addr size kind write) := by
    unfold mtxError
    rw [mtxFail_eq, hmf]
    exact .trans (by simp (decide := true)) ((within_mtxAnswer_out _ _ _ _).mono (by decide))
  exact hw.fld f 0 hf

theorem reqKind_lt (s : Dev) (r : MtxReq) : reqKind s r < 4 := by
  unfold reqKind
  dsimp only
  split
  · decide
  · split
    · decide
    · split <;> decide

theorem mtxError_latches {s : Dev} (hv : getF s F.MTX_ERR_INFO_VALID 0 = 0) {m addr size kind : ℕ} (hm : m < 4) (hk : kind < 16) (write : Bool) :
    getF (mtxError s m addr size kind write) F.MTX_ERR_INFO_VALID 0 = 1 ∧ getF (mtxError s m addr size kind write) F.MTX_ERR_INFO_KIND 0 = kind ∧
      getF (mtxError s m addr size kind write) F.MTX_ERR_INFO_MASTER 0 = m ∧
      getF (mtxError s m addr size kind write) F.MTX_ERR_INFO_WRITE 0 = b2n write ∧ fltBit (mtxError s m addr size kind write) 41 = true ∧
      getF (mtxError s m addr size kind write) F.MTX_ERRCNT_COUNT 0 =
        min (getF s F.MTX_ERRCNT_COUNT 0 + 1) (2 ^ F.MTX_ERRCNT_COUNT.width - 1) := by
  obtain ⟨h1, h2, h3, h4⟩ := mtxLatch_latches hv (m := m) (addr := addr) (by omega) hk write
  rw [getF_mtxError hm _ (by decide), getF_mtxError hm _ (by decide), getF_mtxError hm _ (by decide), getF_mtxError hm _ (by decide),
    getF_mtxError hm _ (by decide)]
  exact ⟨h1, h2, h3, h4, fltBit_mtxError _ _ _ _ _ _, mtxLatch_counts _ _ _ _ _⟩

/-- A fold over distinct elements of which one alone acts. -/
theorem foldl_of_single {α β : Type} {g : β → α → β} {k : α} (l : List α) (s : β) (hl : l.Nodup) (hk : k ∈ l) (hg : ∀ s, ∀ m, m ≠ k → g s m = s) :
    l.foldl g s = g s k := by
  have id (l : List α) (s : β) (h : k ∉ l) : l.foldl g s = s := by
    induction l generalizing s with
    | nil => rfl
    | cons m l ih =>
      rw [List.mem_cons, not_or] at h
      rw [List.foldl_cons, hg _ _ (Ne.symm h.1)]
      exact ih s h.2
  induction l generalizing s with
  | nil => cases hk
  | cons m l ih =>
    rw [List.nodup_cons] at hl
    rw [List.foldl_cons]
    rcases List.mem_cons.mp hk with rfl | hk
    · exact id l _ hl.1
    · rw [hg s m (fun hm => hl.1 (hm ▸ hk))]
      exact ih s hl.2 hk

theorem failAll_single (s : Dev) {r : MtxReq} (hm : r.master < 8) :
    failAll s [r] = mtxError s r.master r.addr r.size (reqKind s r) r.write := by
  unfold failAll
  rw [foldl_of_single (k := r.master) _ s List.nodup_range (List.mem_range.mpr hm)]
  · simp
  · intro s m h
    simp [Ne.symm h]

theorem isRetired_at (s : Dev) (t : ℕ) (r : MtxReq) : isRetired (s.at t) r = isRetired s r := rfl
theorem reqKind_at (s : Dev) (t : ℕ) (r : MtxReq) : reqKind (s.at t) r = reqKind s r := rfl
theorem physAddr_at (s : Dev) (t m a : ℕ) : physAddr (s.at t) m a = physAddr s m a := rfl

/-- One transaction that fails a check is answered with its error, and no memory changes. -/
theorem mtxTransaction_bad {s : Dev} {r : MtxReq} (hm : r.master < 8) (hr : isRetired s r = false) (hk : reqKind s r ≠ 0) (t : ℕ) (mem : Memory) :
    mtxTransaction s mem t [r] = (mtxError (s.at t) r.master r.addr r.size (reqKind s r) r.write, mem) := by
  have hk0 : (reqKind s r == 0) = false := by simpa using hk
  simp [mtxTransaction, isRetired_at, reqKind_at, hr, hm, hk, hk0, failAll_single _ hm, arbitrate]

/-- One transaction that passes the checks is served at its target. -/
theorem mtxTransaction_good {s : Dev} {r : MtxReq} (hm : r.master < 8) (hr : isRetired s r = false) (hk : reqKind s r = 0) (t : ℕ) (mem : Memory)
    (ht : mtxTarget (physAddr s r.master r.addr) = 2) :
    ∃ x : MtxSt, mtxTransaction s mem t [r] = (serve { s.at t with mtx := x } t mem r, serveMem { s.at t with mtx := x } mem r) := by
  refine ⟨{ s.mtx with last := mset 7 s.mtx.last 2 r.master }, ?_⟩
  have hf : failAll (s.at t) [] = s.at t := by simp [failAll]
  simp [mtxTransaction, List.filter_cons, isRetired_at, reqKind_at, physAddr_at, hr, hm, hk, ht, hf, arbitrate, heads, granted]

theorem serve_write {s : Dev} {r : MtxReq} (hw : r.write = true) (ht : mtxTarget (physAddr s r.master r.addr) = 2) (t : ℕ) (mem : Memory) :
    serve s t mem r = s ∧ serveMem s mem r = writeMem mem (physAddr s r.master r.addr) r.value r.size := by
  simp [serve, serveMem, hw, ht]

theorem serve_read {s : Dev} {r : MtxReq} (hw : r.write = false) (ht : mtxTarget (physAddr s r.master r.addr) = 2)
    (he : engineOwned (physAddr s r.master r.addr) = false) (t : ℕ) (mem : Memory) :
    serve s t mem r = emit s (.rdata r.master r.size (readMem mem (physAddr s r.master r.addr) r.size)) := by
  simp [serve, hw, ht, he]

theorem exec_mtxTransaction (s : State) (t : ℕ) (reqs : List MtxReq) :
    exec (.mtxTransaction t reqs) s =
      .next { s with dev := (mtxTransaction s.dev s.mem t reqs).1, mem := (mtxTransaction s.dev s.mem t reqs).2 } := rfl

/-- Settles O16: one transaction is either served at its target or answered with the error of its first failing check. -/
theorem matrixServesAndReports : Obligations.MatrixServesAndReports := by
  refine ⟨fun s t r hm hr hk ht => ?_, fun s t r hm hr hv => ⟨fun hk => ?_, fun hk => ?_⟩⟩
  · obtain ⟨x, hx⟩ := mtxTransaction_good (by omega) hr hk t s.mem ht
    have he := exec_mtxTransaction s t [r]
    rw [hx] at he
    refine ⟨fun hw => ?_, fun hw ho => ?_⟩
    · obtain ⟨h1, h2⟩ := serve_write (s := { s.dev.at t with mtx := x }) hw ht t s.mem
      rw [h1, h2] at he
      exact ⟨_, he, fun k hkz => mget_writeMem_in _ _ _ _ _ hkz, fun a ha => mget_writeMem_out _ _ _ _ _ ha, fun _ _ => rfl⟩
    · rw [serve_read (s := { s.dev.at t with mtx := x }) hw ht ho t s.mem] at he
      exact ⟨_, he, rfl, fun _ _ => rfl⟩
  · obtain ⟨h1, h2, h3, h4, h5, -⟩ := mtxError_latches (s := s.dev.at t) hv (addr := r.addr) (size := r.size) hm (kind := 4) (by decide) r.write
    have he : mtxTimeout s.dev t r = mtxError (s.dev.at t) r.master r.addr r.size 4 r.write := by
      simp [mtxTimeout, isRetired_at, reqKind_at, hr, hk, Nat.not_le.mpr (show r.master < 8 by omega)]
    refine gives_of rfl ?_
    rw [he]
    exact ⟨h1, h2, h3, h4, h5⟩
  · obtain ⟨h1, h2, h3, h4, h5, h6⟩ := mtxError_latches (s := s.dev.at t) hv (addr := r.addr) (size := r.size) hm
      (Nat.lt_trans (reqKind_lt s.dev r) (by decide)) r.write
    have he := exec_mtxTransaction s t [r]
    rw [mtxTransaction_bad (by omega) hr hk t s.mem] at he
    exact ⟨_, he, rfl, h1, h2, h3, h4, h5, h6⟩

end Sys2Proof.Machine
end

section
/-! The rings: doorbells, acceptance, set-up and signals (R315 to R337). -/

namespace Sys2Proof.Machine

open Sys2Proof.Claims

/-! Doorbells (R318, R321, R331, R334). -/

theorem ringSize_le (l : ℕ) : ringSize l ≤ 2 ^ 16 := by
  unfold ringSize
  split
  · decide
  · split
    · exact le_rfl
    · exact Nat.pow_le_pow_right (by decide) (by omega)

theorem ringSize_pos (l : ℕ) : 0 < ringSize l := Nat.two_pow_pos _

theorem doorbellOk_of_taken {s : Dev} {h r value size : ℕ} (ht : DoorbellTaken s h r value size) : doorbellOk s h r value size = (true, s) := by
  obtain ⟨he, ha, hv⟩ := ht
  simp [doorbellOk, he, ha, Nat.not_le.mpr hv]

theorem doorbellOk_ignored {s : Dev} {h r : ℕ} (hg : getF s F.CRING_CFG_EN (ix h r) = 0 ∨ isAdopted s h r = true) (value size : ℕ) :
    doorbellOk s h r value size = (false, satAdd s F.HIF_ERRCNT_DB_IGNORED h 1) := by
  unfold doorbellOk
  rw [if_pos hg]

theorem commandDoorbell_active {s : Dev} {h r value : ℕ} (h3 : hifState s h = 3) (ht : DoorbellTaken s h r value (cringSize s h r)) :
    commandDoorbell s h r value = setF s F.CRING_PROD_PROD (ix h r) value := by
  simp [commandDoorbell, h3, doorbellOk_of_taken ht]

theorem commandDoorbell_up {s : Dev} {h r value : ℕ} (h2 : hifState s h = 2) (ht : DoorbellTaken s h r value (cringSize s h r)) :
    commandDoorbell s h r value = setRing s h r { ringOf s h r with latch := some value } := by
  simp [commandDoorbell, h2, doorbellOk_of_taken ht]

theorem commandDoorbell_ignored {s : Dev} {h r : ℕ} (h2 : 2 ≤ hifState s h)
    (hg : getF s F.CRING_CFG_EN (ix h r) = 0 ∨ isAdopted s h r = true) (value : ℕ) :
    commandDoorbell s h r value = satAdd s F.HIF_ERRCNT_DB_IGNORED h 1 := by
  simp [commandDoorbell, Nat.not_lt.mpr h2, doorbellOk_ignored hg]

theorem completionDoorbell_active {s : Dev} {h r value : ℕ} (h3 : hifState s h = 3) (ht : DoorbellTaken s h r value (cplSize s h r)) :
    completionDoorbell s h r value = consumeCpl s h r value := by
  simp [completionDoorbell, h3, doorbellOk_of_taken ht]

theorem completionDoorbell_up {s : Dev} {h r value : ℕ} (h2 : hifState s h = 2) (ht : DoorbellTaken s h r value (cplSize s h r)) :
    completionDoorbell s h r value = setRing s h r { ringOf s h r with cplLatch := some value } := by
  simp [completionDoorbell, h2, doorbellOk_of_taken ht]

theorem eventDoorbell_active {s : Dev} {h value : ℕ} (h3 : hifState s h = 3) (he : getF s F.HIF_EVT_CFG_EN h = 1)
    (hv : value < ringSize (getF s F.HIF_EVT_CFG_LOG2_SIZE h)) : eventDoorbell s h value = consumeEvt s h value := by
  simp [eventDoorbell, h3, he, Nat.not_le.mpr hv]

theorem eventDoorbell_up {s : Dev} {h value : ℕ} (h2 : hifState s h = 2) (he : getF s F.HIF_EVT_CFG_EN h = 1)
    (hv : value < ringSize (getF s F.HIF_EVT_CFG_LOG2_SIZE h)) : eventDoorbell s h value = setHif s h { hifOf s h with evtLatch := some value } := by
  simp [eventDoorbell, h2, he, Nat.not_le.mpr hv]

@[simp] theorem ringOf_setRing_same (s : Dev) (h r : ℕ) (x : RingSt) : ringOf (setRing s h r x) h r = x := mget_mset_same _ _ _ _

@[simp] theorem hifOf_setHif_same (s : Dev) (h : ℕ) (x : HifSt) : hifOf (setHif s h x) h = x := mget_mset_same _ _ _ _

/-- Delivery leaves every register but where the completion ring stands. -/
theorem within_of_deliver (s : Dev) (h r : ℕ) : Within cplFoot s (deliver s h r) := (within_deliver _ _ _ _ (by decide)).mpr (.refl _ _)

theorem getF_consumeCpl {s : Dev} {h r value : ℕ} (hv : value < 2 ^ 16) : getF (consumeCpl s h r value) F.CPL_CONS_CONS (ix h r) = value := by
  unfold consumeCpl
  dsimp only
  rw [(within_of_deliver _ _ _).fld _ _ (by decide)]
  show getF (setF s F.CPL_CONS_CONS (ix h r) value) F.CPL_CONS_CONS (ix h r) = value
  rw [getF_setF_same]
  exact Nat.mod_eq_of_lt (Nat.lt_trans hv (by decide))

/-- The completions that a doorbell of `value` passes. -/
def passedCpls (s : Dev) (h r value : ℕ) : List Cpl :=
  (ringOf s h r).entries.take ((value + cplSize s h r - getF s F.CPL_CONS_CONS (ix h r)) % cplSize s h r)

theorem consumed_consumeCpl {s : Dev} {h r value : ℕ} {c : Cpl} (hc : c ∈ passedCpls s h r value) (hd : c.status ≠ stDup) :
    ∀ j ∈ (consumeCpl s h r value).ctl.recs, j.jsn = c.jsn → j.consumed = true := by
  intro j hj hjc
  have hctl : (consumeCpl s h r value).ctl.recs = s.ctl.recs.map fun j =>
      if ((passedCpls s h r value).filterMap fun c => if c.status = stDup then none else some c.jsn).contains j.jsn then { j with consumed := true } else j := by
    unfold consumeCpl
    dsimp only
    rw [(hostOnly_deliver _ _ _).ctl]
    rfl
  rw [hctl, List.mem_map] at hj
  obtain ⟨q, -, rfl⟩ := hj
  have hg : ((passedCpls s h r value).filterMap fun c => if c.status = stDup then none else some c.jsn).contains c.jsn = true := by
    rw [List.contains_iff_mem, List.mem_filterMap]
    exact ⟨c, hc, by rw [if_neg hd]⟩
  split
  · rfl
  next hn =>
    have hq : q.jsn = c.jsn := by rw [if_neg hn] at hjc; exact hjc
    rw [hq] at hn
    exact absurd hg hn

theorem getF_consumeEvt_cons {s : Dev} {h value : ℕ} (hv : value < 2 ^ 16) : getF (consumeEvt s h value) F.HIF_EVT_STAT_CONS h = value := by
  have hw : Within evtFoot (setF s F.HIF_EVT_STAT_CONS h value) (consumeEvt s h value) := by
    unfold consumeEvt
    dsimp only
    split
    · exact .refl _ _
    · simp (decide := true) [↓within_ite]
  rw [hw.fld _ _ (by decide), getF_setF_same]
  exact Nat.mod_eq_of_lt hv

/-! Doorbells by a HIF's own write (R316, R318). -/

theorem canAccess_hif {s : Dev} {m : ℕ} (hu : canAccess s m = true) (t : ℕ) : canAccess (s.at t) m = true := hu

theorem registerWrite_bar2 {s : Dev} {m addr h : ℕ} (hm : m = 2 + h) (hu : canAccess s m = true) (hb : hostBar m addr = 1) (t size v : ℕ) :
    registerWrite s t m addr size v = bar2Write (s.at t) h (addr % 2 ^ 20) size v := by
  have hmh : m - 2 = h := by omega
  simp [registerWrite, canAccess_hif hu, writeAt, hb, hmh]

theorem rcRead_bar2 {s : Dev} {m addr : ℕ} (hu : canAccess s m = true) (hb : hostBar m addr = 1) (t size : ℕ) :
    rcRead s t m addr size = emit (s.at t) (.rdata m size 0) := by
  simp [rcRead, canAccess_hif hu, readAt, hb]

theorem bar2Write_elsewhere {off : ℕ} (ho : off % 4096 ≠ 0 ∨ 0x20000 < off) (s : Dev) (h size v : ℕ) :
    bar2Write s h off size v = satAdd s F.HIF_ERRCNT_DECODE h 1 := by
  unfold bar2Write
  rw [if_pos (by tauto)]

theorem bar2Write_command {size : ℕ} (hs : size = 4 ∨ size = 8) (s : Dev) (h v : ℕ) (r : Fin 16) :
    bar2Write s h (4096 * r) size v = commandDoorbell s h r (v % 2 ^ 32) := by
  unfold bar2Write
  dsimp only
  rw [if_neg (by omega), if_pos (by omega), Nat.mul_div_cancel_left _ (by decide)]

theorem bar2Write_completion {size : ℕ} (hs : size = 4 ∨ size = 8) (s : Dev) (h v : ℕ) (r : Fin 16) :
    bar2Write s h (0x10000 + 4096 * r) size v = completionDoorbell s h r (v % 2 ^ 32) := by
  unfold bar2Write
  dsimp only
  rw [if_neg (by omega), if_neg (by omega), if_pos (by omega), show (0x10000 + 4096 * (r : ℕ)) / 4096 - 16 = r by omega]

theorem bar2Write_event {size : ℕ} (hs : size = 4 ∨ size = 8) (s : Dev) (h v : ℕ) :
    bar2Write s h 0x20000 size v = eventDoorbell s h (v % 2 ^ 32) := by
  unfold bar2Write
  dsimp only
  rw [if_neg (by omega), if_neg (by decide), if_neg (by decide)]

theorem exec_registerWrite (s : State) (t : ℕ) (m : Fin 8) (addr size v : ℕ) :
    exec (.registerWrite t m addr size v) s = .next { s with dev := registerWrite s.dev t m addr size v } := rfl

/-- Settles O17: each doorbell by the HIF's state, and the places of BAR2 by the branches of its decoder. -/
theorem doorbellsAct : Obligations.DoorbellsAct := by
  refine ⟨fun s t h r value => ⟨fun h3 ht => gives_of rfl ?_, fun h2 ht => gives_of rfl ?_, fun h2 => gives_of rfl ?_, fun h2 hg => gives_of rfl ?_⟩,
    fun s t h value => ⟨fun r ht => ⟨fun h3 => gives_of rfl ?_, fun h2 => gives_of rfl ?_⟩,
      fun he hv => ⟨fun h3 => gives_of rfl ?_, fun h2 => gives_of rfl ?_⟩⟩,
    fun s t h m addr size v hm hu hb => ⟨gives_of rfl ?_, fun ho => gives_of rfl ?_, fun hs => ⟨fun r ha => ?_, fun r ha => ?_, fun ha => ?_⟩⟩⟩
  · have ht' : DoorbellTaken (s.dev.at t) h r value (cringSize (s.dev.at t) h r) := ⟨ht.1, ht.2, ht.3⟩
    rw [commandDoorbell_active (s := s.dev.at t) h3 ht']
    refine ⟨?_, fun f i _ hf => getF_setF_code _ _ _ _ _ _ (hf F.CRING_PROD_PROD List.mem_cons_self)⟩
    rw [getF_setF_same]
    exact Nat.mod_eq_of_lt (Nat.lt_of_lt_of_le ht.inside (Nat.le_trans (ringSize_le _) (by decide)))
  · have ht' : DoorbellTaken (s.dev.at t) h r value (cringSize (s.dev.at t) h r) := ⟨ht.1, ht.2, ht.3⟩
    rw [commandDoorbell_up (s := s.dev.at t) h2 ht', ringOf_setRing_same]
    exact ⟨rfl, rfl⟩
  · have h2' : hifState (s.dev.at t) h < 2 := h2
    simp only [commandDoorbell, h2', if_true]
  · exact commandDoorbell_ignored (s := s.dev.at t) h2 hg value
  · have ht' : DoorbellTaken (s.dev.at t) h r value (cplSize (s.dev.at t) h r) := ⟨ht.1, ht.2, ht.3⟩
    rw [completionDoorbell_active (s := s.dev.at t) h3 ht']
    exact ⟨getF_consumeCpl (Nat.lt_of_lt_of_le ht.inside (ringSize_le _)), fun c hc hd => consumed_consumeCpl (s := s.dev.at t) hc hd⟩
  · have ht' : DoorbellTaken (s.dev.at t) h r value (cplSize (s.dev.at t) h r) := ⟨ht.1, ht.2, ht.3⟩
    rw [completionDoorbell_up (s := s.dev.at t) h2 ht', ringOf_setRing_same]
    exact ⟨rfl, rfl⟩
  · rw [eventDoorbell_active (s := s.dev.at t) h3 he hv]
    exact getF_consumeEvt_cons (Nat.lt_of_lt_of_le hv (ringSize_le _))
  · rw [eventDoorbell_up (s := s.dev.at t) h2 he hv, hifOf_setHif_same]
    exact ⟨rfl, rfl⟩
  · exact rcRead_bar2 hu hb t size
  · rw [registerWrite_bar2 hm hu hb]
    exact bar2Write_elsewhere ho _ _ _ _
  · rw [exec_registerWrite, registerWrite_bar2 hm hu hb, ha, bar2Write_command hs]
    rfl
  · rw [exec_registerWrite, registerWrite_bar2 hm hu hb, ha, bar2Write_completion hs]
    rfl
  · rw [exec_registerWrite, registerWrite_bar2 hm hu hb, ha, bar2Write_event hs]
    rfl

end Sys2Proof.Machine
end

section
/-! What a house frame start does beside the commands due at it: shedding, planes that return, reversion and service leave the records of
commands, the pending list, the reference and the frame counted as they are. -/

namespace Sys2Proof.Machine

open Sys2Proof.Claims

variable {W : Foot}

/-- Everything but the records, the pending list, the reference's setting and the frame counter. -/
def calmFoot : Foot := { anyFoot with parts := allParts.filter fun q => !([.recs, .pend, .ref, .timRest] : List Part).contains q }

theorem within_calm_serviceScrub (d s : Dev) (ch : ℕ) (h : calmFoot.le W = true) : Within W d (serviceScrub s ch) ↔ Within W d s := by
  refine Within.skip (V := calmFoot) ?_ h
  unfold serviceScrub
  simp (decide := true) [↓within_ite]

theorem within_calm_tryService (d s : Dev) (h : calmFoot.le W = true) : Within W d (tryService s) ↔ Within W d s := by
  refine Within.skip (V := calmFoot) ?_ h
  unfold tryService
  simp (decide := true) [↓within_ite, within_calm_serviceScrub]

theorem within_calm_openTrial (d s : Dev) (h : calmFoot.le W = true) : Within W d (openTrial s) ↔ Within W d s := by
  refine Within.skip (V := calmFoot) ?_ h
  unfold openTrial
  simp (decide := true) [↓within_ite]

theorem within_calm_reportNoWindow (d s : Dev) (h : calmFoot.le W = true) : Within W d (reportNoWindow s) ↔ Within W d s := by
  refine Within.skip (V := calmFoot) ?_ h
  unfold reportNoWindow
  simp (decide := true) [↓within_ite]

theorem within_calm_enterService (d s : Dev) (h : calmFoot.le W = true) : Within W d (enterService s) ↔ Within W d s := by
  refine Within.skip (V := calmFoot) ?_ h
  unfold enterService
  simp (decide := true) [within_calm_reportNoWindow, within_calm_openTrial, within_calm_tryService]

theorem within_calm_compKindNone (d s : Dev) (p c : ℕ) (h : calmFoot.le W = true) : Within W d (compKindNone s p c) ↔ Within W d s := by
  refine Within.skip (V := calmFoot) ?_ h
  unfold compKindNone
  simp (decide := true)

theorem within_calm_shedItem (d s : Dev) (p reason : ℕ) (i : Item) (h : calmFoot.le W = true) :
    Within W d (shedItem s p reason i) ↔ Within W d s := by
  refine Within.skip (V := calmFoot) ?_ h
  unfold shedItem
  simp (decide := true) [↓within_ite, within_calm_compKindNone]

theorem within_calm_shedWhile (d s : Dev) (p reason : ℕ) (needed : Dev → Bool) (l : List Item) (h : calmFoot.le W = true) :
    Within W d (shedWhile p reason needed l s) ↔ Within W d s := by
  refine Within.skip (V := calmFoot) ?_ h
  induction l generalizing s with
  | nil => rfl
  | cons i r ih =>
    rw [shedWhile]
    split
    · exact .trans ((within_calm_shedItem _ _ _ _ _ (by decide)).mpr (.refl _ _)) (ih _)
    · exact .refl _ _

theorem within_calm_shedPlane (d s : Dev) (p reason : ℕ) (h : calmFoot.le W = true) : Within W d (shedPlane s p reason) ↔ Within W d s := by
  refine Within.skip (V := calmFoot) ?_ h
  unfold shedPlane
  simp (decide := true) [↓within_ite, within_calm_shedWhile]

theorem within_calm_restoreItem (d s : Dev) (p reason : ℕ) (i : ShedItem) (h : calmFoot.le W = true) :
    Within W d (restoreItem s p reason i) ↔ Within W d s := by
  refine Within.skip (V := calmFoot) ?_ h
  unfold restoreItem
  simp (decide := true) [↓within_ite]

theorem within_calm_restoreList (d s : Dev) (p : ℕ) (l : List ShedItem) (h : calmFoot.le W = true) :
    Within W d (restoreList p l s) ↔ Within W d s := by
  refine Within.skip (V := calmFoot) ?_ h
  induction l generalizing s with
  | nil => rfl
  | cons i r ih =>
    rw [restoreList]
    split
    · exact .trans ((within_calm_restoreItem _ _ _ _ _ (by decide)).mpr (.refl _ _)) (ih _)
    · exact .refl _ _

theorem within_calm_shedFrame (d s : Dev) (p : ℕ) (h : calmFoot.le W = true) : Within W d (shedFrame s p) ↔ Within W d s := by
  refine Within.skip (V := calmFoot) ?_ h
  unfold shedFrame restorePlane
  simp (decide := true) [↓within_ite, within_calm_shedPlane, within_calm_restoreList]

theorem within_calm_returnFrame (d s : Dev) (p : ℕ) (h : calmFoot.le W = true) : Within W d (returnFrame s p) ↔ Within W d s := by
  refine Within.skip (V := calmFoot) ?_ h
  unfold returnFrame
  simp (decide := true) [↓within_ite]

theorem within_calm_revertDue (d s : Dev) (n : ℕ) (h : calmFoot.le W = true) : Within W d (revertDue s n) ↔ Within W d s := by
  refine Within.skip (V := calmFoot) ?_ h
  unfold revertDue
  split <;> simp (decide := true) [↓within_ite]

theorem within_calm_timingAll (d s : Dev) (h : calmFoot.le W = true) : Within W d (timingAll s) ↔ Within W d s := by
  refine Within.skip (V := calmFoot) ?_ h
  unfold timingAll
  simp (decide := true)

/-! What comes before the commands of a frame: references and sources that have come or gone. -/

/-- The sources, the synchronisers and the DPLL's registers. -/
def arrivalFoot : Foot := { blks := [blkDpll, blkPln], flds := evtFields, parts := [.out, .host, .refs, .fs, .dst, .plnRest] }

theorem within_arrival_signalReturn (d s : Dev) (obs : List RefObs) (h : arrivalFoot.le W = true) :
    Within W d (signalReturn s obs) ↔ Within W d s := by
  refine Within.skip (V := arrivalFoot) ?_ h
  unfold signalReturn
  simp (decide := true) [↓within_ite]

theorem within_arrival_observe (d s : Dev) (obs : List RefObs) (h : arrivalFoot.le W = true) :
    Within W d (observe s obs) ↔ Within W d s := by
  refine Within.skip (V := arrivalFoot) ?_ h
  unfold observe
  simp (decide := true) [↓within_ite]

theorem within_arrival_ageUnderruns (d s : Dev) (h : arrivalFoot.le W = true) : Within W d (ageUnderruns s) ↔ Within W d s := by
  refine Within.skip (V := arrivalFoot) ?_ h
  unfold ageUnderruns
  simp (decide := true)

theorem within_arrival_syncRefs (d s : Dev) (h : arrivalFoot.le W = true) : Within W d (syncRefs s) ↔ Within W d s := by
  refine Within.skip (V := arrivalFoot) ?_ h
  have hr (s : Dev) (i : ℕ) : Within arrivalFoot s (syncRef s i) := by
    unfold syncRef
    split <;> simp (decide := true)
  unfold syncRefs
  simp (decide := true) [hr]

theorem within_arrival_syncSrc (d s : Dev) (p n : ℕ) (x : SrcSt) (rm mt link ds : ℕ) (skew : Option ℤ) (h : arrivalFoot.le W = true) :
    Within W d (syncSrc s p n x rm mt link ds skew) ↔ Within W d s := by
  refine Within.skip (V := arrivalFoot) ?_ h
  unfold syncSrc
  simp (decide := true)

theorem within_arrival_signalLoss (d s : Dev) (h : arrivalFoot.le W = true) : Within W d (signalLoss s) ↔ Within W d s := by
  refine Within.skip (V := arrivalFoot) ?_ h
  unfold signalLoss
  simp (decide := true) [↓within_ite, within_arrival_syncSrc]

/-! The records of commands, as decisions go on. -/

/-- Records stay but for their decision, and a decision stays. -/
def RecsKept (s u : Dev) : Prop :=
  ∀ n j, recOf s n = some j → ∃ d, recOf u n = some { j with dec := d } ∧ (j.dec.isSome = true → d = j.dec)

theorem RecsKept.refl (s : Dev) : RecsKept s s := fun _ j hj => ⟨j.dec, hj, fun _ => rfl⟩

theorem RecsKept.trans {s u v : Dev} (h : RecsKept s u) (k : RecsKept u v) : RecsKept s v := by
  intro n j hj
  obtain ⟨d, hu, hd⟩ := h n j hj
  obtain ⟨e, hv, he⟩ := k n _ hu
  exact ⟨e, hv, fun hs => (he (by rw [hd hs]; exact hs)).trans (hd hs)⟩

theorem recsKept_of_within {s u : Dev} (h : Within W s u) (hW : .recs ∉ W.parts) : RecsKept s u := fun n j hj =>
  ⟨j.dec, (h.recOf hW n).trans hj, fun _ => rfl⟩

theorem recsKept_decideCmd (s : Dev) (jsn st ap dt : ℕ) : RecsKept s (decideCmd s jsn st ap dt) := by
  cases hj : recOf s jsn with
  | none => rw [show decideCmd s jsn st ap dt = s by simp only [decideCmd, hj]]; exact .refl s
  | some j =>
    by_cases hi : j.dec.isSome || isFollower s
    · rw [show decideCmd s jsn st ap dt = s by simp only [decideCmd, hj, hi, if_true]]; exact .refl s
    · simp only [Bool.or_eq_true, not_or, Bool.not_eq_true, Option.isSome_eq_false_iff, Option.isNone_iff_eq_none] at hi
      intro m q hq
      by_cases hm : m = jsn
      · subst hm
        rw [hj, Option.some.injEq] at hq
        subst hq
        exact ⟨_, recOf_decideCmd hj hi.1 hi.2, fun hs => by rw [hi.1] at hs; cases hs⟩
      · have hjs : j.jsn = jsn := by simpa using List.find?_some hj
        have hrecs : (decideCmd s jsn st ap dt).ctl.recs =
            s.ctl.recs.map fun r => if r.jsn = jsn then { r with dec := some { status := st, applied := ap, detail := dt } } else r := by
          rw [(decideCmd_undecided (st := st) (ap := ap) (dt := dt) hj hi.1 hi.2).ctl]
          simp only [ctlDecided, hjs]
          split <;> rfl
        refine ⟨q.dec, ?_, fun _ => rfl⟩
        have hf := find_map_rec s.ctl.recs m jsn (fun r => { r with dec := some { status := st, applied := ap, detail := dt } }) fun _ => rfl
        unfold recOf at hq ⊢
        rw [hrecs, hf, hq]
        simp [hm]

theorem recsKept_foldl {α : Type} (g : Dev → α → Dev) (h : ∀ s a, RecsKept s (g s a)) (l : List α) (s : Dev) : RecsKept s (l.foldl g s) := by
  induction l generalizing s with
  | nil => exact .refl s
  | cons a r ih => exact (h s a).trans (ih _)

theorem recsKept_sweepUnknown (s : Dev) : RecsKept s (sweepUnknown s) := by
  refine recsKept_foldl _ (fun s j => ?_) _ _
  split
  · exact recsKept_decideCmd _ _ _ _ _
  · exact .refl s

theorem decided_of_recsKept {s u : Dev} {n st ap dt : ℕ} (h : Decided s n st ap dt) (k : RecsKept s u) : Decided u n st ap dt := by
  obtain ⟨j, hj, hd⟩ := h
  obtain ⟨e, hu, he⟩ := k n j hj
  exact ⟨_, hu, (he (by rw [hd]; rfl)).trans hd⟩

/-! A frame with one command that completes in it. -/

/-- Command `jsn` has completed in frame `n`, which is counted, and nothing waits. -/
structure FrameDone (n jsn : ℕ) (d : Dev) : Prop where
  counted : d.tim.lastFrame = n
  empty : d.ctl.pend = []
  decided : Decided d jsn stDone n 0

theorem Within.lastFrame {s u : Dev} (h : Within W s u) (hW : .timRest ∉ W.parts) : u.tim.lastFrame = s.tim.lastFrame := by
  have k : { u.tim with refs := [] } = { s.tim with refs := [] } := h.part .timRest hW
  exact (congrArg TimSt.lastFrame k :)

theorem FrameDone.within {n jsn : ℕ} {s u : Dev} (h : FrameDone n jsn s) (k : Within W s u) (hr : .recs ∉ W.parts) (hp : .pend ∉ W.parts)
    (ht : .timRest ∉ W.parts) : FrameDone n jsn u :=
  ⟨(k.lastFrame ht).trans h.1, (k.pend hp).trans h.2, decided_of_within h.3 k hr⟩

theorem FrameDone.calm {n jsn : ℕ} {s u : Dev} (h : FrameDone n jsn s) (k : Within calmFoot s u) : FrameDone n jsn u :=
  h.within k (by decide) (by decide) (by decide)

theorem FrameDone.sweepUnknown {n jsn : ℕ} {s : Dev} (h : FrameDone n jsn s) : FrameDone n jsn (sweepUnknown s) := by
  have k : Within decFoot s (Machine.sweepUnknown s) := (within_sweepUnknown _ _ (by decide)).mpr (.refl _ _)
  exact ⟨(k.lastFrame (by decide)).trans h.1, (k.pend (by decide)).trans h.2, decided_of_recsKept h.3 (recsKept_sweepUnknown s)⟩

theorem FrameDone.endUntimed {n jsn : ℕ} {s : Dev} (h : FrameDone n jsn s) (m dt : ℕ) : FrameDone n jsn (endUntimed s m dt) := by
  have k := within_decFoot_decideCmd (unpend s m) m stDone (hfn s) dt
  refine ⟨(k.lastFrame (by decide)).trans h.1, (k.pend (by decide)).trans ?_, decided_of_recsKept h.3 (recsKept_decideCmd (unpend s m) _ _ _ _)⟩
  simp [unpend, modCtl, h.2]

theorem FrameDone.bivouacSettle {n jsn : ℕ} {s : Dev} (h : FrameDone n jsn s) : FrameDone n jsn (bivouacSettle s) := by
  unfold Machine.bivouacSettle
  split
  · exact h
  · dsimp only
    split
    · exact (h.calm (by simp (decide := true))).endUntimed _ _
    · exact h

theorem FrameDone.consumedMarks {n jsn : ℕ} {s : Dev} (h : FrameDone n jsn s) : FrameDone n jsn (consumedMarks s) := by
  unfold Machine.consumedMarks
  split
  · exact h
  · refine FrameDone.calm (s := modCtl s fun c => { c with recs := c.recs.map fun r => { r with marked := r.consumed } })
      ⟨h.1, h.2, ?_⟩ (by simp (decide := true))
    obtain ⟨j, hj, hd⟩ := h.3
    refine ⟨{ j with marked := j.consumed }, ?_, hd⟩
    unfold recOf at hj ⊢
    show (List.map _ s.ctl.recs).find? _ = _
    rw [List.find?_map]
    show Option.map _ (List.find? (fun r => r.jsn == jsn) s.ctl.recs) = _
    rw [hj]
    rfl

/-- What follows the commands of a frame start. -/
def frameTail (s : Dev) (n : ℕ) : Dev :=
  let s := revertDue s n
  let s := shedFrame (shedFrame s 0) 1
  let s := returnFrame (returnFrame s 0) 1
  let s := bivouacSettle (enterService (sweepUnknown s))
  timingAll (flushNow (consumedMarks s))

theorem FrameDone.frameTail {n jsn : ℕ} {s : Dev} (h : FrameDone n jsn s) (m : ℕ) : FrameDone n jsn (frameTail s m) := by
  have h1 : FrameDone n jsn (returnFrame (returnFrame (shedFrame (shedFrame (revertDue s m) 0) 1) 0) 1) :=
    h.calm (by simp (decide := true) [within_calm_revertDue, within_calm_shedFrame, within_calm_returnFrame])
  have h2 := (h1.sweepUnknown.calm ((within_calm_enterService _ _ (by decide)).mpr (.refl _ _))).bivouacSettle.consumedMarks
  unfold Machine.frameTail
  dsimp only
  exact h2.calm (by simp (decide := true) [within_calm_timingAll])

/-- What precedes the commands of a frame start. -/
def frameHead (s : Dev) (t : ℕ) (obs : List RefObs) : Dev :=
  let s := signalReturn (observe (s.at t) obs) obs
  signalLoss (syncRefs (ageUnderruns { s with tim := { s.tim with lastFrame := hfn s } }))

theorem houseFrameStart_eq (s : Dev) (t : ℕ) (obs : List RefObs) (h : t % framePeriod s.ctl.ref.rate = 0) :
    houseFrameStart s t obs = frameTail (applyFrame (frameHead s t obs) (hfnAt s t)) (hfnAt s t) := by
  have hw : Within arrivalFoot (s.at t) (signalReturn (observe (s.at t) obs) obs) := by
    simp (decide := true) [within_arrival_signalReturn, within_arrival_observe]
  have hr : (signalReturn (observe (s.at t) obs) obs).ctl.ref = s.ctl.ref := hw.ref (by decide)
  have hn : hfn (signalReturn (observe (s.at t) obs) obs) = hfnAt s t := hw.hfn (by decide) (by decide)
  have hnow : (signalReturn (observe (s.at t) obs) obs).now = t := hw.now (by decide)
  unfold houseFrameStart frameHead
  simp only [hr, h, hn, ne_eq, not_true_eq_false, if_false]
  rfl

theorem within_frameHead (s : Dev) (t : ℕ) (obs : List RefObs) :
    Within { arrivalFoot with parts := .now :: .timRest :: arrivalFoot.parts } s (frameHead s t obs) := by
  unfold frameHead
  simp (decide := true) [within_arrival_signalReturn, within_arrival_observe, within_arrival_signalLoss, within_arrival_syncRefs,
    within_arrival_ageUnderruns]

theorem within_arrivals (s : Dev) : Within arrivalFoot s (signalLoss (syncRefs (ageUnderruns s))) := by
  simp (decide := true) only [within_arrival_signalLoss, within_arrival_syncRefs, within_arrival_ageUnderruns, within_self]

theorem lastFrame_arrivals (s : Dev) : (signalLoss (syncRefs (ageUnderruns s))).tim.lastFrame = s.tim.lastFrame :=
  (within_arrivals s).lastFrame (by decide)

theorem lastFrame_frameHead (s : Dev) (t : ℕ) (obs : List RefObs) : (frameHead s t obs).tim.lastFrame = hfnAt s t := by
  have hw : Within arrivalFoot (s.at t) (signalReturn (observe (s.at t) obs) obs) := by
    simp (decide := true) [within_arrival_signalReturn, within_arrival_observe]
  have hn : hfn (signalReturn (observe (s.at t) obs) obs) = hfnAt s t := hw.hfn (by decide) (by decide)
  unfold frameHead
  rw [lastFrame_arrivals]
  exact hn

/-- The one command that waits for this frame or an earlier one completes. -/
theorem applyFrame_nop {s : Dev} {x : Pend} {j : JRec} {n : ℕ} (hp : s.ctl.pend = [x]) (ho : x.op = 0x00) (hx : x.frame ≤ n)
    (hj : recOf s x.jsn = some j) (hd : j.dec = none) (hf : isFollower s = false) (hl : s.tim.lastFrame = n) :
    FrameDone n x.jsn (applyFrame s n) := by
  have he : applyFrame s n = decideCmd (unpend s x.jsn) x.jsn stDone n 0 := by
    have hfw : firmwareActs 0x00 = false := by decide
    simp [applyFrame, hp, applyOne, Nat.not_lt.mpr hx, hfw, hj, applyAt, ho, applyNop]
  have hjs : j.jsn = x.jsn := by simpa using List.find?_some hj
  have k := within_decFoot_decideCmd (unpend s x.jsn) x.jsn stDone n 0
  rw [he]
  refine ⟨(k.lastFrame (by decide)).trans hl, (k.pend (by decide)).trans ?_, ?_⟩
  · simp [unpend, modCtl, hp]
  · rw [← hjs] at hj ⊢
    exact decided_decideCmd (s := unpend s j.jsn) hj hd hf _ _ _

/-! A change of rate (R50). -/

theorem pend_cancelPend (s : Dev) (x : Pend) : (cancelPend s x).ctl.pend = s.ctl.pend.filter fun q => q.jsn != x.jsn := by
  unfold cancelPend
  have hw (u : Dev) (n st ap dt : ℕ) : (decideCmd u n st ap dt).ctl.pend = u.ctl.pend := (within_decFoot_decideCmd u n st ap dt).pend (by decide)
  dsimp only
  rw [hw]
  split <;> simp [unpend, modCtl]

theorem mem_pend_foldl_cancelPend (l : List Pend) (s : Dev) (q : Pend) :
    q ∈ (l.foldl cancelPend s).ctl.pend ↔ q ∈ s.ctl.pend ∧ ∀ x ∈ l, q.jsn ≠ x.jsn := by
  induction l generalizing s with
  | nil => simp
  | cons x l ih =>
    rw [List.foldl_cons, ih, pend_cancelPend, List.mem_filter, List.forall_mem_cons]
    simp [and_assoc]

/-- No command bound to a frame is left when those that are have been cancelled. -/
theorem atFrame_foldl_cancelPend (s : Dev) {q : Pend} (h : q ∈ (((s.ctl.pend.filter fun q => q.atFrame).foldl cancelPend s)).ctl.pend) :
    q.atFrame = false := by
  obtain ⟨hq, hne⟩ := (mem_pend_foldl_cancelPend _ s q).mp h
  by_contra ha
  exact hne q (List.mem_filter.mpr ⟨hq, by simpa using ha⟩) rfl

/-- The state in which a rate change is written to the registers. -/
def rateSet (s : Dev) (r : ℕ) : Dev :=
  modCtl s fun c => { c with rateWait := none, ref := { c.ref with rate := r },
                             pend := c.pend.map fun q => { q with frame := cdiv (q.frame * framePeriod s.ctl.ref.rate) (framePeriod r) } }

def rateTailFoot : Foot := { loadFoot with blks := [blkDpll] }

theorem within_syncRefs_syncLoads (s : Dev) : Within rateTailFoot s (syncRefs (syncLoads s)) := by
  have hr (s : Dev) (i : ℕ) : Within rateTailFoot s (syncRef s i) := by
    unfold syncRef
    split <;> simp (decide := true)
  unfold syncRefs
  simp (decide := true) [hr]

/-- Settles O23: a frame start runs its one command between what comes and what follows; a rate change cancels what is bound to a frame. -/
theorem framesAndRates : Obligations.FramesAndRates := by
  refine fun s t => ⟨fun obs x j ht hp ho hx hj hd hf _ => gives_of rfl ?_, fun r n hw hn ht htr => gives_of rfl ?_⟩
  · have h := within_frameHead s.dev t obs
    have hq := applyFrame_nop ((h.pend (by decide)).trans hp) ho hx ((h.recOf (by decide) _).trans hj) hd ((h.isFollower (by decide)).trans hf)
      (lastFrame_frameHead s.dev t obs)
    rw [houseFrameStart_eq _ _ _ ht]
    obtain ⟨h1, h2, h3⟩ := hq.frameTail (hfnAt s.dev t)
    exact ⟨h1, h2, h3⟩
  · have he : houseRateChange s.dev t =
        syncRefs (syncLoads (rateSet (((s.dev.at t).ctl.pend.filter fun q => q.atFrame).foldl cancelPend (s.dev.at t)) r)) := by
      unfold houseRateChange
      have hn' : frameStart (s.dev.at t) n ≤ t := hn
      simp only [at_ctl, hw, hn', ht, htr, and_self, if_true]
      rfl
    have hk := fun q => atFrame_foldl_cancelPend (s.dev.at t) (q := q)
    rw [he]
    generalize List.foldl cancelPend (s.dev.at t) _ = u at *
    have k := within_syncRefs_syncLoads (rateSet u r)
    have hw : _ = (rateSet u r).ctl.rateWait := (k.part .ctlRest (by decide)).2.2.2.1
    refine ⟨congrArg (·.rate) (k.ref (by decide)), hw, fun q hq => ?_⟩
    rw [k.pend (by decide)] at hq
    obtain ⟨v, hv, rfl⟩ := List.mem_map.mp hq
    exact hk v hv

/-! House time, the peer's time and the clock monitor (R19, R20, R68). -/

theorem cause_faultEvent (s : Dev) (b cause sub : ℕ) (hc : cause < 256) : getF (faultEvent s b cause sub) F.FLT_CAUSE_CAUSE b = cause := by
  rw [getF_faultEvent_head _ _ _ _ _ _ (by decide) (by decide)]
  unfold faultHead setFs setFs setFs setFs
  rw [getF_setF_code _ _ _ _ _ _ (by decide), getF_setF_same]
  exact Nat.mod_eq_of_lt hc

theorem tim_faultEvent (s : Dev) (b cause sub : ℕ) : (faultEvent s b cause sub).tim = s.tim :=
  Within.tim (W := faultFoot) ((within_faultEvent _ _ _ _ _ (by decide)).mpr (.refl _ _)) (by decide) (by decide)

/-- The run of bad windows of clock `c` after a window. -/
def badRun (s : Dev) (c n : ℕ) : Dev := { s with tim := { s.tim with badWin := mset 0 s.tim.badWin c (min n 3) } }

theorem mget_badRun (s : Dev) (c n : ℕ) : mget 0 (badRun s c n).tim.badWin c = min n 3 := mget_mset_same _ _ _ _

/-- A counted window that leaves `n` bad ones in a row. -/
def clockCounted (s : Dev) (c n : ℕ) : Dev := if n = 2 then faultEvent (badRun s c n) (clockBit c) 0x01 0 else badRun s c n

theorem clockMonitorWindow_counted {s : Dev} {c : ℕ} (hc : (c = 5 ∨ c = 6) → getF s F.BELAY_STAT_ACTIVE_PP 0 = c - 5) (t count : ℕ) :
    clockMonitorWindow s t c count = clockCounted (s.at t) c (if countBad (nominalCount s c) count then mget 0 s.tim.badWin c + 1 else 0) := by
  have hc' : ¬((c = 5 ∨ c = 6) ∧ getF (s.at t) F.BELAY_STAT_ACTIVE_PP 0 ≠ c - 5) := fun h => h.2 (hc h.1)
  unfold clockMonitorWindow
  rw [if_neg hc']
  rfl

theorem clockBit_lt (c : Fin 9) : clockBit c < 48 := by revert c; decide

/-- Settles O21: the snapshots are what their commands write, and the clock monitor by the run of bad windows. -/
theorem timeAndClocksAreKept : Obligations.TimeAndClocksAreKept := by
  refine ⟨fun s t => ⟨gives_of rfl ⟨fun k hk => ?_, rfl⟩, fun peerTime rtt => gives_of rfl ⟨rfl, rfl, rfl⟩⟩, fun s t count c =>
    ⟨fun hc hn => gives_of rfl ?_, fun hc => ⟨fun hb => gives_of rfl ?_, fun hb h0 => gives_of rfl ?_, fun hb h1 => gives_of rfl ?_⟩⟩⟩
  · interval_cases k <;> rfl
  · unfold clockMonitorWindow
    exact if_pos ⟨hc, hn⟩
  · rw [clockMonitorWindow_counted hc, hb]
    exact ⟨mget_badRun _ _ _, rfl⟩
  · rw [clockMonitorWindow_counted hc, if_pos hb, h0]
    exact ⟨mget_badRun _ _ _, rfl⟩
  · rw [clockMonitorWindow_counted hc, if_pos hb, h1, clockCounted, if_pos rfl]
    refine ⟨?_, fltBit_faultEvent_same _ _ _ _ (clockBit_lt c), cause_faultEvent _ _ _ _ (by decide)⟩
    rw [tim_faultEvent]
    exact mget_badRun _ _ _

end Sys2Proof.Machine
end

section
/-! COMMAND_ACCEPT (R325 to R328). -/

namespace Sys2Proof.Machine

open Sys2Proof.Claims

/-! What unknown opcodes and decisions leave. -/

/-- A ring that has stopped stays so, with its cause. -/
def StopKept (s u : Dev) : Prop := ∀ k, mget 0 s.ctl.stop k ≠ 0 → mget 0 u.ctl.stop k = mget 0 s.ctl.stop k

theorem stopKept_ctlDecided (s : Dev) (j : JRec) (d : Dec) (k : ℕ) (hk : mget 0 s.ctl.stop k ≠ 0) :
    mget 0 (ctlDecided s j d).stop k = mget 0 s.ctl.stop k := by
  unfold ctlDecided
  dsimp only
  split
  next h =>
    simp only [Bool.and_eq_true, beq_iff_eq] at h
    exact mget_mset_ne 0 1 _ _ _ fun hk' => hk (by rw [hk']; exact h.2)
  next => rfl

theorem stopKept_decideCmd (s : Dev) (jsn st ap dt : ℕ) : StopKept s (decideCmd s jsn st ap dt) := by
  cases hj : recOf s jsn with
  | none => rw [show decideCmd s jsn st ap dt = s by simp only [decideCmd, hj]]; exact fun _ _ => rfl
  | some j =>
    by_cases hi : j.dec.isSome || isFollower s
    · rw [show decideCmd s jsn st ap dt = s by simp only [decideCmd, hj, hi, if_true]]; exact fun _ _ => rfl
    · simp only [Bool.or_eq_true, not_or, Bool.not_eq_true, Option.isSome_eq_false_iff, Option.isNone_iff_eq_none] at hi
      intro k hk
      rw [(decideCmd_undecided (st := st) (ap := ap) (dt := dt) hj hi.1 hi.2).ctl]
      exact stopKept_ctlDecided s j _ k hk

theorem stopKept_foldl {α : Type} (g : Dev → α → Dev) (h : ∀ s a, StopKept s (g s a)) (l : List α) (s : Dev) : StopKept s (l.foldl g s) := by
  induction l generalizing s with
  | nil => exact fun _ _ => rfl
  | cons a r ih =>
    intro k hk
    have ha := h s a k hk
    exact (ih (g s a) k (by rw [ha]; exact hk)).trans ha

theorem stopKept_sweepUnknown (s : Dev) : StopKept s (sweepUnknown s) := by
  refine stopKept_foldl _ (fun s j => ?_) _ _
  split
  · exact stopKept_decideCmd _ _ _ _ _
  · exact fun _ _ => rfl

theorem within_of_sweepUnknown (s : Dev) : Within decFoot s (sweepUnknown s) := (within_sweepUnknown _ _ (by decide)).mpr (.refl _ _)

theorem Within.lastId {W : Foot} {s u : Dev} (h : Within W s u) (hW : .lastId ∉ W.parts) : u.ctl.lastId = s.ctl.lastId := h.part .lastId hW

/-! The consumer index. -/

theorem within_passCommand_write (s : Dev) (h r : ℕ) :
    Within sigFoot (setF s F.CRING_CONS_CONS (ix h r) ((getF s F.CRING_CONS_CONS (ix h r) + 1) % cringSize s h r)) (passCommand s h r) := by
  unfold passCommand
  simp (decide := true) [↓within_ite]

theorem getF_passCommand (s : Dev) (h r : ℕ) : getF (passCommand s h r) F.CRING_CONS_CONS (ix h r) =
    (getF s F.CRING_CONS_CONS (ix h r) + 1) % cringSize s h r % 2 ^ F.CRING_CONS_CONS.width := by
  rw [(within_passCommand_write s h r).fld _ _ (by decide), getF_setF_same]

/-- A command passed: the consumer index and the ring's write-back. -/
def passFoot : Foot := { flds := [F.CRING_CONS_CONS], parts := [.out, .host] }

theorem within_of_passCommand (s : Dev) (h r : ℕ) : Within passFoot s (passCommand s h r) := by
  unfold passCommand
  simp (decide := true) [↓within_ite]

/-- A duplicate is passed and answered. -/
theorem within_passCommand_acceptDup (s : Dev) (h r id : ℕ) : Within cplFoot (passCommand s h r) (acceptDup s h r id) := by
  unfold acceptDup
  dsimp only
  split
  · simp (decide := true)
  · split <;> simp (decide := true)

/-! A new command. -/

/-- The next JSN and the journal entry of a command, before its record stands. -/
def accepting (s : Dev) (d : Bytes) : Dev := journal (nextJsn s).2 (recBytes d)

/-- The record of a new command stands. -/
def accepted (s : Dev) (h r : ℕ) (d b : Bytes) : Dev :=
  modCtl (accepting s d) fun c => { c with recs := c.recs ++ [mkRec (getF s F.JRN_HEAD_HEAD_JSN 0 + 1) h r d b], lastId := mset 0 c.lastId (16 * h + r) (dCmdId d) }

/-- The peer hears of the record of `jsn` (R359). -/
def heard (s : Dev) (jsn : ℕ) : Dev := if getF s F.JRN_STAT_PEER 0 = 1 then emit s (.peer 2 jsn) else s

theorem acceptNew_eq (s : Dev) (h r : ℕ) (d b : Bytes) :
    acceptNew s h r d b = passCommand (heard (accepted s h r d b) (getF s F.JRN_HEAD_HEAD_JSN 0 + 1)) h r := rfl

theorem within_heard (s : Dev) (jsn : ℕ) : Within outFoot s (heard s jsn) := by
  unfold heard
  simp (decide := true) [↓within_ite]

theorem within_accepted_acceptNew (s : Dev) (h r : ℕ) (d b : Bytes) : Within passFoot (accepted s h r d b) (acceptNew s h r d b) := by
  rw [acceptNew_eq]
  exact ((within_heard _ _).mono (by decide)).trans (within_of_passCommand _ h r)

theorem getF_head_accepting (s : Dev) (d : Bytes) (hw : getF s F.JRN_HEAD_HEAD_JSN 0 + 1 < 2 ^ F.JRN_HEAD_HEAD_JSN.width) :
    getF (accepting s d) F.JRN_HEAD_HEAD_JSN 0 = getF s F.JRN_HEAD_HEAD_JSN 0 + 1 := by
  have h : Within { flds := [F.JRN_STAT_FULL], parts := [.jrn] } (nextJsn s).2 (accepting s d) := by
    unfold accepting journal
    simp (decide := true) [↓within_ite]
  rw [h.fld _ _ (by decide)]
  unfold nextJsn
  dsimp only
  rw [getF_setF_same]
  exact Nat.mod_eq_of_lt hw

theorem within_of_accepting (s : Dev) (d : Bytes) : Within jrnFoot s (accepting s d) := by
  unfold accepting
  simp (decide := true)

theorem recOf_accepted {s : Dev} (hj : ∀ j ∈ s.ctl.recs, j.jsn ≤ getF s F.JRN_HEAD_HEAD_JSN 0) (h r : ℕ) (d b : Bytes) :
    recOf (accepted s h r d b) (getF s F.JRN_HEAD_HEAD_JSN 0 + 1) = some (mkRec (getF s F.JRN_HEAD_HEAD_JSN 0 + 1) h r d b) := by
  have hr : (accepting s d).ctl.recs = s.ctl.recs := (within_of_accepting s d).part .recs (by decide)
  unfold recOf accepted modCtl
  dsimp only
  rw [hr, List.find?_append, List.find?_eq_none.mpr fun j hm => ?_]
  · simp [mkRec]
  · have := hj j hm
    simp only [beq_iff_eq]
    omega

theorem acceptNew_accepts {s : Dev} (hj : ∀ j ∈ s.ctl.recs, j.jsn ≤ getF s F.JRN_HEAD_HEAD_JSN 0)
    (hw : getF s F.JRN_HEAD_HEAD_JSN 0 + 1 < 2 ^ F.JRN_HEAD_HEAD_JSN.width) (h r : ℕ) (d b : Bytes) :
    getF (acceptNew s h r d b) F.JRN_HEAD_HEAD_JSN 0 = getF s F.JRN_HEAD_HEAD_JSN 0 + 1 ∧
      mget 0 (acceptNew s h r d b).ctl.lastId (16 * h + r) = dCmdId d ∧
      getF (acceptNew s h r d b) F.CRING_CONS_CONS (ix h r) = (getF s F.CRING_CONS_CONS (ix h r) + 1) % cringSize s h r % 2 ^ F.CRING_CONS_CONS.width ∧
      recOf (acceptNew s h r d b) (getF s F.JRN_HEAD_HEAD_JSN 0 + 1) = some (mkRec (getF s F.JRN_HEAD_HEAD_JSN 0 + 1) h r d b) := by
  have k := within_accepted_acceptNew s h r d b
  refine ⟨?_, ?_, ?_, ?_⟩
  · rw [k.fld _ _ (by decide)]
    exact getF_head_accepting s d hw
  · rw [k.lastId (by decide)]
    exact mget_mset_same _ _ _ _
  · have ha : Within { flds := [F.JRN_HEAD_HEAD_JSN, F.JRN_STAT_FULL], parts := [.jrn, .recs, .lastId, .out] } s
        (heard (accepted s h r d b) (getF s F.JRN_HEAD_HEAD_JSN 0 + 1)) := by
      refine .trans (((within_of_accepting s d).mono (by decide)).trans ?_) ((within_heard _ _).mono (by decide))
      unfold accepted
      simp (decide := true)
    rw [acceptNew_eq, getF_passCommand]
    unfold cringSize
    rw [ha.fld F.CRING_CONS_CONS _ (by decide), ha.fld F.CRING_CFG_LOG2_SIZE _ (by decide)]
  · rw [k.recOf (by decide)]
    exact recOf_accepted hj h r d b

/-! The three outcomes. -/

/-- The round-robin's place is noted. -/
def turned (s : Dev) (k taken : ℕ) : Dev := { s with host := { s.host with rr := k, rrTaken := taken } }

theorem commandAccept_new {s : Dev} {h r taken : ℕ} (hr : r < 16) (hn : nextRing s = some (16 * h + r, taken)) (hrole : role s ≠ 2) {ack : Bool}
    (hack : getF s F.JRN_STAT_PEER 0 = 1 → ack = true) {d : Bytes} (hid : mget 0 s.ctl.lastId (16 * h + r) < dCmdId d) (b : Bytes) :
    commandAccept s (some (d, b)) ack = acceptNew (turned s (16 * h + r) (taken + 1)) h r d b := by
  have h1 : (16 * h + r) / 16 = h := by omega
  have h2 : (16 * h + r) % 16 = r := by omega
  have h3 : ¬(getF s F.JRN_STAT_PEER 0 = 1 ∧ (!ack) = true) := fun hq => by simp [hack hq.1] at hq
  unfold commandAccept
  rw [hn]
  dsimp only
  rw [h1, h2, if_neg (Nat.not_le.mpr hid), if_neg hrole, if_neg h3]
  rfl

theorem commandAccept_dup {s : Dev} {h r taken : ℕ} (hr : r < 16) (hn : nextRing s = some (16 * h + r, taken)) {d : Bytes}
    (hid : dCmdId d ≤ mget 0 s.ctl.lastId (16 * h + r)) (b : Bytes) (ack : Bool) :
    commandAccept s (some (d, b)) ack = acceptDup (turned s (16 * h + r) taken) h r (dCmdId d) := by
  have h1 : (16 * h + r) / 16 = h := by omega
  have h2 : (16 * h + r) % 16 = r := by omega
  unfold commandAccept
  rw [hn]
  dsimp only
  rw [h1, h2, if_pos hid]
  rfl

theorem commandAccept_failed {s : Dev} {h r taken : ℕ} (hr : r < 16) (hn : nextRing s = some (16 * h + r, taken)) (ack : Bool) :
    commandAccept s none ack = stopDma s h r := by
  have h1 : (16 * h + r) / 16 = h := by omega
  have h2 : (16 * h + r) % 16 = r := by omega
  unfold commandAccept
  rw [hn]
  dsimp only
  rw [h1, h2]

theorem acceptDup_passes (s : Dev) (h r id : ℕ) :
    Within { cplFoot with flds := F.CRING_CONS_CONS :: cplFoot.flds } s (acceptDup s h r id) ∧
      getF (acceptDup s h r id) F.CRING_CONS_CONS (ix h r) =
        (getF s F.CRING_CONS_CONS (ix h r) + 1) % cringSize s h r % 2 ^ F.CRING_CONS_CONS.width := by
  have k := within_passCommand_acceptDup s h r id
  exact ⟨((within_of_passCommand s h r).mono (by decide)).trans (k.mono (by decide)), (k.fld _ _ (by decide)).trans (getF_passCommand s h r)⟩

/-- Settles O18: each outcome of the round-robin's offer, and what the sweep of unknown opcodes leaves of it. -/
theorem commandAcceptActs : Obligations.CommandAcceptActs := by
  intro s t h r ack desc buf ho hrole hack
  obtain ⟨hr, taken, hn⟩ := ho
  refine ⟨fun hid hj hw => ⟨_, rfl, ?_⟩, fun hid => ⟨_, rfl, ?_⟩, gives_of rfl ?_⟩
  · obtain ⟨h1, h2, h3, h4⟩ := acceptNew_accepts (s := turned (s.dev.at t) (16 * h + r) (taken + 1)) hj hw h r desc buf
    rw [commandAccept_new (s := s.dev.at t) hr hn hrole hack hid]
    have k := within_of_sweepUnknown (acceptNew (turned (s.dev.at t) (16 * h + r) (taken + 1)) h r desc buf)
    obtain ⟨d, hd, -⟩ := recsKept_sweepUnknown _ _ _ h4
    rw [k.fld F.JRN_HEAD_HEAD_JSN 0 (by decide), k.fld F.CRING_CONS_CONS _ (by decide), k.lastId (by decide)]
    exact ⟨h1, h2, h3, _, hd, rfl, rfl, rfl⟩
  · obtain ⟨h1, h2⟩ := acceptDup_passes (turned (s.dev.at t) (16 * h + r) taken) h r (dCmdId desc)
    rw [commandAccept_dup (s := s.dev.at t) hr hn hid]
    have k := within_of_sweepUnknown (acceptDup (turned (s.dev.at t) (16 * h + r) taken) h r (dCmdId desc))
    rw [k.fld F.JRN_HEAD_HEAD_JSN 0 (by decide), k.fld F.CRING_CONS_CONS _ (by decide), k.lastId (by decide)]
    exact ⟨h1.fld _ _ (by decide), h1.lastId (by decide), h2⟩
  · rw [commandAccept_failed (s := s.dev.at t) hr hn ack]
    have k := within_of_sweepUnknown (stopDma (s.dev.at t) h r)
    have hs : mget 0 (stopDma (s.dev.at t) h r).ctl.stop (16 * h + r) = 2 :=
      mget_mset_same 0 2 s.dev.ctl.stop _
    rw [k.fld F.CRING_CONS_CONS _ (by decide), k.fld F.HIF_ERRCNT_DMA _ (by decide), k.lastId (by decide)]
    exact ⟨(stopKept_sweepUnknown _ _ (by rw [hs]; decide)).trans hs, getF_satAdd_code _ _ _ _ _ _ (by decide), rfl, getF_satAdd_same _ _ _ _⟩

end Sys2Proof.Machine
end

section
/-! Rings set up, their signals and write-backs, and the MSI-X table (R316 to R337). -/

namespace Sys2Proof.Machine

open Sys2Proof.Claims

/-! Setting up. -/

/-- An adopted ring given back (R333). -/
def takenBack (s : Dev) (h r : ℕ) : Dev :=
  if isAdopted s h r then
    let y := ringOf s (1 - h) r
    setRing (modCtl s fun c => { c with adopted := mset 0 c.adopted (16 * h + r) 0 }) (1 - h) r { y with waiting := y.waiting.filter fun c => c.foreign != 1 }
  else s

theorem isAdopted_takenBack (s : Dev) (h r : ℕ) : isAdopted (takenBack s h r) h r = false := by
  unfold takenBack
  split
  · show (mget 0 (mset 0 s.ctl.adopted (16 * h + r) 0) (16 * h + r) == 1) = false
    rw [mget_mset_same]
    rfl
  next ha => simpa using ha

/-- The registers of a ring that is set up from 0. -/
def ringZeroed (s : Dev) (i : ℕ) : Dev :=
  setFs s i [(F.CRING_CFG_EN, 1), (F.CRING_PROD_PROD, 0), (F.CRING_CONS_CONS, 0), (F.CPL_PROD_PROD, 0), (F.CPL_CONS_CONS, 0)]

theorem getF_ringZeroed (s : Dev) (i : ℕ) : getF (ringZeroed s i) F.CRING_CFG_EN i = 1 ∧ getF (ringZeroed s i) F.CRING_PROD_PROD i = 0 ∧
    getF (ringZeroed s i) F.CRING_CONS_CONS i = 0 ∧ getF (ringZeroed s i) F.CPL_CONS_CONS i = 0 := by
  unfold ringZeroed setFs setFs setFs setFs setFs setFs
  refine ⟨?_, ?_, ?_, ?_⟩
  · rw [getF_setF_code _ _ _ _ _ _ (by decide), getF_setF_code _ _ _ _ _ _ (by decide), getF_setF_code _ _ _ _ _ _ (by decide),
      getF_setF_code _ _ _ _ _ _ (by decide), getF_setF_same]
    rfl
  · rw [getF_setF_code _ _ _ _ _ _ (by decide), getF_setF_code _ _ _ _ _ _ (by decide), getF_setF_code _ _ _ _ _ _ (by decide), getF_setF_same]
    rfl
  · rw [getF_setF_code _ _ _ _ _ _ (by decide), getF_setF_code _ _ _ _ _ _ (by decide), getF_setF_same]
    rfl
  · rw [getF_setF_same]
    rfl

theorem cringEnable_sets {s : Dev} {h r : ℕ} (he : getF s F.CRING_CFG_EN (ix h r) = 0) :
    getF (cringEnable s h r) F.CRING_CFG_EN (ix h r) = 1 ∧ getF (cringEnable s h r) F.CRING_PROD_PROD (ix h r) = 0 ∧
      getF (cringEnable s h r) F.CRING_CONS_CONS (ix h r) = 0 ∧ getF (cringEnable s h r) F.CPL_CONS_CONS (ix h r) = 0 ∧
      isAdopted (cringEnable s h r) h r = false := by
  have hn : ¬getF s F.CRING_CFG_EN (ix h r) = 1 := by rw [he]; decide
  have hq : ∃ x, cringEnable s h r = deliver (setRing (ringZeroed (takenBack s h r) (ix h r)) h r x) h r := by
    unfold cringEnable
    rw [if_neg hn]
    exact ⟨_, rfl⟩
  obtain ⟨x, hx⟩ := hq
  have k := within_of_deliver (setRing (ringZeroed (takenBack s h r) (ix h r)) h r x) h r
  obtain ⟨h1, h2, h3, h4⟩ := getF_ringZeroed (takenBack s h r) (ix h r)
  rw [hx, k.fld F.CRING_CFG_EN _ (by decide), k.fld F.CRING_PROD_PROD _ (by decide), k.fld F.CRING_CONS_CONS _ (by decide),
    k.fld F.CPL_CONS_CONS _ (by decide)]
  refine ⟨h1, h2, h3, h4, ?_⟩
  unfold isAdopted
  rw [k.adopted (by decide), setRing_ctl, ringZeroed, setFs_ctl]
  exact isAdopted_takenBack s h r

theorem hifOf_setF (s : Dev) (f : Fld) (i v h : ℕ) : hifOf (setF s f i v) h = hifOf s h := rfl

/-- The registers of the event ring of HIF `h` that is set up from 0, before its consumer index. -/
def evtZeroed (s : Dev) (h : ℕ) : Dev := setF (setF s F.HIF_EVT_CFG_EN h 1) F.HIF_EVT_STAT_PROD h 0

/-- The event ring of HIF `h` set up from 0. -/
def evtSetUp (s : Dev) (h : ℕ) : Dev := setF (setHif (evtZeroed s h) h { hifOf (evtZeroed s h) h with evtPhase := 1 }) F.HIF_EVT_STAT_CONS h 0

theorem evtRingEnable_eq {s : Dev} {h : ℕ} (he : getF s F.HIF_EVT_CFG_EN h = 0) (hd : (hifOf s h).heldDur = none) :
    evtRingEnable s h = evtSetUp s h := by
  have hn : ¬getF s F.HIF_EVT_CFG_EN h = 1 := by rw [he]; decide
  have hz : (hifOf (evtSetUp s h) h).heldDur = none := by
    unfold evtSetUp
    rw [hifOf_setF, hifOf_setHif_same]
    exact hd
  have hc : consumeEvt (setHif (evtZeroed s h) h { hifOf (evtZeroed s h) h with evtPhase := 1 }) h 0 = evtSetUp s h := by
    unfold consumeEvt
    dsimp only
    rw [show setF _ F.HIF_EVT_STAT_CONS h 0 = evtSetUp s h from rfl, hz]
  unfold evtRingEnable
  rw [if_neg hn]
  exact (ite_congr rfl (fun _ => hc) fun _ => rfl).trans (ite_self _)

theorem evtRingEnable_sets {s : Dev} {h : ℕ} (he : getF s F.HIF_EVT_CFG_EN h = 0) (hd : (hifOf s h).heldDur = none) :
    getF (evtRingEnable s h) F.HIF_EVT_CFG_EN h = 1 ∧ getF (evtRingEnable s h) F.HIF_EVT_STAT_PROD h = 0 ∧
      getF (evtRingEnable s h) F.HIF_EVT_STAT_CONS h = 0 ∧ (hifOf (evtRingEnable s h) h).evtPhase = 1 := by
  rw [evtRingEnable_eq he hd]
  unfold evtSetUp evtZeroed
  refine ⟨?_, ?_, ?_, ?_⟩
  · rw [getF_setF_code _ _ _ _ _ _ (by decide), getF_setHif, getF_setF_code _ _ _ _ _ _ (by decide), getF_setF_same]
    rfl
  · rw [getF_setF_code _ _ _ _ _ _ (by decide), getF_setHif, getF_setF_same]
    rfl
  · rw [getF_setF_same]
    rfl
  · rw [hifOf_setF, hifOf_setHif_same]

/-! Messages (R316, R332). -/

theorem ringOf_sendMsix (s : Dev) (h v k r : ℕ) : ringOf (sendMsix s h v) k r = ringOf s k r := by
  unfold sendMsix
  dsimp only
  split <;> rfl

theorem out_sendMsix_of_open {s : Dev} {h v : ℕ} (hm : vecMasked (hifOf s h) v = false) : (sendMsix s h v).out = .msix h v :: s.out := by
  simp [sendMsix, hm, emit]

theorem sendMsix_of_masked {s : Dev} {h v : ℕ} (hm : vecMasked (hifOf s h) v = true) :
    (sendMsix s h v).out = s.out ∧ bit (hifOf (sendMsix s h v) h).pba v = true := by
  have he : sendMsix s h v = setHif s h { hifOf s h with pba := (hifOf s h).pba ||| 2 ^ v } := by simp [sendMsix, hm]
  rw [he, hifOf_setHif_same, bit_or, bit_two_pow]
  simp

theorem signalRing_signals (s : Dev) (h r : ℕ) : (ringOf (signalRing s h r) h r).unsig = 0 ∧
    (signalRing s h r).out = (sendMsix s h (getF s F.CPL_CFG_VEC (ix h r))).out ∧
    hifOf (signalRing s h r) h = hifOf (sendMsix s h (getF s F.CPL_CFG_VEC (ix h r))) h := by
  refine ⟨?_, rfl, rfl⟩
  unfold signalRing
  rw [ringOf_setRing_same]

theorem coalesceTimer_due {s : Dev} {h r a : ℕ} (h3 : hifState s h = 3) (ha : (ringOf s h r).coalAt = some a)
    (hu : getF s F.CPL_CFG_COAL_US (ix h r) ≠ 0) (ht : a + getF s F.CPL_CFG_COAL_US (ix h r) * 54000 ≤ s.now) :
    coalesceTimer s h r = signalRing s h r := by
  have hd : coalDue s h r = true := by simp [coalDue, ha, hu, ht]
  simp [coalesceTimer, hd, h3]

theorem eventIrqTimer_due {s : Dev} {h : ℕ} (h3 : hifState s h = 3) (hp : (hifOf s h).evtIrqPend = true)
    (ht : ∀ a, (hifOf s h).evtIrqAt = some a → a + getF s F.HIF_EVT_CFG_MIN_US h * 54000 ≤ s.now) :
    eventIrqTimer s h = sendMsix (setHif s h { hifOf s h with evtIrqAt := some s.now, evtIrqPend := false }) h (getF s F.HIF_EVT_CFG_VEC h) := by
  unfold eventIrqTimer
  dsimp only
  rw [hp, h3]
  cases ha : (hifOf s h).evtIrqAt with
  | none => rfl
  | some a => simp [ht a ha]

theorem hifOf_sendMsix (s : Dev) (h v : ℕ) : (hifOf (sendMsix s h v) h).evtIrqAt = (hifOf s h).evtIrqAt ∧
    (hifOf (sendMsix s h v) h).evtIrqPend = (hifOf s h).evtIrqPend := by
  unfold sendMsix
  dsimp only
  split
  · rw [hifOf_setHif_same]
    exact ⟨rfl, rfl⟩
  · exact ⟨rfl, rfl⟩

/-- The two fields of CPL_COALESCE_WRITE are written. -/
def coalSet (s : Dev) (h r us n : ℕ) : Dev := setFs s (ix h r) [(F.CPL_CFG_COAL_US, us), (F.CPL_CFG_COAL_N, n)]

theorem within_coalSet_cplCoalesceWrite (s : Dev) (h r us n : ℕ) : Within sigFoot (coalSet s h r us n) (cplCoalesceWrite s h r us n) := by
  show Within sigFoot (coalSet s h r us n) (if _ then signalRing (coalSet s h r us n) h r else coalSet s h r us n)
  simp (decide := true) [↓within_ite]

theorem getF_coalSet (s : Dev) (h r us n : ℕ) : getF (coalSet s h r us n) F.CPL_CFG_COAL_US (ix h r) = us % 2 ^ F.CPL_CFG_COAL_US.width ∧
    getF (coalSet s h r us n) F.CPL_CFG_COAL_N (ix h r) = n % 2 ^ F.CPL_CFG_COAL_N.width := by
  unfold coalSet setFs setFs setFs
  exact ⟨by rw [getF_setF_code _ _ _ _ _ _ (by decide), getF_setF_same], getF_setF_same _ _ _ _⟩

theorem cplCoalesceWrite_covered {s : Dev} {h r us n : ℕ} (h3 : hifState s h = 3) (h0 : 0 < n) (hn : n < 2 ^ F.CPL_CFG_COAL_N.width)
    (hu : n ≤ (ringOf s h r).unsig) : cplCoalesceWrite s h r us n = signalRing (coalSet s h r us n) h r := by
  have h3' : hifState (coalSet s h r us n) h = 3 := by
    unfold hifState coalSet setFs setFs setFs
    rw [getF_setF_code _ _ _ _ _ _ (by decide), getF_setF_code _ _ _ _ _ _ (by decide)]
    exact h3
  have hc := (getF_coalSet s h r us n).2
  rw [Nat.mod_eq_of_lt hn] at hc
  unfold cplCoalesceWrite
  dsimp only
  rw [if_pos]
  · rfl
  · show (hifState (coalSet s h r us n) h == 3 && (coalDue (coalSet s h r us n) h r ||
      (getF (coalSet s h r us n) F.CPL_CFG_COAL_N (ix h r) != 0 && decide (getF (coalSet s h r us n) F.CPL_CFG_COAL_N (ix h r) ≤ (ringOf s h r).unsig)))) = true
    rw [h3', hc]
    simp [hu, Nat.pos_iff_ne_zero.mp h0]

/-! Write-backs (R325). -/

theorem writeBack_writes {s : Dev} {h r : ℕ} (h3 : hifState s h = 3) (hb : getF s F.HIF_WB_BASE_BASE h ≠ 0) :
    writeBack s h r = setRing (emit s (.dma h (getF s F.HIF_WB_BASE_BASE h * 128 + 8 * r) 8 (getF s F.CRING_CONS_CONS (ix h r)))) h r
      { ringOf s h r with wbPend := false, wbAt := some s.now } := by
  have h3' : getF s F.HIF_STAT_STATE h = 3 := h3
  unfold writeBack
  dsimp only
  rw [if_pos h3', if_neg hb]
  rfl

/-- Ring `r` of HIF `h` has no consumer index waiting, and wrote one last at `a`. -/
def WrittenBack (s : Dev) (h r : ℕ) (a : Option ℕ) : Prop := (ringOf s h r).wbPend = false ∧ (ringOf s h r).wbAt = a

theorem WrittenBack.signalRing {s : Dev} {h r : ℕ} {a : Option ℕ} (k : WrittenBack s h r a) : WrittenBack (signalRing s h r) h r a := by
  unfold WrittenBack Machine.signalRing
  rw [ringOf_setRing_same, ringOf_sendMsix]
  exact k

theorem writtenBack_ite {x y : Dev} {h r : ℕ} {a : Option ℕ} {c : Prop} [Decidable c] (hx : WrittenBack x h r a) (hy : WrittenBack y h r a) :
    WrittenBack (if c then x else y) h r a := by
  split
  · exact hx
  · exact hy

theorem writtenBack_setRing {s x : Dev} {h r : ℕ} {a : Option ℕ} {y : RingSt} (k : WrittenBack s h r a)
    (hy : y.wbPend = (ringOf s h r).wbPend ∧ y.wbAt = (ringOf s h r).wbAt) : WrittenBack (setRing x h r y) h r a := by
  unfold WrittenBack
  rw [ringOf_setRing_same, hy.1, hy.2]
  exact k

theorem WrittenBack.writeCpl {s : Dev} {h r : ℕ} {a : Option ℕ} (k : WrittenBack s h r a) (c : Cpl) : WrittenBack (writeCpl s h r c) h r a := by
  unfold Machine.writeCpl
  simp only [k.1, Bool.false_eq_true, if_false]
  exact writtenBack_ite (WrittenBack.signalRing (writtenBack_setRing k ⟨k.1.symm, rfl⟩)) (writtenBack_setRing k ⟨k.1.symm, rfl⟩)

theorem WrittenBack.deliverList {h r : ℕ} {a : Option ℕ} (l : List Cpl) {s : Dev} (k : WrittenBack s h r a) :
    WrittenBack (deliverList h r l s).1 h r a := by
  induction l generalizing s with
  | nil => exact k
  | cons c l ih =>
    unfold Machine.deliverList
    split
    · exact ih (k.writeCpl c)
    · exact ih k

theorem WrittenBack.deliver {s : Dev} {h r : ℕ} {a : Option ℕ} (k : WrittenBack s h r a) (hh : h < 2) : WrittenBack (deliver s h r) h r a := by
  unfold Machine.deliver
  rw [if_neg (Nat.not_le.mpr hh)]
  dsimp only
  have hq := WrittenBack.deliverList (ringOf s h r).waiting k
  show WrittenBack (setRing _ h r _) h r a
  unfold WrittenBack
  rw [ringOf_setRing_same]
  exact hq

theorem out_deliver_of_empty {s : Dev} {h r : ℕ} (hh : h < 2) (hw : (ringOf s h r).waiting = []) : (deliver s h r).out = s.out := by
  unfold deliver
  rw [if_neg (Nat.not_le.mpr hh), hw]
  rfl

theorem writebackWrite_due {s : Dev} {h r : ℕ} (hp : (ringOf s h r).wbPend = true) (ht : ∀ a, (ringOf s h r).wbAt = some a → a + 54000 ≤ s.now) :
    writebackWrite s h r = deliver (writeBack s h r) h r := by
  unfold writebackWrite
  dsimp only
  rw [hp]
  cases ha : (ringOf s h r).wbAt with
  | none => rfl
  | some a => simp [ht a ha]

theorem writebackWrite_writes {s : Dev} {h r : ℕ} (hh : h < 2) (h3 : hifState s h = 3) (hp : (ringOf s h r).wbPend = true)
    (ht : ∀ a, (ringOf s h r).wbAt = some a → a + 54000 ≤ s.now) (hb : getF s F.HIF_WB_BASE_BASE h ≠ 0) :
    .dma h (getF s F.HIF_WB_BASE_BASE h * 128 + 8 * r) 8 (getF s F.CRING_CONS_CONS (ix h r)) ∈ (writebackWrite s h r).out ∧
      WrittenBack (writebackWrite s h r) h r (some s.now) ∧
      ((ringOf s h r).waiting = [] → (writebackWrite s h r).out =
        .dma h (getF s F.HIF_WB_BASE_BASE h * 128 + 8 * r) 8 (getF s F.CRING_CONS_CONS (ix h r)) :: s.out) := by
  rw [writebackWrite_due hp ht, writeBack_writes h3 hb]
  refine ⟨(hostOnly_deliver _ _ _).grows _ List.mem_cons_self, WrittenBack.deliver ?_ hh, fun hw => ?_⟩
  · unfold WrittenBack
    rw [ringOf_setRing_same]
    exact ⟨rfl, rfl⟩
  · rw [out_deliver_of_empty hh (by rw [ringOf_setRing_same]; exact hw)]
    rfl

/-! The MSI-X table (R316). -/

/-- Taking away a bit that is set clears it and leaves the others. -/
theorem bit_sub_two_pow {n w : ℕ} (h : bit n w = true) (k : ℕ) : bit (n - 2 ^ w) k = (bit n k && decide (k ≠ w)) := by
  obtain ⟨q, hq⟩ : ∃ q, n / 2 ^ w = 2 * q + 1 := ⟨n / 2 ^ w / 2, by unfold bit at h; rw [beq_iff_eq] at h; omega⟩
  have hn := Nat.div_add_mod n (2 ^ w)
  have hb : n % 2 ^ w < 2 ^ w := Nat.mod_lt _ (Nat.two_pow_pos w)
  rw [hq] at hn
  have hs : n - 2 ^ w = 2 ^ w * (2 * q) + n % 2 ^ w := by
    rw [Nat.mul_add] at hn
    omega
  rw [hs, bit_eq_testBit, bit_eq_testBit, Nat.testBit_two_pow_mul_add _ hb]
  conv_rhs => rw [← hn, Nat.testBit_two_pow_mul_add _ hb]
  split
  next hk => simp [Nat.ne_of_lt hk]
  next hk =>
    obtain ⟨m, rfl⟩ := Nat.exists_eq_add_of_le (Nat.not_lt.mp hk)
    cases m with
    | zero => simp
    | succ m =>
      rw [Nat.add_sub_cancel_left, Nat.testBit_succ, Nat.testBit_succ, show 2 * q / 2 = q by omega, show (2 * q + 1) / 2 = q by omega]
      simp

theorem vecMasked_setMsixWord (s : Dev) {h v : ℕ} (hv : v < 64) (x : ℕ) :
    vecMasked (hifOf (setMsixWord s h (4 * v + 3) x) h) v = bit (x % 2) 0 := by
  unfold setMsixWord vecMasked
  dsimp only
  rw [if_pos (by omega), hifOf_setHif_same]
  dsimp only
  rw [mget_mset_same, if_pos (by omega)]

theorem pba_setMsixWord (s : Dev) (h i x : ℕ) : (hifOf (setMsixWord s h i x) h).pba = (hifOf s h).pba := by
  unfold setMsixWord
  dsimp only
  split
  · rw [hifOf_setHif_same]
  · rfl

/-- What is sent of vector `v` where its message waits and it is open. -/
def sendVec (h : ℕ) (s : Dev) (v : ℕ) : Dev :=
  if bit (hifOf s h).pba v && !vecMasked (hifOf s h) v then
    emit (setHif s h { hifOf s h with pba := (hifOf s h).pba - 2 ^ v }) (.msix h v)
  else s

theorem sendPending_eq (s : Dev) (h : ℕ) : sendPending s h = (List.range 64).foldl (sendVec h) s := rfl

theorem table_sendVec (h : ℕ) (s : Dev) (v : ℕ) : (hifOf (sendVec h s v) h).table = (hifOf s h).table := by
  unfold sendVec
  split
  · show (hifOf (setHif s h _) h).table = _
    rw [hifOf_setHif_same]
  · rfl

theorem vecMasked_sendVec (h : ℕ) (s : Dev) (v w : ℕ) : vecMasked (hifOf (sendVec h s v) h) w = vecMasked (hifOf s h) w := by
  unfold vecMasked
  rw [table_sendVec]

theorem vecMasked_foldl_sendVec (h w : ℕ) (l : List ℕ) (s : Dev) : vecMasked (hifOf (l.foldl (sendVec h) s) h) w = vecMasked (hifOf s h) w := by
  induction l generalizing s with
  | nil => rfl
  | cons v l ih => exact (ih _).trans (vecMasked_sendVec h s v w)

theorem bit_pba_sendVec (h : ℕ) (s : Dev) (v w : ℕ) : bit (hifOf (sendVec h s v) h).pba w =
    (bit (hifOf s h).pba w && (decide (w ≠ v) || vecMasked (hifOf s h) v)) := by
  unfold sendVec
  split
  next hc =>
    simp only [Bool.and_eq_true, Bool.not_eq_true'] at hc
    show bit (hifOf (setHif s h { hifOf s h with pba := (hifOf s h).pba - 2 ^ v }) h).pba w = _
    rw [hifOf_setHif_same, bit_sub_two_pow hc.1, hc.2, Bool.or_false]
  next hc =>
    by_cases hw : w = v
    · subst hw
      revert hc
      cases bit (hifOf s h).pba w <;> cases vecMasked (hifOf s h) w <;> simp
    · simp [hw]

theorem out_sendVec (h : ℕ) (s : Dev) (v : ℕ) {o : Out} (ho : o ∈ s.out) : o ∈ (sendVec h s v).out := by
  unfold sendVec
  split
  · exact List.mem_cons_of_mem _ ho
  · exact ho

/-- The message of an open vector that waits is sent, and waits no more. -/
theorem sends_foldl_sendVec {h v : ℕ} (l : List ℕ) {s : Dev} (hm : vecMasked (hifOf s h) v = false)
    (hv : v ∈ l ∧ bit (hifOf s h).pba v = true ∨ .msix h v ∈ s.out ∧ bit (hifOf s h).pba v = false) :
    .msix h v ∈ (l.foldl (sendVec h) s).out ∧ bit (hifOf (l.foldl (sendVec h) s) h).pba v = false := by
  induction l generalizing s with
  | nil => simpa using hv
  | cons w l ih =>
    refine ih ((vecMasked_sendVec h s w v).trans hm) ?_
    rw [bit_pba_sendVec]
    by_cases hw : v = w
    · subst hw
      right
      rcases hv with ⟨-, hb⟩ | ⟨ho, hb⟩
      · simp [sendVec, hb, hm, emit]
      · exact ⟨out_sendVec h s v ho, by simp [hb]⟩
    · rcases hv with ⟨hl, hb⟩ | ⟨ho, hb⟩
      · exact .inl ⟨(List.mem_cons.mp hl).resolve_left hw, by simp [hb, hw]⟩
      · exact .inr ⟨out_sendVec h s w ho, by simp [hb]⟩

theorem registerWrite_msix {s : Dev} {m addr h v : ℕ} (h3 : hifState s h = 3) (hm : m = 2 + h) (hb : hostBar m addr = 2)
    (ha : addr % 2 ^ 12 = 16 * v + 12) (t x : ℕ) :
    registerWrite s t m addr 4 x = sendPending (setMsixWord (s.at t) h (4 * v + 3) x) h := by
  have hmh : m - 2 = h := by omega
  have hu : canAccess (s.at t) m = true := by
    have h3' : hifState (s.at t) h = 3 := h3
    unfold canAccess
    split
    · simp [hmh, h3']
    · rfl
  have h3' : hifState (setMsixWord (s.at t) h (4 * v + 3) x) h = 3 := by
    unfold setMsixWord
    dsimp only
    split <;> exact h3
  have ha' : addr % 4096 = 16 * v + 12 := ha
  have hi : addr % 4096 / 4 = 4 * v + 3 := by omega
  have hmod : addr % 4 = 0 := by omega
  simp [registerWrite, hu, writeAt, hb, hmh, msixWrite, hi, hmod, h3']

theorem setsUp (s : State) (t : ℕ) (h : Fin 2) (r : Fin 16) :
     (getF s.dev F.CRING_CFG_EN (ix h r) = 0 → Gives (.cringEnable t h r) s fun d =>
       getF d F.CRING_CFG_EN (ix h r) = 1 ∧ getF d F.CRING_PROD_PROD (ix h r) = 0 ∧ getF d F.CRING_CONS_CONS (ix h r) = 0 ∧
       getF d F.CPL_CONS_CONS (ix h r) = 0 ∧ isAdopted d h r = false) ∧
     (Gives (.cringDisable t h r) s fun d => getF d F.CRING_CFG_EN (ix h r) = 0 ∧
       ∀ f i, fkey f i ≠ fkey F.CRING_CFG_EN (ix h r) → getF d f i = getF s.dev f i) ∧
     (Gives (.cringResume t h r) s fun d => mget 0 d.ctl.stop (16 * h + r) = 0 ∧
       (∀ k, k ≠ 16 * (h : Nat) + r → mget 0 d.ctl.stop k = mget 0 s.dev.ctl.stop k) ∧ d.regs = s.dev.regs) ∧
     (getF s.dev F.HIF_EVT_CFG_EN h = 0 → (hifOf s.dev h).heldDur = none → Gives (.evtRingEnable t h) s fun d =>
       getF d F.HIF_EVT_CFG_EN h = 1 ∧ getF d F.HIF_EVT_STAT_PROD h = 0 ∧ getF d F.HIF_EVT_STAT_CONS h = 0 ∧ (hifOf d h).evtPhase = 1) := by
  refine ⟨fun he => gives_of rfl (cringEnable_sets (s := s.dev.at t) he), gives_of rfl ⟨getF_setF_same _ _ _ _, fun f i hf => getF_setF_fkey hf⟩,
    gives_of rfl ⟨mget_mset_same 0 0 s.dev.ctl.stop _, fun k hk => mget_mset_ne 0 0 s.dev.ctl.stop _ k hk, rfl⟩,
    fun he hd => gives_of rfl (evtRingEnable_sets (s := s.dev.at t) he hd)⟩

/-- Settles O19: set-up by what it writes, signals and write-backs by their ring's state, and the MSI-X table vector by vector. -/
theorem ringsSetUpAndSignal : Obligations.RingsSetUpAndSignal := by
  refine ⟨setsUp, fun s t h r h3 => ⟨fun hp ht hb => gives_of rfl ?_, fun a ha hu ht => gives_of rfl ?_, fun hp ht => gives_of rfl ?_,
    fun us n => gives_of rfl ?_, fun m addr v hm hb ha => ⟨gives_of rfl ?_, fun hp => gives_of rfl ?_⟩⟩⟩
  · obtain ⟨h1, ⟨h2, h4⟩, h5⟩ := writebackWrite_writes (s := s.dev.at t) h.isLt h3 hp ht hb
    exact ⟨h1, h2, h4, h5⟩
  · obtain ⟨h1, h2, h4⟩ := signalRing_signals (s.dev.at t) h r
    rw [coalesceTimer_due (s := s.dev.at t) h3 ha hu ht, h1, h2, h4]
    exact ⟨rfl, fun hm => out_sendMsix_of_open (s := s.dev.at t) hm, fun hm => sendMsix_of_masked (s := s.dev.at t) hm⟩
  · rw [eventIrqTimer_due (s := s.dev.at t) h3 hp ht, (hifOf_sendMsix _ _ _).1, (hifOf_sendMsix _ _ _).2, hifOf_setHif_same]
    exact ⟨rfl, rfl, fun hm => out_sendMsix_of_open (by rw [hifOf_setHif_same]; exact hm)⟩
  · have k := within_coalSet_cplCoalesceWrite (s.dev.at t) h r us n
    obtain ⟨h1, h2⟩ := getF_coalSet (s.dev.at t) h r us n
    refine ⟨(k.fld _ _ (by decide)).trans h1, (k.fld _ _ (by decide)).trans h2, fun h0 hn hu hm => ?_⟩
    have hv : getF (coalSet (s.dev.at t) h r us n) F.CPL_CFG_VEC (ix h r) = getF s.dev F.CPL_CFG_VEC (ix h r) := by
      unfold coalSet setFs setFs setFs
      rw [getF_setF_code _ _ _ _ _ _ (by decide), getF_setF_code _ _ _ _ _ _ (by decide), getF_at]
    obtain ⟨h4, h5, -⟩ := signalRing_signals (coalSet (s.dev.at t) h r us n) h r
    rw [cplCoalesceWrite_covered (s := s.dev.at t) h3 h0 hn hu, h5, hv,
      out_sendMsix_of_open (s := coalSet (s.dev.at t) h r us n) (by simpa [hifOf, coalSet] using hm)]
    exact ⟨List.mem_cons_self, h4⟩
  · rw [registerWrite_msix h3 hm hb ha, sendPending_eq, vecMasked_foldl_sendVec, vecMasked_setMsixWord _ v.isLt]
    rfl
  · rw [registerWrite_msix h3 hm hb ha, sendPending_eq]
    have ho : vecMasked (hifOf (setMsixWord (s.dev.at t) h (4 * v + 3) 0) h) v = false := by
      rw [vecMasked_setMsixWord _ v.isLt]
      rfl
    obtain ⟨h1, h2⟩ := sends_foldl_sendVec (List.range 64) ho
      (.inl ⟨List.mem_range.mpr v.isLt, by rw [pba_setMsixWord]; exact hp⟩)
    exact ⟨(vecMasked_foldl_sendVec _ _ _ _).trans ho, h1, h2⟩

end Sys2Proof.Machine
end

section
/-! The kind of a source (R42 to R47). -/

namespace Sys2Proof.Machine

open Sys2Proof.Claims

/-- Source `n` with its kind as it is shown in the registers. -/
def srcShown (s : Dev) (p n : ℕ) (x : SrcSt) (rm mt link ds : ℕ) (skew : Option ℤ) : Dev := syncFsStat (syncSrc s p n x rm mt link ds skew) p n

theorem getF_srcShown (s : Dev) (p n : ℕ) (x : SrcSt) (rm mt link ds : ℕ) (skew : Option ℤ) :
    getF (srcShown s p n x rm mt link ds skew) F.PLN_SRCSTAT_KIND (ix p n) = x.kind % 8 ∧
      getF (srcShown s p n x rm mt link ds skew) F.PLN_SRCSTAT_RATE_MISMATCH (ix p n) = rm % 2 ∧
      getF (srcShown s p n x rm mt link ds skew) F.PLN_SRCSTAT_MISTIMED (ix p n) = mt % 2 := by
  have k : Within { flds := [F.PLN_FSSTAT_PRIO, F.PLN_FSSTAT_SHEDDABLE, F.PLN_FSSTAT_MODE, F.PLN_FSSTAT_SHED, F.PLN_FSSTAT_PAGES] }
      (syncSrc s p n x rm mt link ds skew) (srcShown s p n x rm mt link ds skew) := by
    unfold srcShown syncFsStat
    simp (decide := true)
  rw [k.fld F.PLN_SRCSTAT_KIND _ (by decide), k.fld F.PLN_SRCSTAT_RATE_MISMATCH _ (by decide), k.fld F.PLN_SRCSTAT_MISTIMED _ (by decide)]
  unfold syncSrc
  simp only [setFs]
  refine ⟨?_, ?_, ?_⟩
  · rw [getF_setF_code _ _ _ _ _ _ (by decide), getF_setF_code _ _ _ _ _ _ (by decide), getF_setF_code _ _ _ _ _ _ (by decide),
      getF_setF_code _ _ _ _ _ _ (by decide), getF_setF_code _ _ _ _ _ _ (by decide), getF_setF_code _ _ _ _ _ _ (by decide),
      getF_setF_code _ _ _ _ _ _ (by decide), getF_setF_code _ _ _ _ _ _ (by decide), getF_setF_code _ _ _ _ _ _ (by decide), getF_setF_same]
    rfl
  · rw [getF_setF_code _ _ _ _ _ _ (by decide), getF_setF_code _ _ _ _ _ _ (by decide), getF_setF_code _ _ _ _ _ _ (by decide), getF_setF_same]
    rfl
  · rw [getF_setF_code _ _ _ _ _ _ (by decide), getF_setF_code _ _ _ _ _ _ (by decide), getF_setF_same]
    rfl

/-- The source's state is observed: no signal, or its format is counted (R43). -/
def srcSeen (x : SrcSt) (o : SrcObs) : SrcSt :=
  if !o.signal then { x with signal := false, newCount := 0 }
  else countFmt { x with signal := true, off := o.offset.getD x.off } o.complete o.fmt o.iface o.frac o.samp o.enc

/-- The source's state once a mode change that is due has come into force (R97). -/
def srcMoved (s : Dev) (p n : ℕ) : SrcSt :=
  match (srcSt s p n).modeAt with
  | none => srcSt s p n
  | some a =>
    if a.1 ≤ s.now then { srcSt s p n with mode := effMode s p n, slip := (fsCfgOf s (pkey s p n)).slipHyst,
                                           res := (fsCfgOf s (pkey s p n)).resIface, modeAt := none, was := none }
    else srcSt s p n

/-- The kind of the source in state `x` where it is not held is put in force and shown. -/
def srcPut (s : Dev) (p n : ℕ) (o : SrcObs) (x : SrcSt) (w : Bool) : Dev :=
  let k := kindTable s p n x
  let x := if k.1 = 0 ∧ !x.signal then { x with known := false } else x
  let old := x.kind
  let x := { x with kind := k.1 }
  let s := { s with pln := { s.pln with src := mset {} s.pln.src (ix p n) x } }
  let s := srcShown (enterKind s p n old k.1 x) p n x k.2.1 k.2.2 o.link o.ds o.skew
  if w then syncLoad s p else s

theorem getF_srcPut (s : Dev) (p n : ℕ) (o : SrcObs) (x : SrcSt) (w : Bool) :
    getF (srcPut s p n o x w) F.PLN_SRCSTAT_KIND (ix p n) = (kindTable s p n x).1 % 8 ∧
      getF (srcPut s p n o x w) F.PLN_SRCSTAT_RATE_MISMATCH (ix p n) = (kindTable s p n x).2.1 % 2 ∧
      getF (srcPut s p n o x w) F.PLN_SRCSTAT_MISTIMED (ix p n) = (kindTable s p n x).2.2 % 2 := by
  unfold srcPut
  dsimp only
  generalize enterKind _ p n _ _ _ = u
  have k (v : Dev) : Within loadFoot v (if w then syncLoad v p else v) := by simp (decide := true) [↓within_ite]
  rw [(k _).fld F.PLN_SRCSTAT_KIND _ (by decide), (k _).fld F.PLN_SRCSTAT_RATE_MISMATCH _ (by decide), (k _).fld F.PLN_SRCSTAT_MISTIMED _ (by decide)]
  exact getF_srcShown _ _ _ _ _ _ _ _ _

/-- A source whose kind is not held. -/
def Unheld (s : Dev) (x : SrcSt) : Prop := (!x.signal && !atHouseFrame s && x.kind != 0) = false

theorem sourceFrameStart_unheld {s : Dev} {n : ℕ} (hn : n < 1536) (t p : ℕ) (o : SrcObs) (h : Unheld (s.at t) (srcSeen (srcMoved (s.at t) p n) o)) :
    ∃ w, sourceFrameStart s t p n o = srcPut (s.at t) p n o (srcSeen (srcMoved (s.at t) p n) o) w := by
  unfold Unheld at h
  have he : ∃ w : Bool, sourceFrameStart s t p n o =
      let s := s.at t
      let x := srcSeen (srcMoved s p n) o
      let k := if !x.signal && !atHouseFrame s && x.kind != 0 then
          (x.kind, getF s F.PLN_SRCSTAT_RATE_MISMATCH (ix p n), getF s F.PLN_SRCSTAT_MISTIMED (ix p n))
        else kindTable s p n x
      let x := if k.1 = 0 ∧ !x.signal then { x with known := false } else x
      let old := x.kind
      let x := { x with kind := k.1 }
      let s := { s with pln := { s.pln with src := mset {} s.pln.src (ix p n) x } }
      let s := srcShown (enterKind s p n old k.1 x) p n x k.2.1 k.2.2 o.link o.ds o.skew
      if w then syncLoad s p else s := by
    unfold sourceFrameStart
    rw [if_neg (Nat.not_le.mpr hn)]
    exact ⟨_, rfl⟩
  obtain ⟨w, he⟩ := he
  refine ⟨w, he.trans ?_⟩
  dsimp only
  rw [h]
  rfl

/-! Sources in steady format, and sources with no signal. -/

/-- A steady source's state as its frame start sees it. -/
def steadied (x : SrcSt) (off : ℤ) : SrcSt := { x with signal := true, off := off, newCount := 0 }

theorem srcSeen_steady {s : Dev} {p n : ℕ} {o : SrcObs} {off : ℤ} (h : Steady s p n o off) (t : ℕ) :
    srcSeen (srcMoved (s.at t) p n) o = steadied (srcSt s p n) off := by
  have hm : srcMoved (s.at t) p n = srcSt s p n := by
    unfold srcMoved
    rw [show (srcSt (s.at t) p n).modeAt = none from h.settled]
    rfl
  rw [hm]
  simp [srcSeen, countFmt, steadied, h.signal, h.place, h.known, h.fmt, h.iface, h.frac, h.samp, h.enc]

/-- A steady source shows the kind that the table gives it. -/
theorem kind_of_steady {s : Dev} {p n : ℕ} {o : SrcObs} {off : ℤ} (h : Steady s p n o off) (t : ℕ) :
    getF (sourceFrameStart s t p n o) F.PLN_SRCSTAT_KIND (ix p n) = (kindTable s p n (steadied (srcSt s p n) off)).1 % 8 ∧
      getF (sourceFrameStart s t p n o) F.PLN_SRCSTAT_RATE_MISMATCH (ix p n) = (kindTable s p n (steadied (srcSt s p n) off)).2.1 % 2 ∧
      getF (sourceFrameStart s t p n o) F.PLN_SRCSTAT_MISTIMED (ix p n) = (kindTable s p n (steadied (srcSt s p n) off)).2.2 % 2 := by
  have hs := srcSeen_steady h t
  obtain ⟨w, hw⟩ := sourceFrameStart_unheld h.outer t p o (by rw [hs]; rfl)
  rw [hw, hs]
  exact getF_srcPut (s.at t) p n o _ w

theorem kindTable_outside {s : Dev} {p n : ℕ} {x : SrcSt} {off : ℤ} (hk : x.known = true) (hf : inFamily s.ctl.ref.rate (x.fmt % 16) = false) :
    kindTable s p n (steadied x off) = (3, 1, 0) := by
  simp [kindTable, steadied, hk, hf]

/-- Within the house family the kind follows the mode (R42). -/
theorem kindTable_family {s : Dev} {p n : ℕ} {x : SrcSt} {off : ℤ} (hk : x.known = true) (h0 : x.fmt ≠ 0)
    (hf : inFamily s.ctl.ref.rate (x.fmt % 16) = true) :
    (x.mode = 2 → kindTable s p n (steadied x off) = (3, 0, 0)) ∧ (x.mode = 1 → kindTable s p n (steadied x off) = (2, 0, 0)) ∧
      (x.mode = 0 → kindTable s p n (steadied x off) = if off.natAbs ≤ halfWidth s p n x then (1, 0, 0) else (3, 0, 1)) := by
  have hw : halfWidth s p n { x with signal := true, off := off, newCount := 0 } = halfWidth s p n x := rfl
  refine ⟨fun hm => ?_, fun hm => ?_, fun hm => ?_⟩
  · simp [kindTable, steadied, hk, h0, hf, hm]
  · simp [kindTable, steadied, hk, h0, hf, hm]
  · simp only [kindTable, steadied, hk, h0, hf, hm] at hw ⊢
    simp [hw]

theorem kind_of_lost {s : Dev} {p n t : ℕ} {o : SrcObs} (hn : n < 1536) (ho : o.signal = false) (ht : t % framePeriod s.ctl.ref.rate = 0) :
    getF (sourceFrameStart s t p n o) F.PLN_SRCSTAT_KIND (ix p n) = 0 := by
  have hs : (srcSeen (srcMoved (s.at t) p n) o).signal = false := by simp [srcSeen, ho]
  have hk : kindTable (s.at t) p n (srcSeen (srcMoved (s.at t) p n) o) = (0, 0, 0) := by simp [kindTable, hs]
  have ha : atHouseFrame (s.at t) = true := beq_iff_eq.mpr ht
  have hu : Unheld (s.at t) (srcSeen (srcMoved (s.at t) p n) o) := by simp [Unheld, ha]
  obtain ⟨w, hw⟩ := sourceFrameStart_unheld hn t p o hu
  rw [hw, (getF_srcPut _ _ _ _ _ _).1, hk]
  rfl

/-- The CFG items that a source's frame start may bring change no register. -/
theorem getF_sourceFrame (s : Dev) (t p n : ℕ) (o : SrcObs) (f : Fld) (i : ℕ) : getF (sourceFrame s t p n o) f i = getF (sourceFrameStart s t p n o) f i := by
  have k : Within cfgFoot (sourceFrameStart s t p n o) (sourceFrame s t p n o) := by
    unfold sourceFrame
    simp (decide := true) [↓within_ite]
  exact k.fld f i rfl

/-- Settles O24: a steady source shows its row of the kind table; one with no signal at a house frame start shows NONE. -/
theorem sourceKindsFollow : Obligations.SourceKindsFollow := by
  intro s t p n o
  have hg := getF_sourceFrame s.dev t p n o
  refine ⟨fun off h => ⟨fun hf => gives_of rfl ?_, fun hf => ?_⟩, fun hn ho ht => gives_of rfl ((hg _ _).trans (kind_of_lost hn ho ht))⟩
  · obtain ⟨h1, h2, -⟩ := kind_of_steady h t
    rw [kindTable_outside h.known (by rw [h.fmt]; exact hf)] at h1 h2
    exact ⟨(hg _ _).trans h1, (hg _ _).trans h2⟩
  · obtain ⟨h1, -, h3⟩ := kind_of_steady h t
    obtain ⟨k2, k1, k0⟩ := kindTable_family (p := p) (n := n) (off := off) h.known (by rw [h.fmt]; exact h.listed) (by rw [h.fmt]; exact hf)
    refine ⟨fun hm => gives_of rfl ((hg _ _).trans ?_), fun hm => gives_of rfl ((hg _ _).trans ?_),
      fun hm hw => gives_of rfl ⟨(hg _ _).trans ?_, (hg _ _).trans ?_⟩, fun hm hw => gives_of rfl ⟨(hg _ _).trans ?_, (hg _ _).trans ?_⟩⟩
    · rw [h1, k2 hm]
      rfl
    · rw [h1, k1 hm]
      rfl
    · rw [h1, k0 hm, if_pos hw]
      rfl
    · rw [h3, k0 hm, if_pos hw]
      rfl
    · rw [h1, k0 hm, if_neg (Nat.not_le.mpr hw)]
      rfl
    · rw [h3, k0 hm, if_neg (Nat.not_le.mpr hw)]
      rfl

end Sys2Proof.Machine
end

section
/-! Frame synchronisers: what a reading synchroniser reads at its cut-off (R100, R102), and the frames that complete (R119, R120). -/

namespace Sys2Proof.Machine

open Sys2Proof.Claims

@[simp] theorem fsSt_setFs'_same (s : Dev) (p n : ℕ) (x : FsSt) : fsSt (setFs' s p n x) p n = x := mget_mset_same _ _ _ _

theorem Within.fsSt {W : Foot} {s u : Dev} (h : Within W s u) (hW : .fs ∉ W.parts) (p n : ℕ) : fsSt u p n = fsSt s p n := by
  have k : u.pln.fs = s.pln.fs := h.part .fs hW
  unfold Machine.fsSt
  rw [k]

/-- What the teams of a synchroniser's readers note changes their destinations alone. -/
theorem within_dst_memberOnly (s : Dev) (p n : ℕ) (fail : Bool) : Within { parts := [.dst] } s (memberOnly s p n fail) := by
  have h (s : Dev) (c k : ℕ) : Within { parts := [.dst] } s (memberCause s p c k) := by
    unfold memberCause setDst
    simp (decide := true)
  unfold memberOnly
  simp (decide := true) [h]

/-- The synchroniser is in state `g`, and its fill is shown. -/
def filled (s : Dev) (p n : ℕ) (g : FsSt) : Dev := setF (setFs' s p n g) F.PLN_FSSTAT_FILL (ix p n) g.done.length

/-- A slip is counted and reported: a repeat, or `count` frames dropped (R100, R101). -/
def slipped (s : Dev) (p n drop count : ℕ) : Dev :=
  raise (countSlip s p n drop count) 0x09 (19 + p) 0 (slipDetail n p drop (if drop = 0 then 0 else count) 0)

theorem no_hold {s : Dev} {p n : ℕ} (h : ∀ e ∈ teamsFedBy s p n, e.2.policy ≠ 0) : ((teamsFedBy s p n).filter fun e => e.2.policy == 0) = [] := by
  rw [List.filter_eq_nil_iff]
  intro e he
  simpa using h e he

/-- The state of a synchroniser that reads, before its choice. -/
def cleared (f : FsSt) : FsSt := { f with underrun := 0, oversizeRep := false }

/-- A reading synchroniser outside GROUP_HOLD teams takes its own choice. -/
theorem cutoffChoice_own {s : Dev} {p n : ℕ} (h : Reading s p n) (hz : ¬((fsSt s p n).oversize = true ∧ fsCount (fsSt s p n) = 0)) (t m : ℕ) :
    cutoffChoice s t p n m =
      if fsCount (fsSt s p n) = 0 then
        memberOnly (slipped (filled (s.at t) p n { cleared (fsSt s p n) with slip := 1, offset := -((srcSt s p n).slip : ℤ) }) p n 0 1) p n true
      else if fsCount (fsSt s p n) = 1 then memberOnly (filled (s.at t) p n (readNext (cleared (fsSt s p n)))) p n false
      else memberOnly (slipped (filled (s.at t) p n { readNewest (cleared (fsSt s p n)) with offset := ((srcSt s p n).slip : ℤ) }) p n 1
        (fsCount (fsSt s p n) - 1)) p n true := by
  have ha : ¬((!(fsSt s p n).active) = true) := by simp [h.active]
  have he : ¬(fsSt s p n).empty = true := by simp [h.filled]
  unfold cutoffChoice
  dsimp only
  rw [no_hold (s := s.at t) h.alone, show fsSt (s.at t) p n = fsSt s p n from rfl, List.foldl_nil, List.map_nil, List.foldl_nil, if_neg ha,
    if_neg he, if_neg h.sound, if_neg hz, if_neg (by decide)]
  rfl

theorem cutoffChoice_repeats {s : Dev} {p n : ℕ} (h : Reading s p n) (hz : (fsSt s p n).oversize = false) (hc : fsCount (fsSt s p n) = 0) (t m : ℕ) :
    ∃ o, cutoffChoice s t p n m = memberOnly (slipped (filled (s.at t) p n { cleared (fsSt s p n) with slip := 1, offset := o }) p n 0 1) p n true :=
  ⟨_, (cutoffChoice_own h (by simp [hz]) t m).trans (if_pos hc)⟩

theorem cutoffChoice_reads {s : Dev} {p n : ℕ} (h : Reading s p n) (hc : fsCount (fsSt s p n) = 1) (t m : ℕ) :
    cutoffChoice s t p n m = memberOnly (filled (s.at t) p n (readNext (cleared (fsSt s p n)))) p n false := by
  rw [cutoffChoice_own h (by simp [hc]), if_neg (by omega), if_pos hc]

theorem cutoffChoice_drops {s : Dev} {p n : ℕ} (h : Reading s p n) (hc : 2 ≤ fsCount (fsSt s p n)) (t m : ℕ) :
    ∃ o, cutoffChoice s t p n m = memberOnly (slipped (filled (s.at t) p n { readNewest (cleared (fsSt s p n)) with offset := o }) p n 1
      (fsCount (fsSt s p n) - 1)) p n true := by
  rw [cutoffChoice_own h (by omega), if_neg (by omega), if_neg (by omega)]
  exact ⟨_, rfl⟩

/-! What each choice leaves. -/

theorem fsSt_filled (s : Dev) (p n : ℕ) (g : FsSt) : fsSt (filled s p n g) p n = g := fsSt_setFs'_same s p n g

theorem fsSt_slipped (s : Dev) (p n drop count : ℕ) : fsSt (slipped s p n drop count) p n = fsSt s p n := by
  unfold slipped fsSt
  rw [raise_pln]
  unfold countSlip
  dsimp only
  split <;> rfl

theorem fsSt_memberOnly (s : Dev) (p n : ℕ) (fail : Bool) : fsSt (memberOnly s p n fail) p n = fsSt s p n :=
  (within_dst_memberOnly s p n fail).fsSt (by decide) p n

theorem getF_memberOnly (s : Dev) (p n : ℕ) (fail : Bool) (f : Fld) (i : ℕ) : getF (memberOnly s p n fail) f i = getF s f i :=
  (within_dst_memberOnly s p n fail).fld f i rfl

theorem getF_filled (s : Dev) (p n : ℕ) (g : FsSt) (f : Fld) (i : ℕ) (hf : f.code % 262144 ≠ F.PLN_FSSTAT_FILL.code % 262144) :
    getF (filled s p n g) f i = getF s f i := getF_setF_code _ _ _ _ _ _ hf

theorem getF_slipped_repeat (s : Dev) (p n : ℕ) :
    getF (slipped s p n 0 1) F.PLN_FSSTAT_LAST_SLIP (ix p n) = 1 ∧
      getF (slipped s p n 0 1) F.PLN_FSSLIP_REPEATS (ix p n) = min (getF s F.PLN_FSSLIP_REPEATS (ix p n) + 1) (2 ^ F.PLN_FSSLIP_REPEATS.width - 1) := by
  unfold slipped
  rw [getF_raise _ _ _ _ _ _ _ (by decide), getF_raise _ _ _ _ _ _ _ (by decide)]
  exact ⟨getF_setF_same _ _ _ _, (getF_setF_code _ _ _ _ _ _ (by decide)).trans (getF_satAdd_same _ _ _ _)⟩

theorem getF_slipped_drop (s : Dev) (p n c : ℕ) :
    getF (slipped s p n 1 c) F.PLN_FSSTAT_LAST_SLIP (ix p n) = 2 ∧
      getF (slipped s p n 1 c) F.PLN_FSSLIP_DROPS (ix p n) = min (getF s F.PLN_FSSLIP_DROPS (ix p n) + c) (2 ^ F.PLN_FSSLIP_DROPS.width - 1) := by
  unfold slipped
  rw [getF_raise _ _ _ _ _ _ _ (by decide), getF_raise _ _ _ _ _ _ _ (by decide)]
  exact ⟨getF_setF_same _ _ _ _, (getF_setF_code _ _ _ _ _ _ (by decide)).trans (getF_satAdd_same _ _ _ _)⟩

/-- The cut-off is its choice with the seams that it leaves. -/
theorem fsyncCutoff_choice (s : Dev) (t p n m : ℕ) :
    (∃ q, fsSt (fsyncCutoff s t p n m) p n = { fsSt (cutoffChoice s t p n m) p n with seams := q }) ∧
      ∀ f i, getF (fsyncCutoff s t p n m) f i = getF (cutoffChoice s t p n m) f i := by
  unfold fsyncCutoff
  dsimp only
  split
  · exact ⟨⟨_, fsSt_setFs'_same _ _ _ _⟩, fun _ _ => rfl⟩
  · exact ⟨⟨_, rfl⟩, fun _ _ => rfl⟩

theorem cutoff_repeats {s : Dev} {p n : ℕ} (h : Reading s p n) (hz : (fsSt s p n).oversize = false) (hc : fsCount (fsSt s p n) = 0) (t m : ℕ) :
    (fsSt (fsyncCutoff s t p n m) p n).slip = 1 ∧ (fsSt (fsyncCutoff s t p n m) p n).read = (fsSt s p n).read ∧
      getF (fsyncCutoff s t p n m) F.PLN_FSSTAT_LAST_SLIP (ix p n) = 1 ∧
      getF (fsyncCutoff s t p n m) F.PLN_FSSLIP_REPEATS (ix p n) =
        min (getF s F.PLN_FSSLIP_REPEATS (ix p n) + 1) (2 ^ F.PLN_FSSLIP_REPEATS.width - 1) := by
  obtain ⟨⟨q, hq⟩, hg⟩ := fsyncCutoff_choice s t p n m
  obtain ⟨o, ho⟩ := cutoffChoice_repeats h hz hc t m
  obtain ⟨h1, h2⟩ := getF_slipped_repeat (filled (s.at t) p n { cleared (fsSt s p n) with slip := 1, offset := o }) p n
  rw [hq, hg, hg, ho, fsSt_memberOnly, fsSt_slipped, fsSt_filled, getF_memberOnly, getF_memberOnly, h1, h2, getF_filled _ _ _ _ _ _ (by decide)]
  exact ⟨rfl, rfl, rfl, rfl⟩

theorem cutoff_reads {s : Dev} {p n k : ℕ} (h : Reading s p n) (hd : (fsSt s p n).done = [k]) (hl : (fsSt s p n).lost = 0) (t m : ℕ) :
    (fsSt (fsyncCutoff s t p n m) p n).read = some k ∧ (fsSt (fsyncCutoff s t p n m) p n).done = [] ∧
      (fsSt (fsyncCutoff s t p n m) p n).slip = 0 ∧
      getF (fsyncCutoff s t p n m) F.PLN_FSSLIP_REPEATS (ix p n) = getF s F.PLN_FSSLIP_REPEATS (ix p n) ∧
      getF (fsyncCutoff s t p n m) F.PLN_FSSLIP_DROPS (ix p n) = getF s F.PLN_FSSLIP_DROPS (ix p n) := by
  obtain ⟨⟨q, hq⟩, hg⟩ := fsyncCutoff_choice s t p n m
  have hc : fsCount (fsSt s p n) = 1 := by simp [fsCount, hd, hl]
  rw [hq, hg, hg, cutoffChoice_reads h hc, fsSt_memberOnly, fsSt_filled, getF_memberOnly, getF_memberOnly, getF_filled _ _ _ _ _ _ (by decide),
    getF_filled _ _ _ _ _ _ (by decide)]
  simp [readNext, cleared, hd]

theorem cutoff_drops {s : Dev} {p n : ℕ} (h : Reading s p n) (hc : 2 ≤ fsCount (fsSt s p n)) (t m : ℕ) :
    (fsSt (fsyncCutoff s t p n m) p n).read = (fsSt s p n).done.getLast? ∧ (fsSt (fsyncCutoff s t p n m) p n).slip = 2 ∧
      getF (fsyncCutoff s t p n m) F.PLN_FSSTAT_LAST_SLIP (ix p n) = 2 ∧
      getF (fsyncCutoff s t p n m) F.PLN_FSSLIP_DROPS (ix p n) =
        min (getF s F.PLN_FSSLIP_DROPS (ix p n) + (fsCount (fsSt s p n) - 1)) (2 ^ F.PLN_FSSLIP_DROPS.width - 1) := by
  obtain ⟨⟨q, hq⟩, hg⟩ := fsyncCutoff_choice s t p n m
  obtain ⟨o, ho⟩ := cutoffChoice_drops h hc t m
  obtain ⟨h1, h2⟩ := getF_slipped_drop (filled (s.at t) p n { readNewest (cleared (fsSt s p n)) with offset := o }) p n (fsCount (fsSt s p n) - 1)
  rw [hq, hg, hg, ho, fsSt_memberOnly, fsSt_slipped, fsSt_filled, getF_memberOnly, getF_memberOnly, h1, h2, getF_filled _ _ _ _ _ _ (by decide)]
  exact ⟨rfl, if_pos hc, rfl, rfl⟩

/-! Frames that complete. -/

theorem completeFrame_adds {s : Dev} {p n frame : ℕ} (ha : (fsSt s p n).active = true) (hz : (fsSt s p n).oversize = false)
    (hf : frame ∉ (fsSt s p n).done) :
    ∃ l, (fsSt (completeFrame s p n frame) p n).done = l ++ [frame] ∧ (fsSt (completeFrame s p n frame) p n).closed = (fsSt s p n).closed ∧
      ∀ k r, (fsSt s p n).read = some r → (fsSt s p n).done = [k] → l = [] ∧
        (fsSt (completeFrame s p n frame) p n).lost = (fsSt s p n).lost + 1 := by
  have he : completeFrame s p n frame = filled s p n
      { fsSt s p n with
        done := (if decide ((if (fsSt s p n).read.isSome then 1 else 2) ≤ (fsSt s p n).done.length) then (fsSt s p n).done.drop 1
          else (fsSt s p n).done) ++ [frame]
        lost := if decide ((if (fsSt s p n).read.isSome then 1 else 2) ≤ (fsSt s p n).done.length) && (fsSt s p n).read.isSome then
          (fsSt s p n).lost + 1 else (fsSt s p n).lost } := by
    unfold completeFrame
    dsimp only
    rw [if_neg (by simp [ha, hz, hf])]
    rfl
  rw [he, fsSt_filled]
  exact ⟨_, rfl, rfl, fun k r hr hd => by simp [hr, hd]⟩

theorem ipHoldExpire_closes {s : Dev} {p n frame : ℕ} (ha : (fsSt s p n).active = true) (hz : (fsSt s p n).oversize = false)
    (hf : frame ∉ (fsSt s p n).closed) (t : ℕ) :
    frame ∈ (fsSt (ipHoldExpire s t p n frame) p n).closed ∧ frame ∈ (fsSt (ipHoldExpire s t p n frame) p n).done := by
  have he : ipHoldExpire s t p n frame =
      completeFrame (setFs' (s.at t) p n { fsSt s p n with closed := (frame :: (fsSt s p n).closed).take 8 }) p n frame := by
    unfold ipHoldExpire
    dsimp only
    rw [if_neg (by simpa [fsSt] using hf)]
    rfl
  rw [he]
  generalize hu : setFs' (s.at t) p n { fsSt s p n with closed := (frame :: (fsSt s p n).closed).take 8 } = u
  have hx : fsSt u p n = { fsSt s p n with closed := (frame :: (fsSt s p n).closed).take 8 } := by rw [← hu, fsSt_setFs'_same]
  have hc : frame ∈ (fsSt u p n).closed := by
    rw [hx]
    exact List.mem_cons_self
  by_cases hd : frame ∈ (fsSt u p n).done
  · have hs : completeFrame u p n frame = u := by
      unfold completeFrame
      dsimp only
      rw [if_pos (by simp [hd])]
    rw [hs]
    exact ⟨hc, hd⟩
  · obtain ⟨l, h1, h2, -⟩ := completeFrame_adds (by rw [hx]; exact ha) (by rw [hx]; exact hz) hd
    rw [h1, h2]
    exact ⟨hc, by simp⟩

/-- Settles O25: the three choices of a reading synchroniser, and the frames added to it. -/
theorem synchronisersRead : Obligations.SynchronisersRead := by
  intro s t m frame p n
  refine ⟨fun h => ⟨fun hz hd hl => gives_of rfl (cutoff_repeats h hz (by simp [fsCount, hd, hl]) t m),
    fun k hd hl => gives_of rfl (cutoff_reads h hd hl t m), fun hc => gives_of rfl (cutoff_drops h hc t m)⟩,
    fun ha hz => ⟨fun hf => gives_of rfl ?_, fun hf => gives_of rfl (ipHoldExpire_closes ha hz hf t)⟩⟩
  obtain ⟨l, h1, -, h2⟩ := completeFrame_adds (s := s.dev.at t) (p := p) (n := n) ha hz hf
  unfold fsyncFrameComplete
  rw [h1]
  refine ⟨by simp, fun k r hr hd => ?_⟩
  obtain ⟨hl, hlost⟩ := h2 k r hr hd
  rw [hl]
  exact ⟨rfl, hlost⟩

end Sys2Proof.Machine
end

section
/-! Bands, underruns and the power backstop (R25, R108 to R117). -/

namespace Sys2Proof.Machine

open Sys2Proof.Claims

/-! Bands. -/

theorem nextBand_lt {b : ℕ} {temp : ℤ} (h : nextBand b temp ≠ b) : nextBand b temp < 8 := by
  unfold nextBand at h ⊢
  dsimp only at h ⊢
  split_ifs at h ⊢ <;> omega

theorem refreshMult_lt (b : ℕ) : refreshMult b < 16 := by
  unfold refreshMult
  split <;> decide

/-- The sensor's reading is recorded. -/
def sensed (s : Dev) (p : ℕ) (temp : ℤ) : Dev := setF s F.PLN_BAND_TEMP p (usgn 16 temp)

theorem bandOf_sensed (s : Dev) (p : ℕ) (temp : ℤ) : bandOf (sensed s p temp) p = bandOf s p := getF_setF_code _ _ _ _ _ _ (by decide)

/-- The registers of a plane whose band changes to `b`. -/
def banded (s : Dev) (p b : ℕ) : Dev := setF (setF s F.PLN_BAND_BAND p b) F.HBM_REF_MULT p (refreshMult b)

theorem bandSensorRead_same {s : Dev} {p : ℕ} {temp : ℤ} (h : nextBand (bandOf s p) temp = bandOf s p) (t : ℕ) :
    bandSensorRead s t p temp = sensed (s.at t) p temp := by
  have hb : bandOf (sensed (s.at t) p temp) p = bandOf s p := bandOf_sensed _ _ _
  unfold bandSensorRead
  rw [← sensed]
  exact if_pos (by rw [hb]; exact h)

/-- A plane whose band has moved: a rise calls for shedding, a fall for restoring (R111). -/
def rebanded (x : PlaneSt) (t : ℕ) (rise fall : Bool) : PlaneSt :=
  { x with bandAt := t, shedAt := t, shedDue := x.shedDue || rise, shedReason := 1, restoreDue := fall }

theorem bandSensorRead_moves {s : Dev} {p : ℕ} {temp : ℤ} (h : nextBand (bandOf s p) temp ≠ bandOf s p) (t : ℕ) :
    ∃ fall dt, bandSensorRead s t p temp = raise (setPlaneSt (banded (sensed (s.at t) p temp) p (nextBand (bandOf s p) temp)) p
      (rebanded (planeOf s p) t (decide (bandOf s p < nextBand (bandOf s p) temp)) fall)) 0x07 (19 + p) 0 dt := by
  have hb : bandOf (sensed (s.at t) p temp) p = bandOf s p := bandOf_sensed _ _ _
  unfold bandSensorRead
  rw [← sensed]
  dsimp only
  rw [hb, if_neg h]
  exact ⟨_, _, rfl⟩

theorem bandSensorRead_bands (s : Dev) (t p : ℕ) (temp : ℤ) :
    getF (bandSensorRead s t p temp) F.PLN_BAND_TEMP p = usgn 16 temp % 2 ^ F.PLN_BAND_TEMP.width ∧
      bandOf (bandSensorRead s t p temp) p = nextBand (bandOf s p) temp ∧
      (nextBand (bandOf s p) temp ≠ bandOf s p →
        getF (bandSensorRead s t p temp) F.HBM_REF_MULT p = refreshMult (bandOf (bandSensorRead s t p temp) p)) ∧
      (bandOf s p < nextBand (bandOf s p) temp → (planeOf (bandSensorRead s t p temp) p).shedDue = true) := by
  by_cases h : nextBand (bandOf s p) temp = bandOf s p
  · rw [bandSensorRead_same h]
    exact ⟨getF_setF_same _ _ _ _, (bandOf_sensed _ _ _).trans h.symm, fun hn => absurd h hn, fun hl => absurd h (Nat.ne_of_gt hl)⟩
  · obtain ⟨fall, dt, he⟩ := bandSensorRead_moves h t
    have hb : bandOf (bandSensorRead s t p temp) p = nextBand (bandOf s p) temp := by
      rw [he]
      unfold bandOf
      rw [getF_raise _ _ _ _ _ _ _ (by decide), getF_setPlaneSt]
      unfold banded
      rw [getF_setF_code _ _ _ _ _ _ (by decide), getF_setF_same]
      exact Nat.mod_eq_of_lt (nextBand_lt h)
    refine ⟨?_, hb, fun _ => ?_, fun hl => ?_⟩
    · rw [he, getF_raise _ _ _ _ _ _ _ (by decide), getF_setPlaneSt]
      unfold banded
      rw [getF_setF_code _ _ _ _ _ _ (by decide), getF_setF_code _ _ _ _ _ _ (by decide)]
      exact getF_setF_same _ _ _ _
    · rw [hb, he, getF_raise _ _ _ _ _ _ _ (by decide), getF_setPlaneSt]
      unfold banded
      rw [getF_setF_same]
      exact Nat.mod_eq_of_lt (refreshMult_lt _)
    · rw [he]
      unfold planeOf
      rw [raise_pln]
      refine (congrArg PlaneSt.shedDue (mget_mset_same _ _ _ _)).trans ?_
      simp [rebanded, hl]

/-! Underruns. -/

theorem pln_underrunEvent (s : Dev) (p n kind big : ℕ) : (underrunEvent s p n kind big).pln = s.pln := raise_pln _ _ _ _ _

theorem getF_underrun (s : Dev) (t p kind n : ℕ) : getF (underrun s t p kind n) F.PLN_UNDERRUN_CNT_COUNT p =
    min (getF s F.PLN_UNDERRUN_CNT_COUNT p + 1) (2 ^ F.PLN_UNDERRUN_CNT_COUNT.width - 1) := by
  have k : Within { flds := evtFields, parts := [.out, .host, .fs, .dst] } (satAdd (s.at t) F.PLN_UNDERRUN_CNT_COUNT p 1) (underrun s t p kind n) := by
    unfold underrun
    split <;> simp (decide := true)
  rw [k.fld _ _ (by decide), getF_satAdd_same, getF_at]

theorem underrun_source (s : Dev) (t p n : ℕ) : (fsSt (underrun s t p 0 n) p n).underrun = 2 := by
  have k : Within { flds := evtFields, parts := [.out, .host] }
      (setFs' (satAdd (s.at t) F.PLN_UNDERRUN_CNT_COUNT p 1) p n { fsSt (satAdd (s.at t) F.PLN_UNDERRUN_CNT_COUNT p 1) p n with underrun := 2 })
      (underrun s t p 0 n) := by
    unfold underrun
    simp (decide := true)
  rw [k.fsSt (by decide), fsSt_setFs'_same]

theorem underrun_dest (s : Dev) (t p n : ℕ) : (dstSt (underrun s t p 1 n) p n).underrun = 2 := by
  have he (u : Dev) (x : DstSt) : (dstSt (underrunEvent (setDst u p n x) p n 1 0) p n).underrun = x.underrun := by
    unfold dstSt
    rw [pln_underrunEvent]
    exact congrArg DstSt.underrun (mget_mset_same _ _ _ _)
  exact he _ _

theorem underrun_other (s : Dev) (t p n : ℕ) : (fsSt (underrun s t p 2 n) p n).underrun = 2 := by
  have he (u : Dev) (x : FsSt) : (fsSt (underrunEvent (setFs' u p n x) p n 2 0) p n).underrun = x.underrun := by
    unfold fsSt
    rw [pln_underrunEvent]
    exact congrArg FsSt.underrun (mget_mset_same _ _ _ _)
  exact he _ _

/-! The power backstop. -/

theorem hot_at {s : Dev} (h : hotPlanes s ≠ []) (t : ℕ) : (hotPlanes (s.at t)).isEmpty = false := by
  have k : hotPlanes (s.at t) ≠ [] := h
  simpa [List.isEmpty_iff] using k

theorem powerSample_reads {s : Dev} (h : hotPlanes s ≠ []) (t a b rail : ℕ) :
    (powerSample s t (some (a, b)) rail).pln.pwr.head? = some (a + b + 161000) ∧ (powerSample s t (some (a, b)) rail).pln.pwrNone = false := by
  unfold powerSample
  dsimp only
  rw [if_neg (by rw [hot_at h]; decide)]
  exact ⟨rfl, rfl⟩

theorem Within.pwrNone {W : Foot} {s u : Dev} (h : Within W s u) (hW : .plnRest ∉ W.parts) : u.pln.pwrNone = s.pln.pwrNone := by
  have k : { u.pln with planes := [], fs := [], dst := [], merge := [] } = { s.pln with planes := [], fs := [], dst := [], merge := [] } :=
    h.part .plnRest hW
  exact (congrArg PlnSt.pwrNone k :)

theorem powerSample_missing {s : Dev} (h : hotPlanes s ≠ []) (hn : s.pln.pwrNone = false) (t rail : ℕ) :
    (powerSample s t none rail).pln.pwrNone = true ∧ fltBit (powerSample s t none rail) 47 = true ∧
      getF (powerSample s t none rail) F.FLT_CAUSE_CAUSE 47 = 6 := by
  have he : powerSample s t none rail = faultEvent { s.at t with pln := { s.pln with pwrNone := true } } 47 0x06 (0x20 + rail) := by
    unfold powerSample
    dsimp only
    rw [if_neg (by rw [hot_at h]; decide), if_neg (by simp [hn])]
    rfl
  rw [he]
  have k : Within faultFoot { s.at t with pln := { s.pln with pwrNone := true } }
      (faultEvent { s.at t with pln := { s.pln with pwrNone := true } } 47 0x06 (0x20 + rail)) :=
    (within_faultEvent _ _ _ _ _ (by decide)).mpr (.refl _ _)
  exact ⟨k.pwrNone (by decide), fltBit_faultEvent_same _ _ _ _ (by decide), cause_faultEvent _ _ _ _ (by decide)⟩

/-- What shedding or restoring changes after its flag. -/
def flagTailFoot : Foot :=
  { loadFoot with flds := F.PLN_SRCSTAT_KIND :: F.PLN_SRCPOS_OFFSET :: loadFoot.flds ++ evtFields, parts := [.out, .host, .cmp, .plnRest] }

/-- The shed flag of item `idx`. -/
def shedFlag (s : Dev) (p : ℕ) (comp : Bool) (idx : ℕ) : ℕ :=
  if comp then getF s F.CMP_STAT_SHED (ix p idx) else getF s F.PLN_FSSTAT_SHED (ix p idx)

theorem shedFlag_setShedFlag (s : Dev) (p : ℕ) (comp : Bool) (idx : ℕ) (v : Fin 2) : shedFlag (setShedFlag s p comp idx v) p comp idx = v := by
  unfold shedFlag setShedFlag
  cases comp
  · exact getF_setF_bit _ _ _ v rfl
  · exact getF_setF_bit _ _ _ v rfl

theorem Within.shedFlag {W : Foot} {s u : Dev} (h : Within W s u) (hc : W.hits (F.CMP_STAT_SHED.code % 262144) = false)
    (hf : W.hits (F.PLN_FSSTAT_SHED.code % 262144) = false) (p : ℕ) (comp : Bool) (idx : ℕ) : shedFlag u p comp idx = shedFlag s p comp idx := by
  unfold Machine.shedFlag
  rw [h.fld _ _ hc, h.fld _ _ hf]

theorem ctl_fwAction (s : Dev) : (fwAction s).2.ctl = s.ctl ∧ (fwAction s).2.pln = s.pln := by
  unfold fwAction journal nextJsn
  dsimp only
  split <;> exact ⟨rfl, rfl⟩

/-- Item `i` is noted as shed, and its flag is set. -/
def shedNoted (s : Dev) (p reason : ℕ) (i : Item) : Dev :=
  setShedFlag (modCtl (fwAction s).2 fun c => { c with shed := c.shed ++ [(p, { comp := i.comp, key := i.idx, reason := reason })] }) p i.comp i.idx 1

theorem within_shedNoted_shedItem (s : Dev) (p reason : ℕ) (i : Item) : Within flagTailFoot (shedNoted s p reason i) (shedItem s p reason i) := by
  unfold shedItem compKindNone pendMode
  simp (decide := true) [↓within_ite, shedNoted]

theorem ctl_setShedFlag (s : Dev) (p : ℕ) (comp : Bool) (idx v : ℕ) : (setShedFlag s p comp idx v).ctl = s.ctl ∧ (setShedFlag s p comp idx v).pln = s.pln := by
  unfold setShedFlag
  split <;> exact ⟨rfl, rfl⟩

theorem shed_of_within {W : Foot} {s u : Dev} (h : Within W s u) (hW : .ctlRest ∉ W.parts) : u.ctl.shed = s.ctl.shed :=
  (h.part .ctlRest hW).2.2.2.2.2.2.2

/-- Shedding leaves when the backstop last shed. -/
theorem pwrShed_shedItem (s : Dev) (p reason : ℕ) (i : Item) : (shedItem s p reason i).pln.pwrShed = s.pln.pwrShed := by
  have hn : (shedNoted s p reason i).pln.pwrShed = s.pln.pwrShed := by
    unfold shedNoted
    rw [(ctl_setShedFlag _ _ _ _ _).2]
    exact congrArg PlnSt.pwrShed (ctl_fwAction s).2
  unfold shedItem
  dsimp only
  rw [raise_pln]
  unfold syncLoad
  rw [setFs_pln]
  split
  · unfold compKindNone
    rw [setFs_pln]
    exact hn
  · exact hn

theorem shedItem_sheds (s : Dev) (p reason : ℕ) (i : Item) :
    (shedItem s p reason i).ctl.shed = s.ctl.shed ++ [(p, { comp := i.comp, key := i.idx, reason := reason })] ∧
      shedFlag (shedItem s p reason i) p i.comp i.idx = 1 := by
  have k := within_shedNoted_shedItem s p reason i
  refine ⟨(shed_of_within k (by decide)).trans ?_, (k.shedFlag (by decide) (by decide) _ _ _).trans (shedFlag_setShedFlag _ _ _ _ 1)⟩
  unfold shedNoted
  rw [(ctl_setShedFlag _ _ _ _ _).1]
  show (fwAction s).2.ctl.shed ++ _ = _
  rw [(ctl_fwAction s).1]

/-- Item `i` is noted as shed no longer, and its flag is cleared. -/
def restoreNoted (s : Dev) (p : ℕ) (i : ShedItem) : Dev :=
  setShedFlag (modCtl (fwAction s).2 fun c => { c with shed := c.shed.filter fun x => !(x.1 == p && x.2.comp == i.comp && x.2.key == i.key) }) p
    i.comp i.key 0

theorem within_restoreNoted_restoreItem (s : Dev) (p reason : ℕ) (i : ShedItem) :
    Within flagTailFoot (restoreNoted s p i) (restoreItem s p reason i) := by
  unfold restoreItem pendMode
  simp (decide := true) [↓within_ite, restoreNoted]

theorem restoreItem_restores (s : Dev) (p reason : ℕ) (i : ShedItem) :
    (restoreItem s p reason i).ctl.shed = (s.ctl.shed.filter fun x => !(x.1 == p && x.2.comp == i.comp && x.2.key == i.key)) ∧
      shedFlag (restoreItem s p reason i) p i.comp i.key = 0 := by
  have k := within_restoreNoted_restoreItem s p reason i
  refine ⟨(shed_of_within k (by decide)).trans ?_, (k.shedFlag (by decide) (by decide) _ _ _).trans (shedFlag_setShedFlag _ _ _ _ 0)⟩
  unfold restoreNoted
  rw [(ctl_setShedFlag _ _ _ _ _).1]
  show (fwAction s).2.ctl.shed.filter _ = _
  rw [(ctl_fwAction s).1]

/-- The first item of `l` is shed; with none left, the shortage is told once. -/
def shedHead (s : Dev) (l : List (ℕ × Item)) : Dev :=
  match l with
  | (p, i) :: _ => shedItem { s with pln := { s.pln with pwrOrder := p :: s.pln.pwrOrder, pwrTold := false } } p 6 i
  | [] =>
    let p := (hotPlanes s).headD 0
    if s.pln.pwrTold then s
    else faultEvent (raise { s with pln := { s.pln with pwrTold := true } } 0x08 (19 + p) 0 (shedDetail 0x7FF 0 p 1 4 4)) 43 0x0C 0

theorem powerShedStep_due {s : Dev} {t : ℕ} (hh : hotPlanes s ≠ []) (hn : s.pln.pwrNone = false) (ha : 360000 < pwrAvg s) (hs : s.pln.pwrShed = none) :
    powerShedStep s t = shedHead (shedAt s t) ((pwrPlanes (shedAt s t)).filterMap fun p => (pwrItem (shedAt s t) p).map fun i => (p, i)) := by
  have hcond : ¬((s.at t).pln.pwrNone || (hotPlanes (s.at t)).isEmpty || decide (pwrAvg (s.at t) ≤ 350000) ||
      (!(s.at t).pln.pwrShed.isSome && decide (pwrAvg (s.at t) ≤ 360000))) = true := by
    have hh' := hot_at hh t
    have ha' : 360000 < pwrAvg (s.at t) := ha
    simp only [at_pln, hn, hh', Bool.or_eq_true, Bool.and_eq_true, decide_eq_true_eq]
    simp only [Bool.false_eq_true, false_or]
    omega
  unfold powerShedStep
  dsimp only
  rw [if_neg hcond, show (s.at t).pln.pwrShed = none from hs]
  dsimp only
  rw [if_neg (by decide)]
  rfl

/-- The backstop's step with the average above 360 W sheds the first item of its order. -/
theorem powerShedStep_sheds {s : Dev} {t p : ℕ} {i : Item} {rest : List (ℕ × Item)} (hh : hotPlanes s ≠ []) (hn : s.pln.pwrNone = false)
    (ha : 360000 < pwrAvg s) (hs : s.pln.pwrShed = none)
    (hi : ((pwrPlanes (shedAt s t)).filterMap fun p => (pwrItem (shedAt s t) p).map fun i => (p, i)) = (p, i) :: rest) :
    ∃ u, u.ctl = s.ctl ∧ u.pln.pwrShed = some t ∧ powerShedStep s t = shedItem u p 6 i := by
  refine ⟨{ shedAt s t with pln := { (shedAt s t).pln with pwrOrder := p :: s.pln.pwrOrder, pwrTold := false } }, rfl, rfl, ?_⟩
  rw [powerShedStep_due hh hn ha hs, hi]
  rfl

theorem getLast?_filter_of {α : Type} (l : List α) (q : α → Bool) {a : α} (h : l.getLast? = some a) (ha : q a = true) :
    (l.filter q).getLast? = some a := by
  obtain ⟨r, rfl⟩ := List.getLast?_eq_some_iff.mp h
  rw [List.filter_append]
  simp [ha]

/-- The average of the supply has stayed low for 10 s (R25). -/
def stayedLow (s : Dev) (t : ℕ) : Bool := match s.pln.pwrLow with | none => false | some a => decide (a + 10 * tickSec ≤ t)

/-- The item chosen to return, if one may return now, is restored. -/
def restoreLast (s : Dev) (t rise : ℕ) (due : Bool) (o : Option (ℕ × ShedItem)) : Dev :=
  match o with
  | none => s
  | some (p, i) =>
    if !due || (!(hotPlanes s).isEmpty && decide (350000 < pwrAvg s + rise)) then s
    else restoreItem { s with pln := { s.pln with pwrRest := some t, pwrOrder := s.pln.pwrOrder.drop 1 } } p 6 i

theorem powerRestoreStep_due {s : Dev} (hne : powerShed s ≠ []) (hr : s.pln.pwrRest = none) (t rise : ℕ) :
    powerRestoreStep s t rise =
      restoreLast (s.at t) t rise true ((powerShed s).filter fun q => stayedLow s t || bandOf s q.1 != 4).getLast? := by
  have hne' : ¬(powerShed (s.at t)).isEmpty = true := by rwa [List.isEmpty_iff]
  unfold powerRestoreStep
  dsimp only
  rw [show (s.at t).pln.pwrRest = none from hr]
  exact if_neg hne'

/-- The backstop's restoring step returns the item that it shed last. -/
theorem powerRestoreStep_restores {s : Dev} {t p rise : ℕ} {i : ShedItem} (hl : (powerShed s).getLast? = some (p, i)) (hr : s.pln.pwrRest = none)
    (hb : bandOf s p ≠ 4 ∨ ∃ a, s.pln.pwrLow = some a ∧ a + 10 * tickSec ≤ t) (ha : hotPlanes s = [] ∨ pwrAvg s + rise ≤ 350000) :
    ∃ u, u.ctl = s.ctl ∧ powerRestoreStep s t rise = restoreItem u p 6 i := by
  have hne : powerShed s ≠ [] := fun h => by rw [h] at hl; cases hl
  have hq : (stayedLow s t || bandOf s p != 4) = true := by
    rcases hb with hb | ⟨a, h1, h2⟩
    · simp [hb]
    · simp [stayedLow, h1, h2]
  have hgo : ¬(!true || (!(hotPlanes (s.at t)).isEmpty && decide (350000 < pwrAvg (s.at t) + rise))) = true := by
    rcases ha with ha | ha
    · simp [show hotPlanes (s.at t) = [] from ha]
    · simp [Nat.not_lt.mpr (show pwrAvg (s.at t) + rise ≤ 350000 from ha)]
  refine ⟨{ s.at t with pln := { s.pln with pwrRest := some t, pwrOrder := s.pln.pwrOrder.drop 1 } }, rfl, ?_⟩
  rw [powerRestoreStep_due hne hr, getLast?_filter_of _ _ hl hq]
  unfold restoreLast
  dsimp only
  rw [if_neg hgo]
  rfl

theorem shedFlag_split {s : Dev} {p v idx : ℕ} {comp : Bool} (h : shedFlag s p comp idx = v) :
    (comp = true → getF s F.CMP_STAT_SHED (ix p idx) = v) ∧ (comp = false → getF s F.PLN_FSSTAT_SHED (ix p idx) = v) := by
  unfold shedFlag at h
  exact ⟨fun hc => by rwa [hc] at h, fun hc => by rwa [hc] at h⟩

/-- Settles O26: bands by their bounds, underruns by their reader, and the backstop's steps by the item each chooses. -/
theorem budgetsAreKept : Obligations.BudgetsAreKept := by
  refine ⟨fun s t p => ⟨fun temp => gives_of rfl (bandSensorRead_bands s.dev t p temp), fun kind n => gives_of rfl ⟨getF_underrun _ _ _ _ _, ?_⟩⟩,
    fun s t => ⟨fun hh => ⟨fun a b rail => gives_of rfl (powerSample_reads hh t a b rail), fun rail hn => gives_of rfl (powerSample_missing hh hn t rail)⟩,
      fun hh hn ha hs p i rest hi => gives_of rfl ?_, fun p i rise hl hr hb ha => gives_of rfl ?_⟩⟩
  · match kind with
    | 0 => exact ⟨fun _ => underrun_source _ _ _ _, fun h => absurd h (by decide)⟩
    | 1 => exact ⟨fun h => absurd rfl h, fun _ => underrun_dest _ _ _ _⟩
    | 2 => exact ⟨fun _ => underrun_other _ _ _ _, fun h => absurd h (by decide)⟩
  · obtain ⟨u, hc, hp, he⟩ := powerShedStep_sheds hh hn ha hs hi
    obtain ⟨h1, h2⟩ := shedItem_sheds u p 6 i
    rw [he, h1, hc, pwrShed_shedItem, hp]
    exact ⟨rfl, rfl, shedFlag_split h2⟩
  · obtain ⟨u, hc, he⟩ := powerRestoreStep_restores hl hr hb ha
    obtain ⟨h1, h2⟩ := restoreItem_restores u p 6 i
    rw [he, h1, hc]
    exact ⟨rfl, shedFlag_split h2⟩

end Sys2Proof.Machine
end

section
/-! A plane that trains or fails (R121). -/

namespace Sys2Proof.Machine

open Sys2Proof.Claims

variable {W : Foot}

/-- A plane's tables loaded again: the registers of sources, compositors, audio and the classifier, and the sources' engines. -/
def tablesFoot : Foot :=
  { blks := [blkCmp, blkAud, blkMac], flds := F.PLN_BAND_ADMIT :: F.PLN_DSTSTAT_PENDING :: srcFields, parts := [.cmp, .plnRest] }

theorem within_tables_setShedFlag (d s : Dev) (p : ℕ) (comp : Bool) (idx v : ℕ) (h : tablesFoot.le W = true) :
    Within W d (setShedFlag s p comp idx v) ↔ Within W d s := by
  refine Within.skip (V := tablesFoot) ?_ h
  unfold setShedFlag
  simp (decide := true) [↓within_ite]

theorem within_tables_loadMac (d s : Dev) (p k : ℕ) (b : Bytes) (h : tablesFoot.le W = true) : Within W d (loadMac s p k b) ↔ Within W d s := by
  refine Within.skip (V := tablesFoot) ?_ h
  unfold loadMac
  simp (decide := true)

theorem within_tables_loadMech (d s : Dev) (p : ℕ) (e : ℕ × Mech) (h : tablesFoot.le W = true) : Within W d (loadMech p s e) ↔ Within W d s := by
  refine Within.skip (V := tablesFoot) ?_ h
  unfold loadMech syncGen
  dsimp only
  repeat' split
  all_goals simp (decide := true) [within_tables_loadMac]

theorem within_tables_loadPlane (d s : Dev) (p : ℕ) (h : tablesFoot.le W = true) : Within W d (loadPlane s p) ↔ Within W d s := by
  refine Within.skip (V := tablesFoot) ?_ h
  unfold loadPlane syncCls syncAsrc syncStills pendMode
  simp (decide := true) [↓within_ite, within_tables_loadMech, within_tables_setShedFlag]

/-! The state of a plane through the events of lines that are not its tiles', its stack's or its columns'. -/

/-- What a fault's reaction changes but for the planes' state registers. -/
def lineFoot : Foot :=
  { flds := [F.FLS_STAT_STATE, F.HIF_EVT_STAT_PROD, F.HIF_EVT_STAT_LOST], blks := [blkSys, blkRst, blkBelay, blkJrn, blkFuse, blkFlt],
    parts := reactFoot.parts }

theorem within_line_fence (d s : Dev) (cause : ℕ) (h : lineFoot.le W = true) : Within W d (fence s cause) ↔ Within W d s := by
  refine Within.skip (V := lineFoot) ?_ h
  unfold fence markRevert historyWindow setPp
  simp (decide := true) [↓within_ite]

theorem within_line_react (d s : Dev) (b act : ℕ) (h : lineFoot.le W = true) : Within W d (react s b act) ↔ Within W d s := by
  refine Within.skip (V := lineFoot) ?_ h
  unfold react planeReaction
  simp (decide := true) [↓within_ite, within_line_fence]

theorem within_line_outOfService (s : Dev) {b : ℕ} (hb : 18 < b) : Within lineFoot s (outOfService s b) := by
  unfold outOfService
  rw [if_neg (by omega), if_neg (by omega), if_neg (by omega)]
  unfold syncDegraded setPp
  simp (decide := true) [↓within_ite]

theorem within_line_faultEvent (s : Dev) {b : ℕ} (hb : 18 < b) (cause sub : ℕ) : Within lineFoot s (faultEvent s b cause sub) := by
  have ho (u : Dev) : Within lineFoot s (outOfService u b) ↔ Within lineFoot s u :=
    Within.skip (within_line_outOfService u hb) (by decide)
  unfold faultEvent logFault capture
  simp (decide := true) [↓within_ite, within_line_react, ho, apply_ite Prod.snd]

theorem planeState_of_within {s u : Dev} (h : Within W s u) (hW : W.hits (F.PLN_STATE_STATE.code % 262144) = false) (q : ℕ) :
    planeState u q = planeState s q := h.fld _ _ hW

theorem planeOf_of_within {s u : Dev} (h : Within W s u) (hW : .planes ∉ W.parts) (q : ℕ) : planeOf u q = planeOf s q := by
  have k : u.pln.planes = s.pln.planes := h.part .planes hW
  unfold planeOf
  rw [k]

/-- The plane of a device that entered state `v` notes when. -/
theorem since_setPlane {s : Dev} {p v cause jsn : ℕ} (h : planeState s p ≠ v) : (planeOf (setPlane s p v cause jsn) p).since = s.now := by
  unfold setPlane
  rw [if_neg h]
  unfold syncDegraded planeOf
  dsimp only
  rw [setF_pln, raise_pln]
  exact congrArg PlaneSt.since (mget_mset_same _ _ _ _)

/-- A plane that has trained, before its tables are loaded. -/
def planeTrained (s : Dev) (p : ℕ) : Dev :=
  setPlaneSt (setPlane s p 2 0) p { planeOf (setPlane s p 2 0) p with routesLoaded := true, fillFrames := 0 }

theorem planeReturn_trained {s : Dev} {p : ℕ} (h1 : planeState s p = 1) (h2 : getF s F.HBM_STAT_STATE p = 2) (h3 : anyLinkUp s p = true) (t : ℕ) :
    planeReturn s t p = loadPlane (planeTrained (s.at t) p) p := by
  have he : planeTrainingDone s t p = planeTrained (s.at t) p := by
    have h1' : planeState (s.at t) p = 1 := h1
    have h2' : getF (s.at t) F.HBM_STAT_STATE p = 2 := h2
    have h3' : anyLinkUp (s.at t) p = true := h3
    unfold planeTrainingDone
    dsimp only
    rw [if_pos ⟨h1', h2', h3'⟩]
    rfl
  have hs : planeState (planeTrained (s.at t) p) p = 2 := by
    refine (planeState_setPlane (s.at t) p 2 0 0 p (by decide)).trans ?_
    rw [if_pos rfl]
  unfold planeReturn
  dsimp only
  rw [he, if_pos ⟨hs, by rw [h1]; decide⟩]

/-- Settles O30: a plane trained, and a plane out of time, by the state that each enters and what follows it. -/
theorem planesTrainOrFail : Obligations.PlanesTrainOrFail := by
  refine fun s t p => ⟨fun h1 h2 h3 => gives_of rfl ?_, fun h => gives_of rfl ?_⟩
  · rw [planeReturn_trained h1 h2 h3]
    have k : Within tablesFoot (planeTrained (s.dev.at t) p) (loadPlane (planeTrained (s.dev.at t) p) p) :=
      (within_tables_loadPlane _ _ _ (by decide)).mpr (.refl _ _)
    rw [planeState_of_within k (by decide), planeOf_of_within k (by decide)]
    refine ⟨?_, ?_, ?_⟩
    · exact (planeState_setPlane (s.dev.at t) p 2 0 0 p (by decide)).trans (if_pos rfl)
    · exact congrArg PlaneSt.routesLoaded (mget_mset_same _ _ _ _)
    · refine (congrArg PlaneSt.since (mget_mset_same _ _ _ _)).trans ?_
      exact since_setPlane (s := s.dev.at t) (show planeState s.dev p ≠ 2 by rw [h1]; decide)
  · have he : planeStateTimeout s.dev t p = faultEvent (setPlane (s.dev.at t) p 5 0) (19 + p) 0x0F 0 := if_pos h
    have hp : 19 + (p : ℕ) < 48 := by omega
    rw [he]
    refine ⟨?_, fltBit_faultEvent_same _ _ _ _ hp, cause_faultEvent _ _ _ _ (by decide)⟩
    rw [planeState_of_within (within_line_faultEvent _ (by omega) _ _) (by decide), planeState_setPlane _ _ _ _ _ _ (by decide), if_pos rfl]

end Sys2Proof.Machine
end

section
/-! A destination's evaluation (R75, R82, R92): what it shows, and what it reads. -/

namespace Sys2Proof.Machine

open Sys2Proof.Claims

variable {W : Foot}

/-! What the causes of a destination depend on. -/

/-- Nothing that a destination's evaluation reads of the sources and the control state differs between `s` and `u`. -/
structure SeesSame (s u : Dev) : Prop where
  ctl : u.ctl = s.ctl
  src : u.pln.src = s.pln.src
  fs : u.pln.fs = s.pln.fs
  kind : ∀ i, getF u F.PLN_SRCSTAT_KIND i = getF s F.PLN_SRCSTAT_KIND i
  format : ∀ i, getF u F.PLN_SRCSTAT_FORMAT i = getF s F.PLN_SRCSTAT_FORMAT i
  dual : ∀ i, getF u F.PLN_SRCSTAT_DS i = getF s F.PLN_SRCSTAT_DS i

section
variable {s u : Dev} (h : SeesSame s u)
include h

theorem SeesSame.srcKind (p n : ℕ) : srcKind u p n = srcKind s p n := h.kind _
theorem SeesSame.srcFmt (p n : ℕ) : srcFmt u p n = srcFmt s p n := h.format _
theorem SeesSame.fsSt (p n : ℕ) : fsSt u p n = fsSt s p n := by unfold Machine.fsSt; rw [h.fs]
theorem SeesSame.srcSt (p n : ℕ) : srcSt u p n = srcSt s p n := by unfold Machine.srcSt; rw [h.src]
theorem SeesSame.pkey (p n : ℕ) : pkey u p n = pkey s p n := by unfold Machine.pkey; rw [h.ctl]
theorem SeesSame.routeOf (k : ℕ) : routeOf u k = routeOf s k := by unfold Machine.routeOf; rw [h.ctl]
theorem SeesSame.mechOf (a k : ℕ) : mechOf u a k = mechOf s a k := by unfold Machine.mechOf; rw [h.ctl]
theorem SeesSame.compRec (p c : ℕ) : compRec u p c = compRec s p c := by unfold Machine.compRec; rw [h.mechOf, h.pkey]
theorem SeesSame.videoFlow (p q r : ℕ) : videoFlow u p q r = videoFlow s p q r := by unfold Machine.videoFlow; rw [h.pkey]
theorem SeesSame.flowRec (f : ℕ) : flowRec u f = flowRec s f := by unfold Machine.flowRec; rw [h.mechOf]
theorem SeesSame.srcSamp (p n : ℕ) : srcSamp u p n = srcSamp s p n := by
  unfold Machine.srcSamp
  rw [h.compRec, h.mechOf, h.pkey, h.srcSt]
theorem SeesSame.srcEnc (p n : ℕ) : srcEnc u p n = srcEnc s p n := by
  unfold Machine.srcEnc
  simp only [h.compRec, h.mechOf, h.pkey, h.srcSt]
theorem SeesSame.fsEmpty (p n : ℕ) : fsEmpty u p n = fsEmpty s p n := by unfold Machine.fsEmpty; rw [h.srcKind, h.fsSt]
theorem SeesSame.graceRep (p n : ℕ) : graceRep u p n = graceRep s p n := by unfold Machine.graceRep; rw [h.srcKind, h.fsSt]
theorem SeesSame.destCannot (p d q n : ℕ) : destCannot u p d q n = destCannot s p d q n := by
  unfold Machine.destCannot
  simp only [h.srcFmt, h.srcSamp, h.dual, h.flowRec, h.videoFlow, h.compRec, h.srcSt]
theorem SeesSame.encDiffers (p d q n : ℕ) : encDiffers u p d q n = encDiffers s p d q n := by
  unfold Machine.encDiffers
  rw [h.flowRec, h.videoFlow, h.srcEnc]
theorem SeesSame.fallbackOk (p d : ℕ) (r : Route) : fallbackOk u p d r = fallbackOk s p d r := by
  unfold Machine.fallbackOk
  rw [h.srcKind, h.destCannot]
theorem SeesSame.fsyncFed (p k : ℕ) : fsyncFed u p k = fsyncFed s p k := by
  unfold Machine.fsyncFed
  simp only [h.routeOf, h.srcKind, h.ctl]
theorem SeesSame.teamStands (p d c : ℕ) : teamStands u p d c = teamStands s p d c := by
  have hf : Machine.fsyncFed u p = Machine.fsyncFed s p := funext fun k => h.fsyncFed p k
  unfold Machine.teamStands teamHolding
  rw [h.ctl, h.pkey, hf]

/-- A destination with the same underrun and team cause has the same causes. -/
theorem SeesSame.causesOf {p d : ℕ} (hu : (dstSt u p d).underrun = (dstSt s p d).underrun)
    (ht : (dstSt u p d).teamCause = (dstSt s p d).teamCause) : causesOf u p d = causesOf s p d := by
  unfold Machine.causesOf
  simp only [h.routeOf, h.pkey, h.srcKind, h.fsEmpty, h.destCannot, h.encDiffers, h.fsSt, h.teamStands, h.ctl, hu, ht]

end

theorem SeesSame.refl (s : Dev) : SeesSame s s := ⟨rfl, rfl, rfl, fun _ => rfl, fun _ => rfl, fun _ => rfl⟩

theorem SeesSame.trans {s u v : Dev} (h : SeesSame s u) (k : SeesSame u v) : SeesSame s v :=
  ⟨k.ctl.trans h.ctl, k.src.trans h.src, k.fs.trans h.fs, fun i => (k.kind i).trans (h.kind i), fun i => (k.format i).trans (h.format i),
    fun i => (k.dual i).trans (h.dual i)⟩

/-- An evaluation, with the count of what is pending there and the route's ECC count. -/
def lookFoot : Foot := { evalFoot with flds := F.PLN_DSTSTAT_PENDING :: F.PLN_ROUTE_CE_COUNT :: evalFoot.flds, parts := .now :: evalFoot.parts }

theorem seesSame_of_within {s u : Dev} (h : Within lookFoot s u) : SeesSame s u := by
  have hp : { u.pln with planes := [], fs := [], dst := [], merge := [] } = { s.pln with planes := [], fs := [], dst := [], merge := [] } :=
    h.part .plnRest (by decide)
  have hc := h.eq_keep
  refine ⟨?_, (congrArg PlnSt.src hp :), h.part .fs (by decide), fun i => h.fld _ _ (by decide), fun i => h.fld _ _ (by decide),
    fun i => h.fld _ _ (by decide)⟩
  rw [hc]
  simp (decide := true) [keep]

/-! Teams that resume. -/

theorem dstSt_setDst_same (s : Dev) (p d : ℕ) (x : DstSt) : dstSt (setDst s p d x) p d = x := mget_mset_same _ _ _ _

theorem getF_setDst (s : Dev) (p d : ℕ) (x : DstSt) (f : Fld) (i : ℕ) : getF (setDst s p d x) f i = getF s f i := rfl

theorem ix_ne {p q : ℕ} (hp : p < 2) (hq : q < 2) (h : p ≠ q) (d e : ℕ) : ix p d ≠ ix q e := by
  unfold ix
  omega

theorem dstSt_setDst_other (s : Dev) {p q : ℕ} (hp : p < 2) (hq : q < 2) (h : q ≠ p) (d e : ℕ) (x : DstSt) :
    dstSt (setDst s p d x) q e = dstSt s q e := mget_mset_ne _ _ _ _ _ (ix_ne hq hp h e d)

/-- Destinations stay but for whether they have to report that they resume. -/
def DstKept (s u : Dev) : Prop := ∀ q e, ∃ b, dstSt u q e = { dstSt s q e with resume := b }

theorem DstKept.trans {s u v : Dev} (h : DstKept s u) (k : DstKept u v) : DstKept s v := by
  intro q e
  obtain ⟨b, hb⟩ := h q e
  obtain ⟨c, hc⟩ := k q e
  exact ⟨c, by rw [hc, hb]⟩

theorem dstKept_setDst (s : Dev) (p d : ℕ) (b : Bool) : DstKept s (setDst s p d { dstSt s p d with resume := b }) := by
  intro q e
  by_cases h : ix q e = ix p d
  · exact ⟨b, by unfold setDst dstSt; dsimp only; rw [h, mget_mset_same]⟩
  · exact ⟨(dstSt s q e).resume, mget_mset_ne _ _ _ _ _ h⟩

theorem dstKept_raise (s : Dev) (c n j dt : ℕ) : DstKept s (raise s c n j dt) := fun q e =>
  ⟨(dstSt s q e).resume, by unfold dstSt; rw [raise_pln]⟩

theorem dstKept_foldl (g : Dev → ℕ → Dev) (h : ∀ s a, DstKept s (g s a)) (l : List ℕ) (s : Dev) : DstKept s (l.foldl g s) := by
  induction l generalizing s with
  | nil => exact fun q e => ⟨(dstSt s q e).resume, rfl⟩
  | cons a r ih => exact (h s a).trans (ih _)

/-- Destination `d` of plane `q` reports that it resumes, where it has to (R102). -/
def resumeAt (s : Dev) (q d : ℕ) : Dev :=
  if (dstSt s q d).resume then raise (setDst s q d { dstSt s q d with resume := false }) 0x09 (19 + q) 0 (slipDetail d q 0 0 1) else s

theorem teamResumes_eq (s : Dev) (p d : ℕ) : teamResumes s p d =
    if !(dstSt s p d).resume then s
    else (((teamHolding s (pkey s p d)).map fun t => t.2.members).getD []).foldl (fun s k => resumeAt s (if s.ctl.pair then k % 2 else p) (k / 2))
      (setDst s p d { dstSt s p d with resume := (teamHolding s (pkey s p d)).isSome }) := rfl

theorem dstKept_resumeAt (s : Dev) (q d : ℕ) : DstKept s (resumeAt s q d) := by
  unfold resumeAt
  split
  · exact .trans (dstKept_setDst s q d false) (dstKept_raise _ _ _ _ _)
  · exact fun q e => ⟨(dstSt s q e).resume, rfl⟩

theorem dstKept_teamResumes (s : Dev) (p d : ℕ) : DstKept s (teamResumes s p d) := by
  rw [teamResumes_eq]
  split
  · exact fun q e => ⟨(dstSt s q e).resume, rfl⟩
  · exact .trans (dstKept_setDst s p d _) (dstKept_foldl _ (fun s k => dstKept_resumeAt s _ _) _ _)

theorem resumeAt_other (s : Dev) {p q : ℕ} (hp : p < 2) (hq : q < 2) (h : q ≠ p) (d e : ℕ) :
    (resumeAt s p d).ctl = s.ctl ∧ dstSt (resumeAt s p d) q e = dstSt s q e := by
  unfold resumeAt
  split
  · refine ⟨by rw [raise_ctl]; rfl, ?_⟩
    unfold dstSt
    rw [raise_pln]
    exact dstSt_setDst_other s hp hq h d e _
  · exact ⟨rfl, rfl⟩

/-- On its own a plane's resuming teams leave the other plane's destinations alone. -/
theorem dstSt_teamResumes_other {s : Dev} {p q : ℕ} (hp : p < 2) (hq : q < 2) (h : q ≠ p) (hs : s.ctl.pair = false) (d e : ℕ) :
    dstSt (teamResumes s p d) q e = dstSt s q e := by
  have hfold (l : List ℕ) (u : Dev) (hu : u.ctl.pair = false) :
      dstSt (l.foldl (fun s k => resumeAt s (if s.ctl.pair then k % 2 else p) (k / 2)) u) q e = dstSt u q e := by
    induction l generalizing u with
    | nil => rfl
    | cons k r ih =>
      rw [List.foldl_cons, hu]
      obtain ⟨hc, hd⟩ := resumeAt_other u hp hq h (k / 2) e
      exact (ih (resumeAt u p (k / 2)) (by rw [hc]; exact hu)).trans hd
  rw [teamResumes_eq]
  split
  · rfl
  · rw [hfold _ (setDst s p d _) hs]
    exact dstSt_setDst_other s hp hq h d e _

/-! The evaluation itself. -/

/-- What destination `d` shows for `cause`, and its registers. -/
def evalPut (s : Dev) (p d k q cause : ℕ) (r : Route) (x : DstSt) : Dev :=
  let rep := (cause != 0 && repeats s p d cause) || (cause == 0 && graceRep s q r.src)
  let shown := if rep then x.shown else if cause = 0 then r.src else if fallbackOk s p d r then r.fbSrc else 0x7FF
  let plane := if cause = 0 then q else p
  let f := if rep || shown = 0x7FF then x.outFmt else srcFmt s plane shown
  let s := setDst s p d { x with cause := cause, repeated := rep, shown := shown, outFmt := if f = 0 then x.outFmt else f, sent := x.sent || shown != 0x7FF }
  let t := teamHolding s k
  setFs s (ix p d) [(F.PLN_DSTSTAT_CAUSE, cause), (F.PLN_DSTSTAT_CONCEALING, b2n (cause != 0)),
    (F.PLN_DSTSTAT_HELD, b2n (cause == 5 && rep)), (F.PLN_DSTSTAT_IN_TEAM, b2n t.isSome), (F.PLN_DSTSTAT_TEAM, (t.map (·.1)).getD 0)]

/-- The plane that the routed source of destination `d` is on. -/
def srcPlaneAt (s : Dev) (p d : ℕ) : ℕ := if s.ctl.pair then (routeOf s (pkey s p d)).srcPlane else p

/-- The destination with its teams and events seen to, before it is shown. -/
def evalHead (s : Dev) (p d : ℕ) : Dev :=
  concealEvents (teamResumes s p d) p d (dstSt (teamResumes s p d) p d).cause ((causesOf (teamResumes s p d) p d).headD 0)

theorem evalDst_eq (s : Dev) (p d : ℕ) : evalDst s p d =
    evalPut (evalHead s p d) p d (pkey s p d) (srcPlaneAt s p d) ((causesOf (teamResumes s p d) p d).headD 0) (routeOf s (pkey s p d))
      (dstSt (teamResumes s p d) p d) := rfl

theorem sees_teamResumes (s : Dev) (p d : ℕ) : SeesSame s (teamResumes s p d) :=
  seesSame_of_within ((within_teamResumes _ _ _ _ (by decide)).mpr (.refl _ _))

theorem sees_evalHead (s : Dev) (p d : ℕ) : SeesSame s (evalHead s p d) := by
  refine seesSame_of_within ?_
  unfold evalHead
  simp (decide := true)

theorem sees_evalDst (s : Dev) (p d : ℕ) : SeesSame s (evalDst s p d) :=
  seesSame_of_within ((within_evalDst _ _ _ _ (by decide)).mpr (.refl _ _))

theorem causesOf_teamResumes (s : Dev) (p d : ℕ) : causesOf (teamResumes s p d) p d = causesOf s p d := by
  obtain ⟨b, hb⟩ := dstKept_teamResumes s p d p d
  exact (sees_teamResumes s p d).causesOf (by rw [hb]) (by rw [hb])

theorem dstSt_evalPut (s : Dev) (p d k q cause : ℕ) (r : Route) (x : DstSt) :
    (dstSt (evalPut s p d k q cause r x) p d).cause = cause ∧
      (dstSt (evalPut s p d k q cause r x) p d).shown =
        if (cause != 0 && repeats s p d cause) || (cause == 0 && graceRep s q r.src) then x.shown
        else if cause = 0 then r.src else if fallbackOk s p d r then r.fbSrc else 0x7FF := by
  have hk (u : Dev) (i : ℕ) (l : List (Fld × ℕ)) : dstSt (setFs u i l) p d = dstSt u p d := by unfold dstSt; rw [setFs_pln]
  unfold evalPut
  dsimp only
  rw [hk, dstSt_setDst_same]
  exact ⟨rfl, rfl⟩

theorem getF_evalPut (s : Dev) (p d k q cause : ℕ) (r : Route) (x : DstSt) :
    getF (evalPut s p d k q cause r x) F.PLN_DSTSTAT_CAUSE (ix p d) = cause % 2 ^ F.PLN_DSTSTAT_CAUSE.width ∧
      getF (evalPut s p d k q cause r x) F.PLN_DSTSTAT_CONCEALING (ix p d) = b2n (cause != 0) := by
  unfold evalPut
  simp only [setFs]
  constructor
  · rw [getF_setF_code _ _ _ _ _ _ (by decide), getF_setF_code _ _ _ _ _ _ (by decide), getF_setF_code _ _ _ _ _ _ (by decide),
      getF_setF_code _ _ _ _ _ _ (by decide), getF_setF_same]
  · rw [getF_setF_code _ _ _ _ _ _ (by decide), getF_setF_code _ _ _ _ _ _ (by decide), getF_setF_code _ _ _ _ _ _ (by decide), getF_setF_same]
    cases (cause != 0) <;> rfl

/-- What an evaluation leaves at its destination (R92). -/
structure Evaluated (s u : Dev) (p d : ℕ) : Prop where
  cause : (dstSt u p d).cause = (causesOf s p d).headD 0
  shownCause : getF u F.PLN_DSTSTAT_CAUSE (ix p d) = (causesOf s p d).headD 0 % 2 ^ F.PLN_DSTSTAT_CAUSE.width
  concealing : getF u F.PLN_DSTSTAT_CONCEALING (ix p d) = b2n ((causesOf s p d).headD 0 != 0)
  routed : causesOf s p d = [] → graceRep s (srcPlaneAt s p d) (routeOf s (pkey s p d)).src = false →
    (dstSt u p d).shown = (routeOf s (pkey s p d)).src
  black : (causesOf s p d).headD 0 = 1 → fallbackOk s p d (routeOf s (pkey s p d)) = false → (dstSt u p d).shown = 0x7FF

theorem evaluated_evalDst (s : Dev) (p d : ℕ) : Evaluated s (evalDst s p d) p d := by
  have hh := sees_evalHead s p d
  rw [evalDst_eq, causesOf_teamResumes]
  obtain ⟨h1, h2⟩ := dstSt_evalPut (evalHead s p d) p d (pkey s p d) (srcPlaneAt s p d) ((causesOf s p d).headD 0) (routeOf s (pkey s p d))
    (dstSt (teamResumes s p d) p d)
  obtain ⟨h3, h4⟩ := getF_evalPut (evalHead s p d) p d (pkey s p d) (srcPlaneAt s p d) ((causesOf s p d).headD 0) (routeOf s (pkey s p d))
    (dstSt (teamResumes s p d) p d)
  refine ⟨h1, h3, h4, fun hc hg => ?_, fun hc hf => ?_⟩
  · rw [h2, hh.graceRep, hg, hc]
    rfl
  · rw [h2, hh.fallbackOk, hf, hc]
    rfl

/-- The other plane's destination is left alone by an evaluation where the planes carry the same destinations. -/
theorem evalDst_other {s : Dev} {p q : ℕ} (hp : p < 2) (hq : q < 2) (h : q ≠ p) (hs : s.ctl.pair = false) (d e : ℕ) :
    dstSt (evalDst s p d) q e = dstSt s q e ∧
      getF (evalDst s p d) F.PLN_DSTSTAT_CAUSE (ix q e) = getF s F.PLN_DSTSTAT_CAUSE (ix q e) ∧
      getF (evalDst s p d) F.PLN_DSTSTAT_CONCEALING (ix q e) = getF s F.PLN_DSTSTAT_CONCEALING (ix q e) := by
  have hd (u : Dev) (o n : ℕ) : dstSt (concealEvents u p d o n) q e = dstSt u q e := by
    have k : (concealEvents u p d o n).pln.dst = u.pln.dst :=
      Within.part (W := evtFoot) ((within_concealEvents _ _ _ _ _ _ (by decide)).mpr (.refl _ _)) .dst (by decide)
    unfold dstSt
    rw [k]
  have hk (u : Dev) (i : ℕ) (l : List (Fld × ℕ)) : dstSt (setFs u i l) q e = dstSt u q e := by unfold dstSt; rw [setFs_pln]
  have hw : Within dstFoot s (evalHead s p d) := by
    unfold evalHead
    simp (decide := true)
  have hi := ix_ne hq hp h e d
  rw [evalDst_eq]
  unfold evalPut
  dsimp only
  refine ⟨?_, ?_, ?_⟩
  · rw [hk, dstSt_setDst_other _ hp hq h]
    exact (hd _ _ _).trans (dstSt_teamResumes_other hp hq h hs d e)
  · simp only [setFs]
    rw [getF_setF_idx _ _ _ _ _ _ hi, getF_setF_idx _ _ _ _ _ _ hi, getF_setF_idx _ _ _ _ _ _ hi, getF_setF_idx _ _ _ _ _ _ hi,
      getF_setF_idx _ _ _ _ _ _ hi, getF_setDst]
    exact hw.fld F.PLN_DSTSTAT_CAUSE (ix q e) (by decide)
  · simp only [setFs]
    rw [getF_setF_idx _ _ _ _ _ _ hi, getF_setF_idx _ _ _ _ _ _ hi, getF_setF_idx _ _ _ _ _ _ hi, getF_setF_idx _ _ _ _ _ _ hi,
      getF_setF_idx _ _ _ _ _ _ hi, getF_setDst]
    exact hw.fld F.PLN_DSTSTAT_CONCEALING (ix q e) (by decide)

end Sys2Proof.Machine
end

section
/-! The switching instant (R74 to R95): the one command due at a destination, and a destination with nothing due. -/

namespace Sys2Proof.Machine

open Sys2Proof.Claims

variable {W : Foot}

theorem routeOf_of_within {s u : Dev} (h : Within W s u) (hW : .routes ∉ W.parts) (k : ℕ) : routeOf u k = routeOf s k := by
  have hr : u.ctl.routes = s.ctl.routes := h.part .routes hW
  unfold routeOf
  rw [hr]

theorem doneStatus_of_within {s u : Dev} (h : Within W s u) (hc : .ctlRest ∉ W.parts ∨ u.ctl.pair = s.ctl.pair)
    (hp : W.hits (F.PLN_STATE_STATE.code % 262144) = false) (hr : W.hits (F.PAIR_STAT_ROLE.code % 262144) = false) (df : Bool) :
    doneStatus u df = doneStatus s df := by
  have hpair : u.ctl.pair = s.ctl.pair := hc.elim (fun hc => (h.part .ctlRest hc).1) id
  unfold doneStatus onePath role
  simp only [hpair, h.fld _ _ hr, planeState_of_within h hp]

/-! A route taken. -/

/-- Audio that follows a take changes what it follows, and the crossfades to come. -/
theorem within_followAudio_follow (s : Dev) (k cut q n jsn : ℕ) :
    Within { flds := [F.AUD_FOLLOW_PLANE, F.AUD_FOLLOW_SOURCE], parts := [.ctlRest, .plnRest] } s (followAudio s k cut q n jsn) := by
  unfold followAudio
  simp (decide := true) [↓within_ite]

theorem ctl_foldl {α : Type} (g : Dev → α → Dev) (h : ∀ s a, (g s a).ctl = s.ctl) (l : List α) (s : Dev) : (l.foldl g s).ctl = s.ctl := by
  induction l generalizing s with
  | nil => rfl
  | cons a r ih => exact (ih _).trans (h s a)

theorem pair_followAudio (s : Dev) (k cut q n jsn : ℕ) : (followAudio s k cut q n jsn).ctl.pair = s.ctl.pair := by
  unfold followAudio
  dsimp only
  split
  · rfl
  · rw [ctl_foldl _ fun s p => ?_]
    · rfl
    · split
      · rfl
      · exact setFs_ctl _ _ _

/-- The route of `k` is written and its journal record made. -/
def routed (s : Dev) (k : ℕ) (r : Route) : Dev := journal (setRoute s k r) 32

theorem within_routed (s : Dev) (k : ℕ) (r : Route) : Within { jrnFoot with parts := .routes :: jrnFoot.parts } s (routed s k r) := by
  unfold routed setRoute
  simp (decide := true)

theorem routeOf_routed (s : Dev) (k : ℕ) (r : Route) (q : ℕ) : routeOf (routed s k r) q = if q = k then r else routeOf s q := by
  have h : Within jrnFoot (setRoute s k r) (routed s k r) := by
    unfold routed
    simp (decide := true)
  rw [routeOf_of_within h (by decide)]
  split
  next hq => subst hq; exact mget_mset_same _ _ _ _
  next hq => exact mget_mset_ne _ _ _ _ _ hq

/-- An earlier command alone is withdrawn by a route's write. -/
theorem withdraw_alone {s : Dev} {x : Pend} (h : s.ctl.pend = [x]) (k : ℕ) : withdraw s k x.jsn = s := by
  unfold withdraw
  simp [h]

/-- Command `x` once its item is marked as run in frame `n`. -/
def marked (x : Pend) (i : PItem) (n : ℕ) : Pend := { x with items := [{ i with state := 1 }], lastFrame := n }

theorem pend_markItem {s : Dev} {x : Pend} {i : PItem} (h : s.ctl.pend = [x]) (hi : x.items = [i]) (h0 : i.state = 0) (n : ℕ) :
    (markItem s x.jsn i.key 1 n).ctl.pend = [marked x i n] := by
  simp [markItem, modPend, modCtl, h, hi, h0, marked]

theorem settle_marked {s : Dev} {x : Pend} {i : PItem} {n : ℕ} (h : s.ctl.pend = [marked x i n]) (ho : x.op = 0x10) :
    settle s x.jsn = decideCmd (unpend s x.jsn) x.jsn (doneStatus (unpend s x.jsn) x.deferred) n (takeDetail 0 0 x.reason) := by
  unfold settle
  rw [h]
  simp [marked, ho]

/-- The one command that was pending is so no more, and is decided as given. -/
structure Ended (u : Dev) (jsn st ap dt : ℕ) : Prop where
  none : u.ctl.pend = []
  decided : Decided u jsn st ap dt

theorem ended_decideCmd {s : Dev} {x : Pend} {j : JRec} (hp : ∀ q ∈ s.ctl.pend, q.jsn = x.jsn) (hj : recOf s x.jsn = some j) (hd : j.dec = none)
    (hf : isFollower s = false) (st ap dt : ℕ) : Ended (decideCmd (unpend s x.jsn) x.jsn st ap dt) x.jsn st ap dt := by
  have hjs : j.jsn = x.jsn := by simpa using List.find?_some hj
  refine ⟨((within_decFoot_decideCmd _ _ _ _ _).pend (by decide)).trans ?_, ?_⟩
  · exact List.filter_eq_nil_iff.mpr fun q hq => by simpa using hp q hq
  · rw [← hjs] at hj ⊢
    exact decided_decideCmd (s := unpend s j.jsn) hj hd hf _ _ _

/-! The due command. -/

/-- Command `x` waits alone in `s` for its item `i`, of record `j`. -/
structure Alone (s : Dev) (x : Pend) (i : PItem) (j : JRec) : Prop where
  alone : s.ctl.pend = [x]
  item : x.items = [i]
  waits : i.state = 0
  journalled : recOf s x.jsn = some j
  undecided : j.dec = none
  leads : isFollower s = false
  above : (routeOf s i.key).jsn < x.jsn

theorem Alone.find {s : Dev} {x : Pend} {i : PItem} {j : JRec} (h : Alone s x i j) :
    (x.items.find? fun z => z.key == i.key && z.state == 0) = some i := by
  simp [h.item, h.waits]

theorem fenced_above {s : Dev} {jsn rec : ℕ} (h : rec < jsn) (g : Dev → Dev) : fenced s jsn rec g = (true, g s) := if_neg (Nat.not_le.mpr h)

theorem Alone.pend_jsn {s : Dev} {x : Pend} {i : PItem} {j : JRec} (h : Alone s x i j) : ∀ q ∈ s.ctl.pend, q.jsn = x.jsn := by
  rw [h.alone]
  simp

/-- Locked: the command ends with LOCKED, and nothing else changes. -/
theorem applyDue_locked {s : Dev} {x : Pend} {i : PItem} {j : JRec} (h : Alone s x i j) (ho : x.op = 0x10)
    (hl : takeLocked (routeOf s i.key) i.owner = true) (n : ℕ) :
    applyDue s i.key n x = decideCmd (unpend s x.jsn) x.jsn stLocked 0 (takeDetail 0 0 4) := by
  have hi : lockedItem s x i = some i := by simp [lockedItem, applyLocked, ho, hl]
  unfold applyDue
  rw [h.find]
  dsimp only
  rw [if_neg (by rw [ho]; decide), hi]
  simp [ho]

/-- What comes of a TAKE's route: the follow of its audio where the source changes and the take does not leave it. -/
def takeFollow (s : Dev) (x : Pend) (i : PItem) (r : Route) : Dev :=
  if (r.src == i.src && r.srcPlane == i.srcPlane) || bit i.flags 0 then s else followAudio s i.key (bits i.flags 1 1) i.srcPlane i.src x.jsn

/-- Let through: the route is written, audio follows, and the item is marked and settled. -/
theorem applyDue_take {s : Dev} {x : Pend} {i : PItem} {j : JRec} (h : Alone s x i j) (ho : x.op = 0x10)
    (hl : takeLocked (routeOf s i.key) i.owner = false) (n : ℕ) :
    applyDue s i.key n x =
      settle (markItem (takeFollow (routed s i.key { routeOf s i.key with src := i.src, srcPlane := i.srcPlane, jsn := x.jsn }) x i (routeOf s i.key))
        x.jsn i.key 1 n) x.jsn := by
  have hi : lockedItem s x i = none := by simp [lockedItem, applyLocked, ho, hl]
  have hr (d : Bytes) : newRoute s x.op d (routeOf s i.key) i x.jsn = { routeOf s i.key with src := i.src, srcPlane := i.srcPlane, jsn := x.jsn } := by
    simp [newRoute, ho]
  unfold applyDue
  rw [h.find]
  dsimp only
  rw [if_neg (by rw [ho]; decide), hi]
  dsimp only
  rw [fenced_above h.above, hr]
  dsimp only
  rw [if_neg (by decide), if_pos (by rw [ho]; decide), ← routed, withdraw_alone (s := routed s i.key _) ?_]
  · rfl
  · exact ((within_routed s i.key _).pend (by decide)).trans h.alone

/-- PROTECT writes the protection and its owner. -/
theorem applyDue_protect {s : Dev} {x : Pend} {i : PItem} {j : JRec} (h : Alone s x i j) (ho : x.op = 0x12)
    (hl : protLocked (routeOf s i.key) i.owner = false) (n : ℕ) :
    ∃ r : Route, r.prot = bits (le j.desc 26 1) 0 2 ∧ r.src = (routeOf s i.key).src ∧
      applyDue s i.key n x = finishFrame (routed s i.key r) x n := by
  have hi : lockedItem s x i = none := by simp [lockedItem, applyLocked, ho, hl]
  refine ⟨newRoute s x.op j.desc (routeOf s i.key) i x.jsn, by simp [newRoute, ho], by simp [newRoute, ho], ?_⟩
  unfold applyDue
  rw [h.find]
  dsimp only
  rw [if_neg (by rw [ho]; decide), hi]
  dsimp only
  rw [fenced_above h.above, h.journalled]
  dsimp only
  rw [if_neg (by decide), if_neg (by rw [ho]; decide), ← routed, withdraw_alone (s := routed s i.key _) ?_]
  exact ((within_routed s i.key _).pend (by decide)).trans h.alone

/-! What the due command leaves. -/

theorem take_ends {s : Dev} {x : Pend} {i : PItem} {j : JRec} (h : Alone s x i j) (ho : x.op = 0x10)
    (hl : takeLocked (routeOf s i.key) i.owner = false) (n : ℕ) :
    Ended (applyDue s i.key n x) x.jsn (doneStatus s x.deferred) n (takeDetail 0 0 x.reason) ∧
      ∀ k, routeOf (applyDue s i.key n x) k =
        if k = i.key then { routeOf s i.key with src := i.src, srcPlane := i.srcPlane, jsn := x.jsn } else routeOf s k := by
  rw [applyDue_take h ho hl]
  have h1 := within_routed s i.key { routeOf s i.key with src := i.src, srcPlane := i.srcPlane, jsn := x.jsn }
  have hr := routeOf_routed s i.key { routeOf s i.key with src := i.src, srcPlane := i.srcPlane, jsn := x.jsn }
  generalize routed s i.key { routeOf s i.key with src := i.src, srcPlane := i.srcPlane, jsn := x.jsn } = u at *
  have h2 : Within { flds := [F.AUD_FOLLOW_PLANE, F.AUD_FOLLOW_SOURCE], parts := [.ctlRest, .plnRest] } u (takeFollow u x i (routeOf s i.key)) := by
    unfold takeFollow
    split
    · exact .refl _ _
    · exact within_followAudio_follow _ _ _ _ _ _
  have hpair : (takeFollow u x i (routeOf s i.key)).ctl.pair = u.ctl.pair := by
    unfold takeFollow
    split
    · rfl
    · exact pair_followAudio _ _ _ _ _ _
  generalize takeFollow u x i (routeOf s i.key) = v at *
  have hm : (markItem v x.jsn i.key 1 n).ctl.pend = [marked x i n] :=
    pend_markItem ((h2.pend (by decide)).trans ((h1.pend (by decide)).trans h.alone)) h.item h.waits n
  have hd : doneStatus (unpend (markItem v x.jsn i.key 1 n) x.jsn) x.deferred = doneStatus s x.deferred := by
    refine (doneStatus_of_within h2 (.inr hpair) (by decide) (by decide) _).trans (doneStatus_of_within h1 (.inl (by decide)) (by decide) (by decide) _)
  rw [settle_marked hm ho, hd]
  refine ⟨ended_decideCmd (s := markItem v x.jsn i.key 1 n) (j := j) ?_ ?_ h.undecided ?_ _ _ _, fun k => ?_⟩
  · rw [hm]
    simp [marked]
  · exact (h2.recOf (by decide) _).trans ((h1.recOf (by decide) _).trans h.journalled)
  · exact (h2.isFollower (by decide)).trans ((h1.isFollower (by decide)).trans h.leads)
  · rw [routeOf_of_within (within_decFoot_decideCmd _ _ _ _ _) (by decide)]
    exact (routeOf_of_within h2 (by decide) k).trans (hr k)

theorem locked_ends {s : Dev} {x : Pend} {i : PItem} {j : JRec} (h : Alone s x i j) (ho : x.op = 0x10)
    (hl : takeLocked (routeOf s i.key) i.owner = true) (n : ℕ) :
    Ended (applyDue s i.key n x) x.jsn stLocked 0 (takeDetail 0 0 4) ∧ (applyDue s i.key n x).ctl.routes = s.ctl.routes := by
  rw [applyDue_locked h ho hl]
  exact ⟨ended_decideCmd h.pend_jsn h.journalled h.undecided h.leads _ _ _, (within_decFoot_decideCmd _ _ _ _ _).part .routes (by decide)⟩

theorem protect_ends {s : Dev} {x : Pend} {i : PItem} {j : JRec} (h : Alone s x i j) (ho : x.op = 0x12)
    (hl : protLocked (routeOf s i.key) i.owner = false) (n : ℕ) :
    Ended (applyDue s i.key n x) x.jsn (doneStatus s x.deferred) n 0 ∧
      ∃ r : Route, r.prot = bits (le j.desc 26 1) 0 2 ∧ r.src = (routeOf s i.key).src ∧
        ∀ k, routeOf (applyDue s i.key n x) k = if k = i.key then r else routeOf s k := by
  obtain ⟨r, hp, hs, he⟩ := applyDue_protect h ho hl n
  have h1 := within_routed s i.key r
  rw [he]
  have hd : doneStatus (routed s i.key r) x.deferred = doneStatus s x.deferred :=
    doneStatus_of_within h1 (.inl (by decide)) (by decide) (by decide) _
  unfold finishFrame
  rw [hd]
  refine ⟨ended_decideCmd (j := j) ?_ ((h1.recOf (by decide) _).trans h.journalled) h.undecided ((h1.isFollower (by decide)).trans h.leads) _ _ _,
    r, hp, hs, fun k => ?_⟩
  · rw [h1.pend (by decide), h.alone]
    simp
  · rw [routeOf_of_within (within_decFoot_decideCmd _ _ _ _ _) (by decide)]
    exact routeOf_routed s i.key r k

/-! The whole instant. -/

/-- The evaluations of an instant at destination `d`: in Pair the plane's own, otherwise both planes', but for a plane whose route entry
could not be read. -/
def evalBoth (s : Dev) (p d ecc : ℕ) : Dev :=
  let go := fun (s : Dev) (q : ℕ) => if ecc = 2 ∧ q = p then s else evalDst s q d
  if s.ctl.pair then go s p else go (go s 0) 1

/-- What follows the evaluations: the ports that follow the destination, and the links' CFG items. -/
def instantTail (before s : Dev) (p d : ℕ) : Dev := cfgSlot before (cfgSlot before (adoptAssoc s p d) 0 d) 1 d

/-- What the instant's tail changes. -/
def instantTailFoot : Foot := { parts := [.out, .cfg, .tdmAssoc] }

theorem within_instantTail (before s : Dev) (p d : ℕ) : Within instantTailFoot s (instantTail before s p d) := by
  have ha : Within instantTailFoot s (adoptAssoc s p d) := by
    unfold adoptAssoc
    refine within_foldl _ (fun s q => ?_) _ s
    split
    · rfl
    · rw [within_ite]
      split
      · exact within_assoc _ _ _ (by decide)
      · rfl
  unfold instantTail
  simp (decide := true) [ha]

theorem switchInstant_one {s : Dev} {p d : ℕ} {x : Pend} {i : PItem} {j : JRec} {t : ℕ} (h : DueAlone s p d (hfnAt s t) x i j)
    (ho : x.op = 0x10 ∨ x.op = 0x12) :
    switchInstant s t p d 0 =
      instantTail s (evalBoth (syncPending (applyDue (s.at t) i.key (hfnAt s t) x) i.key) p d 0) p d := by
  have hk : pkey (s.at t) p d = i.key := h.here.symm
  have hdue : dueAt (s.at t) i.key (hfnAt s t) = [x] := by
    rcases ho with ho | ho <;> simp [dueAt, h.alone, h.due, h.item, h.waits, ho]
  have hx : ¬x.op = 0x13 := by rcases ho with ho | ho <;> rw [ho] <;> decide
  have he : routeEcc (s.at t) p 0 = s.at t := rfl
  have hn : hfn (s.at t) = hfnAt s t := rfl
  unfold switchInstant switchingInstant
  dsimp only
  rw [he, hn, hk, hdue, List.foldl_cons, List.foldl_nil, show (s.at t).ctl.pend = [x] from h.alone]
  simp only [List.find?_cons, beq_self_eq_true, hx, if_false]
  rfl

theorem within_evalBoth (s : Dev) (p d ecc : ℕ) : Within evalFoot s (evalBoth s p d ecc) := by
  unfold evalBoth
  simp (decide := true) [↓within_ite]

/-- After its one due command an instant keeps the routes, the records and the pending list. -/
def afterDueFoot : Foot :=
  { evalFoot with flds := F.PLN_DSTSTAT_PENDING :: evalFoot.flds, parts := instantTailFoot.parts ++ evalFoot.parts }

theorem within_switchInstant_due {s : Dev} {p d : ℕ} {x : Pend} {i : PItem} {j : JRec} {t : ℕ} (h : DueAlone s p d (hfnAt s t) x i j)
    (ho : x.op = 0x10 ∨ x.op = 0x12) :
    Within afterDueFoot (applyDue (s.at t) i.key (hfnAt s t) x) (switchInstant s t p d 0) := by
  rw [switchInstant_one h ho]
  have k := within_evalBoth (syncPending (applyDue (s.at t) i.key (hfnAt s t) x) i.key) p d 0
  refine .trans (.trans ?_ (k.mono (by decide))) ((within_instantTail _ _ _ _).mono (by decide))
  simp (decide := true)

theorem alone_of_dueAlone {s : Dev} {p d n : ℕ} {x : Pend} {i : PItem} {j : JRec} (h : DueAlone s p d n x i j) (t : ℕ) : Alone (s.at t) x i j :=
  ⟨h.alone, h.item, h.waits, h.journalled, h.undecided, h.leads, by rw [h.here]; exact h.above⟩

/-! An instant with nothing pending. -/

theorem Evaluated.of_sees {s v u : Dev} {p d : ℕ} (hs : SeesSame s v) (hd : dstSt v p d = dstSt s p d) (h : Evaluated v u p d) :
    Evaluated s u p d := by
  have hc : causesOf v p d = causesOf s p d := hs.causesOf (by rw [hd]) (by rw [hd])
  have hq : srcPlaneAt v p d = srcPlaneAt s p d := by unfold srcPlaneAt; rw [hs.ctl, hs.routeOf, hs.pkey]
  obtain ⟨h1, h2, h3, h4, h5⟩ := h
  rw [hc] at h1 h2 h3 h4 h5
  rw [hs.routeOf, hs.pkey] at h4 h5
  rw [hq, hs.graceRep] at h4
  rw [hs.fallbackOk] at h5
  exact ⟨h1, h2, h3, h4, h5⟩

theorem Evaluated.of_kept {s u v : Dev} {p d : ℕ} (h : Evaluated s u p d) (hd : dstSt v p d = dstSt u p d)
    (hc : getF v F.PLN_DSTSTAT_CAUSE (ix p d) = getF u F.PLN_DSTSTAT_CAUSE (ix p d))
    (ho : getF v F.PLN_DSTSTAT_CONCEALING (ix p d) = getF u F.PLN_DSTSTAT_CONCEALING (ix p d)) : Evaluated s v p d := by
  obtain ⟨h1, h2, h3, h4, h5⟩ := h
  rw [← hd] at h1 h4 h5
  exact ⟨h1, hc.trans h2, ho.trans h3, h4, h5⟩

theorem evaluated_evalBoth (s : Dev) (p : Fin 2) (d : ℕ) : Evaluated s (evalBoth s p d 0) p d := by
  cases hs : s.ctl.pair with
  | true =>
    have he : evalBoth s p d 0 = evalDst s p d := by simp [evalBoth, hs]
    rw [he]
    exact evaluated_evalDst s p d
  | false =>
    have he : evalBoth s p d 0 = evalDst (evalDst s 0 d) 1 d := by simp [evalBoth, hs]
    have hs' : (evalDst s 0 d).ctl.pair = false := by rw [(sees_evalDst s 0 d).ctl]; exact hs
    rw [he]
    obtain rfl | rfl : p = 0 ∨ p = 1 := by omega
    · obtain ⟨h1, h2, h3⟩ := evalDst_other (p := 1) (q := 0) (by decide) (by decide) (by decide) hs' d d
      exact (evaluated_evalDst s 0 d).of_kept h1 h2 h3
    · obtain ⟨h1, -, -⟩ := evalDst_other (p := 0) (q := 1) (by decide) (by decide) (by decide) hs d d
      exact (evaluated_evalDst (evalDst s 0 d) 1 d).of_sees (sees_evalDst s 0 d) h1

/-- A destination that could not be read is not evaluated. -/
theorem dstSt_evalBoth_double (s : Dev) (p : Fin 2) (d : ℕ) : dstSt (evalBoth s p d 2) p d = dstSt s p d := by
  cases hs : s.ctl.pair with
  | true =>
    have he : evalBoth s p d 2 = s := by simp [evalBoth, hs]
    rw [he]
  | false =>
    obtain rfl | rfl : p = 0 ∨ p = 1 := by omega
    · have he : evalBoth s (0 : Fin 2) d 2 = evalDst s 1 d := by simp [evalBoth, hs]
      rw [he]
      exact (evalDst_other (by decide) (by decide) (by decide) hs d d).1
    · have he : evalBoth s (1 : Fin 2) d 2 = evalDst s 0 d := by simp [evalBoth, hs]
      rw [he]
      exact (evalDst_other (by decide) (by decide) (by decide) hs d d).1

/-- With nothing pending an instant evaluates its destination. -/
theorem switchInstant_none {s : Dev} (h : s.ctl.pend = []) (t p d ecc : ℕ) (hp : (routeEcc (s.at t) p ecc).ctl.pend = s.ctl.pend) :
    switchInstant s t p d ecc =
      instantTail s (evalBoth (syncPending (routeEcc (s.at t) p ecc) (pkey (routeEcc (s.at t) p ecc) p d)) p d ecc) p d := by
  have hdue (k n : ℕ) : dueAt (routeEcc (s.at t) p ecc) k n = [] := by
    unfold dueAt
    rw [hp, h]
    rfl
  unfold switchInstant switchingInstant
  dsimp only
  rw [hdue]
  rfl

theorem dstSt_of_within {s u : Dev} (h : Within W s u) (hW : .dst ∉ W.parts) (p d : ℕ) : dstSt u p d = dstSt s p d := by
  have k : u.pln.dst = s.pln.dst := h.part .dst hW
  unfold dstSt
  rw [k]

theorem Evaluated.of_tail {s u v : Dev} {p d : ℕ} (h : Evaluated s u p d) (k : Within instantTailFoot u v) : Evaluated s v p d :=
  h.of_kept (dstSt_of_within k (by decide) p d) (k.fld _ _ (by decide)) (k.fld _ _ (by decide))

/-- A double-bit error's fault keeps what the planes show and what waits. -/
theorem within_routeDoubleBit_line (s : Dev) (p : ℕ) : Within faultFoot s (routeDoubleBit s p) := by
  unfold routeDoubleBit
  simp (decide := true)

theorem fltBit_routeDoubleBit (s : Dev) {p : ℕ} (hp : p < 2) : fltBit (routeDoubleBit s p) (19 + p) = true := by
  unfold routeDoubleBit
  exact fltBit_faultEvent_same _ _ _ _ (by omega)

theorem within_syncPending_look (s : Dev) (k : ℕ) : Within lookFoot s (syncPending s k) := by
  simp (decide := true)

theorem ctl_instantTail (before s : Dev) (p d : ℕ) : (instantTail before s p d).ctl = s.ctl := by
  rw [(within_instantTail before s p d).eq_keep]
  simp (decide := true) [keep]

/-- A destination with nothing pending is evaluated (R75, R92). -/
theorem evaluated_instant (s : Dev) (t : ℕ) (p : Fin 2) (d : ℕ) (h : s.ctl.pend = []) :
    Evaluated s (switchInstant s t p d 0) p d ∧ (switchInstant s t p d 0).ctl = s.ctl := by
  rw [switchInstant_none h t p d 0 rfl]
  have h1 : Within lookFoot s (syncPending (routeEcc (s.at t) p 0) (pkey (routeEcc (s.at t) p 0) p d)) := by
    simp (decide := true) [routeEcc]
  have hd : dstSt (syncPending (routeEcc (s.at t) p 0) (pkey (routeEcc (s.at t) p 0) p d)) p d = dstSt s p d := by
    have k := (within_syncPending (W := { flds := [F.PLN_DSTSTAT_PENDING] }) (s.at t) (s.at t) (pkey (s.at t) p d) (by decide)).mpr (.refl _ _)
    exact dstSt_of_within k (by decide) p d
  generalize syncPending (routeEcc (s.at t) p 0) (pkey (routeEcc (s.at t) p 0) p d) = v at *
  refine ⟨((evaluated_evalBoth v p d).of_sees (seesSame_of_within h1) hd).of_tail (within_instantTail _ _ _ _), ?_⟩
  have h2 : Within lookFoot s (evalBoth v p d 0) := .trans h1 ((within_evalBoth _ _ _ _).mono (by decide))
  exact (ctl_instantTail _ _ _ _).trans (seesSame_of_within h2).ctl

/-- A corrected error of the route entry is counted. -/
theorem count_instant (s : Dev) (t : ℕ) (p : Fin 2) (d : ℕ) (h : s.ctl.pend = []) :
    getF (switchInstant s t p d 1) F.PLN_ROUTE_CE_COUNT p =
      min (getF s F.PLN_ROUTE_CE_COUNT p + 1) (2 ^ F.PLN_ROUTE_CE_COUNT.width - 1) := by
  rw [switchInstant_none h t p d 1 rfl]
  have hc : getF (routeEcc (s.at t) p 1) F.PLN_ROUTE_CE_COUNT p =
      min (getF s F.PLN_ROUTE_CE_COUNT p + 1) (2 ^ F.PLN_ROUTE_CE_COUNT.width - 1) := getF_satAdd_same _ _ _ _
  generalize routeEcc (s.at t) p 1 = v at *
  have h2 : Within afterDueFoot v (instantTail s (evalBoth (syncPending v (pkey v p d)) p d 1) p d) := by
    refine .trans (.trans ?_ ((within_evalBoth _ _ _ _).mono (by decide))) ((within_instantTail _ _ _ _).mono (by decide))
    simp (decide := true)
  exact (h2.fld _ _ (by decide)).trans hc

/-- A double-bit error sets the plane's fault bit and leaves its destination. -/
theorem doubleBit_instant (s : Dev) (t : ℕ) (p : Fin 2) (d : ℕ) (h : s.ctl.pend = []) :
    fltBit (switchInstant s t p d 2) (19 + p) = true ∧ dstSt (switchInstant s t p d 2) p d = dstSt s p d := by
  have h1 : Within faultFoot (s.at t) (routeEcc (s.at t) p 2) := within_routeDoubleBit_line _ _
  have hb : fltBit (routeEcc (s.at t) p 2) (19 + p) = true := fltBit_routeDoubleBit _ (by omega)
  rw [switchInstant_none h t p d 2 (h1.pend (by decide))]
  have hd : dstSt (routeEcc (s.at t) p 2) p d = dstSt s p d := dstSt_of_within h1 (by decide) p d
  generalize routeEcc (s.at t) p 2 = v at *
  have k := (within_syncPending (W := { flds := [F.PLN_DSTSTAT_PENDING] }) v v (pkey v p d) (by decide)).mpr (.refl _ _)
  have h2 : Within afterDueFoot v (instantTail s (evalBoth (syncPending v (pkey v p d)) p d 2) p d) :=
    .trans (.trans (k.mono (by decide)) ((within_evalBoth _ _ _ _).mono (by decide))) ((within_instantTail _ _ _ _).mono (by decide))
  refine ⟨?_, ?_⟩
  · unfold fltBit
    rw [h2.fld F.FLT_STATUS_BITS 0 (by decide)]
    exact hb
  · rw [dstSt_of_within (within_instantTail _ _ _ _) (by decide), dstSt_evalBoth_double, dstSt_of_within k (by decide), hd]

/-! The commands due. -/

theorem Ended.of_within {u v : Dev} {jsn st ap dt : ℕ} (h : Ended u jsn st ap dt) (k : Within afterDueFoot u v) : Ended v jsn st ap dt :=
  ⟨(k.pend (by decide)).trans h.none, decided_of_within h.decided k (by decide)⟩

section
variable {s : Dev} {p d : ℕ} {x : Pend} {i : PItem} {j : JRec} {t : ℕ} (h : DueAlone s p d (hfnAt s t) x i j)
include h

theorem take_instant (ho : x.op = 0x10) (hl : takeLocked (routeOf s i.key) i.owner = false) :
    Ended (switchInstant s t p d 0) x.jsn (doneStatus s x.deferred) (hfnAt s t) (takeDetail 0 0 x.reason) ∧
      ∀ k, routeOf (switchInstant s t p d 0) k =
        if k = i.key then { routeOf s i.key with src := i.src, srcPlane := i.srcPlane, jsn := x.jsn } else routeOf s k := by
  obtain ⟨he, hr⟩ := take_ends (alone_of_dueAlone h t) ho hl (hfnAt s t)
  have k := within_switchInstant_due h (.inl ho)
  exact ⟨he.of_within k, fun q => (routeOf_of_within k (by decide) q).trans (hr q)⟩

theorem locked_instant (ho : x.op = 0x10) (hl : takeLocked (routeOf s i.key) i.owner = true) :
    Ended (switchInstant s t p d 0) x.jsn stLocked 0 (takeDetail 0 0 4) ∧ (switchInstant s t p d 0).ctl.routes = s.ctl.routes := by
  obtain ⟨he, hr⟩ := locked_ends (alone_of_dueAlone h t) ho hl (hfnAt s t)
  have k := within_switchInstant_due h (.inl ho)
  have hk : (switchInstant s t p d 0).ctl.routes = (applyDue (s.at t) i.key (hfnAt s t) x).ctl.routes := k.part .routes (by decide)
  exact ⟨he.of_within k, hk.trans hr⟩

theorem protect_instant (ho : x.op = 0x12) (hl : protLocked (routeOf s i.key) i.owner = false) :
    Ended (switchInstant s t p d 0) x.jsn (doneStatus s x.deferred) (hfnAt s t) 0 ∧
      ∃ r : Route, r.prot = bits (le j.desc 26 1) 0 2 ∧ r.src = (routeOf s i.key).src ∧
        ∀ k, routeOf (switchInstant s t p d 0) k = if k = i.key then r else routeOf s k := by
  obtain ⟨he, r, hprot, hsrc, hr⟩ := protect_ends (alone_of_dueAlone h t) ho hl (hfnAt s t)
  have k := within_switchInstant_due h (.inr ho)
  exact ⟨he.of_within k, r, hprot, hsrc, fun q => (routeOf_of_within k (by decide) q).trans (hr q)⟩

end

/-- Settles O29: the one due command acts by `applyDue`, and evaluations touch no route and no record; with nothing pending the instant is
the destination's evaluation, which reads nothing that the other plane's evaluation or the count of pending commands changes. -/
theorem switchingInstantsRun : Obligations.SwitchingInstantsRun := by
  unfold Obligations.SwitchingInstantsRun
  refine ⟨fun s t p d x i j h => ⟨fun ho hl => gives_of rfl ?_, fun ho hl => gives_of rfl ?_, fun ho hl => gives_of rfl ?_⟩,
    fun s t p d h => ⟨gives_of rfl ?_, gives_of rfl ?_, gives_of rfl ?_⟩⟩
  · rw [Fin.val_zero]
    obtain ⟨⟨hp, hdec⟩, hr⟩ := take_instant h ho hl
    have hi := (hr i.key).trans (if_pos rfl)
    exact ⟨congrArg Route.src hi, congrArg Route.srcPlane hi, congrArg Route.jsn hi, hp, hdec, fun q hq => (hr q).trans (if_neg hq)⟩
  · rw [Fin.val_zero]
    obtain ⟨⟨hp, hdec⟩, hr⟩ := locked_instant h ho hl
    exact ⟨hdec, hp, hr⟩
  · rw [Fin.val_zero]
    obtain ⟨⟨hp, hdec⟩, r, hprot, hsrc, hr⟩ := protect_instant h ho hl
    have hi := (hr i.key).trans (if_pos rfl)
    exact ⟨(congrArg Route.prot hi).trans hprot, (congrArg Route.src hi).trans hsrc, hp, hdec, fun q hq => (hr q).trans (if_neg hq)⟩
  · rw [Fin.val_zero]
    obtain ⟨⟨h1, h2, h3, h4, h5⟩, hc⟩ := evaluated_instant s.dev t p d h
    exact ⟨h1, h2, h3, h4, h5, hc⟩
  · exact count_instant s.dev t p d h
  · exact doubleBit_instant s.dev t p d h

end Sys2Proof.Machine
end

section
/-! Compositors (R150 to R190): the frame that a live one puts out, a COMP_STATE due, and the copy of the library. -/

namespace Sys2Proof.Machine

open Sys2Proof.Claims

variable {W : Foot}

/-! Outputs that stay. -/

/-- What has been put out in `s` still is in `u`. -/
structure OutKept (s u : Dev) : Prop where
  keeps : ∀ o ∈ s.out, o ∈ u.out

theorem OutKept.refl (s : Dev) : OutKept s s := ⟨fun _ h => h⟩

theorem OutKept.trans {s u v : Dev} (h : OutKept s u) (k : OutKept u v) : OutKept s v := ⟨fun o ho => k.keeps o (h.keeps o ho)⟩

theorem OutKept.of_eq {s u : Dev} (h : u.out = s.out) : OutKept s u := ⟨fun _ ho => h ▸ ho⟩

theorem OutKept.ite {s a b : Dev} {c : Prop} [Decidable c] (ha : OutKept s a) (hb : OutKept s b) : OutKept s (if c then a else b) := by
  split
  · exact ha
  · exact hb

theorem OutKept.foldl {α : Type} (g : Dev → α → Dev) (h : ∀ s a, OutKept s (g s a)) (l : List α) (s : Dev) : OutKept s (l.foldl g s) := by
  induction l generalizing s with
  | nil => exact .refl s
  | cons a r ih => exact (h s a).trans (ih _)

theorem Within.outKept {s u : Dev} (h : Within W s u) (hW : .out ∉ W.parts) : OutKept s u := .of_eq (h.out hW)

theorem outKept_emit (s : Dev) (o : Out) : OutKept s (emit s o) := ⟨(hostOnly_emit s o).grows⟩

theorem outKept_raise (s : Dev) (c n j dt : ℕ) : OutKept s (raise s c n j dt) := ⟨(hostOnly_raise s c n j dt).grows⟩

theorem outKept_resumeAt (s : Dev) (q d : ℕ) : OutKept s (resumeAt s q d) := by
  unfold resumeAt
  split
  · refine .trans ?_ (outKept_raise _ _ _ _ _)
    exact .of_eq rfl
  · exact .refl s

theorem outKept_teamResumes (s : Dev) (p d : ℕ) : OutKept s (teamResumes s p d) := by
  rw [teamResumes_eq]
  split
  · exact .refl s
  · refine .trans ?_ (.foldl _ (fun u k => outKept_resumeAt u _ _) _ _)
    exact .of_eq rfl

theorem outKept_concealEvents (s : Dev) (p d old new : ℕ) : OutKept s (concealEvents s p d old new) := by
  unfold concealEvents
  exact .ite (.refl s) (.trans (.ite (outKept_raise _ _ _ _ _) (.refl s)) (.ite (outKept_raise _ _ _ _ _) (.refl _)))

theorem out_evalPut (s : Dev) (p d k q cause : ℕ) (r : Route) (x : DstSt) : (evalPut s p d k q cause r x).out = s.out := by
  unfold evalPut
  dsimp only
  rw [setFs_out]
  rfl

theorem outKept_evalDst (s : Dev) (p d : ℕ) : OutKept s (evalDst s p d) := by
  rw [evalDst_eq]
  exact .trans (.trans (outKept_teamResumes s p d) (outKept_concealEvents _ _ _ _ _)) (.of_eq (out_evalPut _ _ _ _ _ _ _ _))

/-! The fit of a compositor's layers. -/

/-- What fitting the taps of a compositor changes. -/
def fitFoot : Foot :=
  { flds := [F.CMP_TAPS_TAPS, F.CMP_LMEM_IN_USE, F.CMP_STAT_DROPPED, F.CMP_STAT_DEGRADED, F.CMP_ENC_ENC] ++ evalFoot.flds,
    parts := .cmp :: evalFoot.parts }

/-- The taps of compositor `c`'s layers, and the line memory they take (R159). -/
def tapFit (s : Dev) (p c : ℕ) : List ℕ × ℕ :=
  assignTaps (compRec s p c) (fitNow s p c (compRec s p c)) fun l => bits (mechOf s mkComp (pkey s p c)).aux (16 * l) 16

/-- The layers' destinations are evaluated again and the changes of their taps reported. -/
def fitHead (s : Dev) (p c : ℕ) : Dev :=
  let s := recheckLayers s p c
  let r := compRec s p c
  let q := tapFit s p c
  (eight.filter (isPic r)).foldl (fun t l =>
    tapEvents t p c l ((cmpSt s p c).taps.getD l 0) ((cmpSt s p c).conf.getD l 0) (q.1.getD l 0) (vtapsOf r l)) s

/-- The taps that a compositor is given, and its registers. -/
def fitPut (s u : Dev) (p c : ℕ) : Dev :=
  let r := compRec s p c
  let q := tapFit s p c
  let v := setCmp u p c { taps := q.1, conf := confTaps r }
  let mask := fun (f : Nat → Bool) => ((eight.filter fun l => isPic r l && f l).map fun l => 2 ^ l).sum
  setFs v (ix p c) [(F.CMP_TAPS_TAPS, (eight.map fun l => q.1.getD l 0 * 2 ^ (4 * l)).sum), (F.CMP_LMEM_IN_USE, q.2),
    (F.CMP_STAT_DROPPED, mask fun l => q.1.getD l 0 == 0),
    (F.CMP_STAT_DEGRADED, mask fun l => q.1.getD l 0 != 0 && decide (q.1.getD l 0 < vtapsOf r l)), (F.CMP_ENC_ENC, encReg v p c r)]

theorem prefetchFit_eq (s : Dev) (p c : ℕ) : prefetchFit s p c = fitPut (recheckLayers s p c) (fitHead s p c) p c := rfl

theorem cmp_fitPut (s u : Dev) (p c : ℕ) :
    (fitPut s u p c).cmp = (setCmp u p c { taps := (tapFit s p c).1, conf := confTaps (compRec s p c) }).cmp := by
  unfold fitPut
  dsimp only
  rw [setFs_cmp]

theorem out_fitPut (s u : Dev) (p c : ℕ) : (fitPut s u p c).out = u.out := by
  unfold fitPut
  dsimp only
  rw [setFs_out]
  rfl

theorem within_tapEvents_event (s : Dev) (p c l prev was new vt : ℕ) : Within evtFoot s (tapEvents s p c l prev was new vt) := by
  unfold tapEvents
  simp (decide := true) [↓within_ite]

theorem within_recheckLayers_eval (s : Dev) (p c : ℕ) : Within evalFoot s (recheckLayers s p c) := by
  unfold recheckLayers
  simp (decide := true) [↓within_ite]

theorem within_fitHead (s : Dev) (p c : ℕ) : Within evalFoot s (fitHead s p c) := by
  unfold fitHead
  exact .trans (within_recheckLayers_eval s p c) (within_foldl _ (fun u l => (within_tapEvents_event _ _ _ _ _ _ _ _).mono (by decide)) _ _)

theorem within_prefetchFit_fit (s : Dev) (p c : ℕ) : Within fitFoot s (prefetchFit s p c) := by
  rw [prefetchFit_eq]
  refine .trans ((within_fitHead s p c).mono (by decide)) ?_
  unfold fitPut
  simp (decide := true) only [setFs, within_setF_skip, within_setCmp]
  simp (decide := true)

theorem outKept_tapEvents (s : Dev) (p c l prev was new vt : ℕ) : OutKept s (tapEvents s p c l prev was new vt) := by
  have hr (v : Dev) (a b dt : ℕ) : OutKept v (raise v a b 0 dt) := outKept_raise _ _ _ _ _
  unfold tapEvents
  dsimp only
  exact .ite (.ite (hr _ _ _ _) (.refl s)) (.ite (.ite (.trans (hr _ _ _ _) (hr _ _ _ _)) (hr _ _ _ _))
    (.ite (.ite (hr _ _ _ _) (.refl s)) (.ite (hr _ _ _ _) (.refl s))))

theorem outKept_recheckLayers (s : Dev) (p c : ℕ) : OutKept s (recheckLayers s p c) := by
  unfold recheckLayers
  refine .foldl _ (fun u l => ?_) _ _
  dsimp only
  exact .ite (outKept_evalDst _ _ _) (.refl u)

theorem outKept_fitHead (s : Dev) (p c : ℕ) : OutKept s (fitHead s p c) := by
  unfold fitHead
  exact .trans (outKept_recheckLayers s p c) (.foldl _ (fun u l => outKept_tapEvents _ _ _ _ _ _ _ _) _ _)

theorem outKept_prefetchFit (s : Dev) (p c : ℕ) : OutKept s (prefetchFit s p c) := by
  rw [prefetchFit_eq]
  exact .trans (outKept_fitHead s p c) (.of_eq (out_fitPut _ _ _ _))

theorem cmpSt_prefetchFit_other (s : Dev) {p q : ℕ} (hp : p < 2) (hq : q < 2) (h : q ≠ p) (c : ℕ) : cmpSt (prefetchFit s p c) q c = cmpSt s q c := by
  have hk : (fitHead s p c).cmp = s.cmp := (within_fitHead s p c).part .cmp (by decide)
  rw [prefetchFit_eq]
  unfold cmpSt
  rw [cmp_fitPut]
  unfold setCmp
  dsimp only
  rw [mget_mset_ne _ _ _ _ _ (ix_ne hq hp h c c), hk]

/-! The frame put out. -/

/-- Compositor `c` of plane `p` puts out its frame of house frame `n`, if it is live. -/
def prefetchPlane (c n : ℕ) (px : List LayPix) (s : Dev) (p : ℕ) : Dev :=
  if compLive s p c then
    let s := emit (prefetchFit s p c) (.frame p c ((cmpSt (prefetchFit s p c) p c).taps))
    if px.isEmpty then s else emit s (.pixel p c (outPixel s p c n px))
  else s

section
variable (c n : ℕ) (px : List LayPix) (s : Dev) (p : ℕ)

theorem within_prefetchPlane : Within fitFoot s (prefetchPlane c n px s p) := by
  have h := within_prefetchFit_fit s p c
  unfold prefetchPlane
  simp (decide := true) [↓within_ite, h]

theorem outKept_prefetchPlane : OutKept s (prefetchPlane c n px s p) := by
  have h := (outKept_prefetchFit s p c).trans (outKept_emit _ (.frame p c ((cmpSt (prefetchFit s p c) p c).taps)))
  unfold prefetchPlane
  split
  · dsimp only
    split
    · exact h
    · exact h.trans (outKept_emit _ _)
  · exact .refl s

theorem cmpSt_prefetchPlane_other {p q : ℕ} (hp : p < 2) (hq : q < 2) (h : q ≠ p) : cmpSt (prefetchPlane c n px s p) q c = cmpSt s q c := by
  have he (o : Out) (u : Dev) : cmpSt (emit u o) q c = cmpSt u q c := rfl
  unfold prefetchPlane
  split
  · dsimp only
    split
    · rw [he, cmpSt_prefetchFit_other s hp hq h]
    · rw [he, he, cmpSt_prefetchFit_other s hp hq h]
  · rfl

theorem cmpSt_prefetchPlane_same (h : compLive s p c = true) : cmpSt (prefetchPlane c n px s p) p c = cmpSt (prefetchFit s p c) p c := by
  have he (o : Out) (u : Dev) : cmpSt (emit u o) p c = cmpSt u p c := rfl
  unfold prefetchPlane
  rw [if_pos h]
  dsimp only
  split
  · rw [he]
  · rw [he, he]

theorem frame_mem_prefetchPlane (h : compLive s p c = true) :
    .frame p c ((cmpSt (prefetchPlane c n px s p) p c).taps) ∈ (prefetchPlane c n px s p).out := by
  rw [cmpSt_prefetchPlane_same c n px s p h]
  have hm (u : Dev) (o : Out) : o ∈ (emit u o).out := List.mem_cons_self
  unfold prefetchPlane
  rw [if_pos h]
  dsimp only
  split
  · exact hm _ _
  · exact (outKept_emit _ _).keeps _ (hm _ _)

end

theorem compLive_of_ctl {s u : Dev} (h : u.ctl = s.ctl) (p c : ℕ) : compLive u p c = compLive s p c := by
  unfold compLive compRec runOf isShed mechOf pkey
  rw [h]

theorem ctl_prefetchPlane (c n : ℕ) (px : List LayPix) (s : Dev) (p : ℕ) : (prefetchPlane c n px s p).ctl = s.ctl := by
  rw [(within_prefetchPlane c n px s p).eq_keep]
  simp (decide := true) [keep]

/-- A live compositor's frame is put out, whichever plane comes first. -/
theorem frame_mem_planes {s : Dev} {p : Fin 2} {c : ℕ} (h : compLive s p c = true) (n : ℕ) (px : List LayPix) :
    .frame p c ((cmpSt ((planesOf s p).foldl (prefetchPlane c n px) s) p c).taps) ∈ ((planesOf s p).foldl (prefetchPlane c n px) s).out ∧
      ((planesOf s p).foldl (prefetchPlane c n px) s).ctl = s.ctl := by
  unfold planesOf
  split
  · exact ⟨frame_mem_prefetchPlane c n px s p h, ctl_prefetchPlane _ _ _ _ _⟩
  · rw [List.foldl_cons, List.foldl_cons, List.foldl_nil]
    refine ⟨?_, (ctl_prefetchPlane _ _ _ _ _).trans (ctl_prefetchPlane _ _ _ _ _)⟩
    obtain rfl | rfl : p = 0 ∨ p = 1 := by omega
    · rw [show (((0 : Fin 2) : ℕ)) = 0 from rfl, cmpSt_prefetchPlane_other _ _ _ _ (by decide) (by decide) (by decide)]
      exact (outKept_prefetchPlane _ _ _ _ _).keeps _ (frame_mem_prefetchPlane c n px s 0 h)
    · exact frame_mem_prefetchPlane c n px _ 1 ((compLive_of_ctl (ctl_prefetchPlane _ _ _ _ _) 1 c).trans h)

/-! The frame that a prefetch instant is for (R150). -/

/-- The start of the frame whose prefetch instant is at `t`, to the nearest of the compositor's frames. -/
def prefetchStart (s : Dev) (t p c : ℕ) : ℕ :=
  let f := rasterOf s (compRec s p c)
  (t + prefetchLead s f + framePeriod (f % 16) / 2) / framePeriod (f % 16) * framePeriod (f % 16)

theorem compPrefetch_eq (s : Dev) (t p c : ℕ) (px : List LayPix) : compPrefetch s t p c px =
    let u := if prefetchStart (s.at t) t p c % framePeriod s.ctl.ref.rate = 0 then applyComps (s.at t) p c (hfnAt (s.at t) (prefetchStart (s.at t) t p c))
      else s.at t
    (planesOf u p).foldl (prefetchPlane c (hfnAt (s.at t) (prefetchStart (s.at t) t p c)) px) u := rfl

theorem framePeriod_beyond {r : ℕ} (h : 8 < r) : framePeriod r = 0 := by
  unfold framePeriod
  split <;> omega

/-- A compositor's frame is as long as the house's, or half or twice as long. -/
theorem framePeriod_of_inFamily {h r : ℕ} (hf : inFamily h r = true) :
    framePeriod r = framePeriod h ∨ 2 * framePeriod r = framePeriod h ∨ framePeriod r = 2 * framePeriod h := by
  unfold inFamily at hf
  split at hf
  · rename_i hc
    simp only [Bool.or_eq_true, beq_iff_eq] at hf
    rcases hc with rfl | rfl <;> rcases hf with rfl | rfl <;> decide
  · split at hf
    · rename_i hc
      simp only [Bool.or_eq_true, beq_iff_eq] at hf
      rcases hc with rfl | rfl <;> rcases hf with rfl | rfl <;> decide
    · split at hf
      · rename_i hc
        simp only [Bool.or_eq_true, beq_iff_eq] at hf
        rcases hc with rfl | rfl <;> rcases hf with rfl | rfl <;> decide
      · simp only [Bool.and_eq_true, beq_iff_eq] at hf
        exact .inl (by rw [hf.1])

/-- A multiple of a frame period, to the nearest multiple of that period, its half or its double. -/
theorem nearest_frame {q r n : ℕ} (h : r = q ∨ 2 * r = q ∨ r = 2 * q) (hn : n % q = 0) (hq : 0 < q) :
    ((n + r / 2) / r * r) % q = 0 ∧ n ≤ (n + r / 2) / r * r := by
  obtain ⟨m, rfl⟩ := Nat.dvd_of_mod_eq_zero hn
  rcases h with rfl | rfl | rfl
  · have hd : (r * m + r / 2) / r = m := by
      rw [Nat.add_comm, Nat.add_mul_div_left _ _ hq, Nat.div_eq_of_lt (Nat.div_lt_self hq (by decide)), Nat.zero_add]
    rw [hd, Nat.mul_comm]
    exact ⟨Nat.mul_mod_right _ _, le_rfl⟩
  · have hr : 0 < r := by omega
    have hd : (2 * r * m + r / 2) / r = 2 * m := by
      rw [Nat.add_comm, show 2 * r * m = r * (2 * m) by ring, Nat.add_mul_div_left _ _ hr, Nat.div_eq_of_lt (Nat.div_lt_self hr (by decide)),
        Nat.zero_add]
    rw [hd, show 2 * m * r = 2 * r * m by ring]
    exact ⟨Nat.mul_mod_right _ _, le_rfl⟩
  · have hd : (q * m + 2 * q / 2) / (2 * q) = (m + 1) / 2 := by
      rw [Nat.mul_div_cancel_left _ (by decide), show q * m + q = q * (m + 1) by ring, Nat.mul_comm 2 q, Nat.mul_div_mul_left _ _ hq]
    rw [hd, show (m + 1) / 2 * (2 * q) = q * ((m + 1) / 2 * 2) by ring]
    exact ⟨Nat.mul_mod_right _ _, Nat.mul_le_mul_left _ (by omega)⟩

theorem framePeriod_rasterOf (s : Dev) (r : Bytes) (h : 0 < framePeriod s.ctl.ref.rate) :
    framePeriod (rasterOf s r % 16) = framePeriod s.ctl.ref.rate ∨ 2 * framePeriod (rasterOf s r % 16) = framePeriod s.ctl.ref.rate ∨
      framePeriod (rasterOf s r % 16) = 2 * framePeriod s.ctl.ref.rate := by
  unfold rasterOf
  split
  · have hr : s.ctl.ref.rate ≤ 8 := by
      by_contra hc
      exact absurd (framePeriod_beyond (not_le.mp hc)) (by omega)
    have he : houseFmt s % 16 = s.ctl.ref.rate := by unfold houseFmt; omega
    exact .inl (by rw [he])
  · rename_i hc
    simp only [Bool.or_eq_true, Bool.not_eq_true', not_or, Bool.not_eq_false] at hc
    exact framePeriod_of_inFamily hc.2

/-- A prefetch instant at a house frame's start is for a frame that starts there, and no earlier. -/
theorem prefetchStart_of_frame {s : Dev} {t p c : ℕ}
    (h : (t + prefetchLead s (rasterOf s (compRec s p c))) % framePeriod s.ctl.ref.rate = 0) :
    prefetchStart s t p c % framePeriod s.ctl.ref.rate = 0 ∧
      hfnAt s (t + prefetchLead s (rasterOf s (compRec s p c))) ≤ hfnAt s (prefetchStart s t p c) := by
  unfold prefetchStart hfnAt
  dsimp only
  rcases Nat.eq_zero_or_pos (framePeriod s.ctl.ref.rate) with hq | hq
  · rw [hq, Nat.mod_zero] at h
    rw [h, hq, Nat.zero_add, Nat.div_zero, Nat.mod_zero]
    refine ⟨?_, Nat.zero_le _⟩
    generalize framePeriod (rasterOf s (compRec s p c) % 16) = r
    rcases Nat.eq_zero_or_pos r with rfl | hr
    · rfl
    · rw [Nat.div_eq_of_lt (Nat.div_lt_self hr (by decide)), Nat.zero_mul]
  · obtain ⟨h1, h2⟩ := nearest_frame (framePeriod_rasterOf s (compRec s p c) hq) h hq
    exact ⟨h1, Nat.div_le_div_right h2⟩

/-! COMP_STATE. -/

/-- What COMP_STATE does on plane `p`: its RUN, and its taps afresh or released (R162). -/
def compRun (c run : ℕ) (was : Bool) (s : Dev) (p : ℕ) : Dev :=
  let s := setF s F.CMP_STAT_RUN (ix p c) run
  if run = 1 then (if was then s else freshTaps s p c)
  else
    let s := modCtl s fun t => { t with shed := t.shed.filter fun e => !(e.1 == p && e.2.comp && e.2.key == c) }
    releaseLines (setF s F.CMP_STAT_SHED (ix p c) 0) p c

/-- The compositor's configuration with RUN put in force. -/
def runPut (s : Dev) (k run jsn : ℕ) : Dev :=
  setMech (setMech s mkComp k { mechOf s mkComp k with jsn := jsn }) mkRun k { aux := run }

theorem applyCompState_eq {s : Dev} {p c : ℕ} {x : Pend} {j : JRec} (h : (mechOf s mkComp (pkey s p c)).jsn < x.jsn) :
    applyCompState s p c x j =
      syncLoads (finishFrame ((planesOf s p).foldl (compRun c (b2n (bit (le j.desc 26 1) 0)) (runOf s (pkey s p c)))
        (runPut s (pkey s p c) (b2n (bit (le j.desc 26 1) 0)) x.jsn)) x x.frame) := by
  unfold applyCompState
  dsimp only
  rw [fenced_above h]
  rfl

/-- What RUN's change on a plane changes. -/
def runFoot : Foot :=
  { flds := [F.CMP_STAT_RUN, F.CMP_STAT_SHED, F.CMP_TAPS_TAPS, F.CMP_LMEM_IN_USE, F.CMP_STAT_DROPPED, F.CMP_STAT_DEGRADED],
    parts := [.cmp, .ctlRest] }

theorem within_compRun (c run : ℕ) (was : Bool) (s : Dev) (p : ℕ) : Within runFoot s (compRun c run was s p) := by
  unfold compRun freshTaps releaseLines
  simp (decide := true) [↓within_ite, setFs]

theorem compRun_puts (c run : ℕ) (was : Bool) (s : Dev) (p : ℕ) :
    (compRun c run was s p).ctl.mech = s.ctl.mech ∧ (compRun c run was s p).ctl.pair = s.ctl.pair ∧
      getF (compRun c run was s p) F.CMP_STAT_RUN (ix p c) = run % 2 ^ F.CMP_STAT_RUN.width ∧
      ∀ i, i ≠ ix p c → getF (compRun c run was s p) F.CMP_STAT_RUN i = getF s F.CMP_STAT_RUN i := by
  have hr (u : Dev) : Within { flds := [F.CMP_TAPS_TAPS, F.CMP_LMEM_IN_USE, F.CMP_STAT_DROPPED, F.CMP_STAT_DEGRADED] } u (releaseLines u p c) := by
    unfold releaseLines
    simp (decide := true) [setFs]
  have hs (i : ℕ) (h : i ≠ ix p c) : getF (setF s F.CMP_STAT_RUN (ix p c) run) F.CMP_STAT_RUN i = getF s F.CMP_STAT_RUN i :=
    getF_setF_idx _ _ _ _ _ _ h
  unfold compRun
  dsimp only
  split
  · split
    · exact ⟨rfl, rfl, getF_setF_same _ _ _ _, hs⟩
    · exact ⟨rfl, rfl, getF_setF_same _ _ _ _, hs⟩
  · have hf (u : Dev) (i : ℕ) : getF (releaseLines (setF u F.CMP_STAT_SHED (ix p c) 0) p c) F.CMP_STAT_RUN i = getF u F.CMP_STAT_RUN i :=
      ((hr _).fld _ _ (by decide)).trans (getF_setF_code _ _ _ _ _ _ (by decide))
    have hc (u : Dev) : (releaseLines u p c).ctl = u.ctl := setFs_ctl _ _ _
    refine ⟨by rw [hc]; rfl, by rw [hc]; rfl, (hf _ _).trans (getF_setF_same _ _ _ _), fun i h => (hf _ _).trans (hs i h)⟩

/-- RUN on the planes that hold the compositor: its planes' registers show it. -/
theorem runs_puts {s : Dev} {p : Fin 2} (c run : ℕ) (was : Bool) (l : List ℕ) (hl : l = [(p : ℕ)] ∨ l = [0, 1]) :
    (l.foldl (compRun c run was) s).ctl.mech = s.ctl.mech ∧ (l.foldl (compRun c run was) s).ctl.pair = s.ctl.pair ∧
      getF (l.foldl (compRun c run was) s) F.CMP_STAT_RUN (ix p c) = run % 2 ^ F.CMP_STAT_RUN.width := by
  rcases hl with rfl | rfl
  · obtain ⟨h1, h2, h3, -⟩ := compRun_puts c run was s p
    exact ⟨h1, h2, h3⟩
  · rw [List.foldl_cons, List.foldl_cons, List.foldl_nil]
    obtain ⟨a1, a2, a3, -⟩ := compRun_puts c run was s 0
    obtain ⟨b1, b2, b3, b4⟩ := compRun_puts c run was (compRun c run was s 0) 1
    refine ⟨b1.trans a1, b2.trans a2, ?_⟩
    obtain rfl | rfl : p = 0 ∨ p = 1 := by omega
    · exact (b4 _ (ix_ne (by decide) (by decide) (by decide) c c)).trans a3
    · exact b3

/-- A COMP_STATE that is due sets RUN and ends in its frame. -/
theorem compState_ends {s : Dev} {p : Fin 2} {c : ℕ} {x : Pend} {j : JRec} (hp : s.ctl.pend = [x]) (hj : recOf s x.jsn = some j)
    (hd : j.dec = none) (hf : isFollower s = false) (hm : (mechOf s mkComp (pkey s p c)).jsn < x.jsn) :
    Ended (applyCompState s p c x j) x.jsn (doneStatus s x.deferred) x.frame 0 ∧
      runOf (applyCompState s p c x j) (pkey s p c) = bit (le j.desc 26 1) 0 ∧
      getF (applyCompState s p c x j) F.CMP_STAT_RUN (ix p c) = b2n (bit (le j.desc 26 1) 0) ∧
      (applyCompState s p c x j).ctl.pair = s.ctl.pair := by
  rw [applyCompState_eq hm]
  have hl : planesOf s p = [(p : ℕ)] ∨ planesOf s p = [0, 1] := by
    unfold planesOf
    split <;> simp
  obtain ⟨hmech, hpair, hrun⟩ := runs_puts (s := runPut s (pkey s p c) (b2n (bit (le j.desc 26 1) 0)) x.jsn) (p := p) c (b2n (bit (le j.desc 26 1) 0))
    (runOf s (pkey s p c)) (planesOf s p) hl
  have h1 : Within { runFoot with parts := .ctlRest :: runFoot.parts } s
      ((planesOf s p).foldl (compRun c (b2n (bit (le j.desc 26 1) 0)) (runOf s (pkey s p c))) (runPut s (pkey s p c) (b2n (bit (le j.desc 26 1) 0)) x.jsn)) := by
    refine .trans ?_ (within_foldl _ (fun u q => (within_compRun _ _ _ _ _).mono (by decide)) _ _)
    unfold runPut
    simp (decide := true)
  have hr0 (u : Dev) (h : u.ctl.mech = (runPut s (pkey s p c) (b2n (bit (le j.desc 26 1) 0)) x.jsn).ctl.mech) :
      runOf u (pkey s p c) = bit (le j.desc 26 1) 0 := by
    have hm : mechOf u mkRun (pkey s p c) = { aux := b2n (bit (le j.desc 26 1) 0) } := by
      unfold mechOf
      rw [h]
      exact mget_mset_same _ _ _ _
    unfold runOf
    rw [hm]
    cases bit (le j.desc 26 1) 0 <;> rfl
  generalize (planesOf s p).foldl (compRun c (b2n (bit (le j.desc 26 1) 0)) (runOf s (pkey s p c)))
    (runPut s (pkey s p c) (b2n (bit (le j.desc 26 1) 0)) x.jsn) = u at *
  have hs : doneStatus u x.deferred = doneStatus s x.deferred := doneStatus_of_within h1 (.inr hpair) (by decide) (by decide) _
  have he : Ended (finishFrame u x x.frame) x.jsn (doneStatus s x.deferred) x.frame 0 := by
    unfold finishFrame
    rw [hs]
    refine ended_decideCmd (j := j) ?_ ((h1.recOf (by decide) _).trans hj) hd ((h1.isFollower (by decide)).trans hf) _ _ _
    rw [h1.pend (by decide), hp]
    simp
  have h2 : Within { pendFoot with flds := loadFoot.flds ++ pendFoot.flds } u (syncLoads (finishFrame u x x.frame)) := by
    simp (decide := true)
  have h3 : Within loadFoot (finishFrame u x x.frame) (syncLoads (finishFrame u x x.frame)) := by
    simp (decide := true)
  obtain ⟨k1, -, -, -, k5, -⟩ := h2.part .ctlRest (by decide)
  refine ⟨⟨(h3.pend (by decide)).trans he.none, decided_of_within he.decided h3 (by decide)⟩, hr0 _ (k5.trans hmech),
    (h2.fld _ _ (by decide)).trans (hrun.trans ?_), k1.trans hpair⟩
  cases bit (le j.desc 26 1) 0 <;> rfl

theorem within_planes (c n : ℕ) (px : List LayPix) (s : Dev) (l : List ℕ) : Within fitFoot s (l.foldl (prefetchPlane c n px) s) :=
  within_foldl _ (fun u q => within_prefetchPlane c n px u q) _ _

theorem applyComps_nil {s : Dev} (h : s.ctl.pend = []) (p c n : ℕ) : applyComps s p c n = s := by
  unfold applyComps
  rw [h]
  rfl

theorem applyComps_state {s : Dev} {p c n : ℕ} {x : Pend} {j : JRec} (h : s.ctl.pend = [x]) (ho : x.op = 0x21) (hn : x.frame ≤ n)
    (hj : recOf s x.jsn = some j) (hk : pendCompKey s j = pkey s p c) : applyComps s p c n = applyCompState s p c x j := by
  unfold applyComps
  dsimp only
  rw [h, List.foldl_cons, List.foldl_nil, if_pos ⟨.inr ho, hn⟩, hj]
  dsimp only
  rw [if_neg (not_not_intro hk), if_neg (by omega)]

/-- A live compositor puts out its frame with the taps that it assigned. -/
theorem frame_prefetch {s : Dev} {p : Fin 2} {c : ℕ} (h : s.ctl.pend = []) (hl : compLive s p c = true) (t : ℕ) (px : List LayPix) :
    .frame p c ((cmpSt (compPrefetch s t p c px) p c).taps) ∈ (compPrefetch s t p c px).out ∧ (compPrefetch s t p c px).ctl = s.ctl := by
  rw [compPrefetch_eq, applyComps_nil (s := s.at t) h, ite_self]
  exact frame_mem_planes (s := s.at t) hl _ px

/-- A COMP_STATE due at a prefetch instant has ended at its end. -/
theorem state_prefetch {s : Dev} {p : Fin 2} {c t : ℕ} {x : Pend} {j : JRec} (hp : s.ctl.pend = [x]) (ho : x.op = 0x21)
    (hj : recOf s x.jsn = some j) (hd : j.dec = none) (hf : isFollower s = false) (hk : pendCompKey s j = pkey s p c)
    (hm : (mechOf s mkComp (pkey s p c)).jsn < x.jsn)
    (ht : (t + prefetchLead s (rasterOf s (compRec s p c))) % framePeriod s.ctl.ref.rate = 0)
    (hx : x.frame ≤ hfnAt s (t + prefetchLead s (rasterOf s (compRec s p c)))) (px : List LayPix) :
    Ended (compPrefetch s t p c px) x.jsn (doneStatus s x.deferred) x.frame 0 ∧
      runOf (compPrefetch s t p c px) (pkey s p c) = bit (le j.desc 26 1) 0 ∧
      getF (compPrefetch s t p c px) F.CMP_STAT_RUN (ix p c) = b2n (bit (le j.desc 26 1) 0) := by
  obtain ⟨h1, h2⟩ := prefetchStart_of_frame (s := s.at t) ht
  obtain ⟨he, hr, hg, -⟩ := compState_ends (s := s.at t) hp hj hd hf hm
  have h0 : prefetchStart (s.at t) t p c % framePeriod s.ctl.ref.rate = 0 := h1
  rw [compPrefetch_eq, if_pos h0, applyComps_state (s := s.at t) hp ho (hx.trans h2) hj hk]
  generalize applyCompState (s.at t) p c x j = u at *
  have k := within_planes c (hfnAt (s.at t) (prefetchStart (s.at t) t p c)) px u (planesOf u p)
  dsimp only
  generalize (planesOf u p).foldl (prefetchPlane c (hfnAt (s.at t) (prefetchStart (s.at t) t p c)) px) u = v at *
  have hc : v.ctl = u.ctl := by
    rw [k.eq_keep]
    simp (decide := true) [keep]
  refine ⟨⟨(k.pend (by decide)).trans he.none, decided_of_within he.decided k (by decide)⟩, ?_, (k.fld _ _ (by decide)).trans hg⟩
  rw [← hr]
  unfold runOf mechOf
  rw [hc]
  rfl

/-! The library's flash copy. -/

theorem emits_eq (s : Dev) (l : List Out) : emits s l = { s with out := l.reverse ++ s.out } := by
  unfold emits
  induction l generalizing s with
  | nil => rfl
  | cons a r ih =>
    rw [List.foldl_cons, ih]
    simp [emit]

theorem libraryCopy_copies {s : Dev} {ch : Fin 2} (h : getF s F.FLS_STAT_STATE ch = 3) (t kind idx : ℕ) :
    mget {} (libraryCopy s t kind idx).library (mkey kind idx) = mechOf s kind idx ∧
      .flash ch kind idx (leVal (mechOf s kind idx).data) ∈ (libraryCopy s t kind idx).out ∧
      libraryCopy s t kind idx = { s.at t with out := (libraryCopy s t kind idx).out, library := (libraryCopy s t kind idx).library } := by
  have hm : (ch : ℕ) ∈ [0, 1].filter fun c => getF (s.at t) F.FLS_STAT_STATE c == 2 || getF (s.at t) F.FLS_STAT_STATE c == 3 := by
    have h' : getF (s.at t) F.FLS_STAT_STATE ch = 3 := h
    refine List.mem_filter.mpr ⟨?_, by rw [h']; rfl⟩
    obtain rfl | rfl : ch = 0 ∨ ch = 1 := by omega
    · exact List.mem_cons_self
    · exact List.mem_cons_of_mem _ List.mem_cons_self
  unfold libraryCopy
  dsimp only
  generalize ([0, 1].filter fun c => getF (s.at t) F.FLS_STAT_STATE c == 2 || getF (s.at t) F.FLS_STAT_STATE c == 3) = up at hm
  rw [if_neg (by cases up with
    | nil => cases hm
    | cons a l => simp), emits_eq]
  refine ⟨mget_mset_same _ _ _ _, ?_, rfl⟩
  refine List.mem_append_left _ (List.mem_reverse.mpr (List.mem_map.mpr ⟨ch, hm, rfl⟩))

/-- Settles O32: fitting the taps reports events but withdraws no output and changes no control state, and the instant of a house frame is for
the frame that starts there, by the ratios of the house family's periods. -/
theorem compositorsOutput : Obligations.CompositorsOutput := by
  unfold Obligations.CompositorsOutput
  refine fun s t => ⟨fun p c px hp hl => gives_of rfl (frame_prefetch hp hl t px), fun p c px x j hp ho hj _ hd hf hk hm ht hx => gives_of rfl ?_,
    fun kind idx ch h => gives_of rfl (libraryCopy_copies h t _ idx)⟩
  obtain ⟨⟨h1, h2⟩, h3, h4⟩ := state_prefetch hp ho hj hd hf hk hm ht hx px
  exact ⟨h3, h4, h1, h2⟩

end Sys2Proof.Machine
end

section
/-! The audio engine (R200 to R215): a transparent channel, missing samples, and the flags of flows and converters. -/

namespace Sys2Proof.Machine

open Sys2Proof.Claims

variable {W : Foot}

/-! A grid instant with nothing pending, in its steps. -/

theorem applyMaps_nil {s : Dev} (h : s.ctl.pend = []) : applyMaps s = s := by
  unfold applyMaps
  rw [h]
  rfl

theorem applyTdms_nil {s : Dev} (h : s.ctl.pend = []) : applyTdms s none = s :=
  applyTdms_of_none s none (by rw [h]; simp)

/-- The free-running value of channel `ch` of plane `q` at a grid instant. -/
def freeSample (base q ch : ℕ) : ℤ := sgn 24 ((Config.freeValue (base + 65536 * q + ch)).toNat % 2 ^ 24)

/-- The destinations whose audio source a grid instant follows (R207). -/
def steppedDests (s : Dev) (p : ℕ) : List ℕ :=
  (((activeChans s p).filterMap (assocDest s p)).dedup ++
    ((s.pln.audioQ.filter fun (e : Nat × Nat) => e.1 % 2 == p).map fun (e : Nat × Nat) => e.1 / 2)).dedup

/-- The destinations' crossfades step. -/
def stepDests (s : Dev) (p : ℕ) : Dev := (steppedDests s p).foldl (fun s d => stepDest s p d) s

/-- Clipped channels counted, and the channels' samples put out. -/
def putSamples (s : Dev) (p j : ℕ) (outs : List (ℕ × OutSamp × Bool)) : Dev :=
  let clips := (outs.filter fun o => o.2.2).length
  let s := if clips = 0 then s else satAdd s F.AUD_CLIPCNT_COUNT p clips
  emits s ((outs.filter fun o => !noEmbed s p o.1).map fun o =>
    .audio p o.1 o.2.1.val (o.2.1.v + 2 * o.2.1.u + 4 * bits o.2.1.blk (j % 192) 1))

/-- The TDM ports' samples kept, ramps and crossfades stepped, and the channels' registers. -/
def keepSamples (s : Dev) (p j : ℕ) (obs : List SampObs) (outs : List (ℕ × OutSamp × Bool)) : Dev :=
  let tdm := (outs.filter fun o => decide (0xF800 ≤ o.1)).foldl (fun m o => mset {} m o.1 o.2.1) ([] : SMap OutSamp)
  let s := setAud s p { audSt s p with tdmOut := ((j, tdm) :: (audSt s p).tdmOut).take 4 }
  syncChans (advance s p) obs p j

/-- What a grid instant does from the samples on. -/
def gridRest (s : Dev) (base p j : ℕ) (obs : List SampObs) : Dev :=
  let outs := allOut s (readChan s obs j (freeSample base)) p j
  keepSamples (putSamples s p j outs) p j obs outs

theorem audioGrid_eq {s : Dev} (h : s.ctl.pend = []) (t p : ℕ) (obs : List SampObs) :
    audioGrid s t p obs = gridRest (stepDests (trackObs { s.at t with freeCtr := s.freeCtr + 131072 } p obs) p) s.freeCtr p (gridOf t) obs := by
  have h1 : applyTdms (applyMaps (s.at t)) none = s.at t := by
    rw [applyMaps_nil (s := s.at t) h, applyTdms_nil (s := s.at t) h]
  unfold audioGrid
  rw [h1]
  rfl

/-- What a grid instant changes after the observations are tracked. -/
def samplesFoot : Foot :=
  { flds := [F.AUD_CLIPCNT_COUNT, F.AUD_SRCSTAT_PRESENT, F.AUD_SRCSTAT_V, F.AUD_SRCSTAT_MISSING, F.AUD_SRCSTAT_UNTIMED, F.AUD_SRCSTAT_PAIR,
      F.AUD_SRCSTAT_NONPCM, F.AUD_SRCSTAT_ASRC, F.AUD_SRCSTAT_ASRC_LOCKED], parts := [.aud] }

theorem within_stepDests (s : Dev) (p : ℕ) : Within { parts := [.aud, .plnRest] } s (stepDests s p) := by
  unfold stepDests stepDest
  simp (decide := true)

theorem within_keepSamples (s : Dev) (p j : ℕ) (obs : List SampObs) (outs : List (ℕ × OutSamp × Bool)) :
    Within samplesFoot s (keepSamples s p j obs outs) := by
  unfold keepSamples syncChans syncChan advance
  simp (decide := true) [↓within_ite, setFs]

theorem within_putSamples (s : Dev) (p j : ℕ) (outs : List (ℕ × OutSamp × Bool)) :
    Within { flds := [F.AUD_CLIPCNT_COUNT], parts := [.out] } s (putSamples s p j outs) := by
  unfold putSamples
  simp (decide := true) [↓within_ite]

/-- A channel's sample is put out, unless it is not embedded. -/
theorem audio_mem_gridRest {s : Dev} {base p j : ℕ} {obs : List SampObs} {dc : ℕ} {x : OutSamp} {clip : Bool}
    (h : (dc, x, clip) ∈ allOut s (readChan s obs j (freeSample base)) p j) (hn : ∀ u, noEmbed u p dc = false) :
    .audio p dc x.val (x.v + 2 * x.u + 4 * bits x.blk (j % 192) 1) ∈ (gridRest s base p j obs).out := by
  unfold gridRest
  dsimp only
  rw [(within_keepSamples _ _ _ _ _).out (by decide)]
  unfold putSamples
  dsimp only
  rw [emits_eq]
  refine List.mem_append_left _ (List.mem_reverse.mpr (List.mem_map.mpr ⟨_, List.mem_filter.mpr ⟨h, ?_⟩, rfl⟩))
  rw [hn]
  rfl

/-! Observations. -/

/-- The engine's state of plane `p` after observation `o`, which is the IP channel's or not. -/
def tracked (a : AudSt) (ip : Bool) (o : SampObs) : AudSt :=
  let a := { a with good := if o.copy then mset 0 a.good o.ch o.val else a.good }
  let n := if o.copy then 0 else mget 0 a.miss o.ch + 1
  let h := mget 0 a.hush o.ch
  let a := if ip then { a with
      miss := mset 0 a.miss o.ch n
      hush := mset 0 a.hush o.ch (if 48 < n then min 48 (h + 1) else h - 1)
      missed := if o.copy ∨ a.missed.contains o.ch then a.missed else o.ch :: a.missed } else a
  let on := a.locked.contains o.ch && o.inRate
  let l := mget 0 a.level o.ch
  { a with
    locked := if o.inRate then a.locked else a.locked.filter fun c => c != o.ch
    level := mset 0 a.level o.ch (if on then min 48 (l + 1) else l - 1) }

theorem trackObs_one (s : Dev) (p : ℕ) {o : SampObs} (h : o.plane = p) : trackObs s p [o] =
    setAud (if isFlowChan s p o.ch && !o.copy && decide (0xC000 ≤ o.ch) then satAdd s F.AUD_MISSCNT_COUNT p 1 else s) p
      (tracked (audSt s p) (isFlowChan s p o.ch) o) := by
  unfold trackObs
  simp only [List.filter_cons, h, beq_self_eq_true, if_true, List.filter_nil, List.foldl_cons, List.foldl_nil]
  rfl

theorem isFlowChan_embedded (s : Dev) (p : ℕ) {ch : ℕ} (h : ch < 0x9000) : isFlowChan s p ch = false := by
  unfold isFlowChan
  rw [decide_eq_false (by omega), decide_eq_false (by omega)]
  rfl

theorem isFlowChan_ip (s : Dev) (p : ℕ) {ch : ℕ} (h : 0xC000 ≤ ch) (h' : ch < 0xF800) : isFlowChan s p ch = true := by
  unfold isFlowChan
  rw [decide_eq_true ⟨h, h'⟩]
  rfl

/-! A transparent channel (R201). -/

/-- The state in which a transparent channel is read: its observation tracked, nothing else changed. -/
def trackedDev (s : Dev) (t p : ℕ) (o : SampObs) : Dev := trackObs { s.at t with freeCtr := s.freeCtr + 131072 } p [o]

section
variable {s : Dev} {p dc e : ℕ} {o : SampObs} (h : Transparent s p dc e o) (t : ℕ)
include h

theorem trackedDev_eq : trackedDev s t p o = setAud { s.at t with freeCtr := s.freeCtr + 131072 } p (tracked (audSt s p) false o) := by
  unfold trackedDev
  rw [trackObs_one _ _ h.plane, isFlowChan_embedded _ _ h.embedded]
  rfl

theorem audSt_trackedDev : (audSt (trackedDev s t p o) p).taps = [] ∧ mget 0 (audSt (trackedDev s t p o) p).hush o.ch = 0 := by
  have ha : audSt (trackedDev s t p o) p = tracked (audSt s p) false o := by
    rw [trackedDev_eq h]
    exact mget_mset_same _ _ _ _
  rw [ha]
  exact ⟨h.still, h.full⟩

theorem ctl_trackedDev : (trackedDev s t p o).ctl = s.ctl := by
  rw [trackedDev_eq h]
  rfl

theorem activeChans_trackedDev : activeChans (trackedDev s t p o) p = [dc] := by
  unfold activeChans
  rw [(audSt_trackedDev h t).1, ctl_trackedDev h, h.taps]
  simp

theorem assocDest_trackedDev : assocDest (trackedDev s t p o) p dc = none := by
  rw [trackedDev_eq h]
  exact h.alone

theorem stepDests_trackedDev : stepDests (trackedDev s t p o) p = trackedDev s t p o := by
  have hq : (trackedDev s t p o).pln.audioQ = [] := by
    rw [trackedDev_eq h]
    exact h.settled.1
  have hd : steppedDests (trackedDev s t p o) p = [] := by
    unfold steppedDests
    rw [activeChans_trackedDev h, hq]
    simp [assocDest_trackedDev h]
  unfold stepDests
  rw [hd]
  rfl

theorem tapAt_trackedDev (k : ℕ) : tapAt (trackedDev s t p o) k = if k = 32 * dc then e else 0 := by
  unfold tapAt
  rw [ctl_trackedDev h, h.taps]
  simp [mget, eq_comm]

/-- The transparent channel reads its sample as it arrived. -/
theorem readChan_trackedDev (base j : ℕ) : readChan (trackedDev s t p o) [o] j (freeSample base) p o.ch = { val := o.val, v := o.v, u := o.u, blk := o.blk } := by
  have hf : [o].find? (fun x => x.plane == p && x.ch == o.ch) = some o := by simp [h.plane]
  have hk : srcKind (trackedDev s t p o) p (o.ch / 32) = 1 := by
    rw [trackedDev_eq h]
    exact h.timed
  have hi : o.ch % 32 < ifaceChans (getF (trackedDev s t p o) F.PLN_SRCSTAT_IFACE (ix p (o.ch / 32))) := by
    rw [trackedDev_eq h]
    exact h.carried
  have he := h.embedded
  have hp : chanPresent (trackedDev s t p o) p o.ch j (some o) = true := by
    unfold chanPresent
    rw [if_pos he, hk, decide_eq_true hi]
    rfl
  have hu : chanUntimed (trackedDev s t p o) p o.ch (some o) = false := by
    unfold chanUntimed
    rw [if_pos (by omega), hk]
    exact h.sync
  have ha : (trackedDev s t p o).ctl.asrc.any (fun x => x.1 == o.ch) = false := by
    rw [ctl_trackedDev h, h.noAsrc]
    rfl
  unfold readChan
  dsimp only
  rw [hf, ha, hp, hu, (audSt_trackedDev h t).2, hk, if_neg (by simp; omega), if_neg (by simp), if_neg (by simp), if_neg (by simp), if_neg (by omega)]
  simp [h.present, scale48]

theorem pairLead_trackedDev (q : ℕ) : pairLead (trackedDev s t p o) p q = false := by
  have hany : ((List.range 32).any fun k => tapEn (tapAt (trackedDev s t p o) (32 * q + k)) && tapPair (tapAt (trackedDev s t p o) (32 * q + k))) = false := by
    refine List.any_eq_false.mpr fun k _ => ?_
    rw [tapAt_trackedDev h]
    split
    · rw [h.single]; simp
    · decide
  unfold pairLead
  rw [hany, (audSt_trackedDev h t).1]
  simp

theorem allOut_trackedDev (rd : ℕ → ℕ → SrcRead) (j : ℕ) :
    allOut (trackedDev s t p o) rd p j = [(dc, chanOut (trackedDev s t p o) rd p dc 0 j)] := by
  unfold allOut
  rw [activeChans_trackedDev h]
  simp [pairLead_trackedDev h]

omit h in
theorem filter_taps {q : ℕ → Bool} (hq : ∀ k < 32, q (32 * dc + k) = decide (k = 0)) :
    ((List.range 32).map fun k => 32 * dc + k).filter q = [32 * dc] := by
  have h1 : (List.range 32).filter (fun k => q (32 * dc + k)) = (List.range 32).filter fun k => decide (k = 0) :=
    List.filter_congr fun k hk => hq k (List.mem_range.mp hk)
  rw [List.filter_map, show (q ∘ fun k => 32 * dc + k) = fun k => q (32 * dc + k) from rfl, h1]
  rfl

theorem tapEn_trackedDev (k : ℕ) (hk : k < 32) : tapEn (tapAt (trackedDev s t p o) (32 * dc + k)) = decide (k = 0) := by
  rw [tapAt_trackedDev h]
  cases k with
  | zero => simp [h.enabled]
  | succ k => simp; decide

theorem stepMute_trackedDev (j : ℕ) : stepMute (trackedDev s t p o) j = 48 := by
  have hs : (trackedDev s t p o).tim.stepAt = none := by
    rw [trackedDev_eq h]
    exact h.settled.2.1
  unfold stepMute
  rw [hs, ctl_trackedDev h, h.settled.2.2]
  exact ite_self _

/-- Its one tap at unity gain passes what it reads. -/
theorem chanOut_trackedDev (rd : ℕ → ℕ → SrcRead) (j : ℕ) : chanOut (trackedDev s t p o) rd p dc 0 j =
    ({ val := (rd p o.ch).val, v := (rd p o.ch).v, u := (rd p o.ch).u, blk := (rd p o.ch).blk }, false) := by
  have ht := (audSt_trackedDev h t).1
  have hon := filter_taps (q := fun e => tapEn (tapAt (trackedDev s t p o) e)) fun k hk => tapEn_trackedDev h t k hk
  have hg : tapGain e = 1 := by
    unfold tapGain
    rw [h.positive, h.unity]
    norm_num
  have he : tapAt (trackedDev s t p o) (32 * dc) = e := by rw [tapAt_trackedDev h, if_pos rfl]
  have hr : tapReads (trackedDev s t p o) rd p dc e 0 = [(rd p o.ch, 1)] := by
    unfold tapReads
    rw [if_neg (by rw [h.fixed]; decide), ctl_trackedDev h, h.near, h.reads]
    rfl
  unfold chanOut
  dsimp only
  simp only [ht, List.any_nil, Bool.or_false, hon, List.flatMap_cons, List.flatMap_nil, List.find?_nil, he, hr, List.map_cons, List.map_nil,
    List.append_nil, List.length_singleton, assocDest_trackedDev h, stepMute_trackedDev h, hg, h.positive, List.all_cons, List.all_nil]
  rfl

/-- A transparent channel puts its sample out with its V, U and C bits. -/
theorem transparent_passes :
    .audio p dc o.val (o.v + 2 * o.u + 4 * bits o.blk (gridOf t % 192) 1) ∈ (audioGrid s t p [o]).out := by
  rw [audioGrid_eq h.settled.2.2]
  refine audio_mem_gridRest (x := { val := o.val, v := o.v, u := o.u, blk := o.blk }) (clip := false) ?_ fun u => ?_
  · have hs : stepDests (trackObs { s.at t with freeCtr := s.freeCtr + 131072 } p [o]) p = trackedDev s t p o := stepDests_trackedDev h t
    rw [hs, allOut_trackedDev h, chanOut_trackedDev h, readChan_trackedDev h]
    exact List.mem_cons_self
  · unfold noEmbed
    have hd := h.high
    rw [if_neg (by omega), if_neg (by omega)]

end

/-! The counts and flags. -/

/-- A missing sample of an IP channel is counted. -/
theorem missing_counted {s : Dev} {p : ℕ} {o : SampObs} (h : s.ctl.pend = []) (hp : o.plane = p) (h1 : 0xC000 ≤ o.ch) (h2 : o.ch < 0xF800)
    (hc : o.copy = false) (t : ℕ) : getF (audioGrid s t p [o]) F.AUD_MISSCNT_COUNT p =
      min (getF s F.AUD_MISSCNT_COUNT p + 1) (2 ^ F.AUD_MISSCNT_COUNT.width - 1) := by
  have hi : (isFlowChan { s.at t with freeCtr := s.freeCtr + 131072 } p o.ch && !o.copy && decide (0xC000 ≤ o.ch)) = true := by
    rw [isFlowChan_ip _ _ h1 h2, hc, decide_eq_true h1]
    rfl
  have hg : getF (trackObs { s.at t with freeCtr := s.freeCtr + 131072 } p [o]) F.AUD_MISSCNT_COUNT p =
      min (getF s F.AUD_MISSCNT_COUNT p + 1) (2 ^ F.AUD_MISSCNT_COUNT.width - 1) := by
    rw [trackObs_one _ _ hp, if_pos hi]
    exact getF_satAdd_same _ _ _ _
  rw [audioGrid_eq h, ← hg]
  generalize trackObs { s.at t with freeCtr := s.freeCtr + 131072 } p [o] = u
  have hw : Within { flds := samplesFoot.flds, parts := [.aud, .plnRest, .out] } u (gridRest (stepDests u p) s.freeCtr p (gridOf t) [o]) := by
    refine .trans ((within_stepDests u p).mono (by decide)) ?_
    unfold gridRest
    exact .trans ((within_putSamples _ _ _ _).mono (by decide)) ((within_keepSamples _ _ _ _ _).mono (by decide))
  exact hw.fld _ _ (by decide)

theorem getF_foldl_setF_one {f : Fld} (hf : 1 % 2 ^ f.width = 1) (g : ℕ → ℕ) (l : List ℕ) (s : Dev) {k : ℕ}
    (h : k ∈ l ∨ getF s f (g k) = 1) : getF (l.foldl (fun s k => setF s f (g k) 1) s) f (g k) = 1 := by
  have hset (u : Dev) (i : ℕ) : getF (setF u f i 1) f i = 1 := (getF_setF_same _ _ _ _).trans hf
  induction l generalizing s with
  | nil => exact h.resolve_left (by simp)
  | cons a r ih =>
    refine ih _ ?_
    by_cases hk : g k = g a
    · exact .inr (by rw [hk]; exact hset _ _)
    · rcases h with h | h
      · rcases List.mem_cons.mp h with rfl | h
        · exact absurd rfl hk
        · exact .inl h
      · exact .inr ((getF_setF_idx _ _ _ _ _ _ hk).trans h)

theorem aud_foldl_setF (f : Fld) (g : ℕ → ℕ) (l : List ℕ) (s : Dev) : (l.foldl (fun s k => setF s f (g k) 1) s).aud = s.aud := by
  induction l generalizing s with
  | nil => rfl
  | cons a r ih => exact ih _

/-- Every channel of a flow off the clock is flagged UNTIMED. -/
theorem flow_flagged {s : Dev} {p n : ℕ} {f : ℕ × Bytes} (h : (audioFlows s p 0).find? (fun q => q.1 == n) = some f) (t : ℕ) :
    n ∈ (audSt (audioFlowUntimed s t p n) p).offClock ∧
      ∀ k < flowChans f.2, getF (audioFlowUntimed s t p n) F.AUD_SRCSTAT_UNTIMED (ix p (flowFirst f.2 + k)) = 1 := by
  have hm : n ∈ (audSt (if (audSt (s.at t) p).offClock.contains n then s.at t
      else setAud (s.at t) p { audSt (s.at t) p with offClock := n :: (audSt (s.at t) p).offClock }) p).offClock := by
    split
    next hc => simpa using hc
    next hc =>
      unfold audSt setAud
      rw [mget_mset_same]
      exact List.mem_cons_self
  have hf : (audioFlows (if (audSt (s.at t) p).offClock.contains n then s.at t
      else setAud (s.at t) p { audSt (s.at t) p with offClock := n :: (audSt (s.at t) p).offClock }) p 0).find? (fun q => q.1 == n) = some f := by
    split
    · exact h
    · exact h
  unfold audioFlowUntimed
  dsimp only
  rw [hf]
  generalize (if (audSt (s.at t) p).offClock.contains n then s.at t
      else setAud (s.at t) p { audSt (s.at t) p with offClock := n :: (audSt (s.at t) p).offClock }) = u at *
  refine ⟨?_, fun k hk => getF_foldl_setF_one (by decide) (fun k => ix p (flowFirst f.2 + k)) _ _ (.inl (List.mem_range.mpr hk))⟩
  unfold audSt at hm ⊢
  dsimp only
  rw [aud_foldl_setF F.AUD_SRCSTAT_UNTIMED (fun k => ix p (flowFirst f.2 + k))]
  exact hm

theorem asrc_locked {s : Dev} {p ch : ℕ} (h : (s.ctl.asrc.any fun q => q.1 == ch) = true) (hl : ch ∉ (audSt s p).locked) (t : ℕ) :
    ch ∈ (audSt (asrcLock s t p ch) p).locked ∧ getF (asrcLock s t p ch) F.AUD_SRCSTAT_ASRC_LOCKED (ix p ch) = 1 := by
  have hc : ¬((!((s.at t).ctl.asrc.any fun q => q.1 == ch)) = true ∨ (audSt (s.at t) p).locked.contains ch = true) := by
    rw [show (s.at t).ctl = s.ctl from rfl, h, show audSt (s.at t) p = audSt s p from rfl]
    simpa using hl
  unfold asrcLock
  dsimp only
  rw [if_neg hc]
  refine ⟨?_, getF_setF_same _ _ _ _⟩
  have ha : audSt (setF (setAud (s.at t) p { audSt (s.at t) p with locked := ch :: (audSt (s.at t) p).locked }) F.AUD_SRCSTAT_ASRC_LOCKED (ix p ch) 1) p =
      { audSt (s.at t) p with locked := ch :: (audSt (s.at t) p).locked } := mget_mset_same _ _ _ _
  rw [ha]
  exact List.mem_cons_self

/-- Settles O33: the transparent channel's one tap reads the sample as it arrived and is the channel's whole output; the other clauses are
what the tracking of one observation and the two commands set. -/
theorem audioEngineActs : Obligations.AudioEngineActs := by
  unfold Obligations.AudioEngineActs
  exact fun s t p => ⟨fun o dc e h => gives_of rfl (transparent_passes h t), fun o h hp h1 h2 hc => gives_of rfl (missing_counted h hp h1 h2 hc t),
    fun n f h => gives_of rfl (flow_flagged h t), fun ch h hl => gives_of rfl (asrc_locked h hl t)⟩

end Sys2Proof.Machine
end

section
/-! Links (R243 to R259): what a change of state leaves, lanes lost and regained, and the masks. -/

namespace Sys2Proof.Machine

open Sys2Proof.Claims

variable {W : Foot}

theorem lnkSt_setLnk_same (s : Dev) (p l : ℕ) (x : LnkSt) : lnkSt (setLnk s p l x) p l = x := mget_mset_same _ _ _ _

theorem lnkSt_of_within {s u : Dev} (h : Within W s u) (hW : .cfg ∉ W.parts) (p l : ℕ) : lnkSt u p l = lnkSt s p l := by
  have k : u.otl.links = s.otl.links := h.part .cfg hW
  unfold lnkSt
  rw [k]

theorem lnkSt_setFs (s : Dev) (i : ℕ) (v : List (Fld × ℕ)) (p l : ℕ) : lnkSt (setFs s i v) p l = lnkSt s p l := by
  unfold lnkSt
  rw [setFs_otl]

theorem lnkSt_raise (s : Dev) (c n j dt p l : ℕ) : lnkSt (raise s c n j dt) p l = lnkSt s p l := by
  unfold lnkSt
  rw [(hostOnly_raise s c n j dt).otl]

/-! A link that changes state (R259). -/

/-- A link taken DOWN but for the event that says so: its masks are empty and its exchanges over. -/
def downed (s : Dev) (p l : ℕ) : Dev :=
  let i := ix p l
  let s := setLnk (setF s F.OTL_STAT_STATE i 0) p l { lnkSt (setF s F.OTL_STAT_STATE i 0) p l with since := s.now }
  setLnk (setFs s i [(F.OTL_STAT_RX_MASK, 0), (F.OTL_STAT_TX_MASK, 0), (F.OTL_STAT_STANDBY, 0), (F.OTL_STAT_SHED_N, 4)]) p l
    { lnkSt s p l with lastPres := none, presSeen := false, req := none, farReq := none, upWait := false, idleAt := none }

/-- A link in another state, its masks kept. -/
def moved (s : Dev) (p l new : ℕ) : Dev :=
  setLnk (setF s F.OTL_STAT_STATE (ix p l) new) p l { lnkSt (setF s F.OTL_STAT_STATE (ix p l) new) p l with since := s.now }

/-- A link that starts training. -/
def trained (s : Dev) (p l : ℕ) : Dev :=
  setLnk (setF (moved s p l 1) F.OTL_STAT_NEW_UNIT (ix p l) 0) p l { lnkSt (moved s p l 1) p l with presSeen := false, skewed := [] }

/-- The event of a link's change of state. -/
def linkEvent (s : Dev) (p l new old cause jsn : ℕ) : Dev :=
  raise s 0x01 (p * 8 + l / 3) jsn (linkDetail s p l new old (getF s F.OTL_STAT_NEW_UNIT (ix p l)) cause)

theorem linkGo_down_eq {s : Dev} {p l : ℕ} (h : linkState s p l ≠ 0) (c j : ℕ) :
    linkGo s p l 0 c j = linkEvent (downed s p l) p l 0 (linkState s p l) c j := by
  unfold linkGo
  dsimp only
  rw [if_neg h, if_pos rfl, if_neg (by simp)]
  rfl

theorem linkGo_train_eq {s : Dev} {p l : ℕ} (h : linkState s p l ≠ 1) (c j : ℕ) :
    linkGo s p l 1 c j = linkEvent (trained s p l) p l 1 (linkState s p l) c j := by
  unfold linkGo
  dsimp only
  rw [if_neg h, if_neg (c := 1 = 0) (by decide), if_pos (c := 1 = 1) rfl, if_neg (c := (1 = 2 ∨ 1 = 3) ∧ _) (by simp)]
  rfl

theorem linkGo_run_eq {s : Dev} {p l n : ℕ} (h : linkFlows s p l = true) (hn : n = 2 ∨ n = 3) (hs : linkState s p l ≠ n) (c j : ℕ) :
    linkGo s p l n c j = linkEvent (moved s p l n) p l n (linkState s p l) c j := by
  have ho : ¬(linkState s p l = 1 ∨ linkState s p l = 4) := by
    unfold linkFlows at h
    simp only [Bool.or_eq_true, beq_iff_eq] at h
    omega
  unfold linkGo
  dsimp only
  rw [if_neg hs, if_neg (c := n = 0) (by omega), if_neg (c := n = 1) (by omega), if_neg (c := (n = 2 ∨ n = 3) ∧ _) (fun k => ho k.2)]
  rfl

theorem getF_linkEvent (s : Dev) (p l new old c j : ℕ) (f : Fld) (i : ℕ) (h : notHif f) :
    getF (linkEvent s p l new old c j) f i = getF s f i := (hostOnly_raise _ _ _ _ _).getF_eq f i h

theorem lnkSt_linkEvent (s : Dev) (p l new old c j : ℕ) : lnkSt (linkEvent s p l new old c j) p l = lnkSt s p l := lnkSt_raise _ _ _ _ _ _ _

/-- A link taken DOWN has empty masks and no exchange open. -/
theorem linkGo_down {s : Dev} {p l : ℕ} (h : linkState s p l ≠ 0) (c j : ℕ) :
    linkState (linkGo s p l 0 c j) p l = 0 ∧ rxMask (linkGo s p l 0 c j) p l = 0 ∧ txMask (linkGo s p l 0 c j) p l = 0 ∧
      lnkSt (linkGo s p l 0 c j) p l = { lnkSt s p l with since := s.now, lastPres := none, presSeen := false, req := none, farReq := none,
                                                          upWait := false, idleAt := none } := by
  unfold linkState rxMask txMask
  rw [linkGo_down_eq h, getF_linkEvent _ _ _ _ _ _ _ _ _ (by decide), getF_linkEvent _ _ _ _ _ _ _ _ _ (by decide),
    getF_linkEvent _ _ _ _ _ _ _ _ _ (by decide), lnkSt_linkEvent]
  unfold downed
  simp only [setFs, getF_setLnk]
  refine ⟨?_, ?_, ?_, ?_⟩
  · rw [getF_setF_code _ _ _ _ _ _ (by decide), getF_setF_code _ _ _ _ _ _ (by decide), getF_setF_code _ _ _ _ _ _ (by decide),
      getF_setF_code _ _ _ _ _ _ (by decide), getF_setLnk, getF_setF_same]
    rfl
  · rw [getF_setF_code _ _ _ _ _ _ (by decide), getF_setF_code _ _ _ _ _ _ (by decide), getF_setF_code _ _ _ _ _ _ (by decide), getF_setF_same]
    rfl
  · rw [getF_setF_code _ _ _ _ _ _ (by decide), getF_setF_code _ _ _ _ _ _ (by decide), getF_setF_same]
    rfl
  · rw [lnkSt_setLnk_same, lnkSt_setLnk_same]
    rfl

theorem linkGo_train {s : Dev} {p l : ℕ} (h : linkState s p l ≠ 1) (c j : ℕ) :
    linkState (linkGo s p l 1 c j) p l = 1 ∧ (lnkSt (linkGo s p l 1 c j) p l).since = s.now := by
  unfold linkState
  rw [linkGo_train_eq h, getF_linkEvent _ _ _ _ _ _ _ _ _ (by decide), lnkSt_linkEvent]
  unfold trained moved
  refine ⟨?_, ?_⟩
  · rw [getF_setLnk, getF_setF_code _ _ _ _ _ _ (by decide), getF_setLnk, getF_setF_same]
    rfl
  · rw [lnkSt_setLnk_same, lnkSt_setLnk_same]

/-- A running link's state: only the state and its time change. -/
theorem linkGo_run {s : Dev} {p l n : ℕ} (h : linkFlows s p l = true) (hn : n = 2 ∨ n = 3) (c : ℕ) :
    linkState (linkGo s p l n c) p l = n ∧ rxMask (linkGo s p l n c) p l = rxMask s p l ∧ txMask (linkGo s p l n c) p l = txMask s p l ∧
      (∃ a, lnkSt (linkGo s p l n c) p l = { lnkSt s p l with since := a }) ∧ OutKept s (linkGo s p l n c) := by
  by_cases hs : linkState s p l = n
  · have he : linkGo s p l n c = s := if_pos hs
    rw [he]
    exact ⟨hs, rfl, rfl, ⟨_, rfl⟩, .refl s⟩
  · unfold linkState rxMask txMask
    rw [linkGo_run_eq h hn hs, getF_linkEvent _ _ _ _ _ _ _ _ _ (by decide), getF_linkEvent _ _ _ _ _ _ _ _ _ (by decide),
      getF_linkEvent _ _ _ _ _ _ _ _ _ (by decide), lnkSt_linkEvent]
    refine ⟨?_, ?_, ?_, ⟨s.now, ?_⟩, ?_⟩
    · unfold moved
      rw [getF_setLnk, getF_setF_same]
      rcases hn with rfl | rfl <;> rfl
    · unfold moved
      rw [getF_setLnk, getF_setF_code _ _ _ _ _ _ (by decide)]
    · unfold moved
      rw [getF_setLnk, getF_setF_code _ _ _ _ _ _ (by decide)]
    · unfold moved
      rw [lnkSt_setLnk_same]
      rfl
    · refine .trans (u := moved s p l n) (.of_eq rfl) (outKept_raise _ _ _ _ _)

/-- A running link whose masks are not empty goes where its masks say. -/
theorem linkEval_run {s : Dev} {p l : ℕ} (h : linkFlows s p l = true) (ht : txMask s p l ≠ 0) (hr : rxMask s p l ≠ 0) (c : ℕ) :
    linkEval s p l c = linkGo s p l (runState (txMask s p l) (rxMask s p l)) c := by
  have hst : linkState s p l = 2 ∨ linkState s p l = 3 := by simpa [linkFlows] using h
  have hn : (if decide (txMask s p l = 15 ∧ rxMask s p l = 15) = true then 2 else 3) = runState (txMask s p l) (rxMask s p l) := by
    unfold runState
    simp only [decide_eq_true_eq]
  unfold linkEval
  dsimp only
  rw [if_neg (c := linkState s p l = 1) (by omega), if_pos hst, if_neg (not_or.mpr ⟨ht, hr⟩), hn]

theorem runState_run (tx rx : ℕ) : runState tx rx = 2 ∨ runState tx rx = 3 := by
  unfold runState
  split <;> simp

/-! Restriping (R256). -/

/-- What a restripe counts and reports. -/
def restripeFoot : Foot := { flds := [F.OTL_STAT_SHED_N, F.OTL_CNT_SWITCHES] ++ evtFields, parts := [.out, .host] }

theorem within_restripe_count (s : Dev) (p l tx old new : ℕ) : Within restripeFoot s (restripe s p l tx old new) := by
  unfold restripe restripeEvent
  simp (decide := true) [↓within_ite]

theorem outKept_restripe (s : Dev) (p l tx old new : ℕ) : OutKept s (restripe s p l tx old new) := by
  unfold restripe
  dsimp only
  split
  · exact .of_eq rfl
  · refine .trans ?_ (outKept_raise _ _ _ _ _)
    exact .of_eq rfl

theorem linkFlows_of_state {s u : Dev} {p l : ℕ} (h : linkState u p l = linkState s p l) : linkFlows u p l = linkFlows s p l := by
  unfold linkFlows
  rw [h]

/-- A link that restripes: it goes where the masks say, with nothing else of it changed. -/
theorem restriped {s : Dev} {p l : ℕ} (h : linkFlows s p l = true) (ht : txMask s p l ≠ 0) (hr : rxMask s p l ≠ 0) (tx old new c : ℕ) :
    linkState (linkEval (restripe s p l tx old new) p l c) p l = runState (txMask s p l) (rxMask s p l) ∧
      rxMask (linkEval (restripe s p l tx old new) p l c) p l = rxMask s p l ∧
      txMask (linkEval (restripe s p l tx old new) p l c) p l = txMask s p l ∧
      (∃ a, lnkSt (linkEval (restripe s p l tx old new) p l c) p l = { lnkSt s p l with since := a }) ∧
      OutKept s (linkEval (restripe s p l tx old new) p l c) := by
  have k := within_restripe_count s p l tx old new
  have ko := outKept_restripe s p l tx old new
  generalize restripe s p l tx old new = u at *
  have h1 : linkState u p l = linkState s p l := k.fld _ _ (by decide)
  have h2 : txMask u p l = txMask s p l := k.fld _ _ (by decide)
  have h3 : rxMask u p l = rxMask s p l := k.fld _ _ (by decide)
  have h4 := lnkSt_of_within k (by decide) p l
  have hf : linkFlows u p l = true := (linkFlows_of_state h1).trans h
  rw [linkEval_run hf (by rw [h2]; exact ht) (by rw [h3]; exact hr), h2, h3]
  obtain ⟨g1, g2, g3, ⟨a, g4⟩, g5⟩ := linkGo_run hf (runState_run (txMask s p l) (rxMask s p l)) c
  exact ⟨g1, g2.trans h3, g3.trans h2, ⟨a, by rw [g4, h4]⟩, ko.trans g5⟩

/-! Lanes lost (R256). -/

theorem laneSt_setLane_same (s : Dev) (p l : ℕ) (x : LaneSt) : laneSt (setLane s p l x) p l = x := mget_mset_same _ _ _ _

theorem within_laneFail_zero (s : Dev) (p l : ℕ) : Within lanesFoot s (laneFail s p l 0) := by
  unfold laneFail
  simp (decide := true)

theorem laneStage_laneFail (s : Dev) (p l q : ℕ) : laneStage (laneFail s p l 0) p q = if q = l then 0 else laneStage s p q := by
  have h : laneStage (laneFail s p l 0) p q = getF (setF s F.LANE_STAT_STAGE (ix p l) 0) F.LANE_STAT_STAGE (ix p q) := rfl
  rw [h]
  split
  next hq =>
    rw [hq, getF_setF_same]
    rfl
  next hq =>
    refine getF_setF_idx _ _ _ _ _ _ ?_
    unfold ix
    omega

/-- Lane `k` of link `l` fails, if it is up. -/
def loseLane (p l : ℕ) (s : Dev) (k : ℕ) : Dev :=
  let ph := physLane s p l k
  if laneStage s p ph = 6 then laneFail s p ph 0 else s

theorem within_loseLane (p l : ℕ) (s : Dev) (k : ℕ) : Within lanesFoot s (loseLane p l s k) := by
  unfold loseLane
  dsimp only
  split
  · exact within_laneFail_zero _ _ _
  · exact .refl _ _

theorem within_loseLanes (p l : ℕ) (s : Dev) (ks : List ℕ) : Within lanesFoot s (ks.foldl (loseLane p l) s) :=
  within_foldl _ (fun u k => within_loseLane p l u k) _ _

theorem physLane_of_within {s u : Dev} (h : Within W s u) (hW : W.hits (F.LANE_STAT_REVERSED.code % 262144) = false) (p l k : ℕ) :
    physLane u p l k = physLane s p l k := by
  unfold physLane
  rw [h.fld F.LANE_STAT_REVERSED _ hW]

theorem laneStage_loseLane (p l : ℕ) (s : Dev) (k q : ℕ) : laneStage (loseLane p l s k) p q = laneStage s p q ∨ laneStage (loseLane p l s k) p q = 0 := by
  unfold loseLane
  dsimp only
  split
  · rw [laneStage_laneFail]
    split
    · exact .inr rfl
    · exact .inl rfl
  · exact .inl rfl

/-- Lanes that are down stay so while others are lost. -/
theorem laneStage_loseLanes_zero (p l : ℕ) (ks : List ℕ) (s : Dev) {q : ℕ} (h : laneStage s p q = 0) : laneStage (ks.foldl (loseLane p l) s) p q = 0 := by
  induction ks generalizing s with
  | nil => exact h
  | cons a r ih => exact ih _ ((laneStage_loseLane p l s a q).elim (fun k => k.trans h) id)

/-- An up lane that is lost is down. -/
theorem laneStage_lost (p l : ℕ) (ks : List ℕ) (s : Dev) {k : ℕ} (hk : k ∈ ks) (h : laneStage s p (physLane s p l k) = 6) :
    laneStage (ks.foldl (loseLane p l) s) p (physLane s p l k) = 0 := by
  induction ks generalizing s with
  | nil => cases hk
  | cons a r ih =>
    rw [List.foldl_cons]
    rcases laneStage_loseLane p l s a (physLane s p l k) with h1 | h1
    · have hp := physLane_of_within (within_loseLane p l s a) (by decide) p l k
      rcases List.mem_cons.mp hk with rfl | hk
      · refine laneStage_loseLanes_zero p l r _ ?_
        unfold loseLane
        dsimp only
        rw [if_pos h, laneStage_laneFail, if_pos rfl]
      · rw [← hp] at h1 ⊢
        exact ih _ hk (h1.trans (by rw [hp]; exact h))
    · exact laneStage_loseLanes_zero p l r _ h1

/-- The lanes named in `mask` are lost, and no longer stand by. -/
def lossHead (s : Dev) (p l mask : ℕ) : Dev :=
  setF (((List.range 4).filter fun k => bit mask k).foldl (loseLane p l) s) F.OTL_STAT_STANDBY (ix p l)
    (getF s F.OTL_STAT_STANDBY (ix p l) - (getF s F.OTL_STAT_STANDBY (ix p l) &&& mask))

/-- What the link still receives on, of what is wanted, without the lanes of `mask`. -/
def leftRx (s : Dev) (p l mask : ℕ) : ℕ := (wantedRx s p l &&& rxMask s p l) - (wantedRx s p l &&& rxMask s p l &&& mask)

/-- Lanes that are wanted and not lost wait to come back. -/
def lossBack (s : Dev) (p l mask : ℕ) : Bool :=
  let base := wantedRx s p l
  let rx := rxMask s p l
  (lnkSt s p l).upWait || (base - (base &&& rx)) - ((base - (base &&& rx)) &&& mask) != 0

/-- The link that has lost lanes of `mask`, before it asks for the rest. -/
def lossLink (s : Dev) (p l mask : ℕ) : LnkSt :=
  { lnkSt s p l with needAlign := (lnkSt s p l).needAlign || rxMask s p l &&& mask != 0 }

/-- The request for what is left of the lanes. -/
def lossReq (s : Dev) (p l mask : ℕ) : Dev :=
  let u := sendReq (setLnk s p l (lossLink s p l mask)) p l (leftRx s p l mask)
  setLnk u p l { lnkSt u p l with upWait := lossBack s p l mask }

/-- The number of the link's next request. -/
def nextReq (s : Dev) (p l : ℕ) : ℕ := ((lnkSt s p l).reqId + 1) % 256

theorem out_sendReq (s : Dev) (p l m : ℕ) : (sendReq s p l m).out = .ctl p l 2 (m + nextReq s p l * 2 ^ 8) :: s.out := rfl

theorem lnkSt_sendReq (s : Dev) (p l m : ℕ) :
    lnkSt (sendReq s p l m) p l = { lnkSt s p l with req := some (m, nextReq s p l), reqId := nextReq s p l, upWait := false } :=
  lnkSt_setLnk_same s p l _

theorem within_lossHead (s : Dev) (p l mask : ℕ) : Within { lanesFoot with flds := F.OTL_STAT_STANDBY :: lanesFoot.flds } s (lossHead s p l mask) := by
  unfold lossHead
  rw [within_setF_skip _ _ _ _ _ (by decide)]
  exact (within_loseLanes p l s _).mono (by decide)

section
variable (s : Dev) (t p l mask : ℕ)

theorem rxMask_lossHead : rxMask (lossHead s p l mask) p l = rxMask s p l := (within_lossHead s p l mask).fld _ _ (by decide)

theorem linkState_lossHead : linkState (lossHead s p l mask) p l = linkState s p l := (within_lossHead s p l mask).fld _ _ (by decide)

theorem lnkSt_lossHead : lnkSt (lossHead s p l mask) p l = lnkSt s p l := lnkSt_of_within (within_lossHead s p l mask) (by decide) p l

theorem wantedRx_lossHead : wantedRx (lossHead s p l mask) p l = wantedRx s p l := by
  unfold wantedRx
  rw [lnkSt_lossHead, rxMask_lossHead]

theorem leftRx_lossHead : leftRx (lossHead s p l mask) p l mask = leftRx s p l mask := by
  unfold leftRx
  rw [wantedRx_lossHead, rxMask_lossHead]

theorem laneLoss_cases : laneLoss s t p l mask =
    let u := lossHead (s.at t) p l mask
    if rxMask (s.at t) p l = 0 ∨ linkState u p l = 0 then u
    else if (wantedRx u p l &&& rxMask (s.at t) p l) - (wantedRx u p l &&& rxMask (s.at t) p l &&& mask) = 0 then lastLane u p l
    else if wantedRx u p l &&& mask = 0 then u
    else
      let x := lnkSt u p l
      let base := wantedRx u p l
      let rx := rxMask (s.at t) p l
      let back := x.upWait || (base - (base &&& rx)) - ((base - (base &&& rx)) &&& mask) != 0
      let v := sendReq (setLnk u p l { x with needAlign := x.needAlign || rx &&& mask != 0 }) p l ((base &&& rx) - (base &&& rx &&& mask))
      setLnk v p l { lnkSt v p l with upWait := back } := rfl

theorem laneLoss_eq : laneLoss s t p l mask =
    let u := lossHead (s.at t) p l mask
    if rxMask u p l = 0 ∨ linkState u p l = 0 then u
    else if leftRx u p l mask = 0 then lastLane u p l
    else if wantedRx u p l &&& mask = 0 then u
    else lossReq u p l mask := by
  rw [laneLoss_cases]
  dsimp only
  rw [← rxMask_lossHead (s.at t) p l mask]
  rfl

end

/-- What a link taken DOWN changes. -/
def downFoot : Foot :=
  { flds := [F.OTL_STAT_STATE, F.OTL_STAT_RX_MASK, F.OTL_STAT_TX_MASK, F.OTL_STAT_STANDBY, F.OTL_STAT_SHED_N] ++ evtFields,
    parts := [.out, .host, .links, .cfg] }

theorem within_linkGo_down (s : Dev) (p l c j : ℕ) : Within downFoot s (linkGo s p l 0 c j) := by
  by_cases h : linkState s p l = 0
  · have he : linkGo s p l 0 c j = s := if_pos h
    rw [he]
  · rw [linkGo_down_eq h]
    unfold linkEvent downed
    simp (decide := true)

theorem needAlign_linkGo_down (s : Dev) (p l c j : ℕ) : (lnkSt (linkGo s p l 0 c j) p l).needAlign = (lnkSt s p l).needAlign := by
  by_cases h : linkState s p l = 0
  · have he : linkGo s p l 0 c j = s := if_pos h
    rw [he]
  · rw [(linkGo_down h c j).2.2.2]

theorem lnkSt_lossReq (s : Dev) (p l mask : ℕ) :
    (lossReq s p l mask).out.head? = some (.ctl p l 2 (leftRx s p l mask + nextReq s p l * 2 ^ 8)) ∧
    lnkSt (lossReq s p l mask) p l =
      { lossLink s p l mask with req := some (leftRx s p l mask, nextReq s p l), reqId := nextReq s p l, upWait := lossBack s p l mask } := by
  have hn : nextReq (setLnk s p l (lossLink s p l mask)) p l = nextReq s p l := by
    unfold nextReq
    rw [lnkSt_setLnk_same]
    rfl
  unfold lossReq
  dsimp only
  rw [lnkSt_setLnk_same, lnkSt_sendReq, lnkSt_setLnk_same, hn]
  refine ⟨?_, rfl⟩
  have ho (u : Dev) (x : LnkSt) : (setLnk u p l x).out = u.out := rfl
  rw [ho, out_sendReq, hn]
  rfl

/-- The loss of the last lane takes a running link DOWN. -/
theorem laneLoss_last {s : Dev} {p l mask : ℕ} (hm : rxMask s p l &&& mask = rxMask s p l) (hr : rxMask s p l ≠ 0) (hf : linkFlows s p l = true)
    (t : ℕ) : linkState (laneLoss s t p l mask) p l = 0 ∧ rxMask (laneLoss s t p l mask) p l = 0 := by
  have hst : linkState s p l ≠ 0 := by
    unfold linkFlows at hf
    simp only [Bool.or_eq_true, beq_iff_eq] at hf
    omega
  have h1 := rxMask_lossHead (s.at t) p l mask
  have h2 := linkState_lossHead (s.at t) p l mask
  have hl : leftRx (lossHead (s.at t) p l mask) p l mask = 0 := by
    rw [leftRx_lossHead]
    unfold leftRx
    rw [Nat.land_assoc, show rxMask (s.at t) p l = rxMask s p l from rfl, hm, Nat.sub_self]
  rw [laneLoss_eq]
  dsimp only
  rw [if_neg (not_or.mpr ⟨by rw [h1]; exact hr, by rw [h2]; exact hst⟩), if_pos hl]
  generalize lossHead (s.at t) p l mask = u at *
  have hu : linkFlows (setF u F.OTL_STAT_RX_MASK (ix p l) 0) p l = true := by
    have hk : linkState (setF u F.OTL_STAT_RX_MASK (ix p l) 0) p l = linkState s p l := (getF_setF_code _ _ _ _ _ _ (by decide)).trans h2
    exact (linkFlows_of_state hk).trans hf
  unfold lastLane
  dsimp only
  rw [if_pos hu]
  have hd : linkState (restripeEvent (setF u F.OTL_STAT_RX_MASK (ix p l) 0) p l 0 4 (rxMask u p l) 0) p l ≠ 0 := by
    unfold linkState restripeEvent
    rw [(hostOnly_raise _ _ _ _ _).getF_eq _ _ (by decide), getF_setF_code _ _ _ _ _ _ (by decide)]
    exact fun k => hst (h2 ▸ k)
  obtain ⟨g1, g2, -, -⟩ := linkGo_down hd 1 0
  exact ⟨g1, g2⟩

theorem leftRx_ne {s : Dev} {p l mask : ℕ} (h : wantedRx s p l &&& rxMask s p l &&& mask ≠ wantedRx s p l &&& rxMask s p l) : leftRx s p l mask ≠ 0 := by
  have hle : wantedRx s p l &&& rxMask s p l &&& mask ≤ wantedRx s p l &&& rxMask s p l := Nat.and_le_left
  unfold leftRx
  omega

/-- Lanes lost of what is wanted: the rest is asked for. -/
theorem laneLoss_some {s : Dev} {p l mask : ℕ} (hw : wantedRx s p l &&& mask ≠ 0)
    (hm : wantedRx s p l &&& rxMask s p l &&& mask ≠ wantedRx s p l &&& rxMask s p l) (hst : linkState s p l ≠ 0) (t : ℕ) :
    laneLoss s t p l mask = lossReq (lossHead (s.at t) p l mask) p l mask := by
  have hr : rxMask s p l ≠ 0 := by
    intro k
    rw [k, Nat.and_zero, Nat.zero_and] at hm
    exact hm rfl
  rw [laneLoss_eq]
  dsimp only
  rw [if_neg, if_neg, if_neg]
  · rw [wantedRx_lossHead]
    exact hw
  · rw [leftRx_lossHead]
    exact leftRx_ne hm
  · rw [rxMask_lossHead, linkState_lossHead]
    exact not_or.mpr ⟨hr, hst⟩

/-- What the loss of lanes changes. -/
def lossFoot : Foot := { downFoot with flds := F.LANE_STAT_STAGE :: downFoot.flds, parts := .lanes :: downFoot.parts }

theorem lastLane_keeps (s : Dev) (p l : ℕ) : Within lossFoot s (lastLane s p l) ∧ (lnkSt (lastLane s p l) p l).needAlign = (lnkSt s p l).needAlign := by
  unfold lastLane
  dsimp only
  split
  · refine ⟨.trans ?_ ((within_linkGo_down _ _ _ _ _).mono (by decide)), (needAlign_linkGo_down _ _ _ _ _).trans ?_⟩
    · unfold restripeEvent
      simp (decide := true)
    · unfold restripeEvent
      rw [lnkSt_raise]
      rfl
  · refine ⟨by simp (decide := true), rfl⟩

/-- A loss counts no codeword, and alignment that is needed still is. -/
theorem laneLoss_keeps (s : Dev) (t p l mask : ℕ) : Within { lossFoot with parts := .now :: lossFoot.parts } s (laneLoss s t p l mask) ∧
    ((lnkSt s p l).needAlign = true → (lnkSt (laneLoss s t p l mask) p l).needAlign = true) := by
  have h0 : Within { lossFoot with parts := .now :: lossFoot.parts } s (lossHead (s.at t) p l mask) :=
    .trans (by simp (decide := true)) ((within_lossHead (s.at t) p l mask).mono (by decide))
  have hl : lnkSt (lossHead (s.at t) p l mask) p l = lnkSt s p l := lnkSt_lossHead (s.at t) p l mask
  rw [laneLoss_eq]
  generalize lossHead (s.at t) p l mask = u at *
  dsimp only
  split
  · exact ⟨h0, fun h => by rw [hl]; exact h⟩
  · split
    · obtain ⟨k1, k2⟩ := lastLane_keeps u p l
      exact ⟨h0.trans (k1.mono (by decide)), fun h => by rw [k2, hl]; exact h⟩
    · split
      · exact ⟨h0, fun h => by rw [hl]; exact h⟩
      · refine ⟨h0.trans ?_, fun h => ?_⟩
        · unfold lossReq sendReq
          simp (decide := true)
        · rw [(lnkSt_lossReq u p l mask).2]
          show ((lnkSt u p l).needAlign || _) = true
          rw [hl, h]
          rfl

/-- What is asked for after a loss, and the lanes that are down. -/
theorem laneLoss_asks {s : Dev} {p l mask : ℕ} (hw : wantedRx s p l &&& mask ≠ 0)
    (hm : wantedRx s p l &&& rxMask s p l &&& mask ≠ wantedRx s p l &&& rxMask s p l) (hst : linkState s p l ≠ 0) (t : ℕ) :
    (∃ id, (lnkSt (laneLoss s t p l mask) p l).req = some ((wantedRx s p l &&& rxMask s p l) - (wantedRx s p l &&& rxMask s p l &&& mask), id) ∧
      ∃ v, (laneLoss s t p l mask).out.head? = some (.ctl p l 2 v)) ∧
    (rxMask s p l &&& mask ≠ 0 → (lnkSt (laneLoss s t p l mask) p l).needAlign = true) ∧
    ∀ k < 4, bit mask k = true → laneStage s p (physLane s p l k) = 6 → laneStage (laneLoss s t p l mask) p (physLane s p l k) = 0 := by
  rw [laneLoss_some hw hm hst]
  obtain ⟨ho, hl⟩ := lnkSt_lossReq (lossHead (s.at t) p l mask) p l mask
  refine ⟨⟨nextReq (lossHead (s.at t) p l mask) p l, ?_, _, ho⟩, fun hr => ?_, fun k hk hb h6 => ?_⟩
  · rw [hl]
    dsimp only
    rw [leftRx_lossHead]
    rfl
  · rw [hl]
    unfold lossLink
    dsimp only
    rw [rxMask_lossHead, bne_iff_ne.mpr (show rxMask (s.at t) p l &&& mask ≠ 0 from hr), Bool.or_true]
  · have he : laneStage (lossReq (lossHead (s.at t) p l mask) p l mask) p (physLane s p l k) = laneStage (lossHead (s.at t) p l mask) p (physLane s p l k) := rfl
    rw [he]
    unfold lossHead laneStage
    rw [getF_setF_code _ _ _ _ _ _ (by decide)]
    exact laneStage_lost p l _ (s.at t) (List.mem_filter.mpr ⟨List.mem_range.mpr hk, hb⟩) h6

/-! Alignment (R243). -/

/-- The second valid marker one period on aligns an up lane, which then stands by if it does not receive. -/
theorem am_aligns {s : Dev} {p l n : ℕ} {k : ℕ} (h6 : laneStage s p (physLane s p l k) = 6) (ha : (laneSt s p (physLane s p l k)).amAt = some n)
    (hk : k < 4) (t : ℕ) :
    (laneSt (amReceived s t p l k (n + 1) true false) p (physLane s p l k)).aligned = true ∧
      (bit (rxMask s p l) k = false → bit (getF (amReceived s t p l k (n + 1) true false) F.OTL_STAT_STANDBY (ix p l)) k = true) := by
  have hn : ((laneSt (s.at t) p (physLane (s.at t) p l k)).amAt == some (n + 1 - 1) && n + 1 != 0) = true := by
    rw [show laneSt (s.at t) p (physLane (s.at t) p l k) = laneSt s p (physLane s p l k) from rfl, ha]
    simp
  have h6' : laneStage (s.at t) p (physLane (s.at t) p l k) = 6 := h6
  unfold amReceived
  dsimp only
  rw [if_neg (not_not_intro h6'), if_neg (by simp), hn]
  simp only [Bool.not_false, Bool.or_true, Bool.and_true, Bool.true_and, if_true]
  generalize hv : (if (laneSt (s.at t) p (physLane (s.at t) p l k)).aligned = true then s.at t else setLnk (s.at t) p l _) = v
  have hr (u : LaneSt) : rxMask (setLane v p (physLane (s.at t) p l k) u) p l = rxMask s p l := by
    rw [← hv]
    split <;> rfl
  rw [hr]
  split
  next hb =>
    refine ⟨?_, fun _ => ?_⟩
    · have hl (u : Dev) (f : Fld) (i a : ℕ) : laneSt (setF u f i a) p (physLane s p l k) = laneSt u p (physLane s p l k) := rfl
      rw [hl, show physLane (s.at t) p l k = physLane s p l k from rfl, laneSt_setLane_same]
    · rw [getF_setF_same]
      generalize getF _ F.OTL_STAT_STANDBY (ix p l) = b
      rw [bit_mod_two_pow _ _ _ hk, bit_or, bit_two_pow, decide_eq_true rfl, Bool.or_true]
  next hb =>
    refine ⟨?_, fun h => absurd (by rw [h]; rfl) hb⟩
    rw [show physLane (s.at t) p l k = physLane s p l k from rfl, laneSt_setLane_same]

/-- No lane aligns beyond the skew tolerance. -/
theorem am_skewed {s : Dev} {p l k : ℕ} (h6 : laneStage s p (physLane s p l k) = 6) (ha : (laneSt s p (physLane s p l k)).aligned = false)
    (t n : ℕ) : (laneSt (amReceived s t p l k n true true) p (physLane s p l k)).aligned = false ∧
      k ∈ (lnkSt (amReceived s t p l k n true true) p l).skewed ∧ (amReceived s t p l k n true true).regs = s.regs := by
  have h6' : laneStage (s.at t) p (physLane (s.at t) p l k) = 6 := h6
  have ha' : (laneSt (s.at t) p (physLane (s.at t) p l k)).aligned = false := ha
  unfold amReceived
  dsimp only
  rw [if_neg (not_not_intro h6'), if_neg (by simp), ha']
  simp only [Bool.not_true, Bool.or_false, Bool.and_false, Bool.false_and, Bool.false_eq_true, if_false, if_true]
  refine ⟨?_, ?_, rfl⟩
  · rw [show physLane (s.at t) p l k = physLane s p l k from rfl, laneSt_setLane_same]
  · have hl (u : Dev) (x : LaneSt) (q : ℕ) : lnkSt (setLane u p q x) p l = lnkSt u p l := rfl
    rw [hl, lnkSt_setLnk_same]
    exact List.mem_cons_self

/-! Lanes that return, and the far end's requests (R256, R258). -/

theorem laneReturn_asks {s : Dev} {p l k : ℕ} (hst : linkState s p l ≠ 0) (hb : bit (getF s F.OTL_STAT_STANDBY (ix p l)) k = true)
    (hg : 2 ≤ (laneSt s p (physLane s p l k)).amGood) (hr : (lnkSt s p l).req = none) (t : ℕ) :
    ∃ id, (lnkSt (laneReturn s t p l k) p l).req = some (rxMask s p l ||| 2 ^ k, id) := by
  have hc : ¬(linkState (s.at t) p l = 0 ∨ (!bit (getF (s.at t) F.OTL_STAT_STANDBY (ix p l)) k) = true ∨
      (laneSt (s.at t) p (physLane (s.at t) p l k)).amGood < 2) := by
    have hb' : bit (getF (s.at t) F.OTL_STAT_STANDBY (ix p l)) k = true := hb
    rw [hb']
    exact not_or.mpr ⟨hst, not_or.mpr ⟨by simp, Nat.not_lt.mpr hg⟩⟩
  have hr' : (lnkSt (s.at t) p l).req = none := hr
  unfold laneReturn
  dsimp only
  rw [if_neg hc, hr']
  dsimp only
  exact ⟨nextReq (s.at t) p l, by rw [lnkSt_sendReq]; rfl⟩

theorem restripeReq_holds {s : Dev} {p l : ℕ} (hst : linkState s p l ≠ 0) (t lanes id : ℕ) :
    (lnkSt (restripeReq s t p l lanes id) p l).farReq = some (lanes % 16, id % 256) ∧ (restripeReq s t p l lanes id).regs = s.regs := by
  unfold restripeReq
  dsimp only
  rw [if_neg (c := linkState (s.at t) p l = 0) hst]
  exact ⟨by rw [lnkSt_setLnk_same], rfl⟩

theorem workingTx_lt (s : Dev) (p l : ℕ) : workingTx s p l < 16 := by
  have h (k : ℕ) : (if laneStage s p (physLane s p l k) = 6 then 2 ^ k else 0) ≤ 2 ^ k := by
    split
    · exact le_rfl
    · exact Nat.zero_le _
  have h0 := h 0
  have h1 := h 1
  have h2 := h 2
  have h3 := h 3
  have he : workingTx s p l = (if laneStage s p (physLane s p l 0) = 6 then 2 ^ 0 else 0) + ((if laneStage s p (physLane s p l 1) = 6 then 2 ^ 1 else 0) +
      ((if laneStage s p (physLane s p l 2) = 6 then 2 ^ 2 else 0) + ((if laneStage s p (physLane s p l 3) = 6 then 2 ^ 3 else 0) + 0))) := rfl
  omega

/-- The far end's request is answered with the lanes that work. -/
theorem switchRound_answers {s : Dev} {p l m id : ℕ} (hf : linkFlows s p l = true) (hq : (lnkSt s p l).farReq = some (m, id))
    (hw : workingTx s p l &&& m ≠ 0) (hr : rxMask s p l ≠ 0) (t k period : ℕ) :
    txMask (switchRound s t p l k period) p l = workingTx s p l &&& m ∧ (lnkSt (switchRound s t p l k period) p l).farReq = none ∧
      linkState (switchRound s t p l k period) p l = runState (workingTx s p l &&& m) (rxMask s p l) ∧
      ∃ v, .ctl p l 3 v ∈ (switchRound s t p l k period).out := by
  have hq' : (lnkSt (s.at t) p l).farReq = some (m, id) := hq
  have hlt : workingTx (s.at t) p l &&& m < 2 ^ F.OTL_STAT_TX_MASK.width := Nat.lt_of_le_of_lt Nat.and_le_left (workingTx_lt s p l)
  unfold switchRound
  dsimp only
  rw [hq']
  dsimp only
  generalize hu : sendMask _ p l _ id k period 0 = u
  have hu1 : txMask u p l = workingTx s p l &&& m := by
    rw [← hu]
    exact (getF_setF_same _ _ _ _).trans (Nat.mod_eq_of_lt hlt)
  have hu2 : rxMask u p l = rxMask s p l := by
    rw [← hu]
    exact getF_setF_code _ _ _ _ _ _ (by decide)
  have hu3 : linkState u p l = linkState s p l := by
    rw [← hu]
    exact getF_setF_code _ _ _ _ _ _ (by decide)
  have hu4 : (lnkSt u p l).farReq = none := by
    have he : lnkSt u p l = { lnkSt (s.at t) p l with farReq := none } := by
      rw [← hu]
      exact lnkSt_setLnk_same (s.at t) p l _
    rw [he]
  have hu5 : ∃ v, .ctl p l 3 v ∈ u.out := by
    rw [← hu]
    exact ⟨_, List.mem_cons_self⟩
  obtain ⟨v, hv⟩ := hu5
  obtain ⟨h1, -, h3, ⟨a, h4⟩, h5⟩ := restriped ((linkFlows_of_state hu3).trans hf) (by rw [hu1]; exact hw) (by rw [hu2]; exact hr) 1 (txMask (s.at t) p l)
    (workingTx (s.at t) p l &&& m) 6
  rw [hu1, hu2] at h1
  exact ⟨h3.trans hu1, by rw [h4]; exact hu4, h1, v, h5.keeps _ hv⟩

/-- The MASK that answers our request sets the receive mask. -/
theorem mask_answers {s : Dev} {p l lanes id m : ℕ} (hf : linkFlows s p l = true) (hq : (lnkSt s p l).req = some (m, id % 256))
    (hb : (lnkSt s p l).upWait = false) (hl : lanes % 16 ≠ 0) (ht : txMask s p l ≠ 0) (t : ℕ) :
    rxMask (maskReceived s t p l lanes id) p l = lanes % 16 ∧ (lnkSt (maskReceived s t p l lanes id) p l).req = none ∧
      linkState (maskReceived s t p l lanes id) p l = runState (txMask s p l) (lanes % 16) := by
  have hq' : (lnkSt (s.at t) p l).req = some (m, id % 256) := hq
  unfold maskReceived
  dsimp only
  rw [hq']
  dsimp only
  rw [if_neg (not_not_intro rfl)]
  generalize hu : setLnk (setFs (s.at t) _ _) p l _ = u
  have hu1 : txMask u p l = txMask s p l := by
    rw [← hu]
    unfold txMask
    simp only [setFs, getF_setLnk]
    rw [getF_setF_code _ _ _ _ _ _ (by decide), getF_setF_code _ _ _ _ _ _ (by decide)]
    rfl
  have hu2 : rxMask u p l = lanes % 16 := by
    rw [← hu]
    unfold rxMask
    simp only [setFs, getF_setLnk]
    rw [getF_setF_code _ _ _ _ _ _ (by decide), getF_setF_same]
    exact Nat.mod_mod _ _
  have hu3 : linkState u p l = linkState s p l := by
    rw [← hu]
    unfold linkState
    simp only [setFs, getF_setLnk]
    rw [getF_setF_code _ _ _ _ _ _ (by decide), getF_setF_code _ _ _ _ _ _ (by decide)]
    rfl
  have hu4 : (lnkSt u p l).req = none ∧ (lnkSt u p l).upWait = false := by
    rw [← hu, lnkSt_setLnk_same]
    exact ⟨rfl, hb⟩
  obtain ⟨h1, h2, -, ⟨a, h4⟩, -⟩ := restriped ((linkFlows_of_state hu3).trans hf) (by rw [hu1]; exact ht) (by rw [hu2]; exact hl) 0 (rxMask (s.at t) p l)
    (lanes % 16) 1
  rw [hu1, hu2] at h1
  rw [if_neg]
  · exact ⟨h2.trans hu2, by rw [h4]; exact hu4.1, h1⟩
  · rw [h4]
    simp [hu4.2]

/-! Codewords that cannot be corrected (R243). -/

/-- The codeword counted, and alignment asked for where the lane receives. -/
def codewordHead (s : Dev) (p l k corrected : ℕ) : Dev :=
  let ph := physLane s p l k
  let x := laneSt s p ph
  let n := if corrected = 0 then x.uncor + 1 else 1
  let s := satAdd (satAdd s F.LANE_CNT_UNCORR (ix p ph) 1) F.LANE_CNT_CORR (ix p ph) corrected
  let s := satAdd (setLane s p ph { x with uncor := if 3 ≤ n then 0 else n }) F.OTL_CNT_UNCORR (ix p l) 1
  if bit (rxMask s p l) k && !(lnkSt s p l).needAlign then
    satAdd (setLnk s p l { lnkSt s p l with needAlign := true }) F.OTL_CNT_SEG_DISC (ix p l) 1
  else s

theorem uncorrectable_eq (s : Dev) (t p l k corrected : ℕ) : uncorrectable s t p l k corrected =
    if 3 ≤ (if corrected = 0 then (laneSt (s.at t) p (physLane (s.at t) p l k)).uncor + 1 else 1) then
      laneLoss (codewordHead (s.at t) p l k corrected) t p l (2 ^ k)
    else codewordHead (s.at t) p l k corrected := rfl

theorem codewordHead_counts (s : Dev) (p l k corrected : ℕ) :
    getF (codewordHead s p l k corrected) F.OTL_CNT_UNCORR (ix p l) =
      min (getF s F.OTL_CNT_UNCORR (ix p l) + 1) (2 ^ F.OTL_CNT_UNCORR.width - 1) ∧
    (bit (rxMask s p l) k = true → (lnkSt (codewordHead s p l k corrected) p l).needAlign = true) := by
  unfold codewordHead
  dsimp only
  generalize hv : satAdd (satAdd s F.LANE_CNT_UNCORR _ 1) F.LANE_CNT_CORR _ corrected = v
  have h1 : getF v F.OTL_CNT_UNCORR (ix p l) = getF s F.OTL_CNT_UNCORR (ix p l) := by
    rw [← hv, getF_satAdd_code _ _ _ _ _ _ (by decide), getF_satAdd_code _ _ _ _ _ _ (by decide)]
  have h2 : rxMask v p l = rxMask s p l := by
    unfold rxMask
    rw [← hv, getF_satAdd_code _ _ _ _ _ _ (by decide), getF_satAdd_code _ _ _ _ _ _ (by decide)]
  generalize hw : satAdd (setLane v p _ _) F.OTL_CNT_UNCORR (ix p l) 1 = w
  have h3 : getF w F.OTL_CNT_UNCORR (ix p l) = min (getF s F.OTL_CNT_UNCORR (ix p l) + 1) (2 ^ F.OTL_CNT_UNCORR.width - 1) := by
    rw [← hw, getF_satAdd_same, getF_setLane, h1]
  have h4 : rxMask w p l = rxMask s p l := by
    unfold rxMask at h2 ⊢
    rw [← hw, getF_satAdd_code _ _ _ _ _ _ (by decide), getF_setLane, h2]
  split
  next hc =>
    refine ⟨?_, fun _ => ?_⟩
    · rw [getF_satAdd_code _ _ _ _ _ _ (by decide), getF_setLnk, h3]
    · have he (u : Dev) (f : Fld) (i n : ℕ) : lnkSt (satAdd u f i n) p l = lnkSt u p l := rfl
      rw [he, lnkSt_setLnk_same]
  next hc =>
    refine ⟨h3, fun hb => ?_⟩
    rw [h4, hb] at hc
    simpa using hc

theorem uncorrectable_counts (s : Dev) (t p l k corrected : ℕ) :
    getF (uncorrectable s t p l k corrected) F.OTL_CNT_UNCORR (ix p l) =
      min (getF s F.OTL_CNT_UNCORR (ix p l) + 1) (2 ^ F.OTL_CNT_UNCORR.width - 1) ∧
    (bit (rxMask s p l) k = true → (lnkSt (uncorrectable s t p l k corrected) p l).needAlign = true) := by
  obtain ⟨h1, h2⟩ := codewordHead_counts (s.at t) p l k corrected
  rw [uncorrectable_eq]
  generalize (if corrected = 0 then (laneSt (s.at t) p (physLane (s.at t) p l k)).uncor + 1 else 1) = n
  split
  · obtain ⟨k1, k2⟩ := laneLoss_keeps (codewordHead (s.at t) p l k corrected) t p l (2 ^ k)
    exact ⟨(k1.fld _ _ (by decide)).trans h1, fun hb => k2 (h2 hb)⟩
  · exact ⟨h1, h2⟩

/-! Link states by time (R259, R281). -/

theorem training_ends {s : Dev} {p l t : ℕ} (hst : linkState s p l = 1) (ht : (lnkSt s p l).since + 27000000000 ≤ t) :
    linkState (linkTrainTimeout s t p l) p l = 0 ∧ (lnkSt (linkTrainTimeout s t p l) p l).retryAt = t + 5400000000 := by
  have hd : linkState (s.at t) p l ≠ 0 := by
    intro k
    exact absurd (hst.symm.trans k) (by decide)
  unfold linkTrainTimeout
  dsimp only
  rw [if_pos (c := linkState (s.at t) p l = 1) hst, if_pos (c := (lnkSt (s.at t) p l).since + 27000000000 ≤ t) ht]
  exact ⟨(linkGo_down hd 4 0).1, by rw [lnkSt_setLnk_same]⟩

theorem training_starts {s : Dev} {p l t : ℕ} (hst : linkState s p l = 0) (hm : linkMode s p l = 0) (hr : (lnkSt s p l).retryAt ≤ t)
    (hs : anySignal s p l = true) : linkState (linkTrainTimeout s t p l) p l = 1 ∧ (lnkSt (linkTrainTimeout s t p l) p l).since = t := by
  have hs' : linkState (s.at t) p l = 0 := hst
  have hn : linkState (s.at t) p l ≠ 1 := by rw [hs']; decide
  unfold linkTrainTimeout
  dsimp only
  rw [if_neg hn, if_pos (c := anySignal (s.at t) p l = true) hs]
  unfold startTraining
  rw [if_pos ⟨hs', hm, hr⟩]
  exact linkGo_train hn 1 0

theorem idle_ends {s : Dev} {p l t : ℕ} (hst : linkState s p l = 4) (hm : linkMode s p l = 1) (ht : (lnkSt s p l).since + 54000 ≤ t) :
    linkState (linkIdleTimeout s t p l) p l = 0 := by
  have hs' : linkState (s.at t) p l = 4 := hst
  unfold linkIdleTimeout
  dsimp only
  rw [if_pos ⟨hs', hm, ht⟩]
  exact (linkGo_down (by rw [hs']; decide) 3 0).1

/-- Settles O36: what each change of a link's state leaves of its masks and exchanges, with the lanes that a loss takes down and the
requests and masks that follow. -/
theorem linksMoveAndRestripe : Obligations.LinksMoveAndRestripe := by
  unfold Obligations.LinksMoveAndRestripe
  refine ⟨fun s t p l => ⟨fun k n h6 ha => gives_of rfl (am_aligns h6 ha k.isLt t), fun k n h6 ha => gives_of rfl (am_skewed h6 ha t n),
    fun lanes hm hr hf => gives_of rfl (laneLoss_last hm hr hf t), fun lanes hw hm hst => gives_of rfl (laneLoss_asks hw hm hst t),
    fun k hst hb hg hr => gives_of rfl (laneReturn_asks hst hb hg hr t), fun lanes id hst => gives_of rfl (restripeReq_holds hst t lanes id),
    fun k period m id hf hq hw hr => gives_of rfl (switchRound_answers hf hq hw hr t k period),
    fun lanes id m hf hq hb hl ht => gives_of rfl (mask_answers hf hq hb hl ht t),
    fun k corrected => gives_of rfl (uncorrectable_counts _ t p l k corrected)⟩,
    fun s t p l => ⟨fun hst ht => gives_of rfl (training_ends hst ht), fun hst hm hr hs => gives_of rfl (training_starts hst hm hr hs),
    fun hst hm ht => gives_of rfl (idle_ends hst hm ht)⟩⟩

end Sys2Proof.Machine
end

section
/-! Lane bring-up (R270 to R278). -/

namespace Sys2Proof.Machine

open Sys2Proof.Claims

variable {W : Foot}

theorem laneStage_of_within {s u : Dev} (h : Within W s u) (hW : W.hits (F.LANE_STAT_STAGE.code % 262144) = false) (p l : ℕ) :
    laneStage u p l = laneStage s p l := h.fld _ _ hW

/-- The lanes' engine alone. -/
def laneFoot : Foot := { parts := [.lanes] }

/-- A lane's engine state holds no register. -/
theorem within_setLane_engine (d s : Dev) (p l : ℕ) (x : LaneSt) (h : laneFoot.le W = true) : Within W d (setLane s p l x) ↔ Within W d s := by
  refine Within.skip (V := laneFoot) ?_ h
  unfold setLane
  simp (decide := true)

theorem laneStage_enterStage (s : Dev) (p l st : ℕ) (h : st < 2 ^ F.LANE_STAT_STAGE.width) : laneStage (enterStage s p l st) p l = st := by
  unfold laneStage enterStage
  rw [getF_setLane, getF_setF_same, Nat.mod_eq_of_lt h]

theorem laneSt_enterStage (s : Dev) (p l st : ℕ) : laneSt (enterStage s p l st) p l = { laneSt s p l with since := s.now, cnt := 0 } :=
  laneSt_setLane_same _ _ _ _

/-! Signal on a lane. -/

/-- What a lane's entry into CDR_LOCK sets beside its stage. -/
theorem enterCdr_enters (s : Dev) (p l : ℕ) : laneStage (enterCdr s p l) p l = 1 ∧ getF (enterCdr s p l) F.LANE_RXEQ_CTLE (ix p l) = 20 ∧
    getF (enterCdr s p l) F.LANE_CNT_BRINGUPS (ix p l) =
      min (getF s F.LANE_CNT_BRINGUPS (ix p l) + 1) (2 ^ F.LANE_CNT_BRINGUPS.width - 1) := by
  unfold enterCdr
  dsimp only
  generalize hu : useTaps _ p l _ = u
  have h1 : laneStage u p l = 1 := by
    rw [← hu]
    unfold useTaps laneStage
    rw [getF_setF_code _ _ _ _ _ _ (by decide), getF_setLane, getF_setLane]
    exact laneStage_enterStage s p l 1 (by decide)
  have h2 : getF u F.LANE_CNT_BRINGUPS (ix p l) = getF s F.LANE_CNT_BRINGUPS (ix p l) := by
    rw [← hu]
    unfold useTaps enterStage
    rw [getF_setF_code _ _ _ _ _ _ (by decide), getF_setLane, getF_setLane, getF_setLane, getF_setF_code _ _ _ _ _ _ (by decide)]
  refine ⟨?_, ?_, ?_⟩
  · unfold laneStage at h1 ⊢
    rw [getF_satAdd_code _ _ _ _ _ _ (by decide), getF_setF_code _ _ _ _ _ _ (by decide), h1]
  · rw [getF_satAdd_code _ _ _ _ _ _ (by decide), getF_setF_same]
    rfl
  · rw [getF_satAdd_same, getF_setF_code _ _ _ _ _ _ (by decide), h2]

/-- A link that starts training changes the link's own fields. -/
def startFoot : Foot :=
  { flds := [F.OTL_STAT_STATE, F.OTL_STAT_NEW_UNIT] ++ evtFields, parts := [.out, .host, .links, .cfg] }

theorem within_startTraining_link (s : Dev) (p l : ℕ) : Within startFoot s (startTraining s p l) := by
  unfold startTraining
  split
  next h =>
    rw [linkGo_train_eq (by rw [h.1]; decide)]
    unfold linkEvent trained moved
    simp (decide := true)
  next => exact .refl _ _

theorem signal_enters {s : Dev} {p l : ℕ} (h : laneStage s p l = 0) (hl : trainsLane l) (t : ℕ) :
    laneStage (laneSignalDetect s t p l) p l = 1 ∧ getF (laneSignalDetect s t p l) F.LANE_RXEQ_CTLE (ix p l) = 20 ∧
      getF (laneSignalDetect s t p l) F.LANE_CNT_BRINGUPS (ix p l) =
        min (getF s F.LANE_CNT_BRINGUPS (ix p l) + 1) (2 ^ F.LANE_CNT_BRINGUPS.width - 1) := by
  have h' : laneStage (s.at t) p l = 0 := h
  obtain ⟨h1, h2, h3⟩ := enterCdr_enters (s.at t) p l
  unfold laneSignalDetect
  dsimp only
  rw [if_neg (not_not_intro h'), if_neg (by unfold trainsLane at hl; omega)]
  split
  · have k := within_startTraining_link (enterCdr (s.at t) p l) p (l / 4)
    exact ⟨(laneStage_of_within k (by decide) p l).trans h1, (k.fld _ _ (by decide)).trans h2, (k.fld _ _ (by decide)).trans h3⟩
  · exact ⟨h1, h2, h3⟩

theorem signal_adapts {s : Dev} {p l : ℕ} (h : laneStage s p l = 0) (hl : ¬trainsLane l) (t : ℕ) :
    laneStage (laneSignalDetect s t p l) p l = 5 := by
  have h' : laneStage (s.at t) p l = 0 := h
  unfold laneSignalDetect
  dsimp only
  rw [if_neg (not_not_intro h'), if_pos (by unfold trainsLane at hl; omega)]
  exact laneStage_enterStage _ _ _ _ (by decide)

/-! Training frames. -/

/-- The answers to the far end's tap requests, and our own: they change the transmitter and what is outstanding. -/
theorem answers_keep (s : Dev) (p l : ℕ) (o : TrainObs) :
    Within { flds := [F.LANE_TXFIR_C0], parts := [.lanes] } s (tuneFar (answerTap s p l o) p l o) ∧
      (laneSt (tuneFar (answerTap s p l o) p l o) p l).rxReady = (laneSt s p l).rxReady := by
  have h1 : Within { flds := [F.LANE_TXFIR_C0], parts := [.lanes] } s (answerTap s p l o) := by
    unfold answerTap useTaps
    simp (decide := true) [↓within_ite, ↓within_setLane_engine]
  have h2 : (laneSt (answerTap s p l o) p l).rxReady = (laneSt s p l).rxReady := by
    unfold answerTap useTaps
    dsimp only
    split
    · rfl
    · have he (u : Dev) (f : Fld) (i v : ℕ) : laneSt (setF u f i v) p l = laneSt u p l := rfl
      rw [he, laneSt_setLane_same, laneSt_setLane_same]
  generalize answerTap s p l o = u at *
  refine ⟨h1.trans ?_, Eq.trans ?_ h2⟩
  · unfold tuneFar
    dsimp only
    split <;> simp (decide := true) [↓within_ite, ↓within_setLane_engine]
  · unfold tuneFar
    dsimp only
    split
    · split
      · rw [laneSt_setLane_same]
      · split <;> rw [laneSt_setLane_same]
    · split
      · rfl
      · rw [laneSt_setLane_same]

/-- The lane that a training frame leaves, before it is answered. -/
def frameStage (s : Dev) (p l : ℕ) (o : TrainObs) : Dev :=
  let s := setF s F.LANE_FOM_CUR (ix p l) o.fom
  tuneFar (answerTap (trainStage s p l o) p l o) p l o

/-- The frame that answers it. -/
def frameAnswer (s : Dev) (p l : ℕ) (o : TrainObs) : Dev :=
  emit (setLane s p l { laneSt s p l with seq := ((laneSt s p l).seq + 1) % 65536 }) (.train (ix p l) (trainField s p l o))

/-- A good training frame of a lane that is not waking fast (R272). -/
theorem trainingFrame_eq {s : Dev} {p l : ℕ} {o : TrainObs} (hl : trainsLane l) (hc : o.crcOk = true) (hf : (laneSt s p l).fast = none)
    (h6 : laneStage s p l ≠ 6) (t : ℕ) : trainingFrame s t p l o = frameAnswer (frameStage (s.at t) p l o) p l o := by
  have hf' : (laneSt (setF (s.at t) F.LANE_FOM_CUR (ix p l) o.fom) p l).fast = none := hf
  have hs : laneStage (setF (s.at t) F.LANE_FOM_CUR (ix p l) o.fom) p l ≠ 6 := by
    unfold laneStage
    rw [getF_setF_code _ _ _ _ _ _ (by decide)]
    exact h6
  have hd : ¬(decide (72 ≤ l) && decide (l < 80)) = true := by
    unfold trainsLane at hl
    simp
    omega
  unfold trainingFrame
  dsimp only
  rw [if_neg hd, if_neg (by rw [hc]; decide), hf']
  dsimp only
  rw [if_neg hs]
  rfl

theorem trainingFrameLink_eq {s : Dev} {p l : ℕ} {o : TrainObs} {t : ℕ} {u : Dev} (h : trainingFrame s t p l o = u)
    (hn : l < 72 → linkState u p (l / 4) ≠ 4) : trainingFrameLink s t p l o = u := by
  unfold trainingFrameLink
  dsimp only
  rw [h]
  split
  next hl =>
    unfold afterFast
    dsimp only
    rw [if_neg fun k => hn hl k.1]
  next => rfl

/-- What a training frame in CDR_LOCK or ADAPT changes. -/
def trainFoot : Foot := { flds := [F.LANE_FOM_CUR, F.LANE_RXEQ_CTLE, F.LANE_STAT_STAGE, F.LANE_TXFIR_C0], parts := [.lanes, .now] }

/-- With the CDR locked a lane goes on to its precoding. -/
theorem trainStage_locked {s : Dev} {p l : ℕ} {o : TrainObs} (h : laneStage s p l = 1) (hc : o.cdrLocked = true) :
    laneStage (trainStage s p l o) p l = 2 ∧ Within trainFoot s (trainStage s p l o) := by
  unfold trainStage
  dsimp only
  rw [h]
  simp only [hc, if_true]
  exact ⟨laneStage_enterStage _ _ _ _ (by decide), by simp (decide := true)⟩

/-- The eighth good frame takes an adapted lane to UP. -/
theorem trainStage_eighth {s : Dev} {p l : ℕ} {o : TrainObs} (h : laneStage s p l = 5) (hn : (laneSt s p l).cnt = 7)
    (hg : bits (laneSt s p l).cfg 16 8 ≤ o.fom) (ha : o.adapted = true) (hr : o.rxReady = true) :
    laneStage (trainStage s p l o) p l = 6 ∧ (laneSt (trainStage s p l o) p l).rxReady = true ∧ Within trainFoot s (trainStage s p l o) := by
  unfold trainStage
  dsimp only
  rw [h]
  simp only [decide_eq_true hg, ha, hr, hn, Bool.and_self, if_true]
  rw [if_pos (by decide)]
  refine ⟨laneStage_enterStage _ _ _ _ (by decide), ?_, by simp (decide := true)⟩
  rw [laneSt_enterStage]
  have he (u : Dev) (f : Fld) (i v : ℕ) : laneSt (setF u f i v) p l = laneSt u p l := rfl
  rw [he, laneSt_setLane_same]

section
variable {s : Dev} {p l : ℕ} {o : TrainObs} (hl : trainsLane l) (hc : o.crcOk = true) (hf : (laneSt s p l).fast = none)
  (hn : linkState s p (l / 4) ≠ 4)
include hl hc hf hn

/-- The frame that goes out, and the stage that a training frame leads to. -/
theorem frame_steps {st : ℕ} (h6 : laneStage s p l ≠ 6) (t : ℕ)
    (h : laneStage (trainStage (setF (s.at t) F.LANE_FOM_CUR (ix p l) o.fom) p l o) p l = st)
    (hw : Within trainFoot (setF (s.at t) F.LANE_FOM_CUR (ix p l) o.fom) (trainStage (setF (s.at t) F.LANE_FOM_CUR (ix p l) o.fom) p l o)) :
    laneStage (trainingFrameLink s t p l o) p l = st ∧
      (laneSt (trainingFrameLink s t p l o) p l).rxReady =
        (laneSt (trainStage (setF (s.at t) F.LANE_FOM_CUR (ix p l) o.fom) p l o) p l).rxReady ∧
      ∃ v, (trainingFrameLink s t p l o).out = .train (ix p l) v :: s.out := by
  obtain ⟨k1, k2⟩ := answers_keep (trainStage (setF (s.at t) F.LANE_FOM_CUR (ix p l) o.fom) p l o) p l o
  have hk : Within trainFoot s (frameStage (s.at t) p l o) := .trans (.trans (by simp (decide := true)) hw) (k1.mono (by decide))
  have hst : laneStage (frameStage (s.at t) p l o) p l = st := (laneStage_of_within k1 (by decide) p l).trans h
  have hrx : (laneSt (frameStage (s.at t) p l o) p l).rxReady =
      (laneSt (trainStage (setF (s.at t) F.LANE_FOM_CUR (ix p l) o.fom) p l o) p l).rxReady := k2
  have hlink : linkState (frameStage (s.at t) p l o) p (l / 4) = linkState s p (l / 4) := hk.fld _ _ (by decide)
  have hout : (frameStage (s.at t) p l o).out = s.out := hk.out (by decide)
  rw [trainingFrameLink_eq (trainingFrame_eq hl hc hf h6 t) fun _ => ?_]
  · refine ⟨hst, ?_, _, congrArg _ hout⟩
    rw [← hrx]
    unfold frameAnswer
    have he (u : Dev) (x : Out) : laneSt (emit u x) p l = laneSt u p l := rfl
    rw [he, laneSt_setLane_same]
  · have he : linkState (frameAnswer (frameStage (s.at t) p l o) p l o) p (l / 4) = linkState (frameStage (s.at t) p l o) p (l / 4) := rfl
    rw [he, hlink]
    exact hn

theorem frame_locked (h1 : laneStage s p l = 1) (hk : o.cdrLocked = true) (t : ℕ) :
    laneStage (trainingFrameLink s t p l o) p l = 2 ∧ ∃ v, (trainingFrameLink s t p l o).out = .train (ix p l) v :: s.out := by
  have h : laneStage (setF (s.at t) F.LANE_FOM_CUR (ix p l) o.fom) p l = 1 := (getF_setF_code _ _ _ _ _ _ (by decide)).trans h1
  obtain ⟨k1, k2⟩ := trainStage_locked h hk
  obtain ⟨g1, -, g3⟩ := frame_steps hl hc hf hn (by rw [h1]; decide) t k1 k2
  exact ⟨g1, g3⟩

theorem frame_eighth (h5 : laneStage s p l = 5) (h7 : (laneSt s p l).cnt = 7) (hg : bits (laneSt s p l).cfg 16 8 ≤ o.fom)
    (ha : o.adapted = true) (hr : o.rxReady = true) (t : ℕ) :
    laneStage (trainingFrameLink s t p l o) p l = 6 ∧ (laneSt (trainingFrameLink s t p l o) p l).rxReady = true ∧
      ∃ v, (trainingFrameLink s t p l o).out = .train (ix p l) v :: s.out := by
  have h : laneStage (setF (s.at t) F.LANE_FOM_CUR (ix p l) o.fom) p l = 5 := (getF_setF_code _ _ _ _ _ _ (by decide)).trans h5
  obtain ⟨k1, k2, k3⟩ := trainStage_eighth h h7 hg ha hr
  obtain ⟨g1, g2, g3⟩ := frame_steps hl hc hf hn (by rw [h5]; decide) t k1 k3
  exact ⟨g1, g2.trans k2, g3⟩

end

/-! Stages that last too long, and a low figure of merit. -/

theorem stage_times_out {s : Dev} {p l m t : ℕ} (hl : trainsLane l) (hm : stageLimit (laneStage s p l) = some m)
    (ht : (laneSt s p l).since + m ≤ t) :
    laneStage (laneStageTimeout s t p l) p l = 0 ∧ getF (laneStageTimeout s t p l) F.LANE_STAT_ERR (ix p l) = laneStage s p l := by
  have hm' : stageLimit (laneStage (s.at t) p l) = some m := hm
  have hr : laneStage s p l ≠ 0 ∧ laneStage s p l < 6 := by
    unfold stageLimit at hm
    split at hm
    case h_6 => cases hm
    all_goals exact ⟨by omega, by omega⟩
  unfold laneStageTimeout
  dsimp only
  rw [hm']
  dsimp only
  rw [if_pos ⟨ht, hl⟩]
  unfold laneFail
  dsimp only
  rw [if_neg (show laneStage (s.at t) p l ≠ 0 from hr.1)]
  refine ⟨?_, ?_⟩
  · unfold laneStage
    rw [getF_setF_code _ _ _ _ _ _ (by decide), getF_setLane]
    exact laneStage_enterStage (s.at t) p l 0 (by decide)
  · rw [getF_setF_same]
    exact Nat.mod_eq_of_lt (hr.2.trans (by decide))

/-- The figure recorded: the current one, the lowest, and the mean of a day. -/
def fomHead (s : Dev) (p l fom : ℕ) : Dev :=
  let s := setF s F.LANE_FOM_CUR (ix p l) fom
  fomMean (if fom < getF s F.LANE_FOM_MIN (ix p l) then setF s F.LANE_FOM_MIN (ix p l) fom else s) p l fom

theorem fomHead_records (s : Dev) (p l fom : ℕ) : getF (fomHead s p l fom) F.LANE_FOM_CUR (ix p l) = fom % 2 ^ F.LANE_FOM_CUR.width ∧
    getF (fomHead s p l fom) F.LANE_STAT_LOW_FOM (ix p l) = getF s F.LANE_STAT_LOW_FOM (ix p l) ∧
    (laneSt (fomHead s p l fom) p l).cfg = (laneSt s p l).cfg ∧ (laneSt (fomHead s p l fom) p l).lowSince = (laneSt s p l).lowSince := by
  have he (u : Dev) (f : Fld) (i v : ℕ) : laneSt (setF u f i v) p l = laneSt u p l := rfl
  have hmean (u : Dev) (f : Fld) (hf : f.code % 262144 ≠ F.LANE_FOM_MEAN.code % 262144) : getF (fomMean u p l fom) f (ix p l) = getF u f (ix p l) := by
    unfold fomMean
    dsimp only
    rw [getF_setF_code _ _ _ _ _ _ hf, getF_setLane]
  have hlane (u : Dev) : ∃ x, laneSt (fomMean u p l fom) p l = { laneSt u p l with fomH := x } := ⟨_, by
    unfold fomMean
    dsimp only
    rw [he, laneSt_setLane_same]⟩
  unfold fomHead
  dsimp only
  obtain ⟨x, hx⟩ := hlane (if fom < getF (setF s F.LANE_FOM_CUR (ix p l) fom) F.LANE_FOM_MIN (ix p l) then
    setF (setF s F.LANE_FOM_CUR (ix p l) fom) F.LANE_FOM_MIN (ix p l) fom else setF s F.LANE_FOM_CUR (ix p l) fom)
  rw [hx, hmean _ _ (by decide), hmean _ _ (by decide)]
  split
  · refine ⟨?_, ?_, rfl, rfl⟩
    · rw [getF_setF_code _ _ _ _ _ _ (by decide), getF_setF_same]
    · rw [getF_setF_code _ _ _ _ _ _ (by decide), getF_setF_code _ _ _ _ _ _ (by decide)]
  · refine ⟨getF_setF_same _ _ _ _, getF_setF_code _ _ _ _ _ _ (by decide), rfl, rfl⟩

theorem laneBit_lt (p l : ℕ) (hp : p < 2) : laneBit p l < 48 := by
  unfold laneBit
  split <;> omega

theorem lowFom_warns {s : Dev} {p l fom a t : ℕ} (hp : p < 2) (h6 : laneStage s p l = 6) (hs : (laneSt s p l).lowSince = some a)
    (ht : a + 5400000000 ≤ t) (hw : fom < bits (laneSt s p l).cfg 24 8) (h0 : getF s F.LANE_STAT_LOW_FOM (ix p l) = 0) :
    getF (laneLowFom s t p l fom) F.LANE_STAT_LOW_FOM (ix p l) = 1 ∧ bit (getF (laneLowFom s t p l fom) F.FLT_STATUS_BITS 0) (laneBit p l) = true ∧
      getF (laneLowFom s t p l fom) F.LANE_FOM_CUR (ix p l) = fom % 2 ^ F.LANE_FOM_CUR.width := by
  have h6' : laneStage (setF (s.at t) F.LANE_FOM_CUR (ix p l) fom) p l = 6 := (getF_setF_code _ _ _ _ _ _ (by decide)).trans h6
  obtain ⟨k1, k2, k3, k4⟩ := fomHead_records (s.at t) p l fom
  have he : laneLowFom s t p l fom = faultEvent (setF (setLane (fomHead (s.at t) p l fom) p l
      { laneSt (fomHead (s.at t) p l fom) p l with lowSince := some a }) F.LANE_STAT_LOW_FOM (ix p l) 1) (laneBit p l) 0x08 (laneSub l) := by
    have hu : fomMean (if fom < getF (setF (s.at t) F.LANE_FOM_CUR (ix p l) fom) F.LANE_FOM_MIN (ix p l) then
      setF (setF (s.at t) F.LANE_FOM_CUR (ix p l) fom) F.LANE_FOM_MIN (ix p l) fom else setF (s.at t) F.LANE_FOM_CUR (ix p l) fom) p l fom =
      fomHead (s.at t) p l fom := rfl
    have k4' : (laneSt (fomHead (s.at t) p l fom) p l).lowSince = some a := k4.trans hs
    have hwu : ¬bits (laneSt (fomHead (s.at t) p l fom) p l).cfg 24 8 ≤ fom := by
      rw [k3]
      exact Nat.not_le.mpr hw
    have h0u : getF (setLane (fomHead (s.at t) p l fom) p l { laneSt (fomHead (s.at t) p l fom) p l with lowSince := some a }) F.LANE_STAT_LOW_FOM (ix p l) = 0 := by
      rw [getF_setLane, k2]
      exact h0
    unfold laneLowFom
    dsimp only
    rw [if_neg (not_not_intro h6'), hu, if_neg hwu, k4', Option.getD_some, if_pos ⟨ht, h0u⟩]
  rw [he]
  have hf (u : Dev) := (within_faultEvent (W := faultFoot) u u (laneBit p l) 0x08 (laneSub l) (by decide)).mpr (.refl _ _)
  refine ⟨((hf _).fld _ _ (by decide)).trans (getF_setF_same _ _ _ _), fltBit_faultEvent_same _ _ _ _ (laneBit_lt p l hp), ((hf _).fld _ _ (by decide)).trans ?_⟩
  rw [getF_setF_code _ _ _ _ _ _ (by decide), getF_setLane, k1]

/-- Settles O37: each stage's own step, with the answer that every good frame is given and the fields that the steps after it leave alone. -/
theorem lanesTrain : Obligations.LanesTrain := by
  unfold Obligations.LanesTrain
  exact fun s t p l => ⟨fun h hl => gives_of rfl (signal_enters h hl t), fun h hl => gives_of rfl (signal_adapts h hl t),
    fun o hl hc hf hn => ⟨fun h1 hk => gives_of rfl (frame_locked hl hc hf hn h1 hk t),
      fun h5 h7 hg ha hr => gives_of rfl (frame_eighth hl hc hf hn h5 h7 hg ha hr t)⟩,
    fun m hl hm ht => gives_of rfl (stage_times_out hl hm ht),
    fun fom a h6 hs ht hw h0 => gives_of rfl (lowFom_warns p.isLt h6 hs ht hw h0)⟩

end Sys2Proof.Machine
end

section
/-! Ethernet ports and instances (R290 to R292, R298, R312). -/

namespace Sys2Proof.Machine

open Sys2Proof.Claims

variable {W : Foot}

theorem ethInst_setInst_same (s : Dev) (p i : ℕ) (x : EthInst) : ethInst (setInst s p i x) p i = x := mget_mset_same _ _ _ _

theorem ethInst_of_within {s u : Dev} (h : Within W s u) (hW : .eth ∉ W.parts) (p i : ℕ) : ethInst u p i = ethInst s p i := by
  have k : u.eth = s.eth := h.part .eth hW
  unfold ethInst
  rw [k]

theorem ethInst_ethSend (s : Dev) (p i kind len c q k : ℕ) : ethInst (ethSend s p i kind len c) q k = ethInst s q k := rfl

theorem out_ethSend (s : Dev) (p i kind len c : ℕ) : (ethSend s p i kind len c).out = .eth p i kind c :: s.out := rfl

/-! An instance that changes state (R291). -/

/-- What an instance's change of state changes. -/
def instGoFoot : Foot := { flds := F.MAC_STAT_COUNT :: evtFields, parts := [.out, .host, .eth] }

theorem within_instGo_count (s : Dev) (p i new cause : ℕ) : Within instGoFoot s (instGo s p i new cause) := by
  unfold instGo instEvent setInst ethSend macCount
  simp (decide := true) [↓within_ite]

/-- The instance's state is the new one, and one that comes UP with an address announces it. -/
theorem instGo_goes (s : Dev) (p i new cause : ℕ) : (ethInst (instGo s p i new cause) p i).state = new ∧
    (new = 2 → (ethInst s p i).state ≠ 2 → getF s F.MAC_INSTCFG_IPV4 (ix p i) ≠ 0 →
      (instGo s p i new cause).out.head? = some (.eth p i 2 (getF s F.MAC_INSTCFG_IPV4 (ix p i)))) := by
  unfold instGo
  dsimp only
  split
  next h => exact ⟨h, fun hn hs => absurd (h.trans hn) hs⟩
  next h =>
    have hev : ethInst (instEvent (setInst s p i { ethInst s p i with state := new }) p i new (ethInst s p i).state cause) p i =
        { ethInst s p i with state := new } := by
      unfold instEvent ethInst
      rw [(hostOnly_raise _ _ _ _ _).eth]
      exact ethInst_setInst_same s p i _
    have hip : getF (instEvent (setInst s p i { ethInst s p i with state := new }) p i new (ethInst s p i).state cause) F.MAC_INSTCFG_IPV4 (ix p i) =
        getF s F.MAC_INSTCFG_IPV4 (ix p i) := (hostOnly_raise _ _ _ _ _).getF_eq _ _ (by decide)
    rw [hip]
    split
    next hc =>
      rw [ethInst_ethSend, hev]
      exact ⟨rfl, fun _ _ _ => rfl⟩
    next hc =>
      rw [hev]
      exact ⟨rfl, fun hn _ ha => absurd ⟨hn, ha⟩ hc⟩

theorem within_instStages_lanes (s : Dev) (p i new : ℕ) : Within lanesFoot s (instStages s p i new) := by
  unfold instStages
  simp (decide := true) [↓within_ite]

theorem link_changes {s : Dev} {p i new : ℕ} (he : instExists s p i = true) (hm : new = 2 → mediumOk s p i = true) (t : ℕ) (timeout : Bool) :
    (ethInst (ethLinkChange s t p i new timeout) p i).state = new ∧
      (new = 2 → (ethInst s p i).state ≠ 2 → getF s F.MAC_INSTCFG_IPV4 (ix p i) ≠ 0 →
        (ethLinkChange s t p i new timeout).out.head? = some (.eth p i 2 (getF s F.MAC_INSTCFG_IPV4 (ix p i)))) := by
  have hc : ¬((!instExists (s.at t) p i) = true ∨ (new = 2 ∧ (!mediumOk (s.at t) p i) = true)) := by
    rintro (h | ⟨hn, h⟩)
    · rw [show instExists (s.at t) p i = instExists s p i from rfl, he] at h
      cases h
    · rw [show mediumOk (s.at t) p i = mediumOk s p i from rfl, hm hn] at h
      cases h
  unfold ethLinkChange
  dsimp only
  rw [if_neg hc]
  have k := within_instStages_lanes (s.at t) p i new
  have h1 : ethInst (instStages (s.at t) p i new) p i = ethInst s p i := ethInst_of_within k (by decide) p i
  have h2 : getF (instStages (s.at t) p i new) F.MAC_INSTCFG_IPV4 (ix p i) = getF s F.MAC_INSTCFG_IPV4 (ix p i) := k.fld _ _ (by decide)
  obtain ⟨g1, g2⟩ := instGo_goes (instStages (s.at t) p i new) p i new (if timeout = true then 4 else 1)
  rw [h1, h2] at g2
  exact ⟨g1, g2⟩

/-! A port's mode and medium (R292). -/

/-- A port's restart takes its instances down and its lanes to their first stage. -/
def portRestartFoot : Foot := { instGoFoot with flds := F.LANE_STAT_STAGE :: instGoFoot.flds, parts := .lanes :: instGoFoot.parts }

/-- The lanes of a port enter stage `st`. -/
def portLanes (p q : ℕ) (s : Dev) (k : ℕ) : Dev := enterStage s p (72 + 4 * q + k) (if portMode s p q = 3 then 8 else 0)

/-- The instances of a port go down. -/
def portDown (s : Dev) (p q : ℕ) : Dev :=
  [0, 1, 2, 3].foldl (fun s k => if (ethInst s p (4 * q + k)).state = 0 then s else instGo s p (4 * q + k) 0 7) s

theorem portRestart_eq (s : Dev) (p q : ℕ) : portRestart s p q = [0, 1, 2, 3].foldl (portLanes p q) (portDown s p q) := rfl

theorem within_portDown (s : Dev) (p q : ℕ) : Within instGoFoot s (portDown s p q) := by
  unfold portDown
  refine within_foldl _ (fun u k => ?_) _ _
  split
  · exact .refl _ _
  · exact within_instGo_count _ _ _ _ _

theorem within_portLanes (p q : ℕ) (s : Dev) (k : ℕ) : Within lanesFoot s (portLanes p q s k) := by
  unfold portLanes
  simp (decide := true)

theorem within_portRestart_lanes (s : Dev) (p q : ℕ) : Within portRestartFoot s (portRestart s p q) := by
  rw [portRestart_eq]
  exact .trans ((within_portDown s p q).mono (by decide)) (within_foldl _ (fun u k => (within_portLanes p q u k).mono (by decide)) _ _)

theorem portMode_of_within {s u : Dev} (h : Within W s u) (hW : W.hits (F.MAC_PORTSTAT_MODE_ACT.code % 262144) = false) (p q : ℕ) :
    portMode u p q = portMode s p q := h.fld _ _ hW

theorem laneStage_enterStage_other (s : Dev) (p st : ℕ) {l m : ℕ} (h : m ≠ l) : laneStage (enterStage s p l st) p m = laneStage s p m := by
  unfold laneStage enterStage
  rw [getF_setLane, getF_setF_idx]
  unfold ix
  omega

theorem laneStage_portLanes (p q : ℕ) (l : List ℕ) (s : Dev) {k : ℕ} (h : k ∈ l ∨ laneStage s p (72 + 4 * q + k) = if portMode s p q = 3 then 8 else 0) :
    laneStage (l.foldl (portLanes p q) s) p (72 + 4 * q + k) = if portMode s p q = 3 then 8 else 0 := by
  induction l generalizing s with
  | nil => exact h.resolve_left (by simp)
  | cons a r ih =>
    have hm : portMode (portLanes p q s a) p q = portMode s p q := portMode_of_within (within_portLanes p q s a) (by decide) p q
    have hs (x : ℕ) (hx : x = if portMode s p q = 3 then 8 else 0) : x < 2 ^ F.LANE_STAT_STAGE.width := by
      rw [hx]
      split <;> decide
    rw [List.foldl_cons, ← hm]
    refine ih _ ?_
    rw [hm]
    by_cases hk : k = a
    · refine .inr ?_
      rw [hk]
      exact laneStage_enterStage _ _ _ _ (hs _ rfl)
    · rcases h with h | h
      · exact .inl ((List.mem_cons.mp h).resolve_left hk)
      · refine .inr ?_
        unfold portLanes
        rw [laneStage_enterStage_other _ _ _ (by omega)]
        exact h

theorem portRestart_lanes (s : Dev) (p q : ℕ) {k : ℕ} (hk : k < 4) :
    laneStage (portRestart s p q) p (72 + 4 * q + k) = if portMode s p q = 3 then 8 else 0 := by
  rw [portRestart_eq, ← portMode_of_within (within_portDown s p q) (by decide) p q]
  refine laneStage_portLanes p q _ _ (.inl ?_)
  simp only [List.mem_cons, List.not_mem_nil, or_false]
  omega

/-- Whether a port is busy does not depend on the MODE that is written. -/
theorem portBusy_setF_mode (s : Dev) (p q mode i v : ℕ) : portBusy (setF s F.MAC_PORTCFG_MODE i v) p q mode = portBusy s p q mode := by
  have hm : portMode (setF s F.MAC_PORTCFG_MODE i v) p q = portMode s p q := getF_setF_code _ _ _ _ _ _ (by decide)
  have hf (b : Bytes) : filterPlane (setF s F.MAC_PORTCFG_MODE i v) b = filterPlane s b := by
    unfold filterPlane
    dsimp only
    rw [getF_setF_code _ _ _ _ _ _ (by decide)]
    rfl
  unfold portBusy
  simp only [hm, hf]
  rfl

section
variable {s : Dev} {p q mode : ℕ} (hm : mode < 4)
include hm

theorem mode_applied (hb : portBusy s p q mode = false) :
    getF (macPortcfgMode s p q mode) F.MAC_PORTCFG_MODE (ix p q) = mode ∧ portMode (macPortcfgMode s p q mode) p q = mode ∧
      getF (macPortcfgMode s p q mode) F.MAC_PORTCFG_CFG_ERR (ix p q) = 0 ∧
      (portMode s p q ≠ mode → ∀ k < 4, laneStage (macPortcfgMode s p q mode) p (72 + 4 * q + k) = if mode = 3 then 8 else 0) := by
  unfold macPortcfgMode
  dsimp only
  rw [portBusy_setF_mode, hb, if_neg (by decide)]
  have hold : portMode (setF s F.MAC_PORTCFG_MODE (ix p q) mode) p q = portMode s p q := getF_setF_code _ _ _ _ _ _ (by decide)
  rw [hold]
  generalize hu : setF (setF (setF s F.MAC_PORTCFG_MODE (ix p q) mode) F.MAC_PORTCFG_CFG_ERR (ix p q) 0) F.MAC_PORTSTAT_MODE_ACT (ix p q) mode = u
  have h1 : getF u F.MAC_PORTCFG_MODE (ix p q) = mode := by
    rw [← hu, getF_setF_code _ _ _ _ _ _ (by decide), getF_setF_code _ _ _ _ _ _ (by decide), getF_setF_same]
    exact Nat.mod_eq_of_lt hm
  have h2 : portMode u p q = mode := by
    rw [← hu]
    exact (getF_setF_same _ _ _ _).trans (Nat.mod_eq_of_lt hm)
  have h3 : getF u F.MAC_PORTCFG_CFG_ERR (ix p q) = 0 := by
    rw [← hu, getF_setF_code _ _ _ _ _ _ (by decide), getF_setF_same]
    rfl
  split
  next hc =>
    have k := within_portRestart_lanes u p q
    refine ⟨(k.fld _ _ (by decide)).trans h1, (portMode_of_within k (by decide) p q).trans h2, (k.fld _ _ (by decide)).trans h3, fun _ j hj => ?_⟩
    rw [portRestart_lanes u p q hj, h2]
  next hc => exact ⟨h1, h2, h3, fun hn => absurd (bne_iff_ne.mpr hn) hc⟩

theorem mode_refused (hb : portBusy s p q mode = true) :
    getF (macPortcfgMode s p q mode) F.MAC_PORTCFG_MODE (ix p q) = mode ∧ portMode (macPortcfgMode s p q mode) p q = portMode s p q ∧
      getF (macPortcfgMode s p q mode) F.MAC_PORTCFG_CFG_ERR (ix p q) = 1 := by
  unfold macPortcfgMode
  dsimp only
  rw [portBusy_setF_mode, hb, if_pos rfl]
  unfold portMode
  refine ⟨?_, ?_, getF_setF_same _ _ _ _⟩
  · rw [getF_setF_code _ _ _ _ _ _ (by decide), getF_setF_same]
    exact Nat.mod_eq_of_lt hm
  · rw [getF_setF_code _ _ _ _ _ _ (by decide), getF_setF_code _ _ _ _ _ _ (by decide)]

end

theorem medium_applied (s : Dev) (p q : ℕ) {medium an : ℕ} (hm : medium < 4) (ha : an < 2) :
    getF (macPortcfgMedium s p q medium an) F.MAC_PORTSTAT_MEDIUM_ACT (ix p q) = medium ∧
      getF (macPortcfgMedium s p q medium an) F.MAC_PORTSTAT_AN_ACT (ix p q) = an ∧
      getF (macPortcfgMedium s p q medium an) F.MAC_PORTCFG_MEDIUM (ix p q) = medium ∧
      getF (macPortcfgMedium s p q medium an) F.MAC_PORTCFG_AN (ix p q) = an := by
  unfold macPortcfgMedium
  dsimp only
  generalize hu : setFs s (ix p q) _ = u
  have h : getF u F.MAC_PORTSTAT_MEDIUM_ACT (ix p q) = medium ∧ getF u F.MAC_PORTSTAT_AN_ACT (ix p q) = an ∧
      getF u F.MAC_PORTCFG_MEDIUM (ix p q) = medium ∧ getF u F.MAC_PORTCFG_AN (ix p q) = an := by
    rw [← hu]
    simp only [setFs]
    refine ⟨?_, ?_, ?_, ?_⟩
    · rw [getF_setF_code _ _ _ _ _ _ (by decide), getF_setF_same]
      exact Nat.mod_eq_of_lt hm
    · rw [getF_setF_same]
      exact Nat.mod_eq_of_lt ha
    · rw [getF_setF_code _ _ _ _ _ _ (by decide), getF_setF_code _ _ _ _ _ _ (by decide), getF_setF_code _ _ _ _ _ _ (by decide), getF_setF_same]
      exact Nat.mod_eq_of_lt hm
    · rw [getF_setF_code _ _ _ _ _ _ (by decide), getF_setF_code _ _ _ _ _ _ (by decide), getF_setF_same]
      exact Nat.mod_eq_of_lt ha
  split
  · have k := within_portRestart_lanes u p q
    rw [k.fld F.MAC_PORTSTAT_MEDIUM_ACT _ (by decide), k.fld F.MAC_PORTSTAT_AN_ACT _ (by decide), k.fld F.MAC_PORTCFG_MEDIUM _ (by decide),
      k.fld F.MAC_PORTCFG_AN _ (by decide)]
    exact h
  · exact h

/-! The capture queue (R298). -/

theorem capture_reset (s : Dev) (p : ℕ) (base : Bool) (v : ℕ) :
    getF (macCapqReset s p base v) F.MAC_CAPQ_PROD_PROD p = 0 ∧ getF (macCapqReset s p base v) F.MAC_CAPQ_CONS_CONS p = 0 ∧
      mget 0 (macCapqReset s p base v).eth.phase p = 0 ∧
      (base = true → getF (macCapqReset s p base v) F.MAC_CAPQ_BASE_BASE p = v % 2 ^ F.MAC_CAPQ_BASE_BASE.width) ∧
      (base = false → getF (macCapqReset s p base v) F.MAC_CAPQ_CFG_LOG2_SIZE p = v % 2 ^ F.MAC_CAPQ_CFG_LOG2_SIZE.width) := by
  have hg (u : Dev) (f : Fld) : getF (capReset u p) f p = getF (setF (setF u F.MAC_CAPQ_PROD_PROD p 0) F.MAC_CAPQ_CONS_CONS p 0) f p := rfl
  unfold macCapqReset
  have hph (u : Dev) : (capReset u p).eth.phase = mset 0 (setF (setF u F.MAC_CAPQ_PROD_PROD p 0) F.MAC_CAPQ_CONS_CONS p 0).eth.phase p 0 := rfl
  refine ⟨?_, ?_, by rw [hph, mget_mset_same], fun hb => ?_, fun hb => ?_⟩
  · rw [hg, getF_setF_code _ _ _ _ _ _ (by decide), getF_setF_same]
    rfl
  · rw [hg, getF_setF_same]
    rfl
  · rw [hb, if_pos rfl, hg, getF_setF_code _ _ _ _ _ _ (by decide), getF_setF_code _ _ _ _ _ _ (by decide), getF_setF_same]
  · rw [hb, if_neg (by decide), hg, getF_setF_code _ _ _ _ _ _ (by decide), getF_setF_code _ _ _ _ _ _ (by decide), getF_setF_same]

theorem capture_signals {s : Dev} {t p : ℕ} (hw : mget 0 s.eth.wrote p = 1) (ht : mget 0 s.eth.irqAt p + 5400000 ≤ t)
    (hm : vecMasked (hifOf s (getF s F.MAC_CAPQ_CFG_HIF p)) (getF s F.MAC_CAPQ_CFG_CAP_VEC p) = false) :
    (captureIrq s t p).out = .msix (getF s F.MAC_CAPQ_CFG_HIF p) (getF s F.MAC_CAPQ_CFG_CAP_VEC p) :: s.out ∧ mget 0 (captureIrq s t p).eth.wrote p = 0 := by
  unfold captureIrq
  dsimp only
  rw [if_pos ⟨hw, .inr ht⟩]
  dsimp only
  rw [mget_mset_same]
  exact ⟨out_sendMsix_of_open (s := s.at t) hm, rfl⟩

/-- Settles O38: an instance's change of state, a port's restart, and the capture queue's registers. -/
theorem portsAreConfigured : Obligations.PortsAreConfigured := by
  unfold Obligations.PortsAreConfigured
  exact fun s t p => ⟨fun i new timeout he hm => gives_of rfl (link_changes he hm t timeout),
    fun q mode => ⟨fun hb => gives_of rfl (mode_applied (s := s.dev.at t) mode.isLt hb), fun hb => gives_of rfl (mode_refused (s := s.dev.at t) mode.isLt hb)⟩,
    fun q medium an => gives_of rfl (medium_applied (s.dev.at t) p q medium.isLt an.isLt), fun base v => gives_of rfl (capture_reset (s.dev.at t) p base v),
    fun hw ht hm => gives_of rfl (capture_signals hw ht hm)⟩

end Sys2Proof.Machine
end

section
/-! Ethernet reception (R294 to R299) and the senders (R299 to R308). -/

namespace Sys2Proof.Machine

open Sys2Proof.Claims

variable {W : Foot}

/-! Counters of an instance (R313). -/

theorem getF_satAdd_idx (s : Dev) (f g : Fld) (i j n : ℕ) (h : i ≠ j) : getF (satAdd s g j n) f i = getF s f i := by
  simp only [satAdd]
  exact getF_setF_idx _ _ _ _ _ _ h

theorem macVal_macCount_same (s : Dev) (p i k n : ℕ) : macVal (macCount s p i k n) p i k = min (macVal s p i k + n) (2 ^ F.MAC_STAT_COUNT.width - 1) :=
  getF_satAdd_same _ _ _ _

theorem macVal_macCount_other (s : Dev) (p i n : ℕ) {j k : ℕ} (h : k ≠ j) : macVal (macCount s p i j n) p i k = macVal s p i k := by
  refine getF_satAdd_idx _ _ _ _ _ _ ?_
  unfold ix
  omega

theorem macVal_of_within {s u : Dev} (h : Within W s u) (hW : W.hits (F.MAC_STAT_COUNT.code % 262144) = false) (p i k : ℕ) :
    macVal u p i k = macVal s p i k := h.fld _ _ hW

theorem macUp_of_eq {s u v : Dev} {p i k n : ℕ} (h : MacUp s u p i k n) (hv : macVal v p i k = macVal u p i k) : MacUp s v p i k n := hv.trans h

theorem macUp_macCount (s : Dev) (p i k n : ℕ) : MacUp s (macCount s p i k n) p i k n := macVal_macCount_same s p i k n

/-- An answer is counted as sent, 15 and 16, and nothing else is. -/
theorem macVal_ethSend (s : Dev) (p i kind len c : ℕ) {k : ℕ} (h : k ≠ 15 ∧ k ≠ 16) : macVal (ethSend s p i kind len c) p i k = macVal s p i k := by
  unfold ethSend
  rw [macVal_macCount_other _ _ _ _ h.2, macVal_macCount_other _ _ _ _ h.1]
  rfl

/-- A captured frame counts at most as lost, 12. -/
theorem macVal_capture' (s : Dev) (p i why err : ℕ) (o : EthObs) {k : ℕ} (h : k ≠ 12) : macVal (capture' s p i why err o) p i k = macVal s p i k := by
  unfold capture'
  dsimp only
  split
  · exact macVal_macCount_other _ _ _ _ h
  · exact getF_setF_code _ _ _ _ _ _ (by decide)

/-! Frames with errors. -/

/-- The counter of error `k` (R313). -/
def errCounter (k : ℕ) : ℕ := if k = 0 then 2 else if k = 1 then 3 else if k = 2 then 4 else if k = 3 then 5 else 6

/-- Error `k` of a frame is counted. -/
def countErr (p i err : ℕ) (s : Dev) (k : ℕ) : Dev := if bit err k then macCount s p i (errCounter k) 1 else s

theorem macVal_countErr_other (p i err : ℕ) (s : Dev) {j k : ℕ} (h : k ≠ errCounter j) : macVal (countErr p i err s j) p i k = macVal s p i k := by
  unfold countErr
  split
  · exact macVal_macCount_other _ _ _ _ h
  · rfl

/-- Every error of a frame is counted. -/
def countErrs (s : Dev) (p i err : ℕ) : Dev := (List.range 5).foldl (countErr p i err) s

theorem countErrs_eq (s : Dev) (p i err : ℕ) : countErrs s p i err =
    countErr p i err (countErr p i err (countErr p i err (countErr p i err (countErr p i err s 0) 1) 2) 3) 4 := rfl

theorem macVal_countErrs_fcs (s : Dev) (p i : ℕ) {err : ℕ} (h : bit err 0 = true) : MacUp s (countErrs s p i err) p i 2 1 := by
  rw [countErrs_eq]
  refine macUp_of_eq (u := countErr p i err s 0) ?_ ?_
  · unfold countErr
    rw [if_pos h]
    exact macUp_macCount _ _ _ _ _
  · rw [macVal_countErr_other _ _ _ _ (by decide), macVal_countErr_other _ _ _ _ (by decide), macVal_countErr_other _ _ _ _ (by decide),
      macVal_countErr_other _ _ _ _ (by decide)]

theorem macVal_countErrs_good (s : Dev) (p i err : ℕ) : macVal (countErrs s p i err) p i 0 = macVal s p i 0 := by
  rw [countErrs_eq, macVal_countErr_other _ _ _ _ (by decide), macVal_countErr_other _ _ _ _ (by decide), macVal_countErr_other _ _ _ _ (by decide),
    macVal_countErr_other _ _ _ _ (by decide), macVal_countErr_other _ _ _ _ (by decide)]

theorem bit_errFlags_fcs (s : Dev) (p i : ℕ) {o : EthObs} (h : o.fcs = true) : bit (errFlags s p i o) 0 = true := by
  unfold errFlags bit
  rw [h]
  simp only [b2n, if_true, pow_zero, Nat.div_one, beq_iff_eq]
  omega

/-! The receive path. -/

/-- What is done with a frame that the instance takes and that is good (R294). -/
def goodFrame (s : Dev) (t p i : ℕ) (o : EthObs) : Dev :=
  if o.etype = 0x8808 then macCount s p i 9 1
  else if !addrPass s p i o || !vlanPass s p i o then macCount s p i 7 1
  else if o.etype = 0x0800 ∧ !o.ipOk then macCount s p i 8 1
  else if o.arp ∧ o.dstIp = getF s F.MAC_INSTCFG_IPV4 (ix p i) ∧ o.dstIp ≠ 0 then ethSend s p i 1 64 o.srcIp
  else if o.query.isSome then
    if getF s F.MAC_INSTCFG_IPV4 (ix p i) ≠ 0 ∧ getF s F.MAC_INSTCFG_IGMP_EN (ix p i) = 1 then
      setInst s p i { ethInst s p i with query := (ethInst s p i).query ++ [(t, o.query.getD 0, if o.dstIp = 0xE0000001 then 0 else o.dstIp)] }
    else s
  else if o.ptp && ptpOn s p i then macCount s p i 14 1
  else if packetsHeld s then s
  else
    match (if o.etype = 0x0800 ∧ !o.frag then classify s p i o else none) with
    | some (f, anc, old) => takePacket (macCount s p i 13 1) p f anc old o
    | none =>
      let s := macCount s p i 10 1
      if getF s F.MAC_INSTCFG_CAPTURE_UNMATCHED (ix p i) = 1 then capture' s p i 1 0 o else s

/-- A good frame counted with its length. -/
def goodCounted (s : Dev) (p i len : ℕ) : Dev := macCount (macCount s p i 0 1) p i 1 len

theorem ethFrameRx_eq (s : Dev) (t p i : ℕ) (o : EthObs) : ethFrameRx s t p i o =
    if (!instExists (s.at t) p i) = true ∨ (ethInst (s.at t) p i).state ≠ 2 then s.at t
    else if errFlags (s.at t) p i o ≠ 0 then
      if getF (countErrs (s.at t) p i (errFlags (s.at t) p i o)) F.MAC_INSTCFG_DELIVER_BAD (ix p i) = 1 ∧
          (!packetsHeld (countErrs (s.at t) p i (errFlags (s.at t) p i o))) = true then
        capture' (countErrs (s.at t) p i (errFlags (s.at t) p i o)) p i 0 (errFlags (s.at t) p i o) o
      else countErrs (s.at t) p i (errFlags (s.at t) p i o)
    else goodFrame (goodCounted (s.at t) p i o.len) t p i o := rfl

theorem rx_ignored {s : Dev} {p i : ℕ} (h : ¬InstUp s p i) (t : ℕ) (o : EthObs) : ethFrameRx s t p i o = s.at t := by
  rw [ethFrameRx_eq, if_pos]
  have h' : ¬(instExists (s.at t) p i = true ∧ (ethInst (s.at t) p i).state = 2) := h
  cases hi : instExists (s.at t) p i with
  | false => exact .inl rfl
  | true => exact .inr fun k => h' ⟨hi, k⟩

section
variable {s : Dev} {p i : ℕ} {o : EthObs} (hu : InstUp s p i) (t : ℕ)
include hu

theorem not_ignored : ¬((!instExists (s.at t) p i) = true ∨ (ethInst (s.at t) p i).state ≠ 2) := by
  obtain ⟨h1, h2⟩ := hu
  rintro (h | h)
  · rw [show instExists (s.at t) p i = instExists s p i from rfl, h1] at h
    cases h
  · exact h h2

theorem rx_bad (h : o.fcs = true) : MacUp s (ethFrameRx s t p i o) p i 2 1 ∧ macVal (ethFrameRx s t p i o) p i 0 = macVal s p i 0 := by
  have hb := bit_errFlags_fcs (s.at t) p i h
  have hne : errFlags (s.at t) p i o ≠ 0 := by
    intro k
    rw [k] at hb
    cases hb
  have h1 : MacUp s (countErrs (s.at t) p i (errFlags (s.at t) p i o)) p i 2 1 := macVal_countErrs_fcs (s.at t) p i hb
  have h2 : macVal (countErrs (s.at t) p i (errFlags (s.at t) p i o)) p i 0 = macVal s p i 0 := macVal_countErrs_good _ _ _ _
  rw [ethFrameRx_eq, if_neg (not_ignored hu t), if_pos hne]
  generalize countErrs (s.at t) p i (errFlags (s.at t) p i o) = u at *
  split
  · exact ⟨macUp_of_eq h1 (macVal_capture' _ _ _ _ _ _ (by decide)), (macVal_capture' _ _ _ _ _ _ (by decide)).trans h2⟩
  · exact ⟨h1, h2⟩

theorem rx_good (h : errFlags s p i o = 0) : ethFrameRx s t p i o = goodFrame (goodCounted (s.at t) p i o.len) t p i o := by
  rw [ethFrameRx_eq, if_neg (not_ignored hu t), if_neg (not_not_intro (show errFlags (s.at t) p i o = 0 from h))]

end

/-- What a classified packet changes. -/
def packetFoot : Foot :=
  { flds := [F.FLOW_CNT_SEQ_GAP, F.FLOW_CNT_OVERRATE, F.FLOW_CNT_LATE, F.FLOW_CNT_PACKETS, F.PLN_FSSTAT_FILL] ++ mergeFields,
    parts := [.eth, .merge, .fs] }

theorem within_setEthFlow_eth (d s : Dev) (p f : ℕ) (x : EthFlow) (h : .eth ∈ W.parts) : Within W d (setEthFlow s p f x) ↔ Within W d s := by
  unfold setEthFlow
  exact within_setEth _ _ _ h

theorem within_takePacket_packet (s : Dev) (p : ℕ) (f : FlowAt) (anc old : Bool) (o : EthObs) : Within packetFoot s (takePacket s p f anc old o) := by
  unfold takePacket
  split <;> simp (decide := true) [↓within_ite, ↓within_setEthFlow_eth]

/-! What counting leaves of the receive path. -/

/-- The instances' counters. -/
def countFoot : Foot := { flds := [F.MAC_STAT_COUNT] }

theorem within_macCount_count (s : Dev) (p i k n : ℕ) : Within countFoot s (macCount s p i k n) := by
  unfold macCount
  simp (decide := true)

theorem within_goodCounted (s : Dev) (p i len : ℕ) : Within countFoot s (goodCounted s p i len) :=
  (within_macCount_count s p i 0 1).trans (within_macCount_count _ p i 1 len)

section
variable {s u : Dev} (h : Within countFoot s u) (p i : ℕ) (o : EthObs)
include h

theorem ctl_of_count : u.ctl = s.ctl := by
  rw [h.eq_keep]
  simp (decide := true) [keep]

theorem netOf_of_count : netOf u p = netOf s p := by
  unfold netOf
  rw [ctl_of_count h, h.fld F.RST_STRAP_PAIR_ID 0 (by decide)]

theorem allFlows_of_count : allFlows u = allFlows s := by
  unfold allFlows
  rw [ctl_of_count h]

theorem flowOnPlane_of_count (k : ℕ) : flowOnPlane u p k = flowOnPlane s p k := by
  unfold flowOnPlane
  rw [ctl_of_count h]

theorem onFlows_of_count (dir : ℕ) : onFlows u p dir = onFlows s p dir := by
  unfold onFlows
  simp only [allFlows_of_count h, flowOnPlane_of_count h]

theorem groupsOf_of_count : groupsOf u p i = groupsOf s p i := by
  unfold groupsOf
  rw [onFlows_of_count h, netOf_of_count h]

theorem addrPass_of_count : addrPass u p i o = addrPass s p i o := by
  have h1 (k : ℕ) : getF u F.MAC_INSTCFG_PROMISC k = getF s F.MAC_INSTCFG_PROMISC k := h.fld _ _ (by decide)
  have h2 (k : ℕ) : getF u F.MAC_INSTADDR_MAC k = getF s F.MAC_INSTADDR_MAC k := h.fld _ _ (by decide)
  have h3 (k : ℕ) : getF u F.MAC_PMF_EN k = getF s F.MAC_PMF_EN k := h.fld _ _ (by decide)
  have h4 (k : ℕ) : getF u F.MAC_PMF_ADDR k = getF s F.MAC_PMF_ADDR k := h.fld _ _ (by decide)
  have h5 (k : ℕ) : getF u F.MAC_INSTCFG_PASS_ALL_GROUPS k = getF s F.MAC_INSTCFG_PASS_ALL_GROUPS k := h.fld _ _ (by decide)
  unfold addrPass
  simp only [h1, h2, h3, h4, h5, groupsOf_of_count h]

theorem vlanPass_of_count : vlanPass u p i o = vlanPass s p i o := by
  unfold vlanPass
  rw [h.fld F.MAC_INSTCFG_VLAN _ (by decide)]

theorem classify_of_count : classify u p i o = classify s p i o := by
  have he (c : ℕ) : ethFlow u p c = ethFlow s p c := by
    have k : u.eth = s.eth := h.part .eth (by decide)
    unfold ethFlow
    rw [k]
  have hc (f : FlowAt) (a : Bool) : cntIdx u f a = cntIdx s f a := by
    unfold cntIdx flowLocal
    rw [ctl_of_count h]
  have hn : u.now = s.now := h.now (by decide)
  unfold classify
  simp only [netOf_of_count h, onFlows_of_count h, allFlows_of_count h, flowOnPlane_of_count h, he, hc, hn]

theorem packetsHeld_of_count : packetsHeld u = packetsHeld s := by
  unfold packetsHeld devState
  rw [h.fld F.SYS_STATE_STATE 0 (by decide)]

end

theorem macUp_goodCounted (s : Dev) (p i len : ℕ) : MacUp s (goodCounted s p i len) p i 0 1 ∧ MacUp s (goodCounted s p i len) p i 1 len := by
  unfold goodCounted
  refine ⟨macUp_of_eq (macUp_macCount s p i 0 1) (macVal_macCount_other _ _ _ _ (by decide)), ?_⟩
  refine (macVal_macCount_same _ _ _ _ _).trans ?_
  rw [macVal_macCount_other _ _ _ _ (by decide)]

theorem macVal_goodCounted (s : Dev) (p i len : ℕ) {k : ℕ} (h : k ≠ 0 ∧ k ≠ 1) : macVal (goodCounted s p i len) p i k = macVal s p i k := by
  unfold goodCounted
  rw [macVal_macCount_other _ _ _ _ h.2, macVal_macCount_other _ _ _ _ h.1]

/-- What follows the count of a good frame counts nothing as good again. -/
theorem macVal_goodFrame (s : Dev) (t p i : ℕ) (o : EthObs) {k : ℕ} (h : k < 2) : macVal (goodFrame s t p i o) p i k = macVal s p i k := by
  have hc (u : Dev) {j : ℕ} (n : ℕ) (hj : 2 ≤ j) : macVal (macCount u p i j n) p i k = macVal u p i k := macVal_macCount_other _ _ _ _ (by omega)
  unfold goodFrame
  split
  · exact hc _ _ (by decide)
  · split
    · exact hc _ _ (by decide)
    · split
      · exact hc _ _ (by decide)
      · split
        · exact macVal_ethSend _ _ _ _ _ _ (by omega)
        · split
          · split <;> rfl
          · split
            · exact hc _ _ (by decide)
            · split
              · rfl
              · split
                · exact (macVal_of_within (within_takePacket_packet _ _ _ _ _ _) (by decide) _ _ _).trans (hc _ _ (by decide))
                · dsimp only
                  split
                  · exact (macVal_capture' _ _ _ _ _ _ (by omega)).trans (hc _ _ (by decide))
                  · exact hc _ _ (by decide)

section
variable {s : Dev} {p i : ℕ} {o : EthObs} (hu : InstUp s p i) (t : ℕ)
include hu

theorem rx_counts (h : errFlags s p i o = 0) : MacUp s (ethFrameRx s t p i o) p i 0 1 ∧ MacUp s (ethFrameRx s t p i o) p i 1 o.len := by
  rw [rx_good hu t h]
  obtain ⟨h1, h2⟩ := macUp_goodCounted (s.at t) p i o.len
  exact ⟨macUp_of_eq h1 (macVal_goodFrame _ _ _ _ _ (by decide)), macUp_of_eq h2 (macVal_goodFrame _ _ _ _ _ (by decide))⟩

theorem rx_filtered (h : errFlags s p i o = 0) (he : o.etype ≠ 0x8808) (ha : addrPass s p i o = false) :
    MacUp s (ethFrameRx s t p i o) p i 7 1 ∧ macVal (ethFrameRx s t p i o) p i 13 = macVal s p i 13 ∧ (ethFrameRx s t p i o).out = s.out := by
  have hg : goodFrame (goodCounted (s.at t) p i o.len) t p i o = macCount (goodCounted (s.at t) p i o.len) p i 7 1 := by
    unfold goodFrame
    rw [if_neg he, if_pos]
    rw [addrPass_of_count (within_goodCounted (s.at t) p i o.len), show addrPass (s.at t) p i o = addrPass s p i o from rfl, ha]
    rfl
  rw [rx_good hu t h, hg]
  refine ⟨?_, ?_, rfl⟩
  · refine (macVal_macCount_same _ _ _ _ _).trans ?_
    rw [macVal_goodCounted _ _ _ _ (by decide)]
    rfl
  · rw [macVal_macCount_other _ _ _ _ (by decide), macVal_goodCounted _ _ _ _ (by decide)]
    rfl

/-- A frame that reaches the classifier. -/
theorem rx_classified (h : Classified s p i o) : ethFrameRx s t p i o =
    match classify (s.at t) p i o with
    | some (f, anc, old) => takePacket (macCount (goodCounted (s.at t) p i o.len) p i 13 1) p f anc old o
    | none =>
      if getF (macCount (goodCounted (s.at t) p i o.len) p i 10 1) F.MAC_INSTCFG_CAPTURE_UNMATCHED (ix p i) = 1 then
        capture' (macCount (goodCounted (s.at t) p i o.len) p i 10 1) p i 1 0 o
      else macCount (goodCounted (s.at t) p i o.len) p i 10 1 := by
  have k := within_goodCounted (s.at t) p i o.len
  have ha : addrPass (goodCounted (s.at t) p i o.len) p i o = true := (addrPass_of_count k p i o).trans h.passes
  have hv : vlanPass (goodCounted (s.at t) p i o.len) p i o = true := (vlanPass_of_count k p i o).trans h.vlan
  have hp : packetsHeld (goodCounted (s.at t) p i o.len) = false := by
    rw [packetsHeld_of_count k]
    exact beq_false_of_ne h.awake
  rw [rx_good hu t h.good]
  unfold goodFrame
  rw [if_neg (by rw [h.ipv4]; decide), if_neg (by rw [ha, hv]; decide), if_neg (by rw [h.header]; simp), if_neg (by rw [h.noArp]; simp),
    if_neg (by rw [h.noQuery]; decide), if_neg (by rw [h.noPtp]; simp), if_neg (by rw [hp]; decide), if_pos ⟨h.ipv4, by rw [h.whole]; rfl⟩,
    classify_of_count k]

theorem rx_taken (h : Classified s p i o) (hc : (classify (s.at t) p i o).isSome = true) : MacUp s (ethFrameRx s t p i o) p i 13 1 := by
  rw [rx_classified hu t h]
  obtain ⟨⟨f, anc, old⟩, hx⟩ := Option.isSome_iff_exists.mp hc
  rw [hx]
  refine macUp_of_eq (u := macCount (goodCounted (s.at t) p i o.len) p i 13 1) ?_ (macVal_of_within (within_takePacket_packet _ _ _ _ _ _) (by decide) _ _ _)
  refine (macVal_macCount_same _ _ _ _ _).trans ?_
  rw [macVal_goodCounted _ _ _ _ (by decide)]
  rfl

theorem rx_unmatched (h : Classified s p i o) (hc : classify (s.at t) p i o = none) :
    MacUp s (ethFrameRx s t p i o) p i 10 1 ∧ macVal (ethFrameRx s t p i o) p i 13 = macVal s p i 13 := by
  have h1 : MacUp s (macCount (goodCounted (s.at t) p i o.len) p i 10 1) p i 10 1 := by
    refine (macVal_macCount_same _ _ _ _ _).trans ?_
    rw [macVal_goodCounted _ _ _ _ (by decide)]
    rfl
  have h2 : macVal (macCount (goodCounted (s.at t) p i o.len) p i 10 1) p i 13 = macVal s p i 13 := by
    rw [macVal_macCount_other _ _ _ _ (by decide), macVal_goodCounted _ _ _ _ (by decide)]
    rfl
  rw [rx_classified hu t h, hc]
  generalize macCount (goodCounted (s.at t) p i o.len) p i 10 1 = u at *
  dsimp only
  split
  · exact ⟨macUp_of_eq h1 (macVal_capture' _ _ _ _ _ _ (by decide)), (macVal_capture' _ _ _ _ _ _ (by decide)).trans h2⟩
  · exact ⟨h1, h2⟩

theorem rx_arp (h : errFlags s p i o = 0) (he : o.etype = 0x0806) (ha : addrPass s p i o = true) (hv : vlanPass s p i o = true) (hr : o.arp = true)
    (hd : o.dstIp = getF s F.MAC_INSTCFG_IPV4 (ix p i)) (hz : o.dstIp ≠ 0) : (ethFrameRx s t p i o).out = .eth p i 1 o.srcIp :: s.out := by
  have k := within_goodCounted (s.at t) p i o.len
  have ha' : addrPass (goodCounted (s.at t) p i o.len) p i o = true := (addrPass_of_count k p i o).trans ha
  have hv' : vlanPass (goodCounted (s.at t) p i o.len) p i o = true := (vlanPass_of_count k p i o).trans hv
  have hd' : o.dstIp = getF (goodCounted (s.at t) p i o.len) F.MAC_INSTCFG_IPV4 (ix p i) := hd.trans (k.fld F.MAC_INSTCFG_IPV4 _ (by decide)).symm
  rw [rx_good hu t h]
  unfold goodFrame
  rw [if_neg (by rw [he]; decide), if_neg (by rw [ha', hv']; decide), if_neg (by rw [he]; simp), if_pos ⟨hr, hd', hz⟩]
  rfl

end

/-! IGMP and PTP (R299, R308). -/

/-- A report names its group. -/
theorem sendReport_sends (s : Dev) (p i group : ℕ) : ∃ v, (sendReport s p i group).out = .eth p i 3 v :: s.out ∧ v % 2 ^ 32 = group % 2 ^ 32 := by
  refine ⟨_, rfl, ?_⟩
  generalize b2n _ = a
  generalize List.length _ = b
  generalize leVal _ = c
  omega

theorem ethInst_of_eth {s u : Dev} (h : u.eth = s.eth) (p i : ℕ) : ethInst u p i = ethInst s p i := by
  unfold ethInst
  rw [h]

theorem ethInst_sendReport (s : Dev) (p i group q k : ℕ) : ethInst (sendReport s p i group) q k = ethInst s q k := rfl

theorem report_sent {s : Dev} {p i group a : ℕ} (ho : igmpOn s p i = true)
    (hr : (ethInst s p i).reports.find? (fun r => r.1 == group) = some (group, 2, a)) (t : ℕ) :
    (∃ v, (igmpReport s t p i group).out = .eth p i 3 v :: s.out ∧ v % 2 ^ 32 = group % 2 ^ 32) ∧
      (group, 1, t) ∈ (ethInst (igmpReport s t p i group) p i).reports := by
  have hr' : (ethInst (s.at t) p i).reports.find? (fun r => r.1 == group) = some (group, 2, a) := hr
  have ho' : igmpOn (s.at t) p i = true := ho
  unfold igmpReport
  dsimp only
  rw [hr']
  dsimp only
  rw [if_neg (by rw [ho']; simp), if_pos rfl]
  refine ⟨sendReport_sends _ _ _ _, ?_⟩
  rw [ethInst_sendReport, ethInst_setInst_same]
  exact List.mem_append_right _ List.mem_cons_self

theorem outKept_sendReport (s : Dev) (p i group : ℕ) : OutKept s (sendReport s p i group) := by
  obtain ⟨v, hv, -⟩ := sendReport_sends s p i group
  exact ⟨fun o ho => hv ▸ List.mem_cons_of_mem _ ho⟩

theorem reports_sent (p i : ℕ) (l : List ℕ) (s : Dev) : (l.foldl (fun s g => sendReport s p i g) s).eth = s.eth ∧
    OutKept s (l.foldl (fun s g => sendReport s p i g) s) ∧
    ∀ g ∈ l, ∃ v, .eth p i 3 v ∈ (l.foldl (fun s g => sendReport s p i g) s).out ∧ v % 2 ^ 32 = g % 2 ^ 32 := by
  induction l generalizing s with
  | nil => exact ⟨rfl, .refl s, fun g hg => by cases hg⟩
  | cons a r ih =>
    obtain ⟨h1, h2, h3⟩ := ih (sendReport s p i a)
    obtain ⟨v, hv, hm⟩ := sendReport_sends s p i a
    refine ⟨h1, (outKept_sendReport s p i a).trans h2, fun g hg => ?_⟩
    rcases List.mem_cons.mp hg with rfl | hg
    · exact ⟨v, h2.keeps _ (hv ▸ List.mem_cons_self), hm⟩
    · exact h3 g hg

theorem query_answered {s : Dev} {p i a max group t : ℕ} {rest : List (ℕ × ℕ × ℕ)} (ho : igmpOn s p i = true)
    (hq : (ethInst s p i).query = (a, max, group) :: rest) (ht : t ≤ a + max) :
    (ethInst (igmpQueryResponse s t p i) p i).query = rest ∧
      ∀ g ∈ groupsOf s p i, group = 0 ∨ g = group → ∃ v, .eth p i 3 v ∈ (igmpQueryResponse s t p i).out ∧ v % 2 ^ 32 = g % 2 ^ 32 := by
  have hq' : (ethInst (s.at t) p i).query.dropWhile (fun q => decide (q.1 + q.2.1 < t)) = (a, max, group) :: rest := by
    rw [show (ethInst (s.at t) p i).query = (ethInst s p i).query from rfl, hq]
    simp [Nat.not_lt.mpr ht]
  have ho' : igmpOn (s.at t) p i = true := ho
  unfold igmpQueryResponse
  dsimp only
  rw [hq']
  dsimp only
  rw [if_neg (by rw [ho']; simp)]
  obtain ⟨h1, -, h3⟩ := reports_sent p i ((groupsOf (s.at t) p i).filter fun g => group == 0 || g == group)
    (setInst (s.at t) p i { ethInst (s.at t) p i with query := rest })
  refine ⟨?_, fun g hg hc => h3 g (List.mem_filter.mpr ⟨hg, ?_⟩)⟩
  · have he : ethInst (((groupsOf (s.at t) p i).filter fun g => group == 0 || g == group).foldl (fun s g => sendReport s p i g)
        (setInst (s.at t) p i { ethInst (s.at t) p i with query := rest })) p i = { ethInst (s.at t) p i with query := rest } := by
      rw [ethInst_of_eth h1, ethInst_setInst_same]
    rw [he]
  · rcases hc with hc | hc <;> simp [hc]

theorem delayReq_sent {s : Dev} {p : ℕ} (hb : bit (le (ptpRec s p) 0 1) 7 = true) (hs : (ethInst s p (bits (le (ptpRec s p) 0 1) 0 3)).state = 2)
    (t : ℕ) : (∃ v, (ptpDelayReqSend s t p).out = .eth p (bits (le (ptpRec s p) 0 1) 0 3) 4 v :: s.out) ∧
      MacUp s (ptpDelayReqSend s t p) p (bits (le (ptpRec s p) 0 1) 0 3) 17 1 := by
  unfold ptpDelayReqSend
  dsimp only
  rw [if_pos ⟨hb, hs⟩]
  refine ⟨⟨_, rfl⟩, (macVal_macCount_same _ _ _ _ _).trans ?_⟩
  rw [macVal_ethSend _ _ _ _ _ _ (by decide)]
  rfl

/-! Packets (R132, R302, R303). -/

theorem rtpSeq_lt (idx : ℕ) (b : Bytes) (n k : ℕ) : rtpSeq idx b n k < 2 ^ 32 := by
  unfold rtpSeq
  dsimp only
  split <;> omega

/-- The packet sent by flow `idx`: the low half of its content is its sequence number. -/
theorem packet_content (a b c d e f g : ℕ) (h : a < 2 ^ 32) :
    (a + b * 2 ^ 32 + c * 2 ^ 64 + d * 2 ^ 65 + e * 2 ^ 72 + f * 2 ^ 104 + g * 2 ^ 232) % 2 ^ 32 = a := by
  omega

theorem out_mergeCount (s : Dev) (p n : ℕ) (f : Fld) (v : ℕ) : (mergeCount s p n f v).out = s.out := by
  unfold mergeCount
  split <;> rfl

theorem out_countGone (s : Dev) (p n : ℕ) (f : Fld) (num : ℕ) : (countGone s p n f num).out = s.out := by
  unfold countGone
  dsimp only
  split
  · rfl
  · exact out_mergeCount _ _ _ _ _

section
variable {s : Dev} {p idx : ℕ} (h : SendsIp s p idx) (t n k len : ℕ)
include h

theorem sends_not_stopped : ¬((flowRec (s.at t) idx).isEmpty || !flowEnabled (flowRec (s.at t) idx) || flowDir idx != 1 || !flowOnPlane (s.at t) p idx ||
    !planeSends (s.at t) p || (ethInst (s.at t) p (flowInst (flowRec (s.at t) idx))).state != 2) = true := by
  obtain ⟨h1, h2, h3, h4, h5, h6⟩ := h
  rw [show flowRec (s.at t) idx = flowRec s idx from rfl, show flowOnPlane (s.at t) p idx = flowOnPlane s p idx from rfl,
    show planeSends (s.at t) p = planeSends s p from rfl, h2, h3, h4, h5,
    show (ethInst (s.at t) p (flowInst (flowRec s idx))).state = 2 from h6]
  simpa using h1

theorem packet_sent (more : Bool) : ∃ v, (ipPacketSend s t p idx n k len false false more).out = .eth p (flowInst (flowRec s idx)) 5 v :: s.out ∧
    v % 2 ^ 32 = rtpSeq idx (flowRec s idx) n k := by
  unfold ipPacketSend
  dsimp only
  rw [if_neg (sends_not_stopped h t), if_neg (by simp), if_neg (by simp), if_neg (by simp)]
  exact ⟨_, out_ethSend _ _ _ _ _ _, by
    rw [show flowRec (s.at t) idx = flowRec s idx from rfl]
    exact packet_content _ _ _ _ _ _ _ (rtpSeq_lt idx (flowRec s idx) n k)⟩

theorem packet_withheld (hi : idx < 4096) (hw : withholds s p = true) (more : Bool) :
    (ipPacketSend s t p idx n k len true false more).out = s.out := by
  have hc : (decide (idx < 4096) && true && withholds (s.at t) p) = true := by
    rw [decide_eq_true hi, show withholds (s.at t) p = withholds s p from rfl, hw]
    rfl
  unfold ipPacketSend
  dsimp only
  rw [if_neg (sends_not_stopped h t), if_neg (by simp), if_pos hc]
  exact out_countGone (s.at t) _ _ _ _

theorem packet_dropped (missing : Bool) : (ipPacketSend s t p idx n k len missing true true).out = s.out ∧
    getF (ipPacketSend s t p idx n k len missing true true) F.FLOW_CNT_LATE (ix p (384 + idx / 4)) =
      min (getF s F.FLOW_CNT_LATE (ix p (384 + idx / 4)) + 1) (2 ^ F.FLOW_CNT_LATE.width - 1) := by
  unfold ipPacketSend
  dsimp only
  rw [if_neg (sends_not_stopped h t), if_pos (by rfl)]
  exact ⟨rfl, getF_satAdd_same _ _ _ _⟩

end

/-- Settles O39: the frame's way through the receive path, each step of which counts one counter, and the senders' frames. -/
theorem ethernetReceivesAndSends : Obligations.EthernetReceivesAndSends := by
  unfold Obligations.EthernetReceivesAndSends
  exact ⟨fun s t p i o => ⟨fun h => gives_of rfl (rx_ignored h t o), fun hu => ⟨fun h => gives_of rfl (rx_bad hu t h),
      fun h => gives_of rfl (rx_counts hu t h), fun h he ha => gives_of rfl (rx_filtered hu t h he ha), fun h hc => gives_of rfl (rx_taken hu t h hc),
      fun h hc => gives_of rfl (rx_unmatched hu t h hc), fun h he ha hv hr hd hz => gives_of rfl (rx_arp hu t h he ha hv hr hd hz)⟩⟩,
    fun s t p => ⟨fun i group a ho hr => gives_of rfl (report_sent ho hr t), fun i a max group rest ho hq ht => gives_of rfl (query_answered ho hq ht),
      fun hb hs => gives_of rfl (delayReq_sent hb hs t), fun idx n k len h => ⟨fun more => gives_of rfl (packet_sent h t n k len more),
        fun hi hw more => gives_of rfl (packet_withheld h t n k len hi hw more), fun missing => gives_of rfl (packet_dropped h t n k len missing)⟩⟩⟩

end Sys2Proof.Machine
end

section
/-! A failed flash program while the power is low: the block is retired, and nothing is sent to be repeated. -/

namespace Sys2Proof.Machine

open Sys2Proof.Claims

/-- A device whose power fell while channel 0 programs the running flush: spare blocks are left, and no output is pending. -/
def powerLowState : State :=
  { State.reset with dev := setF { State.reset.dev with jrn := { flushing := some ({}, 0), fl0w := true },
                                                        rst := { inReset := allDoms, pwrLowAt := some 0 },
                                                        fls := mset {} [] 0 { slc := { spare := 5 } } } F.FLS_STAT_STATE 0 3 }

theorem flushBusy_powerLowState : flushBusy powerLowState.dev 0 = true := rfl

theorem flsWritten_powerLowState : flsWritten powerLowState.dev 0 = true := by decide

theorem spare_powerLowState : (flsSt powerLowState.dev 0).slc.spare ≠ 0 := by decide

theorem flashProgramDone_powerLowState : (flashProgramDone powerLowState.dev 0 0 0 false).out = [] := by decide

/-- Refutes O41: the device repeats a failed program while its power is good; with PWRGOOD low it sends nothing, and the statement
names no such premise. -/
theorem not_journalIsKept : ¬ Obligations.JournalIsKept := by
  intro h
  obtain ⟨-, hprogram, -⟩ := h powerLowState 0
  obtain ⟨-, hfailed⟩ := hprogram 0 0 0 {} rfl flushBusy_powerLowState
  obtain ⟨u, hu, hout, -⟩ := hfailed flsWritten_powerLowState spare_powerLowState
  obtain rfl : u = { powerLowState with dev := flashProgramDone powerLowState.dev 0 0 0 false } := by cases hu; rfl
  rw [flashProgramDone_powerLowState] at hout
  exact absurd hout (by decide)

end Sys2Proof.Machine
end

section
/-! The Belay (R366 to R368): heartbeats, the fence of the third miss, the drained epoch and the end of a processor's self-test. -/

namespace Sys2Proof.Machine

open Sys2Proof.Claims

variable {W : Foot}

/-! A processor's state. -/

theorem ppState_of_within {s u : Dev} (h : Within W s u) (h0 : W.hits (F.BELAY_STAT_PP0_STATE.code % 262144) = false)
    (h1 : W.hits (F.BELAY_STAT_PP1_STATE.code % 262144) = false) (n : ℕ) : ppState u n = ppState s n := by
  unfold ppState
  rw [h.fld _ _ h0, h.fld _ _ h1]

theorem ppState_setPp_same (s : Dev) (n v : ℕ) : ppState (setPp s n v) n = v % 8 := by
  unfold ppState setPp
  split <;> exact getF_setF_same _ _ _ _

theorem ppState_setPp_other (s : Dev) {n m : ℕ} (v : ℕ) (hn : n < 2) (hm : m < 2) (h : n ≠ m) : ppState (setPp s m v) n = ppState s n := by
  unfold ppState setPp
  obtain ⟨rfl, rfl⟩ | ⟨rfl, rfl⟩ : n = 0 ∧ m = 1 ∨ n = 1 ∧ m = 0 := by omega
  · exact getF_setF_code _ _ _ _ _ _ (by decide)
  · exact getF_setF_code _ _ _ _ _ _ (by decide)

theorem getF_setPp (s : Dev) (n v : ℕ) (f : Fld) (i : ℕ) (h0 : f.code % 262144 ≠ F.BELAY_STAT_PP0_STATE.code % 262144)
    (h1 : f.code % 262144 ≠ F.BELAY_STAT_PP1_STATE.code % 262144) : getF (setPp s n v) f i = getF s f i := by
  unfold setPp
  split
  · exact getF_setF_code _ _ _ _ _ _ h0
  · exact getF_setF_code _ _ _ _ _ _ h1

theorem ppState_setF (s : Dev) (g : Fld) (i v n : ℕ) (h0 : F.BELAY_STAT_PP0_STATE.code % 262144 ≠ g.code % 262144)
    (h1 : F.BELAY_STAT_PP1_STATE.code % 262144 ≠ g.code % 262144) : ppState (setF s g i v) n = ppState s n := by
  unfold ppState
  rw [getF_setF_code _ _ _ _ _ _ h0, getF_setF_code _ _ _ _ _ _ h1]

/-- The devices whose registers are those of `s` have its processors' states. -/
theorem ppState_congr {s u : Dev} (h : ∀ f i, getF u f i = getF s f i) (n : ℕ) : ppState u n = ppState s n := by
  unfold ppState
  rw [h, h]

/-! A reset source of a processor: no register, and of the journal's state nothing. -/

theorem within_assertReset_pp (d s : Dev) (unit src : ℕ) (pulse : Bool) (h : reqsFoot.le W = true) :
    Within W d (assertReset s 5 unit src pulse) ↔ Within W d s := by
  refine Within.skip (V := reqsFoot) ?_ h
  simp (decide := true) [assertReset, ↓within_ite]

/-- The reset sources once one more is asserted. -/
def reqsWith (l : List RstReq) (reach unit src : ℕ) (pulse : Bool) : List RstReq :=
  let mine := fun (r : RstReq) => r.reach == reach && r.unit == unit && r.src == src
  if l.any mine then l.map fun r => if mine r then { r with pulse := r.pulse && pulse } else r
  else l ++ [{ reach := reach, unit := unit, src := src, pulse := pulse }]

/-- The device once one more reset source is asserted, but for what a WARM or COLD source does beside. -/
def withReq (s : Dev) (reach unit src : ℕ) (pulse : Bool) : Dev :=
  { s with rst := { s.rst with reqs := reqsWith s.rst.reqs reach unit src pulse } }

/-- The cause of a WARM or COLD source. -/
def withCause (s : Dev) (reach src : ℕ) : Dev :=
  let s := setF s F.RST_CAUSE_LAST_REACH 0 reach
  match causeField src reach with | none => s | some f => setF s f 0 1

theorem assertReset_eq (s : Dev) (reach unit src : ℕ) (pulse : Bool) :
    assertReset s reach unit src pulse =
      (let s := withReq s reach unit src pulse
       let s := if reach = 7 ∨ reach = 8 then withCause s reach src else s
       let s := if reach = 7 ∨ reach = 8 then { s with jrn := { s.jrn with outage := true } } else s
       if reach = 8 then abortFuse s else s) := by
  unfold assertReset withCause withReq reqsWith
  by_cases h : (s.rst.reqs.any fun r => r.reach == reach && r.unit == unit && r.src == src) = true
  · simp only [if_pos h] <;> rfl
  · simp only [if_neg h] <;> rfl

theorem assertReset_small (s : Dev) {reach : ℕ} (h : reach < 7) (unit src : ℕ) (pulse : Bool) :
    assertReset s reach unit src pulse = withReq s reach unit src pulse := by
  have h7 : ¬ (reach = 7 ∨ reach = 8) := by omega
  have h8 : ¬ reach = 8 := by omega
  simp only [assertReset_eq, if_neg h7, if_neg h8]

theorem jrn_withCause (s : Dev) (reach src : ℕ) : (withCause s reach src).jrn = s.jrn := by
  unfold withCause
  cases causeField src reach <;> rfl

theorem assertReset_warm (s : Dev) (unit src : ℕ) (pulse : Bool) :
    assertReset s 7 unit src pulse =
      { withCause (withReq s 7 unit src pulse) 7 src with jrn := { s.jrn with outage := true } } := by
  rw [assertReset_eq]
  have h := jrn_withCause (withReq s 7 unit src pulse) 7 src
  have hs : (withReq s 7 unit src pulse).jrn = s.jrn := rfl
  simp (decide := true) only [if_true, if_false, h, hs]

theorem assertReset_cold (s : Dev) (unit src : ℕ) (pulse : Bool) :
    assertReset s 8 unit src pulse =
      abortFuse { withCause (withReq s 8 unit src pulse) 8 src with jrn := { s.jrn with outage := true } } := by
  rw [assertReset_eq]
  have h := jrn_withCause (withReq s 8 unit src pulse) 8 src
  have hs : (withReq s 8 unit src pulse).jrn = s.jrn := rfl
  simp (decide := true) only [if_true, h, hs]

/-! A fence in three parts: the epoch and the counts, the hand to the standby, and the record of it. -/

/-- The epoch raised, the outage begun, the failover counted and journalled. -/
def fenceCut (s : Dev) : Dev :=
  let a := getF s F.BELAY_STAT_ACTIVE_PP 0
  let keep := recentFences s
  let standby := ppState s (1 - a) == 1
  let s := markRevert s 3
  let s := { s with
    ctl := { s.ctl with epoch := (s.ctl.epoch + 1) % 2 ^ 32 }
    jrn := { s.jrn with outage := true, draining := some s.now, retired := mset 0 s.jrn.retired a (mget 0 s.jrn.retired a + 1),
                        fences := if standby then s.jrn.fences else s.now :: keep } }
  let s := setF s F.BELAY_EPOCH_EPOCH 0 s.ctl.epoch
  let s := setF (satAdd s F.BELAY_FAILOVERS_COUNT 0 1) F.BELAY_STAT_MISSES 0 0
  journal s 64

/-- Processor `a` fenced and held in reset, the other one active where it stands by. -/
def fenceHand (s : Dev) (a : ℕ) (standby : Bool) : Dev :=
  let s := assertReset (setPp s a 2) 5 a 9 false
  if standby then dropReset (setF (setPp s (1 - a) 0) F.BELAY_STAT_ACTIVE_PP 0 (1 - a)) 5 (1 - a) 9 else s

/-- The history window, the event, and WARM after too many fences with no standby. -/
def fenceTail (s : Dev) (cause : ℕ) (again : Bool) : Dev :=
  let s := historyWindow s
  let s := raise s 0x0E 31 0 (failoverDetail (getF s F.BELAY_STAT_ACTIVE_PP 0) cause 0 s.ctl.epoch)
  if again then assertReset s 7 0 9 true else s

theorem fence_eq (s : Dev) (cause : ℕ) :
    fence s cause = fenceTail (fenceHand (fenceCut s) (getF s F.BELAY_STAT_ACTIVE_PP 0) (ppState s (1 - getF s F.BELAY_STAT_ACTIVE_PP 0) == 1)) cause
      (!(ppState s (1 - getF s F.BELAY_STAT_ACTIVE_PP 0) == 1) && decide (2 ≤ (recentFences s).length)) := rfl

/-- What the first part of a fence changes. -/
def fenceCutFoot : Foot :=
  { flds := [F.BELAY_EPOCH_EPOCH, F.BELAY_FAILOVERS_COUNT, F.BELAY_STAT_MISSES, F.JRN_HEAD_HEAD_JSN, F.JRN_STAT_FULL],
    parts := [.epoch, .jrn, .reverting, .out] }

/-- What the last part of a fence changes. -/
def fenceTailFoot : Foot :=
  { flds := [F.FLT_MODE_MODE, F.FLT_MODE_WINDOW_S, F.HIF_EVT_STAT_PROD, F.HIF_EVT_STAT_LOST, F.FUSE_STAT_VALID], blks := [blkRst],
    parts := [.flt, .host, .out, .jrn, .reqs, .rstRest] }

/-- A trial marked for reversion. -/
def markFoot : Foot := { parts := [.reverting, .out] }

theorem within_mark_markRevert (d s : Dev) (cause : ℕ) (h : markFoot.le W = true) : Within W d (markRevert s cause) ↔ Within W d s := by
  refine Within.skip (V := markFoot) ?_ h
  unfold markRevert
  simp (decide := true) [↓within_ite]

theorem within_fenceCut (s : Dev) : Within fenceCutFoot s (fenceCut s) := by
  unfold fenceCut
  simp (decide := true) [within_mark_markRevert]

theorem within_fenceTail (s : Dev) (cause : ℕ) (again : Bool) : Within fenceTailFoot s (fenceTail s cause again) := by
  unfold fenceTail historyWindow
  simp (decide := true) [↓within_ite]

theorem jrn_fenceTail (s : Dev) (cause : ℕ) (again : Bool) :
    (fenceTail s cause again).jrn = if again then { s.jrn with outage := true } else s.jrn := by
  unfold fenceTail
  cases again
  · exact raise_jrn _ _ _ _ _
  · dsimp only
    rw [if_pos rfl, assertReset_warm, raise_jrn]
    rfl

theorem jrn_fenceHand (s : Dev) (a : ℕ) (standby : Bool) : (fenceHand s a standby).jrn = s.jrn := by
  unfold fenceHand
  rw [assertReset_small _ (by decide)]
  cases standby <;> rfl

theorem ctl_fenceHand (s : Dev) (a : ℕ) (standby : Bool) : (fenceHand s a standby).ctl = s.ctl := by
  unfold fenceHand
  rw [assertReset_small _ (by decide)]
  cases standby <;> rfl

theorem getF_fenceHand (s : Dev) (a : ℕ) (standby : Bool) (f : Fld) (i : ℕ) :
    getF (fenceHand s a standby) f i =
      getF (if standby then setF (setPp (setPp s a 2) (1 - a) 0) F.BELAY_STAT_ACTIVE_PP 0 (1 - a) else setPp s a 2) f i := by
  unfold fenceHand
  rw [assertReset_small _ (by decide)]
  cases standby <;> rfl

theorem outage_fence (s : Dev) (cause : ℕ) : (fence s cause).jrn.outage = true := by
  have h : (fenceCut s).jrn.outage = true := outage_journal _ _
  rw [fence_eq, jrn_fenceTail, jrn_fenceHand, apply_ite JrnSt.outage, h, ite_self]

theorem getF_journal (s : Dev) (n : ℕ) (f : Fld) (i : ℕ) (hf : f.code % 262144 ≠ F.JRN_STAT_FULL.code % 262144) :
    getF (journal s n) f i = getF s f i := by
  unfold journal
  dsimp only
  split
  · exact getF_setF_code _ _ _ _ _ _ hf
  · rfl

theorem draining_journal (s : Dev) (n : ℕ) : (journal s n).jrn.draining = s.jrn.draining := by
  unfold journal
  dsimp only
  split <;> rfl

theorem now_markRevert (s : Dev) (cause : ℕ) : (markRevert s cause).now = s.now := by
  unfold markRevert
  dsimp only
  split_ifs <;> rfl

theorem within_markRevert_self (s : Dev) (cause : ℕ) : Within markFoot s (markRevert s cause) :=
  (within_mark_markRevert _ _ _ (by decide)).mpr (.refl _ _)

theorem draining_fence (s : Dev) (cause : ℕ) : (fence s cause).jrn.draining = some s.now := by
  have h : (fenceCut s).jrn.draining = some s.now := (draining_journal _ _).trans (congrArg some (now_markRevert s 3))
  rw [fence_eq, jrn_fenceTail, jrn_fenceHand, apply_ite JrnSt.draining, h, ite_self]

theorem epoch_fence (s : Dev) (cause : ℕ) : (fence s cause).ctl.epoch = (s.ctl.epoch + 1) % 2 ^ 32 := by
  rw [fence_eq, (within_fenceTail _ _ _).epoch (by decide), ctl_fenceHand]
  unfold fenceCut
  simp only [ctl_journal, setF_ctl, satAdd_ctl, (within_markRevert_self s 3).epoch (by decide)]

/-- A field of the Belay after a fence: the last part leaves it. -/
theorem getF_fence (s : Dev) (cause : ℕ) (f : Fld) (i : ℕ) (hf : fenceTailFoot.hits (f.code % 262144) = false) :
    getF (fence s cause) f i = getF (fenceHand (fenceCut s) (activePp s) (ppState s (1 - activePp s) == 1)) f i := by
  rw [fence_eq]
  exact (within_fenceTail _ _ _).fld f i hf

theorem ppState_fence (s : Dev) (cause n : ℕ) :
    ppState (fence s cause) n = ppState (fenceHand (fenceCut s) (activePp s) (ppState s (1 - activePp s) == 1)) n := by
  rw [fence_eq]
  exact ppState_of_within (within_fenceTail _ _ _) (by decide) (by decide) n

theorem ppState_fenceHand_active (s : Dev) {a : ℕ} (ha : a < 2) (standby : Bool) : ppState (fenceHand s a standby) a = 2 := by
  rw [ppState_congr (getF_fenceHand s a standby)]
  cases standby
  · exact ppState_setPp_same s a 2
  · rw [if_pos rfl, ppState_setF _ _ _ _ _ (by decide) (by decide), ppState_setPp_other _ _ ha (by omega) (by omega)]
    exact ppState_setPp_same s a 2

theorem fenceHand_standby (s : Dev) {a : ℕ} (ha : a < 2) :
    activePp (fenceHand s a true) = 1 - a ∧ ppState (fenceHand s a true) (1 - a) = 0 := by
  constructor
  · refine (getF_fenceHand s a true _ _).trans ?_
    rw [if_pos rfl, getF_setF_same]
    exact Nat.mod_eq_of_lt (by change 1 - a < 2; omega)
  · rw [ppState_congr (getF_fenceHand s a true), if_pos rfl, ppState_setF _ _ _ _ _ (by decide) (by decide)]
    exact ppState_setPp_same _ _ _

theorem getF_fenceHand_other (s : Dev) (a : ℕ) (standby : Bool) (f : Fld) (i : ℕ) (h0 : f.code % 262144 ≠ F.BELAY_STAT_PP0_STATE.code % 262144)
    (h1 : f.code % 262144 ≠ F.BELAY_STAT_PP1_STATE.code % 262144) (ha : f.code % 262144 ≠ F.BELAY_STAT_ACTIVE_PP.code % 262144) :
    getF (fenceHand s a standby) f i = getF s f i := by
  rw [getF_fenceHand]
  cases standby
  · exact getF_setPp _ _ _ _ _ h0 h1
  · rw [if_pos rfl, getF_setF_code _ _ _ _ _ _ ha, getF_setPp _ _ _ _ _ h0 h1, getF_setPp _ _ _ _ _ h0 h1]

theorem misses_fenceCut (s : Dev) : getF (fenceCut s) F.BELAY_STAT_MISSES 0 = 0 :=
  (getF_journal _ _ _ _ (by decide)).trans (getF_setF_same _ _ _ _)

theorem failovers_fenceCut (s : Dev) : getF (fenceCut s) F.BELAY_FAILOVERS_COUNT 0 = min (getF s F.BELAY_FAILOVERS_COUNT 0 + 1) (2 ^ 32 - 1) := by
  have h : getF (markRevert s 3) F.BELAY_FAILOVERS_COUNT 0 = getF s F.BELAY_FAILOVERS_COUNT 0 := (within_markRevert_self s 3).fld _ _ (by decide)
  rw [← h]
  refine (getF_journal _ _ _ _ (by decide)).trans ((getF_setF_code _ _ _ _ _ _ (by decide)).trans ((getF_satAdd_same _ _ _ _).trans ?_))
  rw [getF_setF_code _ _ _ _ _ _ (by decide)]
  rfl

theorem misses_fence (s : Dev) (cause : ℕ) : getF (fence s cause) F.BELAY_STAT_MISSES 0 = 0 := by
  rw [getF_fence _ _ _ _ (by decide), getF_fenceHand_other _ _ _ _ _ (by decide) (by decide) (by decide), misses_fenceCut]

theorem counted_fence (s : Dev) (cause : ℕ) : Counted s (fence s cause) F.BELAY_FAILOVERS_COUNT 0 := by
  unfold Counted
  rw [getF_fence _ _ _ _ (by decide), getF_fenceHand_other _ _ _ _ _ (by decide) (by decide) (by decide), failovers_fenceCut]

/-- A fence with a standby processor leaves that one active. -/
theorem fence_standby {s : Dev} (cause : ℕ) (ha : activePp s < 2) (h : ppState s (1 - activePp s) = 1) :
    activePp (fence s cause) = 1 - activePp s ∧ ppState (fence s cause) (1 - activePp s) = 0 := by
  have hb : (ppState s (1 - activePp s) == 1) = true := beq_iff_eq.mpr h
  have k := fenceHand_standby (fenceCut s) ha
  refine ⟨(getF_fence _ _ _ _ (by decide)).trans ?_, (ppState_fence _ _ _).trans ?_⟩
  · rw [hb]
    exact k.1
  · rw [hb]
    exact k.2

/-! Heartbeats. -/

theorem belayHb_active {s : Dev} {t n : ℕ} (ha : activePp s = n) (hp : ppState s n = 0) : getF (belayHb s t n) F.BELAY_STAT_MISSES 0 = 0 := by
  have h : belayHb s t n = setF (s.at t) F.BELAY_STAT_MISSES 0 0 := if_pos ⟨ha, hp⟩
  rw [h, getF_setF_same]
  rfl

theorem belayHb_other {s : Dev} {t n : ℕ} (ha : activePp s ≠ n) : belayHb s t n = s.at t := if_neg fun h => ha h.1

/-- The device once it counted one more miss. -/
def missed (s : Dev) (t : ℕ) : Dev := satAdd (s.at t) F.BELAY_STAT_MISSES 0 1

theorem belayHbMiss_eq {s : Dev} {t : ℕ} (ho : s.jrn.outage = false) (hp : ppState s (activePp s) = 0) :
    belayHbMiss s t = if 3 ≤ getF (missed s t) F.BELAY_STAT_MISSES 0 then fence (missed s t) 1 else missed s t := by
  have hg : ((s.at t).jrn.outage || ppState (s.at t) (activePp s) != 0) = false := by
    change (s.jrn.outage || ppState s (activePp s) != 0) = false
    rw [ho, hp]
    rfl
  exact if_neg (fun h => Bool.false_ne_true (hg.symm.trans h))

theorem misses_missed (s : Dev) (t : ℕ) : getF (missed s t) F.BELAY_STAT_MISSES 0 = min (getF s F.BELAY_STAT_MISSES 0 + 1) 255 := getF_satAdd_same _ _ _ _

theorem getF_missed (s : Dev) (t : ℕ) (f : Fld) (i : ℕ) (h : f.code % 262144 ≠ F.BELAY_STAT_MISSES.code % 262144) :
    getF (missed s t) f i = getF s f i := getF_satAdd_code _ _ _ _ _ _ h

theorem ppState_missed (s : Dev) (t n : ℕ) : ppState (missed s t) n = ppState s n := by
  unfold ppState
  rw [getF_missed _ _ _ _ (by decide), getF_missed _ _ _ _ (by decide)]

theorem belayHbMiss_counts {s : Dev} {t : ℕ} (ho : s.jrn.outage = false) (hp : ppState s (activePp s) = 0)
    (hm : getF s F.BELAY_STAT_MISSES 0 < 2) :
    getF (belayHbMiss s t) F.BELAY_STAT_MISSES 0 = getF s F.BELAY_STAT_MISSES 0 + 1 ∧ (belayHbMiss s t).ctl.epoch = s.ctl.epoch := by
  rw [belayHbMiss_eq ho hp, if_neg (by rw [misses_missed]; omega), misses_missed]
  exact ⟨by omega, rfl⟩

theorem belayHbMiss_fences {s : Dev} {t : ℕ} (ho : s.jrn.outage = false) (hp : ppState s (activePp s) = 0)
    (hm : 2 ≤ getF s F.BELAY_STAT_MISSES 0) : belayHbMiss s t = fence (missed s t) 1 := by
  rw [belayHbMiss_eq ho hp, if_pos (by rw [misses_missed]; omega)]

theorem fence_missed {s : Dev} {t : ℕ} (ha : activePp s < 2) :
    ppState (fence (missed s t) 1) (activePp s) = 2 ∧ (fence (missed s t) 1).ctl.epoch = (s.ctl.epoch + 1) % 2 ^ 32 ∧
      (fence (missed s t) 1).jrn.outage = true ∧ (fence (missed s t) 1).jrn.draining = some t ∧
      getF (fence (missed s t) 1) F.BELAY_STAT_MISSES 0 = 0 ∧ Counted s (fence (missed s t) 1) F.BELAY_FAILOVERS_COUNT 0 ∧
      (ppState s (1 - activePp s) = 1 → activePp (fence (missed s t) 1) = 1 - activePp s ∧ ppState (fence (missed s t) 1) (1 - activePp s) = 0) := by
  have hact : activePp (missed s t) = activePp s := getF_missed _ _ _ _ (by decide)
  have hcount : getF (missed s t) F.BELAY_FAILOVERS_COUNT 0 = getF s F.BELAY_FAILOVERS_COUNT 0 := getF_missed _ _ _ _ (by decide)
  refine ⟨?_, epoch_fence _ _, outage_fence _ _, draining_fence _ _, misses_fence _ _, ?_, fun h => ?_⟩
  · rw [ppState_fence, hact]
    exact ppState_fenceHand_active _ ha _
  · have h := counted_fence (missed s t) 1
    unfold Counted at h ⊢
    rw [h, hcount]
  · rw [← hact] at ha h ⊢
    exact fence_standby 1 ha ((ppState_missed _ _ _).trans h)

/-! The drained epoch. -/

theorem fenceDrainDone_eq {s : Dev} {t a : ℕ} (h : s.jrn.draining = some a) :
    (fenceDrainDone s t).jrn.draining = none ∧ getF (fenceDrainDone s t) F.JRN_STAT_REPLAY 0 = 1 := by
  have hd : (s.at t).jrn.draining = some a := h
  unfold fenceDrainDone
  simp only [hd]
  exact ⟨rfl, getF_setF_same _ _ _ _⟩

/-! The end of a self-test. -/

/-- The standing of the device and the collector's mode, brought up to date. -/
def standFoot : Foot := { flds := [F.SYS_STATE_DEGRADED, F.FLT_MODE_MODE, F.FLT_MODE_WINDOW_S], parts := [.flt] }

theorem within_stand_syncFltMode (d s : Dev) (h : standFoot.le W = true) : Within W d (syncFltMode s) ↔ Within W d s := by
  refine Within.skip (V := standFoot) ?_ h
  unfold syncFltMode setFs setFs setFs
  simp (decide := true) only [within_setF_skip, within_self]

theorem within_stand_syncBist (d s : Dev) (h : standFoot.le W = true) : Within W d (syncBist s) ↔ Within W d s := by
  refine Within.skip (V := standFoot) ?_ h
  unfold syncBist
  simp (decide := true) [within_stand_syncFltMode]

theorem within_stand_syncDegraded (d s : Dev) (h : standFoot.le W = true) : Within W d (syncDegraded s) ↔ Within W d s := by
  refine Within.skip (V := standFoot) ?_ h
  unfold syncDegraded
  simp (decide := true)

/-- What the end of a failed self-test does beside: the standing, and FAULT where both processors failed. -/
def haltFoot : Foot :=
  { flds := [F.SYS_STATE_STATE, F.SYS_STATE_DEGRADED, F.FLT_MODE_MODE, F.FLT_MODE_WINDOW_S], parts := [.flt, .jrn, .out] }

theorem within_halt_faultHalt (d s : Dev) (h : haltFoot.le W = true) : Within W d (faultHalt s) ↔ Within W d s := by
  refine Within.skip (V := haltFoot) ?_ h
  unfold faultHalt setDev
  simp (decide := true) [within_stand_syncFltMode, within_stand_syncDegraded]

/-- A processor that passes its self-test and is not to be active stands by, unless its FLT_STATUS bit is set. -/
theorem ppBistDone_standby {s : Dev} {t n : ℕ} (hs : ppState s n = 3) (ha : activePp s ≠ n) (h4 : ppState s (activePp s) ≠ 4) :
    ppState (ppBistDone s t n true) n = if fltBit s (29 + n) then 4 else 1 := by
  have he : ppBistDone s t n true = syncBist (syncDegraded (setPp (s.at t) n (if !fltBit s (29 + n) then 1 else 4))) := by
    have h3 : ¬ ppState (s.at t) n ≠ 3 := not_not.mpr hs
    have hn : ¬ (getF (s.at t) F.BELAY_STAT_ACTIVE_PP 0 = n ∨ ppState (s.at t) (getF (s.at t) F.BELAY_STAT_ACTIVE_PP 0) = 4) :=
      not_or.mpr ⟨ha, h4⟩
    unfold ppBistDone
    simp only [if_neg h3, if_neg hn, if_true]
    rfl
  have hw (u : Dev) : Within standFoot u (syncBist (syncDegraded u)) := by
    simp (decide := true) [within_stand_syncBist, within_stand_syncDegraded]
  rw [he, ppState_of_within (hw _) (by decide) (by decide), ppState_setPp_same]
  cases fltBit s (29 + n) <;> rfl

/-- The chosen processor that passes is active. -/
theorem ppBistDone_active {s : Dev} {t n : ℕ} (hn : n < 2) (hs : ppState s n = 3) (ha : activePp s = n) :
    ppState (ppBistDone s t n true) n = 0 ∧ activePp (ppBistDone s t n true) = n := by
  have he : ppBistDone s t n true = syncBist (syncDegraded (dropReset (setF (setPp (s.at t) n 0) F.BELAY_STAT_ACTIVE_PP 0 n) 5 n 9)) := by
    have h3 : ¬ ppState (s.at t) n ≠ 3 := not_not.mpr hs
    have hc : getF (s.at t) F.BELAY_STAT_ACTIVE_PP 0 = n ∨ ppState (s.at t) (getF (s.at t) F.BELAY_STAT_ACTIVE_PP 0) = 4 := .inl ha
    unfold ppBistDone
    simp only [if_neg h3, if_pos hc, if_true]
  have hw : Within { standFoot with parts := [.flt, .reqs] } (setF (setPp (s.at t) n 0) F.BELAY_STAT_ACTIVE_PP 0 n) (ppBistDone s t n true) := by
    rw [he]
    simp (decide := true) [within_stand_syncBist, within_stand_syncDegraded]
  constructor
  · rw [ppState_of_within hw (by decide) (by decide), ppState_setF _ _ _ _ _ (by decide) (by decide)]
    exact ppState_setPp_same _ _ _
  · refine (hw.fld _ _ (by decide)).trans ((getF_setF_same _ _ _ _).trans ?_)
    exact Nat.mod_eq_of_lt hn

/-- A processor that fails is FAILED, and its FLT_STATUS bit is set. -/
theorem ppBistDone_failed {s : Dev} {t n : ℕ} (hn : n < 2) (hs : ppState s n = 3) :
    ppState (ppBistDone s t n false) n = 4 ∧ fltBit (ppBistDone s t n false) (29 + n) = true := by
  generalize hu : faultEvent (syncBist (setPp (s.at t) n 4)) (29 + n) 0x07 0 = u
  have hb : fltBit u (29 + n) = true := by
    rw [← hu]
    exact fltBit_faultEvent_same _ _ _ _ (by omega)
  have he : ppBistDone s t n false =
      if ppState (syncDegraded (setPp u n 4)) 0 = 4 ∧ ppState (syncDegraded (setPp u n 4)) 1 = 4 then faultHalt (syncDegraded (setPp u n 4))
      else syncDegraded (setPp u n 4) := by
    have h3 : ¬ ppState (s.at t) n ≠ 3 := not_not.mpr hs
    rw [← hu]
    unfold ppBistDone
    simp only [if_neg h3, Bool.false_eq_true, if_false]
  have hw : Within haltFoot (setPp u n 4) (ppBistDone s t n false) := by
    rw [he]
    simp (decide := true) [↓within_ite, within_halt_faultHalt, within_stand_syncDegraded]
  refine ⟨(ppState_of_within hw (by decide) (by decide) n).trans (ppState_setPp_same _ _ _), ?_⟩
  rw [hw.fltBit (by decide)]
  unfold fltBit at hb ⊢
  rw [getF_setPp _ _ _ _ _ (by decide) (by decide)]
  exact hb

/-- Settles O42, command by command: the heartbeat, the miss by its count, the drained epoch, and the self-test by its outcome. -/
theorem belayGuardsTheProcessor : Obligations.BelayGuardsTheProcessor := by
  intro s t ha
  refine ⟨fun n => ⟨fun hn hp => gives_of rfl (belayHb_active hn hp), fun hn => gives_of rfl (belayHb_other hn)⟩,
    fun ho hp => ⟨fun hm => gives_of rfl (belayHbMiss_counts ho hp hm), fun hm => gives_of rfl ?_⟩,
    fun a h => gives_of rfl (fenceDrainDone_eq h),
    fun n hs => ⟨fun hn h4 => gives_of rfl (ppBistDone_standby hs hn h4), fun hn => gives_of rfl (ppBistDone_active n.isLt hs hn),
      gives_of rfl (ppBistDone_failed n.isLt hs)⟩⟩
  rw [belayHbMiss_fences ho hp hm]
  exact fence_missed ha

end Sys2Proof.Machine
end

section
/-! Validation comes back after a takeover, replay, Bivouac or boot (R357, R364 to R367, R394 to R397, R424 to R426). -/

namespace Sys2Proof.Machine

open Sys2Proof.Claims

variable {W : Foot}

/-! Service begins: of the Belay's and the journal's registers and of the journal's state nothing changes. -/

/-- What the entry to SERVICE and the decisions that wait for it change. -/
def serviceFoot : Foot :=
  { flds := [F.SYS_STATE_STATE, F.SYS_STATE_DEGRADED, F.FLT_MODE_MODE, F.FLT_MODE_WINDOW_S, F.SEC_FW_STAT_WINDOW_S, F.FLS_STAT_SCRUB,
      F.HIF_EVT_STAT_PROD, F.HIF_EVT_STAT_LOST, F.CPL_PROD_PROD, F.CPL_STAT_BACKLOG],
    parts := [.ctlRest, .recs, .stop, .host, .out, .fls, .secRest, .flt] }

theorem within_service_setDev (d s : Dev) (v : ℕ) (h : serviceFoot.le W = true) : Within W d (setDev s v) ↔ Within W d s := by
  refine Within.skip (V := serviceFoot) ?_ h
  unfold setDev
  simp (decide := true) [within_stand_syncFltMode, within_stand_syncDegraded]

theorem within_service_startScrub (d s : Dev) (ch : ℕ) (h : serviceFoot.le W = true) : Within W d (startScrub s ch) ↔ Within W d s := by
  refine Within.skip (V := serviceFoot) ?_ h
  unfold startScrub setFls
  simp (decide := true)

theorem within_service_serviceScrub (d s : Dev) (ch : ℕ) (h : serviceFoot.le W = true) : Within W d (serviceScrub s ch) ↔ Within W d s := by
  refine Within.skip (V := serviceFoot) ?_ h
  unfold serviceScrub
  simp (decide := true) [↓within_ite, within_service_startScrub]

theorem within_service_tryService (d s : Dev) (h : serviceFoot.le W = true) : Within W d (tryService s) ↔ Within W d s := by
  refine Within.skip (V := serviceFoot) ?_ h
  unfold tryService
  simp (decide := true) [↓within_ite, within_service_serviceScrub, within_service_setDev]

theorem within_service_openTrial (d s : Dev) (h : serviceFoot.le W = true) : Within W d (openTrial s) ↔ Within W d s := by
  refine Within.skip (V := serviceFoot) ?_ h
  unfold openTrial
  simp (decide := true) [↓within_ite]

theorem within_service_reportNoWindow (d s : Dev) (h : serviceFoot.le W = true) : Within W d (reportNoWindow s) ↔ Within W d s := by
  refine Within.skip (V := serviceFoot) ?_ h
  unfold reportNoWindow
  simp (decide := true) [↓within_ite]

theorem within_service_enterService (d s : Dev) (h : serviceFoot.le W = true) : Within W d (enterService s) ↔ Within W d s := by
  refine Within.skip (V := serviceFoot) ?_ h
  unfold enterService
  simp (decide := true) [within_service_reportNoWindow, within_service_openTrial, within_service_tryService]

/-! A takeover's last part. -/

/-- What the rest of a takeover changes once the checkpoint is written. -/
def takeoverFoot : Foot :=
  { flds := serviceFoot.flds ++ [F.JRN_HEAD_HEAD_JSN, F.JRN_STAT_FULL], blks := [blkSec], parts := .pend :: .jrn :: .age :: .reverting :: .revertAt :: serviceFoot.parts }

/-- What an update that comes into force changes. -/
def activateFoot : Foot := { serviceFoot with blks := [blkSec] }

theorem within_activate_setRunning (d s : Dev) (k : ℕ) (img : FwImg) (h : activateFoot.le W = true) :
    Within W d (setRunning s k img) ↔ Within W d s := by
  refine Within.skip (V := activateFoot) ?_ h
  unfold setRunning
  simp (decide := true)

theorem within_takeover_setSlot (d s : Dev) (k : ℕ) (x : FwSlot) (h : takeoverFoot.le W = true) : Within W d (setSlot s k x) ↔ Within W d s := by
  refine Within.skip (V := takeoverFoot) ?_ h
  unfold setSlot
  split <;> simp (decide := true)

theorem within_activate_finishActivate (d s : Dev) (jsn : ℕ) (h : activateFoot.le W = true) :
    Within W d (finishActivate s jsn) ↔ Within W d s := by
  refine Within.skip (V := activateFoot) ?_ h
  unfold finishActivate
  dsimp only
  split <;> simp (decide := true) [within_activate_setRunning]

theorem within_takeover_finishRevert (d s : Dev) (cause : ℕ) (h : takeoverFoot.le W = true) :
    Within W d (finishRevert s cause) ↔ Within W d s := by
  refine Within.skip (V := takeoverFoot) ?_ h
  unfold finishRevert endUpdate
  simp (decide := true) [within_activate_setRunning, within_takeover_setSlot]

/-! The three parts of a takeover's end: the update that activates, the trial that reverts, PP_SWITCH. -/

/-- An update that was activating comes into force, or reverts. -/
def endActivate (s : Dev) : Dev :=
  match s.sec.activating with
  | some n => if s.sec.reverting.isNone then finishActivate s n
      else decideCmd s n stDone ((match recOf s n with | some j => j.target | none => 0)) 0
  | none => s

/-- A trial that is marked reverts. -/
def endRevert (s : Dev) : Dev := match s.sec.reverting with | some c => finishRevert s c | none => s

/-- A PP_SWITCH that waited completes. -/
def endSwitch (s : Dev) : Dev :=
  match s.jrn.ppSwitch with
  | none => s
  | some n => endUntimed { s with jrn := { s.jrn with ppSwitch := none } } n 0

theorem finishTakeover_eq (s : Dev) : finishTakeover s = endSwitch (endRevert (endActivate s)) := by
  unfold finishTakeover endSwitch endRevert endActivate
  rfl

theorem within_activate_endActivate (d s : Dev) (h : activateFoot.le W = true) : Within W d (endActivate s) ↔ Within W d s := by
  refine Within.skip (V := activateFoot) ?_ h
  unfold endActivate
  split
  · simp (decide := true) [↓within_ite, within_activate_finishActivate]
  · exact .refl _ _

theorem within_takeover_endRevert (d s : Dev) (h : takeoverFoot.le W = true) : Within W d (endRevert s) ↔ Within W d s := by
  refine Within.skip (V := takeoverFoot) ?_ h
  unfold endRevert
  split
  · simp (decide := true) [within_takeover_finishRevert]
  · exact .refl _ _

theorem within_takeover_endSwitch (d s : Dev) (h : takeoverFoot.le W = true) : Within W d (endSwitch s) ↔ Within W d s := by
  refine Within.skip (V := takeoverFoot) ?_ h
  unfold endSwitch
  split
  · exact .refl _ _
  · unfold endUntimed unpend
    simp (decide := true)

theorem within_takeover_finishTakeover (d s : Dev) (h : takeoverFoot.le W = true) : Within W d (finishTakeover s) ↔ Within W d s := by
  refine Within.skip (V := takeoverFoot) ?_ h
  rw [finishTakeover_eq]
  simp (decide := true) [within_activate_endActivate, within_takeover_endRevert, within_takeover_endSwitch]

/-! The journal's outage through it. -/

/-- Of the outage and the last checkpoint nothing changes. -/
structure OutageKept (s u : Dev) : Prop where
  outage : u.jrn.outage = s.jrn.outage
  outageEnd : u.jrn.outageEnd = s.jrn.outageEnd
  lastCkpt : u.jrn.lastCkpt = s.jrn.lastCkpt

theorem OutageKept.of_jrn {s u : Dev} (h : u.jrn = s.jrn) : OutageKept s u := ⟨by rw [h], by rw [h], by rw [h]⟩

theorem OutageKept.trans {s u v : Dev} (h : OutageKept s u) (k : OutageKept u v) : OutageKept s v :=
  ⟨k.outage.trans h.outage, k.outageEnd.trans h.outageEnd, k.lastCkpt.trans h.lastCkpt⟩

theorem outageKept_journal (s : Dev) (n : ℕ) : OutageKept s (journal s n) := by
  unfold journal
  dsimp only
  split <;> exact ⟨rfl, rfl, rfl⟩

theorem outageKept_fwAction (s : Dev) : OutageKept s (fwAction s).2 :=
  (OutageKept.of_jrn (s := s) (u := (nextJsn s).2) rfl).trans (outageKept_journal (nextJsn s).2 64)

/-- The other slot's image in force again, before the action's record. -/
def reverted (s : Dev) : Dev :=
  let k := newSlot s
  let old := fwSlot s (1 - k)
  let s := setSlot s k { fwSlot s k with state := if (fwSlot s k).state = 0 then 0 else 1 }
  let s := setSlot s (1 - k) { old with state := if old.state = 0 then 0 else 5 }
  endUpdate (setRunning s (1 - k) old.img)

theorem finishRevert_eq (s : Dev) (cause : ℕ) :
    finishRevert s cause =
      raise (fwAction (reverted s)).2 0x10 33 (fwAction (reverted s)).1 (revertedDetail (1 - newSlot s) cause (fwSlot s (1 - newSlot s)).img.secVer) := rfl

theorem outageKept_finishRevert (s : Dev) (cause : ℕ) : OutageKept s (finishRevert s cause) := by
  rw [finishRevert_eq]
  exact (OutageKept.of_jrn (s := s) (u := reverted s) (by unfold reverted; rfl)).trans ((outageKept_fwAction _).trans (.of_jrn (raise_jrn _ _ _ _ _)))

theorem outageKept_finishTakeover (s : Dev) : OutageKept s (finishTakeover s) := by
  have ha (u : Dev) : OutageKept u (endActivate u) :=
    .of_jrn (((within_activate_endActivate u u (W := activateFoot) (by decide)).mpr (.refl _ _)).jrn (by decide))
  have hr (u : Dev) : OutageKept u (endRevert u) := by
    unfold endRevert
    split
    · exact outageKept_finishRevert _ _
    · exact .of_jrn rfl
  have hs (u : Dev) : OutageKept u (endSwitch u) := by
    unfold endSwitch
    split
    · exact .of_jrn rfl
    · exact OutageKept.trans (u := { u with jrn := { u.jrn with ppSwitch := none } }) ⟨rfl, rfl, rfl⟩
        (.of_jrn ((within_of_endUntimed _ _ _).jrn (by decide)))
  rw [finishTakeover_eq]
  exact (ha s).trans ((hr _).trans (hs _))

/-! TAKEOVER_COMPLETE. -/

/-- The processors back from the fence, and the outage over. -/
def resumed (s : Dev) : Dev :=
  let a := getF s F.BELAY_STAT_ACTIVE_PP 0
  let s := if ppState s a = 2 then dropReset (setPp s a 0) 5 a 9 else s
  let s := if ppState s (1 - a) = 2 then syncBist (setPp s (1 - a) 3) else s
  let s := setFs s 0 [(F.JRN_STAT_REPLAY, 0), (F.BELAY_STAT_MISSES, 0)]
  { s with jrn := { s.jrn with outage := false, outageEnd := s.now } }

theorem resume_eq (s : Dev) : resume s = sweepUnknown (restartSurvey (finishTakeover (writeCheckpoint (resumed s)))) := rfl

/-- What the checkpoint and what follows it change. -/
def resumeFoot : Foot := { takeoverFoot with flds := takeoverFoot.flds ++ ckptFoot.flds }

theorem within_resume_resumed (s : Dev) : Within resumeFoot (resumed s) (tryService (resume s)) := by
  have hc (u : Dev) : Within resumeFoot (resumed s) (writeCheckpoint u) ↔ Within resumeFoot (resumed s) u :=
    Within.skip (within_ckptFoot_writeCheckpoint u) (by decide)
  have hr (u : Dev) : Within resumeFoot (resumed s) (restartSurvey u) ↔ Within resumeFoot (resumed s) u := by
    unfold restartSurvey
    simp (decide := true) [↓within_ite]
  rw [resume_eq]
  simp (decide := true) [within_service_tryService, within_takeover_finishTakeover, hc, hr]

theorem outageKept_tail (s : Dev) : OutageKept (writeCheckpoint (resumed s)) (tryService (resume s)) := by
  have hr (u : Dev) : OutageKept u (restartSurvey u) := by
    unfold restartSurvey
    split <;> exact .of_jrn rfl
  have ht (u : Dev) : OutageKept u (tryService u) :=
    .of_jrn (((within_service_tryService u u (W := serviceFoot) (by decide)).mpr (.refl _ _)).jrn (by decide))
  rw [resume_eq]
  exact (outageKept_finishTakeover _).trans ((hr _).trans ((OutageKept.of_jrn ((within_of_sweepUnknown _).jrn (by decide))).trans (ht _)))

/-- The processors' part of `resumed`. -/
def resumedPps (s : Dev) (a : ℕ) : Dev :=
  let s := if ppState s a = 2 then dropReset (setPp s a 0) 5 a 9 else s
  if ppState s (1 - a) = 2 then syncBist (setPp s (1 - a) 3) else s

theorem ppState_syncBist (s : Dev) (n : ℕ) : ppState (syncBist s) n = ppState s n :=
  ppState_of_within ((within_stand_syncBist s s (W := standFoot) (by decide)).mpr (.refl _ _)) (by decide) (by decide) n

theorem ppState_resumedPps (s : Dev) {a : ℕ} (ha : a < 2) :
    (ppState s (1 - a) = 2 → ppState (resumedPps s a) (1 - a) = 3) ∧ (ppState s a = 2 → ppState (resumedPps s a) a = 0) := by
  generalize hu : (if ppState s a = 2 then dropReset (setPp s a 0) 5 a 9 else s) = u
  have he : resumedPps s a = if ppState u (1 - a) = 2 then syncBist (setPp u (1 - a) 3) else u := by
    rw [← hu]
    rfl
  have ho : ppState u (1 - a) = ppState s (1 - a) := by
    rw [← hu]
    split
    · exact ppState_setPp_other s 0 (by omega) ha (by omega)
    · rfl
  constructor <;> intro h
  · rw [he, if_pos (ho.trans h), ppState_syncBist, ppState_setPp_same]
  · have hz : ppState u a = 0 := by
      rw [← hu, if_pos h]
      exact ppState_setPp_same s a 0
    rw [he]
    split
    · rw [ppState_syncBist, ppState_setPp_other _ _ ha (by omega) (by omega), hz]
    · exact hz

theorem now_resumedPps (s : Dev) (a : ℕ) : (resumedPps s a).now = s.now := by
  have hb (u : Dev) : (syncBist (setPp u (1 - a) 3)).now = u.now := rfl
  have hd (u : Dev) : (dropReset (setPp u a 0) 5 a 9).now = u.now := rfl
  unfold resumedPps
  simp only [apply_ite Dev.now, hb, hd, ite_self]

theorem takeoverComplete_ends {s : Dev} {t : ℕ} (ho : s.jrn.outage = true) (hd : s.jrn.draining = none) (h3 : 3 ≤ devState s)
    (h5 : devState s ≤ 5) (hp : s.rst.phase = 2) (ha : activePp s < 2) :
    (takeoverComplete s t).jrn.outage = false ∧ (takeoverComplete s t).jrn.outageEnd = t ∧ (takeoverComplete s t).jrn.lastCkpt = t ∧
      getF (takeoverComplete s t) F.JRN_STAT_REPLAY 0 = 0 ∧ getF (takeoverComplete s t) F.BELAY_STAT_MISSES 0 = 0 ∧
      (ppState s (1 - activePp s) = 2 → ppState (takeoverComplete s t) (1 - activePp s) = 3) ∧
      (ppState s (activePp s) = 2 → ppState (takeoverComplete s t) (activePp s) = 0) := by
  have he : takeoverComplete s t = tryService (resume (s.at t)) := by
    have hl : [3, 4, 5].contains (devState s) = true := by
      obtain h | h | h : devState s = 3 ∨ devState s = 4 ∨ devState s = 5 := by omega
      all_goals rw [h]; rfl
    have hg : ((s.at t).jrn.outage && (s.at t).jrn.draining.isNone && [3, 4, 5].contains (devState (s.at t)) && (s.at t).rst.phase == 2) = true := by
      change (s.jrn.outage && s.jrn.draining.isNone && [3, 4, 5].contains (devState s) && s.rst.phase == 2) = true
      rw [ho, hd, hl, hp]
      rfl
    exact if_pos hg
  have hw := within_resume_resumed (s.at t)
  have hk := outageKept_tail (s.at t)
  have hnow : (resumed (s.at t)).now = t := now_resumedPps (s.at t) (activePp s)
  have hj := jrn_writeCheckpoint (resumed (s.at t))
  have hpp := ppState_resumedPps (s.at t) ha
  have hset (n : ℕ) : ppState (resumed (s.at t)) n = ppState (resumedPps (s.at t) (activePp s)) n := by
    refine (ppState_setF _ F.BELAY_STAT_MISSES 0 0 n (by decide) (by decide)).trans ?_
    exact ppState_setF _ F.JRN_STAT_REPLAY 0 0 n (by decide) (by decide)
  have hq (n : ℕ) := (ppState_of_within hw (by decide) (by decide) n).trans (hset n)
  rw [he]
  refine ⟨hk.outage.trans (by rw [hj]; rfl), hk.outageEnd.trans (by rw [hj]; exact hnow), hk.lastCkpt.trans (by rw [hj]; exact hnow), ?_, ?_,
    fun h => (hq _).trans (hpp.1 h), fun h => (hq _).trans (hpp.2 h)⟩
  · refine (hw.fld _ _ (by decide)).trans ?_
    refine (getF_setF_code _ F.JRN_STAT_REPLAY F.BELAY_STAT_MISSES 0 0 0 (by decide)).trans ?_
    exact getF_setF_same _ F.JRN_STAT_REPLAY 0 0
  · refine (hw.fld _ _ (by decide)).trans ?_
    exact getF_setF_same _ F.BELAY_STAT_MISSES 0 0

/-! REPLAY_DONE. -/

/-- What taking up the journal's state changes, once the control state is loaded. -/
def ctlLoadFoot : Foot :=
  { flds := F.BELAY_EPOCH_EPOCH :: F.PAIR_STAT_CONFIG :: F.PAIR_STAT_PAIR_ID :: tablesFoot.flds, blks := blkDpll :: blkTdm :: tablesFoot.blks,
    parts := .recs :: .secRest :: restartFoot.parts ++ tablesFoot.parts }

theorem within_load_loadTdm (d s : Dev) (e : ℕ × Mech) (h : ctlLoadFoot.le W = true) : Within W d (loadTdm s e) ↔ Within W d s := by
  refine Within.skip (V := ctlLoadFoot) ?_ h
  unfold loadTdm
  simp (decide := true) [↓within_ite, ↓within_landMask, ↓within_setTdmFields]

theorem within_load_syncRef (d s : Dev) (i : ℕ) (h : ctlLoadFoot.le W = true) : Within W d (syncRef s i) ↔ Within W d s := by
  refine Within.skip (V := ctlLoadFoot) ?_ h
  unfold syncRef
  split <;> simp (decide := true)

theorem within_load_syncRefs (d s : Dev) (h : ctlLoadFoot.le W = true) : Within W d (syncRefs s) ↔ Within W d s := by
  refine Within.skip (V := ctlLoadFoot) ?_ h
  unfold syncRefs
  simp (decide := true) [within_load_syncRef]

theorem within_load_loadAll (d s : Dev) (h : ctlLoadFoot.le W = true) : Within W d (loadAll s) ↔ Within W d s := by
  refine Within.skip (V := ctlLoadFoot) ?_ h
  unfold loadAll
  simp (decide := true) [within_load_syncRefs, within_load_loadTdm, within_tables_loadPlane]

/-- The device as the replay finds it, its control state loaded. -/
def replayed (s : Dev) : Dev := loadSched (loadAll (reopenRecs (loadCtl s)))

theorem within_replayed (s : Dev) : Within ctlLoadFoot (loadCtl s) (replayed s) := by
  unfold replayed loadSched reopenRecs
  simp (decide := true) [within_load_loadAll]

/-- The replay's end where the device is not one of a pair. -/
def replayAlone (u : Dev) (t : ℕ) : Dev :=
  let s := replanAll u
  let s := setF s F.JRN_STAT_REPLAY 0 0
  let s := { s with jrn := { s.jrn with outage := false, outageEnd := t } }
  enterService (sweepUnknown (setDev s dvSyncing))

theorem replayDone_eq {s : Dev} (t : ℕ) (hd : devState s = dvLoading) (hr : role s ≠ 5) :
    replayDone s t = if (replayed (s.at t)).ctl.pair then setRole (setF (replayed (s.at t)) F.JRN_STAT_REPLAY 0 0) 5 3
      else replayAlone (replayed (s.at t)) t := by
  have hc : ¬ (devState (s.at t) ≠ dvLoading ∨ role (s.at t) = 5) := not_or.mpr ⟨not_not.mpr hd, hr⟩
  unfold replayDone replayed replayAlone
  exact if_neg hc

/-- What planning the waiting commands again changes. -/
def replanFoot : Foot := { decFoot with parts := .pend :: decFoot.parts }

theorem within_replan_replanPend (d s : Dev) (x : Pend) (h : replanFoot.le W = true) : Within W d (replanPend s x) ↔ Within W d s := by
  refine Within.skip (V := replanFoot) ?_ h
  unfold replanPend unpend modPend
  simp (decide := true) [↓within_ite]

theorem within_replan_replanAll (d s : Dev) (h : replanFoot.le W = true) : Within W d (replanAll s) ↔ Within W d s := by
  refine Within.skip (V := replanFoot) ?_ h
  unfold replanAll
  simp (decide := true) [within_replan_replanPend]

/-- What the replay's end changes beside the journal's state. -/
def replayEndFoot : Foot := { serviceFoot with flds := F.JRN_STAT_REPLAY :: serviceFoot.flds, parts := .pend :: .jrn :: serviceFoot.parts }

theorem within_replayAlone (u : Dev) (t : ℕ) : Within replayEndFoot u (replayAlone u t) := by
  unfold replayAlone
  dsimp only
  rw [within_service_enterService _ _ (by decide), within_sweepUnknown _ _ (by decide), within_service_setDev _ _ _ (by decide),
    within_setJrn _ _ _ (by decide), within_setF_skip _ _ _ _ _ (by decide), within_replan_replanAll _ _ (by decide)]

theorem jrn_replayAlone (u : Dev) (t : ℕ) : (replayAlone u t).jrn = { u.jrn with outage := false, outageEnd := t } := by
  have hp : (replanAll u).jrn = u.jrn := ((within_replan_replanAll u u (W := replanFoot) (by decide)).mpr (.refl _ _)).jrn (by decide)
  have hs (x : Dev) : (enterService (sweepUnknown (setDev x dvSyncing))).jrn = x.jrn := by
    refine Within.jrn (W := serviceFoot) ?_ (by decide)
    simp (decide := true) [within_service_enterService, within_service_setDev]
  rw [← hp]
  exact hs _

theorem devState_setDev (s : Dev) (v : ℕ) : devState (setDev s v) = v % 2 ^ F.SYS_STATE_STATE.width := by
  have hw (u : Dev) : Within standFoot u (syncFltMode (syncDegraded u)) := by
    simp (decide := true) [within_stand_syncFltMode, within_stand_syncDegraded]
  exact ((hw _).fld _ _ (by decide)).trans (getF_setF_same _ _ _ _)

/-- What follows the entry to SERVICE leaves SYS_STATE. -/
def afterFoot : Foot := { flds := [F.SEC_FW_STAT_WINDOW_S, F.FLS_STAT_SCRUB, F.HIF_EVT_STAT_PROD, F.HIF_EVT_STAT_LOST],
                          parts := [.host, .out, .fls, .secRest] }

theorem within_after_serviceScrub (d s : Dev) (ch : ℕ) (h : afterFoot.le W = true) : Within W d (serviceScrub s ch) ↔ Within W d s := by
  refine Within.skip (V := afterFoot) ?_ h
  unfold serviceScrub startScrub setFls
  simp (decide := true) [↓within_ite]

theorem within_after_trial (d s : Dev) (h : afterFoot.le W = true) : Within W d (reportNoWindow (openTrial s)) ↔ Within W d s := by
  refine Within.skip (V := afterFoot) ?_ h
  unfold reportNoWindow openTrial
  simp (decide := true) [↓within_ite]

/-- From SYNCING the entry to SERVICE leaves the device there, or in SERVICE. -/
theorem devState_enterService {s : Dev} (h : devState s = dvSyncing) : devState (enterService s) = dvSyncing ∨ devState (enterService s) = dvService := by
  have hw (u : Dev) : devState (reportNoWindow (openTrial u)) = devState u :=
    ((within_after_trial u u (W := afterFoot) (by decide)).mpr (.refl _ _)).fld _ _ (by decide)
  have hc (u : Dev) : devState (serviceScrub (serviceScrub u 0) 1) = devState u :=
    Within.fld (W := afterFoot) (by simp (decide := true) [within_after_serviceScrub]) _ _ (by decide)
  have hd (u : Dev) : devState (setDev u dvService) = dvService := devState_setDev u dvService
  unfold enterService
  rw [hw]
  unfold tryService
  dsimp only
  split_ifs
  · exact .inr ((hc _).trans (hd _))
  · exact .inr (hd _)
  · exact .inl h

theorem replayDone_alone {s : Dev} {t : ℕ} (hd : devState s = dvLoading) (hr : role s ≠ 5) (hc : s.jrn.cold = false) (hp : s.ctl.pair = false) :
    (replayDone s t).jrn.outage = false ∧ (replayDone s t).jrn.outageEnd = t ∧ getF (replayDone s t) F.JRN_STAT_REPLAY 0 = 0 ∧
      (devState (replayDone s t) = dvSyncing ∨ devState (replayDone s t) = dvService) := by
  have hl : loadCtl (s.at t) = s.at t := by
    have h : ¬ (s.at t).jrn.cold = true := by
      change ¬ s.jrn.cold = true
      rw [hc]
      decide
    exact if_neg h
  have hw := within_replayed (s.at t)
  have hpair : (replayed (s.at t)).ctl.pair = false := by
    rw [hl] at hw
    obtain ⟨h, -⟩ := hw.part .ctlRest (by decide)
    exact h.trans hp
  rw [replayDone_eq t hd hr, hpair, if_neg (by decide)]
  generalize replayed (s.at t) = u
  refine ⟨by rw [jrn_replayAlone], by rw [jrn_replayAlone], ?_, ?_⟩
  · unfold replayAlone
    dsimp only
    generalize replanAll u = v
    have k (x : Dev) : Within serviceFoot x (enterService (sweepUnknown (setDev x dvSyncing))) := by
      simp (decide := true) [within_service_enterService, within_service_setDev]
    exact ((k _).fld _ _ (by decide)).trans (getF_setF_same v F.JRN_STAT_REPLAY 0 0)
  · refine devState_enterService ?_
    exact ((within_of_sweepUnknown _).fld _ _ (by decide)).trans (devState_setDev _ _)

/-- A register of the journal that neither end of the replay changes. -/
theorem getF_replayDone {s : Dev} {t : ℕ} (hd : devState s = dvLoading) (hr : role s ≠ 5) (f : Fld) (i : ℕ)
    (hf : replayEndFoot.hits (f.code % 262144) = false) (hp : roleFoot.hits (f.code % 262144) = false)
    (hx : f.code % 262144 ≠ F.JRN_STAT_REPLAY.code % 262144) : getF (replayDone s t) f i = getF (replayed (s.at t)) f i := by
  rw [replayDone_eq t hd hr]
  split
  · exact ((within_setRole_role _ _ _ _).fld f i hp).trans (getF_setF_code _ _ _ _ _ _ hx)
  · exact (within_replayAlone _ _).fld f i hf

theorem cold_replayDone {s : Dev} {t : ℕ} (hd : devState s = dvLoading) (hr : role s ≠ 5) :
    (replayDone s t).jrn.cold = (replayed (s.at t)).jrn.cold := by
  rw [replayDone_eq t hd hr]
  split
  · rw [(within_setRole_role _ _ _ _).jrn (by decide), setF_jrn]
  · rw [jrn_replayAlone]

theorem loadCtl_cold {s : Dev} (hc : s.jrn.cold = true) :
    loadCtl s = setF (setF { s with ctl := flashCtl s, jrn := { s.jrn with cold := false } } F.JRN_DURABLE_DURABLE_JSN 0 s.jrn.durJsn)
      F.JRN_HEAD_HEAD_JSN 0 (s.jrn.durJsn + 1048576) := if_pos hc

theorem replayDone_cold {s : Dev} {t : ℕ} (hd : devState s = dvLoading) (hr : role s ≠ 5) (hc : s.jrn.cold = true) :
    (replayDone s t).jrn.cold = false ∧
      getF (replayDone s t) F.JRN_HEAD_HEAD_JSN 0 = (s.jrn.durJsn + 1048576) % 2 ^ F.JRN_HEAD_HEAD_JSN.width ∧
      getF (replayDone s t) F.JRN_DURABLE_DURABLE_JSN 0 = s.jrn.durJsn % 2 ^ F.JRN_DURABLE_DURABLE_JSN.width := by
  have hl := loadCtl_cold (s := s.at t) hc
  have hw := within_replayed (s.at t)
  rw [hl] at hw
  refine ⟨?_, ?_, ?_⟩
  · rw [cold_replayDone hd hr, hw.jrn (by decide)]
    rfl
  · rw [getF_replayDone hd hr _ _ (by decide) (by decide) (by decide), hw.fld _ _ (by decide), getF_setF_same]
    rfl
  · rw [getF_replayDone hd hr _ _ (by decide) (by decide) (by decide), hw.fld _ _ (by decide), getF_setF_code _ _ _ _ _ _ (by decide), getF_setF_same]
    rfl

/-! BIVOUAC_SELF_REFRESH_DONE. -/

/-- Both stacks in self-refresh where their entry went well, and the entry over. -/
def bivouacIn (s : Dev) (ok0 ok1 : Bool) : Dev :=
  let s := if ok0 then setFs s 0 [(F.HBM_STAT_STATE, 4), (F.JRN_STAT_HBM0, 0)] else s
  let s := if ok1 then setF (setF s F.HBM_STAT_STATE 1 4) F.JRN_STAT_HBM1 0 0 else s
  { s with jrn := { s.jrn with bivIn := none } }

theorem bivouacSelfRefreshDone_eq {s : Dev} {t jsn a : ℕ} (ok0 ok1 : Bool) (h : s.jrn.bivIn = some (jsn, a)) (hd : devState s = dvBivouac) :
    bivouacSelfRefreshDone s t ok0 ok1 =
      endUntimed (bivouacIn (s.at t) ok0 ok1) jsn (bivouacDetail 1 (b2n ok0) (b2n ok1) (msSince (bivouacIn (s.at t) ok0 ok1) a)) := by
  have hb : (s.at t).jrn.bivIn = some (jsn, a) := h
  have hn : ¬ devState (s.at t) ≠ dvBivouac := not_not.mpr hd
  unfold bivouacSelfRefreshDone bivouacIn
  simp only [hb, if_neg hn]

theorem within_bivouacIn (s : Dev) (ok0 ok1 : Bool) : Within { blks := [blkHbm, blkJrn], parts := [.jrn] } s (bivouacIn s ok0 ok1) := by
  unfold bivouacIn
  simp (decide := true) [↓within_ite]

theorem hbmState_bivouacIn (s : Dev) (ok0 ok1 : Bool) :
    (ok0 = true → hbmState (bivouacIn s ok0 ok1) 0 = 4) ∧ (ok1 = true → hbmState (bivouacIn s ok0 ok1) 1 = 4) := by
  have h0 (u : Dev) : getF (setFs u 0 [(F.HBM_STAT_STATE, 4), (F.JRN_STAT_HBM0, 0)]) F.HBM_STAT_STATE 0 = 4 :=
    (getF_setF_code _ _ _ _ _ _ (by decide)).trans (getF_setF_same _ _ _ _)
  have h1 (u : Dev) : getF (setF (setF u F.HBM_STAT_STATE 1 4) F.JRN_STAT_HBM1 0 0) F.HBM_STAT_STATE 1 = 4 :=
    (getF_setF_code _ _ _ _ _ _ (by decide)).trans (getF_setF_same _ _ _ _)
  have h2 (u : Dev) : getF (setF (setF u F.HBM_STAT_STATE 1 4) F.JRN_STAT_HBM1 0 0) F.HBM_STAT_STATE 0 = getF u F.HBM_STAT_STATE 0 :=
    (getF_setF_code _ _ _ _ _ _ (by decide)).trans (getF_setF_idx _ _ _ _ _ _ (by decide))
  constructor
  · rintro rfl
    cases ok1
    · exact h0 s
    · exact (h2 _).trans (h0 s)
  · rintro rfl
    exact h1 _

theorem now_bivouacIn (s : Dev) (ok0 ok1 : Bool) : (bivouacIn s ok0 ok1).now = s.now := (within_bivouacIn s ok0 ok1).part .now (by decide)

theorem jsn_of_recOf {s : Dev} {n : ℕ} {j : JRec} (h : recOf s n = some j) : j.jsn = n := by
  have k := List.find?_some h
  simpa using k

theorem bivouac_done {s : Dev} {t jsn a : ℕ} {j : JRec} {ok0 ok1 : Bool} (h : s.jrn.bivIn = some (jsn, a)) (hd : devState s = dvBivouac)
    (hj : recOf s jsn = some j) (hu : j.dec = none) (hf : isFollower s = false) :
    (bivouacSelfRefreshDone s t ok0 ok1).jrn.bivIn = none ∧ (ok0 = true → hbmState (bivouacSelfRefreshDone s t ok0 ok1) 0 = 4) ∧
      (ok1 = true → hbmState (bivouacSelfRefreshDone s t ok0 ok1) 1 = 4) ∧
      Decided (bivouacSelfRefreshDone s t ok0 ok1) jsn stDone (hfn (s.at t)) (bivouacDetail 1 (b2n ok0) (b2n ok1) ((t - a) / 54000000)) := by
  have hw := within_bivouacIn (s.at t) ok0 ok1
  obtain ⟨h0, h1⟩ := hbmState_bivouacIn (s.at t) ok0 ok1
  rw [bivouacSelfRefreshDone_eq ok0 ok1 h hd]
  have hs : msSince (bivouacIn (s.at t) ok0 ok1) a = (t - a) / 54000000 := by
    unfold msSince
    rw [now_bivouacIn]
    rfl
  obtain rfl := jsn_of_recOf hj
  have he := within_of_endUntimed (bivouacIn (s.at t) ok0 ok1) j.jsn (bivouacDetail 1 (b2n ok0) (b2n ok1) (msSince (bivouacIn (s.at t) ok0 ok1) a))
  have hdec := decided_endUntimed ((hw.recOf (by decide) _).trans hj) hu ((hw.isFollower (by decide)).trans hf)
    (bivouacDetail 1 (b2n ok0) (b2n ok1) (msSince (bivouacIn (s.at t) ok0 ok1) a))
  refine ⟨by rw [he.jrn (by decide)]; rfl, fun k => (he.fld _ _ (by decide)).trans (h0 k), fun k => (he.fld _ _ (by decide)).trans (h1 k), ?_⟩
  rw [hw.hfn (by decide) (by decide), hs] at hdec
  rw [hs]
  exact hdec

/-! BOOT_SELECT. -/

/-- The staged image taken up again at boot. -/
def bootStaged (s : Dev) : Dev :=
  let held := [0, 1].find? fun k => (fwSlot s k).state == 2
  let stage := match held with | some k => some (fwSlot s k).img | none => if s.sec.inFlash then none else s.sec.stage
  setFs { s with sec := { s.sec with stage := stage, inFlash := held.isSome } } 0
    [(F.SEC_FW_STAT_UPDATE, if stage.isNone then 0 else if s.sec.sched.isSome then 3 else 2),
      (F.SEC_FW_STAT_STAGED_SLOT, match held with | some k => k | none => if stage.isNone then 7 else spareSlot s),
      (F.SEC_FW_TGT_TARGET, match s.sec.sched with | some q => q.2.1 | none => 0)]

/-- The image chosen by the boot source. -/
def bootChoose (s : Dev) (good : List Bool) : Dev :=
  let src := getF s F.RST_STRAP_BOOT_SRC 0
  let pend := [0, 1].any fun k => (fwSlot s k).state == 3
  if src = 2 then enterCamp s 3
  else if src = 3 && !pend then enterCamp s 1
  else chooseSlot s good

theorem bootSelect_eq {s : Dev} (h : Boots s) (t : ℕ) (good : List Bool) :
    bootSelect s t good = bootChoose (bootStaged (syncKeys (dropTrial (dropTrial (s.at t) 0) 1))) good := by
  have hany : ((s.at t).rst.inReset.any fun d => decide (d.step ≤ 8) && d.step != 8) = false := by
    refine List.any_eq_false.mpr fun x hx => ?_
    have := h.released x hx
    simp
    omega
  have hc : ¬ (devState (s.at t) ≠ dvBoot ∨ (s.at t).rst.phase ≠ 2 ∨ ((s.at t).rst.inReset.any fun d => decide (d.step ≤ 8) && d.step != 8) = true ∨
      getF (s.at t) F.RST_STRAP_TEST_N 0 = 0 ∨ ppState (s.at t) (getF (s.at t) F.BELAY_STAT_ACTIVE_PP 0) ≠ 0) := by
    rw [hany]
    rintro (k | k | k | k | k)
    · exact k h.inBoot
    · exact k h.runs
    · exact Bool.false_ne_true k
    · exact absurd (h.free.symm.trans k) (by decide)
    · exact k h.sound
  exact if_neg hc

/-- What boot does before it chooses: the security registers and slots, and the events of trials that ended. -/
def bootFoot : Foot := { blks := [blkSec], flds := [F.HIF_EVT_STAT_PROD, F.HIF_EVT_STAT_LOST, F.JRN_HEAD_HEAD_JSN, F.JRN_STAT_FULL],
                         parts := [.host, .out, .jrn, .secRest] }

theorem within_boot_setSlot (d s : Dev) (k : ℕ) (x : FwSlot) (h : bootFoot.le W = true) : Within W d (setSlot s k x) ↔ Within W d s := by
  refine Within.skip (V := bootFoot) ?_ h
  unfold setSlot
  split <;> simp (decide := true)

theorem within_boot_dropTrial (d s : Dev) (k : ℕ) (h : bootFoot.le W = true) : Within W d (dropTrial s k) ↔ Within W d s := by
  refine Within.skip (V := bootFoot) ?_ h
  unfold dropTrial
  simp (decide := true) [↓within_ite, within_boot_setSlot]

theorem within_boot_prepared (s : Dev) : Within bootFoot s (bootStaged (syncKeys (dropTrial (dropTrial s 0) 1))) := by
  unfold bootStaged syncKeys
  simp (decide := true) [within_boot_dropTrial]

theorem enterCamp_strap (s : Dev) : devState (enterCamp s 3) = dvCamp ∧ getF (enterCamp s 3) F.SEC_FW_STAT_BASECAMP 0 = 3 := by
  have he : enterCamp s 3 =
      setDev { setPlane (setPlane (setF s F.SEC_FW_STAT_BASECAMP 0 3) 0 0 0) 1 0 0 with
               jrn := { (setPlane (setPlane (setF s F.SEC_FW_STAT_BASECAMP 0 3) 0 0 0) 1 0 0).jrn with
                        outage := false, outageEnd := (setPlane (setPlane (setF s F.SEC_FW_STAT_BASECAMP 0 3) 0 0 0) 1 0 0).now } } dvCamp := rfl
  have hw : Within { reactFoot with flds := reactFoot.flds ++ serviceFoot.flds, parts := reactFoot.parts ++ serviceFoot.parts }
      (setF s F.SEC_FW_STAT_BASECAMP 0 3) (enterCamp s 3) := by
    rw [he, within_service_setDev _ _ _ (by decide), within_setJrn _ _ _ (by decide), within_react_setPlane _ _ _ _ _ _ (by decide),
      within_react_setPlane _ _ _ _ _ _ (by decide)]
  refine ⟨?_, (hw.fld _ _ (by decide)).trans (getF_setF_same _ _ _ _)⟩
  rw [he]
  exact devState_setDev _ _

theorem bootSelect_strap {s : Dev} (h : Boots s) (t : ℕ) (good : List Bool) (hs : getF s F.RST_STRAP_BOOT_SRC 0 = 2) :
    devState (bootSelect s t good) = dvCamp ∧ getF (bootSelect s t good) F.SEC_FW_STAT_BASECAMP 0 = 3 := by
  rw [bootSelect_eq h]
  have hw := within_boot_prepared (s.at t)
  generalize bootStaged (syncKeys (dropTrial (dropTrial (s.at t) 0) 1)) = u at hw
  have hu : getF u F.RST_STRAP_BOOT_SRC 0 = 2 := (hw.fld _ _ (by decide)).trans hs
  have he : bootChoose u good = enterCamp u 3 := if_pos hu
  rw [he]
  exact enterCamp_strap u

/-- A slot that boots, as the image in force. -/
theorem bootSlot_runs (s : Dev) {k : ℕ} (hk : k < 2) :
    devState (bootSlot s k false) = dvLoading ∧ getF (bootSlot s k false) F.SEC_FW_STAT_RUNNING 0 = k ∧ (bootSlot s k false).sec.run = (fwSlot s k).img := by
  have he : bootSlot s k false =
      setDev (setFs (setRunning { s with sec := { s.sec with hostLoaded := false } } k (fwSlot s k).img) 0 [(F.SEC_FW_STAT_BASECAMP, 0), (F.JRN_STAT_REPLAY, 1)])
        dvLoading := rfl
  have hw (u : Dev) : Within standFoot (setF u F.SYS_STATE_STATE 0 dvLoading) (setDev u dvLoading) := by
    unfold setDev
    simp (decide := true) [within_stand_syncFltMode, within_stand_syncDegraded]
  rw [he]
  refine ⟨devState_setDev _ _, ?_, ?_⟩
  · rw [(hw _).fld _ _ (by decide), getF_setF_code _ _ _ _ _ _ (by decide)]
    unfold setFs setFs setFs
    rw [getF_setF_code _ _ _ _ _ _ (by decide), getF_setF_code _ _ _ _ _ _ (by decide)]
    unfold setRunning setFs setFs setFs setFs
    rw [getF_setF_code _ _ _ _ _ _ (by decide), getF_setF_code _ _ _ _ _ _ (by decide), getF_setF_same]
    exact Nat.mod_eq_of_lt hk
  · have h := (hw (setFs (setRunning { s with sec := { s.sec with hostLoaded := false } } k (fwSlot s k).img) 0
      [(F.SEC_FW_STAT_BASECAMP, 0), (F.JRN_STAT_REPLAY, 1)])).part .secRest (by decide)
    exact congrArg SecSt.run h

/-- The channels that the boot ROM reads, in the order that the strap asks for. -/
def bootChans (s : Dev) : List ℕ := (if getF s F.RST_STRAP_BOOT_SRC 0 = 1 then [1, 0] else [0, 1]).filter fun c => flsState s c == 2 || flsState s c == 3

theorem bootChans_cons {s : Dev} (h : ∃ c < 2, flsWritten s c = true) : ∃ c r, bootChans s = c :: r ∧ c < 2 := by
  obtain ⟨c, hc, hw⟩ := h
  have hlt (x : ℕ) (hx : x ∈ bootChans s) : x < 2 := by
    have := (List.mem_filter.mp hx).1
    split at this <;> simp at this <;> omega
  have hm : c ∈ bootChans s := by
    refine List.mem_filter.mpr ⟨?_, hw⟩
    split <;> simp <;> omega
  cases hl : bootChans s with
  | nil => rw [hl] at hm; exact absurd hm List.not_mem_nil
  | cons x r => exact ⟨x, r, rfl, hlt x (hl ▸ List.mem_cons_self)⟩

theorem slot_none {s : Dev} {k v : ℕ} (hk : k < 2) (h : (fwSlot s k).state ≠ v) (h' : (fwSlot s (1 - k)).state ≠ v) :
    ([0, 1].find? fun q => (fwSlot s q).state == v) = none := by
  refine List.find?_eq_none.mpr fun q hq => ?_
  obtain rfl | rfl : q = k ∨ q = 1 - k := by
    simp at hq
    omega
  · simpa using h
  · simpa using h'

theorem slot_some {s : Dev} {k v : ℕ} (hk : k < 2) (h : (fwSlot s k).state = v) (h' : (fwSlot s (1 - k)).state ≠ v) :
    ([0, 1].find? fun q => (fwSlot s q).state == v) = some k := by
  obtain rfl | rfl : k = 0 ∨ k = 1 := by omega
  · simp [h]
  · simp [h, h']

theorem chooseSlot_active {s : Dev} {k : ℕ} {good : List Bool} (hk : k < 2) (h5 : (fwSlot s k).state = 5) (h1 : (fwSlot s (1 - k)).state < 2)
    (hv : s.sec.svn ≤ (fwSlot s k).img.secVer) (hg : ∀ c < 2, good.getD (2 * c + k) false = true) (hc : ∃ c < 2, flsWritten s c = true) :
    chooseSlot s good = bootSlot s k false := by
  obtain ⟨c, r, hl, hlt⟩ := bootChans_cons hc
  have hne : k ≠ 1 - k := by omega
  have hp : ([0, 1].find? fun q => (fwSlot s q).state == 3) = none := slot_none hk (by omega) (by omega)
  have ha : ([0, 1].find? fun q => (fwSlot s q).state == 5) = some k := slot_some hk h5 (by omega)
  have hok : slotBoots s k (good.getD (2 * c + k) false) = true := by
    unfold slotBoots
    rw [hg c hlt, h5]
    simpa using hv
  unfold bootChans at hl
  unfold chooseSlot
  simp only [hp, ha, hl, List.flatMap_cons, List.map_cons, List.cons_append, List.find?_cons, hok, Option.map_some, Option.some.injEq, if_neg hne]

/-! The trials that boot drops. -/

theorem dropTrial_idle {s : Dev} {k : ℕ} (h : (fwSlot s k).state ≠ 4) : dropTrial s k = s := if_neg h

theorem bootSelect_active {s : Dev} (h : Boots s) (t : ℕ) {k : ℕ} {good : List Bool} (hk : k < 2) (hs : getF s F.RST_STRAP_BOOT_SRC 0 < 2)
    (h5 : (fwSlot s k).state = 5) (h1 : (fwSlot s (1 - k)).state < 2) (hv : s.sec.svn ≤ (fwSlot s k).img.secVer)
    (hg : ∀ c < 2, good.getD (2 * c + k) false = true) (hc : ∃ c < 2, flsWritten s c = true) :
    devState (bootSelect s t good) = dvLoading ∧ getF (bootSelect s t good) F.SEC_FW_STAT_RUNNING 0 = k ∧
      (bootSelect s t good).sec.run = (fwSlot s k).img := by
  have h4 (q : ℕ) (hq : q < 2) : (fwSlot (s.at t) q).state ≠ 4 := by
    change (fwSlot s q).state ≠ 4
    obtain rfl | rfl : q = k ∨ q = 1 - k := by omega
    · omega
    · omega
  rw [bootSelect_eq h, dropTrial_idle (h4 0 (by decide)), dropTrial_idle (h4 1 (by decide))]
  have hw : Within bootFoot (s.at t) (bootStaged (syncKeys (s.at t))) := by
    unfold bootStaged syncKeys
    simp (decide := true)
  have hslot (q : ℕ) : fwSlot (bootStaged (syncKeys (s.at t))) q = fwSlot s q := rfl
  have hsvn : (bootStaged (syncKeys (s.at t))).sec.svn = s.sec.svn := rfl
  generalize bootStaged (syncKeys (s.at t)) = u at hw hslot hsvn
  have hu : getF u F.RST_STRAP_BOOT_SRC 0 < 2 := by
    rw [hw.fld _ _ (by decide)]
    exact hs
  have hcu : ∃ c < 2, flsWritten u c = true := by
    obtain ⟨c, hlt, hwr⟩ := hc
    refine ⟨c, hlt, ?_⟩
    unfold flsWritten flsState at hwr ⊢
    rw [hw.fld _ _ (by decide)]
    exact hwr
  have he : bootChoose u good = chooseSlot u good := by
    have h2 : ¬ getF u F.RST_STRAP_BOOT_SRC 0 = 2 := by omega
    have h3 : decide (getF u F.RST_STRAP_BOOT_SRC 0 = 3) = false := decide_eq_false (by omega)
    unfold bootChoose
    simp only [if_neg h2, h3, Bool.false_and, Bool.false_eq_true, if_false]
  rw [he, chooseSlot_active hk (by rw [hslot]; exact h5) (by rw [hslot]; exact h1) (by rw [hslot, hsvn]; exact hv) hg hcu, ← hslot]
  exact bootSlot_runs u hk

/-! What follows: a trial's window opens after a takeover, and the planes train once the image loads. -/

theorem takeover_ends {s : Dev} {t : ℕ} (ho : s.jrn.outage = true) (hd : s.jrn.draining = none) (h3 : 3 ≤ devState s)
    (h5 : devState s ≤ 5) (hp : s.rst.phase = 2) (ha : activePp s < 2) :
    (takeover s t).jrn.outage = false ∧ (takeover s t).jrn.outageEnd = t ∧ (takeover s t).jrn.lastCkpt = t ∧
      getF (takeover s t) F.JRN_STAT_REPLAY 0 = 0 ∧ getF (takeover s t) F.BELAY_STAT_MISSES 0 = 0 ∧
      (ppState s (1 - activePp s) = 2 → ppState (takeover s t) (1 - activePp s) = 3) ∧
      (ppState s (activePp s) = 2 → ppState (takeover s t) (activePp s) = 0) := by
  have h := takeoverComplete_ends (t := t) ho hd h3 h5 hp ha
  have hw : Within afterFoot (takeoverComplete s t) (takeover s t) := (within_after_trial _ _ (by decide)).mpr (.refl _ _)
  rw [hw.jrn (by decide), hw.fld _ _ (by decide), hw.fld _ _ (by decide), ppState_of_within hw (by decide) (by decide),
    ppState_of_within hw (by decide) (by decide)]
  exact h

/-- What the start of a plane's training changes. -/
def planeTrainFoot : Foot :=
  { flds := [F.HBM_STAT_STATE, F.PLN_STATE_STATE, F.SYS_STATE_DEGRADED, F.HIF_EVT_STAT_PROD, F.HIF_EVT_STAT_LOST], parts := [.planes, .host, .out] }

theorem within_train_trainPlane (d s : Dev) (p : ℕ) (h : planeTrainFoot.le W = true) : Within W d (trainPlane s p) ↔ Within W d s := by
  refine Within.skip (V := planeTrainFoot) ?_ h
  unfold trainPlane setPlane syncDegraded
  simp (decide := true) [↓within_ite]

theorem within_bootDevice_select (s : Dev) (t : ℕ) (good : List Bool) : Within planeTrainFoot (bootSelect s t good) (bootDevice s t good) := by
  unfold bootDevice
  simp (decide := true) [↓within_ite, within_train_trainPlane]

theorem bootDevice_strap {s : Dev} (h : Boots s) (t : ℕ) (good : List Bool) (hs : getF s F.RST_STRAP_BOOT_SRC 0 = 2) :
    devState (bootDevice s t good) = dvCamp ∧ getF (bootDevice s t good) F.SEC_FW_STAT_BASECAMP 0 = 3 := by
  have hw := within_bootDevice_select s t good
  obtain ⟨h1, h2⟩ := bootSelect_strap h t good hs
  exact ⟨(hw.fld _ _ (by decide)).trans h1, (hw.fld _ _ (by decide)).trans h2⟩

theorem bootDevice_active {s : Dev} (h : Boots s) (t : ℕ) {k : ℕ} {good : List Bool} (hk : k < 2) (hs : getF s F.RST_STRAP_BOOT_SRC 0 < 2)
    (h5 : (fwSlot s k).state = 5) (h1 : (fwSlot s (1 - k)).state < 2) (hv : s.sec.svn ≤ (fwSlot s k).img.secVer)
    (hg : ∀ c < 2, good.getD (2 * c + k) false = true) (hc : ∃ c < 2, flsWritten s c = true) :
    devState (bootDevice s t good) = dvLoading ∧ getF (bootDevice s t good) F.SEC_FW_STAT_RUNNING 0 = k ∧
      (bootDevice s t good).sec.run = (fwSlot s k).img := by
  have hw := within_bootDevice_select s t good
  obtain ⟨hd, hr, hrun⟩ := bootSelect_active h t hk hs h5 h1 hv hg hc
  have hsec := hw.part .secRest (by decide)
  exact ⟨(hw.fld _ _ (by decide)).trans hd, (hw.fld _ _ (by decide)).trans hr, (congrArg SecSt.run hsec).trans hrun⟩

/-- Settles O43, command by command: each comes to a state built by the functions above, whose last writes show the outcome. -/
theorem controlComesBack : Obligations.ControlComesBack := by
  intro s t
  refine ⟨fun ho hd h3 h5 hp ha => gives_of rfl (takeover_ends ho hd h3 h5 hp ha), fun hd hr =>
    ⟨fun hc hp => gives_of rfl (replayDone_alone hd hr hc hp), fun hc => gives_of rfl (replayDone_cold hd hr hc)⟩,
    fun ok0 ok1 jsn a j h hd hj hu hf => gives_of rfl (bivouac_done h hd hj hu hf), fun hb good =>
    ⟨fun hs => gives_of rfl (bootDevice_strap hb t good hs), fun k hs h5 h1 hv hg hc => gives_of rfl (bootDevice_active hb t k.isLt hs h5 h1 hv hg hc)⟩⟩

end Sys2Proof.Machine
end

section
/-! Pair: the roles, and what the peer's messages do (R371 to R376). -/

namespace Sys2Proof.Machine

open Sys2Proof.Claims

variable {W : Foot}

/-! Roles. -/

/-- The record of a new role: its event and the peer's copy. -/
def roleNoteFoot : Foot := { evtFoot with flds := F.JRN_STAT_PEER :: evtFoot.flds }

theorem within_setRole_note (s : Dev) (v cause jsn : ℕ) : Within roleNoteFoot (setF s F.PAIR_STAT_ROLE 0 v) (setRole s v cause jsn) := by
  unfold setRole syncPeerCopy
  simp (decide := true)

theorem role_setRole (s : Dev) {v : ℕ} (hv : v < 8) (cause jsn : ℕ) : role (setRole s v cause jsn) = v := by
  have h := (within_setRole_note s v cause jsn).fld F.PAIR_STAT_ROLE 0 (by decide)
  rw [getF_setF_same] at h
  exact h.trans (Nat.mod_eq_of_lt hv)

theorem getF_setRole (s : Dev) (v cause jsn : ℕ) (f : Fld) (i : ℕ) (hf : roleFoot.hits (f.code % 262144) = false) :
    getF (setRole s v cause jsn) f i = getF s f i := (within_setRole_role s v cause jsn).fld f i hf

theorem peerUp_setRole (s : Dev) (v cause jsn : ℕ) : peerUp (setRole s v cause jsn) = peerUp s := by
  unfold peerUp
  rw [getF_setRole _ _ _ _ _ _ (by decide)]

theorem jrn_setRole (s : Dev) (v cause jsn : ℕ) : (setRole s v cause jsn).jrn = s.jrn := (within_setRole_role s v cause jsn).jrn (by decide)

theorem ctl_setRole (s : Dev) (v cause jsn : ℕ) : (setRole s v cause jsn).ctl = s.ctl := by
  unfold setRole syncPeerCopy
  rw [raise_ctl]
  rfl

/-! The taking of the active role, and the giving up of it. -/

/-- The epoch above both devices', the outage begun, before the role is set. -/
def takeHead (s : Dev) : Dev :=
  let s := modCtl s fun c => { c with epoch := (max c.epoch s.jrn.peerEpoch + 1) % 2 ^ 32 }
  let s := journal (setF s F.BELAY_EPOCH_EPOCH 0 s.ctl.epoch) 64
  { s with jrn := { s.jrn with outage := true } }

/-- What follows a role taken: the collector's mode, the lag and the event. -/
def takeEnd (s : Dev) : Dev :=
  let s := historyWindow s
  raise (setF s F.PAIR_LAG_LAG 0 0) 0x0E 31 0 (failoverDetail (getF s F.BELAY_STAT_ACTIVE_PP 0) 6 1 s.ctl.epoch)

theorem takeRole_eq (s : Dev) (cause : ℕ) : takeRole s cause = takeEnd (setRole (takeHead s) (if peerUp (takeHead s) then 1 else 3) cause) := by
  unfold takeRole takeHead takeEnd
  dsimp only

def takeTailFoot : Foot :=
  { flds := [F.PAIR_LAG_LAG, F.FLT_MODE_MODE, F.FLT_MODE_WINDOW_S, F.HIF_EVT_STAT_PROD, F.HIF_EVT_STAT_LOST], parts := [.out, .host, .flt] }

theorem within_takeRole_tail (s : Dev) (cause : ℕ) :
    Within takeTailFoot (setRole (takeHead s) (if peerUp (takeHead s) then 1 else 3) cause) (takeRole s cause) := by
  rw [takeRole_eq]
  generalize setRole (takeHead s) (if peerUp (takeHead s) then 1 else 3) cause = u
  unfold takeEnd historyWindow
  simp (decide := true)

def takeHeadFoot : Foot := { flds := F.BELAY_EPOCH_EPOCH :: jrnFoot.flds, parts := [.jrn, .epoch] }

theorem within_takeHead (s : Dev) : Within takeHeadFoot s (takeHead s) := by
  unfold takeHead
  simp (decide := true)

theorem peerUp_of_within {s u : Dev} (h : Within W s u) (hW : W.hits (F.PAIR_STAT_PEER_UP.code % 262144) = false) : peerUp u = peerUp s := by
  unfold peerUp
  rw [h.fld _ _ hW]

theorem role_takeRole (s : Dev) (cause : ℕ) : role (takeRole s cause) = if peerUp s then 1 else 3 := by
  have h := (within_takeRole_tail s cause).fld F.PAIR_STAT_ROLE 0 (by decide)
  refine h.trans ((role_setRole _ (by split <;> decide) _ _).trans ?_)
  rw [peerUp_of_within (within_takeHead s) (by decide)]

theorem outage_takeRole (s : Dev) (cause : ℕ) : (takeRole s cause).jrn.outage = true := by
  rw [(within_takeRole_tail s cause).jrn (by decide), jrn_setRole]
  rfl

theorem epoch_takeRole (s : Dev) (cause : ℕ) : (takeRole s cause).ctl.epoch = (max s.ctl.epoch s.jrn.peerEpoch + 1) % 2 ^ 32 := by
  rw [(within_takeRole_tail s cause).epoch (by decide), ctl_setRole]
  unfold takeHead
  simp only [ctl_journal, setF_ctl]
  rfl

/-- A field that the taking of the role leaves. -/
theorem getF_takeRole (s : Dev) (cause : ℕ) (f : Fld) (i : ℕ) (ht : takeTailFoot.hits (f.code % 262144) = false)
    (hr : roleFoot.hits (f.code % 262144) = false) (hh : takeHeadFoot.hits (f.code % 262144) = false) : getF (takeRole s cause) f i = getF s f i := by
  rw [(within_takeRole_tail s cause).fld f i ht, getF_setRole _ _ _ _ _ _ hr, (within_takeHead s).fld f i hh]

/-! Each side's choice. -/

theorem evalRole_takes {s : Dev} (hp : s.ctl.pair = true) (hr : role s = 2 ∨ role s = 4) (hs : getF s F.PAIR_STAT_ACTIVE_SEL 0 = 1)
    (hn : s.jrn.peerSel = false) : evalRole s = takeRole s 1 := by
  unfold evalRole
  obtain h | h := hr
  all_goals simp [hp, h, hs, hn]

theorem evalRole_gives {s : Dev} (hp : s.ctl.pair = true) (hr : role s = 1) (hs : getF s F.PAIR_STAT_ACTIVE_SEL 0 = 0)
    (hn : s.jrn.peerSel = true) (hu : peerUp s = true) : evalRole s = giveRole s 1 := by
  unfold evalRole
  simp [hp, hr, hs, hn, hu]

/-- A standby that is not selected, with no peer selected either, stays. -/
theorem evalRole_stays {s : Dev} (hs : getF s F.PAIR_STAT_ACTIVE_SEL 0 = 0) (hn : (s.jrn.peerSel && peerUp s) = false) : evalRole s = s := by
  unfold evalRole
  simp only [hs, hn]
  split <;> rfl

/-- An active device with no other one selected stays. -/
theorem evalRole_active {s : Dev} (hr : role s = 1) (hn : s.jrn.peerSel = false) : evalRole s = s := by
  unfold evalRole
  simp [hr, hn]

/-! ACTIVE_SEL, the loss of the peer and its return. -/

/-- The selection as the device sees it. -/
def selected (s : Dev) (t : ℕ) (own peer : Bool) : Dev :=
  { setF (s.at t) F.PAIR_STAT_ACTIVE_SEL 0 (b2n own) with jrn := { s.jrn with peerSel := peer } }

theorem activeSelChange_eq (s : Dev) (t : ℕ) (own peer : Bool) : activeSelChange s t own peer = evalRole (selected s t own peer) := rfl

theorem within_selected (s : Dev) (t : ℕ) (own peer : Bool) :
    Within { flds := [F.PAIR_STAT_ACTIVE_SEL], parts := [.now, .jrn] } s (selected s t own peer) := by
  unfold selected
  rw [within_setJrn _ _ _ (by decide)]
  simp (decide := true)

theorem sel_selected (s : Dev) (t : ℕ) (own peer : Bool) : getF (selected s t own peer) F.PAIR_STAT_ACTIVE_SEL 0 = b2n own := by
  refine (getF_setF_same _ _ _ _).trans ?_
  cases own <;> rfl

theorem activeSelChange_takes {s : Dev} {t : ℕ} (hp : s.ctl.pair = true) (hr : role s = 2 ∨ role s = 4) :
    role (activeSelChange s t true false) = (if peerUp s then 1 else 3) ∧
      (activeSelChange s t true false).ctl.epoch = (max s.ctl.epoch s.jrn.peerEpoch + 1) % 2 ^ 32 ∧
      (activeSelChange s t true false).jrn.outage = true ∧ getF (activeSelChange s t true false) F.PAIR_STAT_ACTIVE_SEL 0 = 1 := by
  have hw := within_selected s t true false
  have hsel := sel_selected s t true false
  have hrole : role (selected s t true false) = role s := hw.fld _ _ (by decide)
  have he : activeSelChange s t true false = takeRole (selected s t true false) 1 := evalRole_takes hp (hrole ▸ hr) hsel rfl
  rw [he, role_takeRole, outage_takeRole, epoch_takeRole, peerUp_of_within hw (by decide), getF_takeRole _ _ _ _ (by decide) (by decide) (by decide)]
  exact ⟨rfl, rfl, rfl, hsel⟩

theorem activeSelChange_gives {s : Dev} {t : ℕ} (hp : s.ctl.pair = true) (hr : role s = 1) (hu : peerUp s = true) :
    role (activeSelChange s t false true) = 2 ∧ (activeSelChange s t false true).jrn.outage = false ∧
      getF (activeSelChange s t false true) F.PAIR_STAT_ACTIVE_SEL 0 = 0 := by
  have hw := within_selected s t false true
  have hsel := sel_selected s t false true
  have hrole : role (selected s t false true) = 1 := (hw.fld _ _ (by decide)).trans hr
  have he : activeSelChange s t false true = giveRole (selected s t false true) 1 :=
    evalRole_gives hp hrole hsel rfl ((peerUp_of_within hw (by decide)).trans hu)
  rw [he]
  unfold giveRole
  refine ⟨role_setRole _ (by decide) _ _, ?_, ?_⟩
  · rw [jrn_setRole]
  · rw [getF_setRole _ _ _ _ _ _ (by decide)]
    exact hsel

/-- The device without its peer. -/
def unpeered (s : Dev) (t : ℕ) : Dev := { setF (s.at t) F.PAIR_STAT_PEER_UP 0 0 with jrn := { s.jrn with peerLostAt := some t } }

theorem peerUp_unpeered (s : Dev) (t : ℕ) : peerUp (unpeered s t) = false := by
  have h : getF (unpeered s t) F.PAIR_STAT_PEER_UP 0 = 0 := getF_setF_same (s.at t) F.PAIR_STAT_PEER_UP 0 0
  unfold peerUp
  rw [h]
  rfl

theorem role_unpeered (s : Dev) (t : ℕ) : role (unpeered s t) = role s :=
  getF_setF_code (s.at t) F.PAIR_STAT_ROLE F.PAIR_STAT_PEER_UP 0 0 0 (by decide)

theorem peerLost_eq {s : Dev} (t : ℕ) (hp : s.ctl.pair = true) :
    peerLost s t = match role (unpeered s t) with
      | 1 => setRole (unpeered s t) 3 2
      | 2 => evalRole (setRole (unpeered s t) 4 2)
      | _ => syncPeerCopy (unpeered s t) := by
  have h : ¬ (!(unpeered s t).ctl.pair) = true := by
    change ¬ (!s.ctl.pair) = true
    rw [hp]
    decide
  exact if_neg h

theorem peerLost_active {s : Dev} {t : ℕ} (hp : s.ctl.pair = true) (hr : role s = 1) :
    role (peerLost s t) = 3 ∧ peerUp (peerLost s t) = false ∧ (peerLost s t).jrn.peerLostAt = some t := by
  have he : peerLost s t = setRole (unpeered s t) 3 2 := by
    rw [peerLost_eq t hp, role_unpeered, hr]
    rfl
  rw [he, peerUp_setRole, jrn_setRole]
  exact ⟨role_setRole _ (by decide) _ _, peerUp_unpeered s t, rfl⟩

theorem peerLost_standby {s : Dev} {t : ℕ} (hp : s.ctl.pair = true) (hr : role s = 2) (hs : getF s F.PAIR_STAT_ACTIVE_SEL 0 = 0) :
    role (peerLost s t) = 4 ∧ peerUp (peerLost s t) = false := by
  have hu : peerUp (setRole (unpeered s t) 4 2) = false := by rw [peerUp_setRole, peerUp_unpeered]
  have hsel : getF (setRole (unpeered s t) 4 2) F.PAIR_STAT_ACTIVE_SEL 0 = 0 := by
    rw [getF_setRole _ _ _ _ _ _ (by decide)]
    exact (getF_setF_code (s.at t) F.PAIR_STAT_ACTIVE_SEL F.PAIR_STAT_PEER_UP 0 0 0 (by decide)).trans hs
  have he : peerLost s t = setRole (unpeered s t) 4 2 := by
    rw [peerLost_eq t hp, role_unpeered, hr]
    exact evalRole_stays hsel (by rw [hu, Bool.and_false])
  rw [he]
  exact ⟨role_setRole _ (by decide) _ _, hu⟩

/-- The device with its peer back. -/
def repeered (s : Dev) (t : ℕ) : Dev := { setF (s.at t) F.PAIR_STAT_PEER_UP 0 1 with jrn := { s.jrn with peerLostAt := none } }

theorem peerUp_repeered (s : Dev) (t : ℕ) : peerUp (repeered s t) = true := by
  have h : getF (repeered s t) F.PAIR_STAT_PEER_UP 0 = 1 := getF_setF_same (s.at t) F.PAIR_STAT_PEER_UP 0 1
  unfold peerUp
  rw [h]
  rfl

theorem role_repeered (s : Dev) (t : ℕ) : role (repeered s t) = role s :=
  getF_setF_code (s.at t) F.PAIR_STAT_ROLE F.PAIR_STAT_PEER_UP 0 0 1 (by decide)

theorem peerLinkReturn_eq {s : Dev} (t : ℕ) (act : Bool) (hp : s.ctl.pair = true) :
    peerLinkReturn s t act = match role (repeered s t) with
      | 3 => evalRole (setRole (repeered s t) 1 3)
      | 4 => if act then setRole (repeered s t) 5 3 else evalRole (setRole (repeered s t) 2 3)
      | _ => syncPeerCopy (repeered s t) := by
  have h : ¬ (!(repeered s t).ctl.pair) = true := by
    change ¬ (!s.ctl.pair) = true
    rw [hp]
    decide
  exact if_neg h

theorem peerLinkReturn_alone {s : Dev} {t : ℕ} (act : Bool) (hp : s.ctl.pair = true) (hr : role s = 3) (hn : s.jrn.peerSel = false) :
    role (peerLinkReturn s t act) = 1 ∧ peerUp (peerLinkReturn s t act) = true ∧ (peerLinkReturn s t act).jrn.peerLostAt = none := by
  have hrole : role (setRole (repeered s t) 1 3) = 1 := role_setRole _ (by decide) _ _
  have he : peerLinkReturn s t act = setRole (repeered s t) 1 3 := by
    rw [peerLinkReturn_eq t act hp, role_repeered, hr]
    refine evalRole_active hrole ?_
    rw [jrn_setRole]
    exact hn
  rw [he, peerUp_setRole, jrn_setRole]
  exact ⟨hrole, peerUp_repeered s t, rfl⟩

theorem peerLinkReturn_joins {s : Dev} {t : ℕ} (hp : s.ctl.pair = true) (hr : role s = 4) :
    role (peerLinkReturn s t true) = 5 ∧ peerUp (peerLinkReturn s t true) = true := by
  have he : peerLinkReturn s t true = setRole (repeered s t) 5 3 := by
    rw [peerLinkReturn_eq t true hp, role_repeered, hr]
    rfl
  rw [he, peerUp_setRole]
  exact ⟨role_setRole _ (by decide) _ _, peerUp_repeered s t⟩

theorem joinPeerTimeout_takes {s : Dev} {t a : ℕ} (hr : role s = 5) (hl : s.jrn.peerLostAt = some a)
    (hs : getF s F.PAIR_STAT_ACTIVE_SEL 0 = 1) (ht : a + tickSec ≤ t) :
    role (joinPeerTimeout s t) = (if peerUp s then 1 else 3) ∧ (joinPeerTimeout s t).jrn.outage = true := by
  have he : joinPeerTimeout s t = if devState (takeRole (s.at t) 2) = dvLoading then setDev (takeRole (s.at t) 2) dvSyncing else takeRole (s.at t) 2 := by
    have h1 : (s.at t).jrn.peerLostAt = some a := hl
    have h2 : role (s.at t) = 5 ∧ getF (s.at t) F.PAIR_STAT_ACTIVE_SEL 0 = 1 ∧ a + tickSec ≤ t := ⟨hr, hs, ht⟩
    unfold joinPeerTimeout
    simp only [h1, if_pos h2]
  have hw : Within serviceFoot (takeRole (s.at t) 2) (joinPeerTimeout s t) := by
    rw [he]
    simp (decide := true) [↓within_ite, within_service_setDev]
  rw [hw.jrn (by decide), outage_takeRole]
  exact ⟨(hw.fld _ _ (by decide)).trans (role_takeRole _ _), rfl⟩

theorem belayOutToggle_toggles {s : Dev} {t : ℕ} (hp : s.ctl.pair = true) (hd : devState s = dvService) (ha : ppState s (activePp s) = 0)
    (hm : getF s F.BELAY_STAT_MISSES 0 = 0) (hf : fatalLatched s = false) (ht : s.jrn.belayAt + 51300000 ≤ t) :
    (belayOutToggle s t).out = .pin 184 (b2n (!s.jrn.belayPin)) :: s.out ∧ (belayOutToggle s t).jrn.belayPin = !s.jrn.belayPin := by
  have he : belayOutToggle s t =
      emit { s.at t with jrn := { s.jrn with belayPin := !s.jrn.belayPin, belayAt := t } } (.pin 184 (b2n (!s.jrn.belayPin))) := by
    have hg : (s.ctl.pair && devState s == dvService && ppState s (activePp s) == 0 && getF s F.BELAY_STAT_MISSES 0 == 0 && !fatalLatched s &&
        decide (s.jrn.belayAt + 51300000 ≤ t)) = true := by
      simp [hp, hd, ha, hm, hf, ht]
    exact if_pos hg
  rw [he]
  exact ⟨rfl, rfl⟩

/-! The end of the resynchronisation. -/

/-- The peer's control state taken over, before the checkpoint. -/
def adoptedPeer (s : Dev) (t : ℕ) (image : Ctl) (head : ℕ) : Dev :=
  let served := s.ctl.served
  let s := { s with ctl := { adoptCtl image with served := served } }
  let s := setFs s 0 [(F.JRN_HEAD_HEAD_JSN, head), (F.BELAY_EPOCH_EPOCH, s.ctl.epoch), (F.JRN_STAT_REPLAY, 0), (F.PAIR_LAG_LAG, 0)]
  { s with jrn := { s.jrn with outage := false, outageEnd := t, cold := false } }

/-- The device a standby: its checkpoint written, its role set, out of LOADING. -/
def resynced (s : Dev) : Dev :=
  let s := writeCheckpoint ([0, 1].foldl (fun s p => setPlaneSt s p { planeOf s p with routesLoaded := true }) s)
  let s := setRole s 2 4
  if devState s = dvLoading then setDev s dvSyncing else s

theorem pairResyncDone_eq {s : Dev} {t : ℕ} {image : Ctl} {head : ℕ} (hr : role s = 5) (hu : peerUp s = true)
    (hp : (resynced (adoptedPeer (s.at t) t image head)).ctl.pend.find? (fun x => x.op == 0x71 &&
      decide (x.frame ≤ hfn (resynced (adoptedPeer (s.at t) t image head)))) = none) :
    pairResyncDone s t image head = resynced (adoptedPeer (s.at t) t image head) := by
  have hc : ¬ (role (s.at t) ≠ 5 ∨ (!peerUp (s.at t)) = true) := by
    change ¬ (role s ≠ 5 ∨ (!peerUp s) = true)
    rw [hr, hu]
    decide
  unfold resynced adoptedPeer at hp ⊢
  unfold pairResyncDone
  dsimp only at hp ⊢
  rw [if_neg hc, hp]

/-- What the checkpoint and the role change beside the role. -/
def resyncFoot : Foot :=
  { flds := ckptFoot.flds ++ serviceFoot.flds ++ [F.JRN_STAT_PEER], parts := .planes :: .jrn :: serviceFoot.parts }

theorem within_resync_writeCheckpoint (d s : Dev) (h : resyncFoot.le W = true) : Within W d (writeCheckpoint s) ↔ Within W d s :=
  Within.skip ((within_ckptFoot_writeCheckpoint s).mono (by decide)) h

theorem within_resynced (s : Dev) : Within { resyncFoot with flds := F.PAIR_STAT_ROLE :: resyncFoot.flds } s (resynced s) := by
  have hset (u : Dev) : Within { resyncFoot with flds := F.PAIR_STAT_ROLE :: resyncFoot.flds } s (setRole u 2 4) ↔
      Within { resyncFoot with flds := F.PAIR_STAT_ROLE :: resyncFoot.flds } s u := Within.skip (within_setRole_role u 2 4 0) (by decide)
  unfold resynced
  simp (decide := true) [↓within_ite, hset, within_service_setDev, within_resync_writeCheckpoint]

theorem role_resynced (s : Dev) : role (resynced s) = 2 := by
  unfold resynced
  dsimp only
  split
  · exact (((within_service_setDev _ _ _ (W := serviceFoot) (by decide)).mpr (.refl _ _)).fld _ _ (by decide)).trans (role_setRole _ (by decide) _ _)
  · exact role_setRole _ (by decide) _ _

theorem outage_resynced (s : Dev) : (resynced s).jrn.outage = s.jrn.outage := by
  unfold resynced
  dsimp only
  split
  · rw [((within_service_setDev _ _ _ (W := serviceFoot) (by decide)).mpr (.refl _ _)).jrn (by decide), jrn_setRole, jrn_writeCheckpoint]
    rfl
  · rw [jrn_setRole, jrn_writeCheckpoint]
    rfl

/-- What the loading of the tables and the entry to SERVICE change. -/
def joinFoot : Foot := { flds := ctlLoadFoot.flds ++ serviceFoot.flds, blks := ctlLoadFoot.blks, parts := ctlLoadFoot.parts ++ serviceFoot.parts }

theorem within_join (s : Dev) : Within joinFoot s (enterService (loadAll (loadSched s))) := by
  unfold loadSched
  simp (decide := true) [within_service_enterService, within_load_loadAll]

theorem pairJoin_joins {s : Dev} {t : ℕ} {image : Ctl} {head : ℕ} (hr : role s = 5) (hu : peerUp s = true)
    (hp : ∀ x ∈ image.pend, x.op ≠ 0x71) :
    role (pairJoin s t image head) = 2 ∧ (pairJoin s t image head).ctl.epoch = image.epoch ∧ (pairJoin s t image head).jrn.outage = false ∧
      getF (pairJoin s t image head) F.JRN_HEAD_HEAD_JSN 0 = head % 2 ^ F.JRN_HEAD_HEAD_JSN.width := by
  have hw := within_resynced (adoptedPeer (s.at t) t image head)
  have hpend : (resynced (adoptedPeer (s.at t) t image head)).ctl.pend = image.pend := hw.part .pend (by decide)
  have he : pairJoin s t image head = enterService (loadAll (loadSched (resynced (adoptedPeer (s.at t) t image head)))) := by
    have hj : (role s == 5 && peerUp s) = true := by
      rw [hr, hu]
      rfl
    have hn : pairResyncDone s t image head = resynced (adoptedPeer (s.at t) t image head) := by
      refine pairResyncDone_eq hr hu (List.find?_eq_none.mpr fun x hx => ?_)
      rw [hpend] at hx
      simp [hp x hx]
    unfold pairJoin
    simp only [hj, hn, if_true]
  have hk := within_join (resynced (adoptedPeer (s.at t) t image head))
  rw [← he] at hk
  refine ⟨(hk.fld _ _ (by decide)).trans (role_resynced _), (hk.epoch (by decide)).trans (hw.epoch (by decide)), ?_, ?_⟩
  · rw [hk.jrn (by decide), outage_resynced]
    rfl
  · rw [hk.fld _ _ (by decide), hw.fld _ _ (by decide)]
    have h (u : Dev) (e l r : ℕ) : getF (setF (setF (setF (setF u F.JRN_HEAD_HEAD_JSN 0 head) F.BELAY_EPOCH_EPOCH 0 e) F.JRN_STAT_REPLAY 0 r) F.PAIR_LAG_LAG 0 l)
        F.JRN_HEAD_HEAD_JSN 0 = head % 2 ^ F.JRN_HEAD_HEAD_JSN.width := by
      rw [getF_setF_code _ _ _ _ _ _ (by decide), getF_setF_code _ _ _ _ _ _ (by decide), getF_setF_code _ _ _ _ _ _ (by decide), getF_setF_same]
    exact h { s.at t with ctl := { adoptCtl image with served := s.ctl.served } } image.epoch 0 0

/-! The peer's messages. -/

theorem peerRecord_eq {s : Dev} (hp : s.ctl.pair = true) (hu : peerUp s = true) : ((!(s.ctl.pair)) || !peerUp s) = false := by
  rw [hp, hu]
  rfl

theorem peerRecord_heartbeat {s : Dev} {t : ℕ} (hp : s.ctl.pair = true) (hu : peerUp s = true) (epoch head : ℕ) :
    (peerRecord s t (.heartbeat epoch head)).jrn.peerEpoch = epoch := by
  have hg : ¬ ((!(s.at t).ctl.pair) || !peerUp (s.at t)) = true := fun h => Bool.false_ne_true ((peerRecord_eq hp hu).symm.trans h)
  unfold peerRecord
  simp only [if_neg hg]
  rfl

theorem peerRecord_forward {s : Dev} {t h r : ℕ} {b buf : Bytes} (hp : s.ctl.pair = true) (hu : peerUp s = true) (hr : role s = 1)
    (ho : s.jrn.outage = false) (hl : mget 0 s.ctl.lastId (16 * (2 + h % 2) + r) < dCmdId b) :
    (peerRecord s t (.forward h r b buf)).ctl.recs =
        s.ctl.recs ++ [mkRec (getF s F.JRN_HEAD_HEAD_JSN 0 + 1) (2 + h % 2) r b buf] ∧
      mget 0 (peerRecord s t (.forward h r b buf)).ctl.lastId (16 * (2 + h % 2) + r) = dCmdId b ∧
      getF (peerRecord s t (.forward h r b buf)) F.JRN_HEAD_HEAD_JSN 0 = (getF s F.JRN_HEAD_HEAD_JSN 0 + 1) % 2 ^ F.JRN_HEAD_HEAD_JSN.width := by
  have hg : ¬ ((!(s.at t).ctl.pair) || !peerUp (s.at t)) = true := fun k => Bool.false_ne_true ((peerRecord_eq hp hu).symm.trans k)
  have he : peerRecord s t (.forward h r b buf) = takeForward (s.at t) h r b buf := by
    unfold peerRecord
    simp only [if_neg hg]
  have hc : ¬ (role (s.at t) ≠ 1 ∨ (s.at t).jrn.outage = true ∨ dCmdId b ≤ mget 0 (s.at t).ctl.lastId (16 * (2 + h % 2) + r)) := by
    rintro (k | k | k)
    · exact k hr
    · exact Bool.false_ne_true (ho.symm.trans k)
    · exact Nat.not_le.mpr hl k
  have hf : takeForward (s.at t) h r b buf =
      emit (modCtl (journal (nextJsn (s.at t)).2 (recBytes b)) fun c =>
        { c with recs := c.recs ++ [mkRec (getF s F.JRN_HEAD_HEAD_JSN 0 + 1) (2 + h % 2) r b buf],
                 lastId := mset 0 c.lastId (16 * (2 + h % 2) + r) (dCmdId b) }) (.peer 2 (getF s F.JRN_HEAD_HEAD_JSN 0 + 1)) := if_neg hc
  have hctl : (journal (nextJsn (s.at t)).2 (recBytes b)).ctl = s.ctl := ctl_journal _ _
  rw [he, hf]
  refine ⟨?_, ?_, ?_⟩
  · exact congrArg (fun c : Ctl => c.recs ++ [mkRec (getF s F.JRN_HEAD_HEAD_JSN 0 + 1) (2 + h % 2) r b buf]) hctl
  · exact mget_mset_same _ _ _ _
  · exact (getF_journal _ _ _ _ (by decide)).trans (getF_setF_same _ _ _ _)

/-! The decision of the active device, as its follower records it. -/

/-- The follower's part of a decision that leaves the records: the firmware's slots, the ring's stop, the completion. -/
def decidedTail (s : Dev) (j : JRec) (d : Dec) : Dev :=
  let s := if d.status < 0x100 then followFw s j else s
  let k := 16 * j.hif + j.ring
  let s := if isBarrier j && decide (0x100 ≤ d.status) && mget 0 s.ctl.stop k == 0 then
      modCtl s fun c => { c with stop := mset 0 c.stop k 1 } else s
  if j.hif < 2 then queueCpls s j.hif j.ring [cplOf s j d] else s

/-- All but the records. -/
def noRecsFoot : Foot := { anyFoot with parts := allParts.erase .recs }

theorem within_noRecs_setSlot (d s : Dev) (k : ℕ) (x : FwSlot) (h : noRecsFoot.le W = true) : Within W d (setSlot s k x) ↔ Within W d s := by
  refine Within.skip (V := noRecsFoot) ?_ h
  unfold setSlot
  split <;> simp (decide := true)

theorem within_noRecs_stageHere (d s : Dev) (b : Bytes) (h : noRecsFoot.le W = true) : Within W d (stageHere s b) ↔ Within W d s := by
  refine Within.skip (V := noRecsFoot) ?_ h
  unfold stageHere
  simp (decide := true) [↓within_ite, within_noRecs_setSlot]

theorem within_noRecs_commitTrial (d s : Dev) (h : noRecsFoot.le W = true) : Within W d (commitTrial s) ↔ Within W d s := by
  refine Within.skip (V := noRecsFoot) ?_ h
  unfold commitTrial endUpdate syncKeys
  simp (decide := true) [within_noRecs_setSlot]

theorem within_noRecs_discardStage (d s : Dev) (h : noRecsFoot.le W = true) : Within W d (discardStage s) ↔ Within W d s := by
  refine Within.skip (V := noRecsFoot) ?_ h
  unfold discardStage endUpdate
  simp (decide := true) [↓within_ite, within_noRecs_setSlot]

theorem within_noRecs_dropSched (d s : Dev) (h : noRecsFoot.le W = true) : Within W d (dropSched s) ↔ Within W d s := by
  refine Within.skip (V := noRecsFoot) ?_ h
  unfold dropSched unpend
  split <;> simp (decide := true)

theorem within_noRecs_followFw (d s : Dev) (j : JRec) (h : noRecsFoot.le W = true) : Within W d (followFw s j) ↔ Within W d s := by
  refine Within.skip (V := noRecsFoot) ?_ h
  unfold followFw
  split
  · simp (decide := true) [↓within_ite, within_noRecs_stageHere]
  · simp (decide := true) [↓within_ite, raiseCommitted, within_noRecs_commitTrial]
  · split <;> simp (decide := true) [within_noRecs_discardStage, within_noRecs_dropSched]
  · exact .refl _ _

theorem recs_decidedTail (s : Dev) (j : JRec) (d : Dec) : (decidedTail s j d).ctl.recs = s.ctl.recs := by
  have h : Within noRecsFoot s (decidedTail s j d) := by
    unfold decidedTail
    simp (decide := true) [↓within_ite, within_noRecs_followFw]
  exact h.part .recs (by decide)

theorem peerRecord_decision {s : Dev} {t jsn : ℕ} {dec : Dec} {j : JRec} (hp : s.ctl.pair = true) (hu : peerUp s = true)
    (hf : isFollower s = true) (hj : recOf s jsn = some j) (hd : j.dec = none) :
    recOf (peerRecord s t (.decision jsn dec)) jsn = some { j with dec := some dec } := by
  have hg : ¬ ((!(s.at t).ctl.pair) || !peerUp (s.at t)) = true := fun k => Bool.false_ne_true ((peerRecord_eq hp hu).symm.trans k)
  have hj' : recOf (s.at t) jsn = some j := hj
  have hc : ¬ (j.dec.isSome || !isFollower (s.at t)) = true := by
    change ¬ (j.dec.isSome || !isFollower s) = true
    rw [hd, hf]
    decide
  have he : peerRecord s t (.decision jsn dec) =
      decidedTail (journal (modRec (s.at t) jsn fun r => { r with dec := some dec }) 64) j dec := by
    unfold peerRecord
    simp only [if_neg hg]
    unfold takeDecision decidedTail
    simp only [hj', if_neg hc]
  have hm := recOf_modRec (s.at t) jsn (fun r => { r with dec := some dec }) fun _ => rfl
  rw [he]
  unfold recOf at hm ⊢
  rw [recs_decidedTail, ctl_journal, hm]
  unfold recOf at hj
  exact congrArg (Option.map fun r : JRec => { r with dec := some dec }) hj

/-- Settles O44, command by command. -/
theorem pairFollowsItsPeer : Obligations.PairFollowsItsPeer := by
  refine ⟨fun s t hp => ⟨fun hd ha hm hf ht => gives_of rfl (belayOutToggle_toggles hp hd ha hm hf ht),
    fun hr => gives_of rfl (activeSelChange_takes hp hr), fun hr hu => gives_of rfl (activeSelChange_gives hp hr hu),
    fun hr => gives_of rfl (peerLost_active hp hr), fun hr hs => gives_of rfl (peerLost_standby hp hr hs),
    fun hr hn act => gives_of rfl (peerLinkReturn_alone act hp hr hn), fun hr => gives_of rfl (peerLinkReturn_joins hp hr),
    fun hr hu image head hi => gives_of rfl (pairJoin_joins hr hu hi), fun a hr hl hs ht => gives_of rfl (joinPeerTimeout_takes hr hl hs ht)⟩,
    fun s t hp hu => ⟨fun epoch head => gives_of rfl (peerRecord_heartbeat hp hu epoch head),
    fun h r b buf hr ho hl => gives_of rfl (peerRecord_forward hp hu hr ho hl),
    fun jsn dec j hf hj hd => gives_of rfl (peerRecord_decision hp hu hf hj hd)⟩⟩

end Sys2Proof.Machine
end

section
/-! The HBM stacks (R386 to R393): training, the eye tracker, refresh, promotion and ECC. -/

namespace Sys2Proof.Machine

open Sys2Proof.Claims

variable {W : Foot}

theorem hbmSt_setHbm_same (s : Dev) (p : ℕ) (x : HbmSt) : hbmSt (setHbm s p x) p = x := mget_mset_same _ _ _ _

theorem getF_setHbm (s : Dev) (p : ℕ) (x : HbmSt) (f : Fld) (i : ℕ) : getF (setHbm s p x) f i = getF s f i := rfl

/-! Training. -/

/-- The registers of a lane's training. -/
def laneTrainFoot : Foot := { flds := [F.HBM_TRAIN_RD_WIDTH, F.HBM_TRAIN_RD_CODE, F.HBM_TRAIN_WR_WIDTH, F.HBM_TRAIN_WR_CODE, F.HBM_EYE_RD_CODE] }

theorem within_lane_trainLane (d s : Dev) (p : ℕ) (o : EyeObs) (l : ℕ) (h : laneTrainFoot.le W = true) :
    Within W d (trainLane s p o l) ↔ Within W d s := by
  refine Within.skip (V := laneTrainFoot) ?_ h
  unfold trainLane
  simp (decide := true)

theorem code_trainLane (s : Dev) (p : ℕ) (o : EyeObs) (l k : ℕ) :
    getF (trainLane s p o l) F.HBM_EYE_RD_CODE (ix p k) =
      if k = l then eyeCentre o.rdStart o.rdLen % 2 ^ F.HBM_EYE_RD_CODE.width else getF s F.HBM_EYE_RD_CODE (ix p k) := by
  unfold trainLane setFs setFs setFs setFs setFs setFs
  split
  · next h =>
    rw [h, getF_setF_same]
  · next h =>
    rw [getF_setF_idx _ _ _ _ _ _ (by unfold ix; omega), getF_setF_code _ _ _ _ _ _ (by decide), getF_setF_code _ _ _ _ _ _ (by decide),
      getF_setF_code _ _ _ _ _ _ (by decide), getF_setF_code _ _ _ _ _ _ (by decide)]

/-- Every lane of a stack trained in turn. -/
def trainedLanes (s : Dev) (p : ℕ) (eyes : List EyeObs) (n : ℕ) : Dev := (List.range n).foldl (fun s l => trainLane s p (eyeOf eyes l) l) s

theorem code_trainedLanes (s : Dev) (p : ℕ) (eyes : List EyeObs) {n l : ℕ} (h : l < n) :
    getF (trainedLanes s p eyes n) F.HBM_EYE_RD_CODE (ix p l) =
      eyeCentre (eyeOf eyes l).rdStart (eyeOf eyes l).rdLen % 2 ^ F.HBM_EYE_RD_CODE.width := by
  induction n with
  | zero => exact absurd h (Nat.not_lt_zero _)
  | succ n ih =>
    have hs : trainedLanes s p eyes (n + 1) = trainLane (trainedLanes s p eyes n) p (eyeOf eyes n) n := by
      unfold trainedLanes
      rw [List.range_succ, List.foldl_append]
      rfl
    rw [hs, code_trainLane]
    split
    · next hl => rw [hl]
    · next hl => exact ih (by omega)

/-- The stack once its lanes are trained. -/
def stackTrained (s : Dev) (t p : ℕ) (eyes : List EyeObs) : Dev :=
  let s := trainedLanes (s.at t) p eyes 128
  let wr := (List.range 128).foldl (fun m l => mset 0 m l (eyeCentre (eyeOf eyes l).wrStart (eyeOf eyes l).wrLen)) []
  let s := setHbm s p { hbmSt s p with trainedAt := some t, limited := [], ues := [], wrBase := wr }
  setF s F.HBM_STAT_TRACK_LIMIT p 0

theorem code_stackTrained (s : Dev) (t p : ℕ) (eyes : List EyeObs) {l : ℕ} (hl : l < 128) :
    getF (stackTrained s t p eyes) F.HBM_EYE_RD_CODE (ix p l) =
      eyeCentre (eyeOf eyes l).rdStart (eyeOf eyes l).rdLen % 2 ^ F.HBM_EYE_RD_CODE.width := by
  have h := code_trainedLanes (s.at t) p eyes hl
  unfold stackTrained
  generalize trainedLanes (s.at t) p eyes 128 = u at h
  rw [getF_setF_code _ _ _ _ _ _ (by decide), getF_setHbm, h]

/-- The register that says whether stack `p` holds a copy of the journal. -/
def copyFld (p : ℕ) : Fld := if p = 0 then F.JRN_STAT_HBM0 else F.JRN_STAT_HBM1

/-- A stack READY. -/
def stackReady (s : Dev) (p : ℕ) : Dev :=
  let s := setFs s p [(F.HBM_STAT_STATE, 2), (F.HBM_STAT_FAIL_LANE, 0xFF)]
  let s := setF s (copyFld p) 0 1
  undegrade (setF s F.PLN_STATE_HBM_FAIL p 0) p

/-- A stack that failed at lane `l`. -/
def stackFailed (s : Dev) (p l : ℕ) : Dev :=
  let s := setF s (copyFld p) 0 0
  faultEvent (setFs s p [(F.HBM_STAT_STATE, 5), (F.HBM_STAT_FAIL_LANE, l)]) (16 + p) 0x07 l

/-- The first lane whose eye is too narrow. -/
def badLane (eyes : List EyeObs) : Option ℕ :=
  (List.range 128).find? fun l => decide ((eyeOf eyes l).rdLen < 16) || decide ((eyeOf eyes l).wrLen < 16)

theorem hbmTrainDone_eq {s : Dev} {t p : ℕ} (h : hbmState s p = 1) (eyes : List EyeObs) :
    hbmTrainDone s t p eyes = match badLane eyes with
      | none => stackReady (stackTrained s t p eyes) p
      | some l => stackFailed (stackTrained s t p eyes) p l := by
  have hc : ¬ hbmState (s.at t) p ≠ 1 := not_not.mpr h
  unfold hbmTrainDone stackReady stackFailed stackTrained trainedLanes badLane eyeOf copyFld
  exact if_neg hc

theorem eyeGood_iff (eyes : List EyeObs) (l : ℕ) :
    (decide ((eyeOf eyes l).rdLen < 16) || decide ((eyeOf eyes l).wrLen < 16)) = false ↔ eyeGood eyes l := by
  unfold eyeGood
  simp

theorem badLane_none {eyes : List EyeObs} (h : ∀ l < 128, eyeGood eyes l) : badLane eyes = none := by
  refine List.find?_eq_none.mpr fun l hl => ?_
  rw [(eyeGood_iff eyes l).mpr (h l (List.mem_range.mp hl))]
  decide

theorem badLane_some {eyes : List EyeObs} {l : ℕ} (hl : l < 128) (hb : ¬ eyeGood eyes l) (h : ∀ k < l, eyeGood eyes k) : badLane eyes = some l := by
  unfold badLane
  rw [List.find?_range_eq_some]
  refine ⟨?_, List.mem_range.mpr hl, fun k hk => ?_⟩
  · rw [← eyeGood_iff, Bool.not_eq_false] at hb
    exact hb
  · rw [(eyeGood_iff eyes k).mpr (h k hk)]
    rfl

/-- What a plane that is whole again changes. -/
def wholeFoot : Foot :=
  { flds := [F.PLN_STATE_STATE, F.HIF_EVT_STAT_PROD, F.HIF_EVT_STAT_LOST] ++ standFoot.flds, parts := [.planes, .host, .out] ++ standFoot.parts }

theorem within_whole_setPlane (d s : Dev) (p v cause jsn : ℕ) (h : wholeFoot.le W = true) : Within W d (setPlane s p v cause jsn) ↔ Within W d s := by
  refine Within.skip (V := wholeFoot) ?_ h
  unfold setPlane
  simp (decide := true) only [↓within_ite, within_stand_syncDegraded, within_raise, within_setPlaneSt, within_setF_skip, within_self, ite_self]

theorem within_whole_undegrade (d s : Dev) (p : ℕ) (h : wholeFoot.le W = true) : Within W d (undegrade s p) ↔ Within W d s := by
  refine Within.skip (V := wholeFoot) ?_ h
  unfold undegrade
  simp (decide := true) only [↓within_ite, within_whole_setPlane, within_self, ite_self]

theorem copyFld_eq (p : ℕ) : copyFld p = F.JRN_STAT_HBM0 ∨ copyFld p = F.JRN_STAT_HBM1 := by
  unfold copyFld
  split <;> simp

/-- The stack's registers, none of which says whether a stack is a copy of the journal, are as before that is noted. -/
theorem getF_setF_copyFld (s : Dev) (p v : ℕ) (f : Fld) (i : ℕ) (h0 : f.code % 262144 ≠ F.JRN_STAT_HBM0.code % 262144)
    (h1 : f.code % 262144 ≠ F.JRN_STAT_HBM1.code % 262144) : getF (setF s (copyFld p) 0 v) f i = getF s f i := by
  obtain h | h := copyFld_eq p <;> rw [h]
  · exact getF_setF_code _ _ _ _ _ _ h0
  · exact getF_setF_code _ _ _ _ _ _ h1

/-- Before the plane is whole again. -/
def readyHead (s : Dev) (p : ℕ) : Dev :=
  setF (setF (setF (setF s F.HBM_STAT_STATE p 2) F.HBM_STAT_FAIL_LANE p 0xFF) (copyFld p) 0 1) F.PLN_STATE_HBM_FAIL p 0

theorem within_stackReady (s : Dev) (p : ℕ) : Within wholeFoot (readyHead s p) (stackReady s p) := by
  unfold stackReady readyHead setFs setFs setFs
  rw [within_whole_undegrade _ _ _ (by decide)]

/-- Training with every eye wide enough. -/
theorem hbmTrainDone_ready {s : Dev} {t p : ℕ} {eyes : List EyeObs} (h : hbmState s p = 1) (hg : ∀ l < 128, eyeGood eyes l) :
    hbmState (hbmTrainDone s t p eyes) p = 2 ∧ getF (hbmTrainDone s t p eyes) (if p = 0 then F.JRN_STAT_HBM0 else F.JRN_STAT_HBM1) 0 = 1 ∧
      getF (hbmTrainDone s t p eyes) F.PLN_STATE_HBM_FAIL p = 0 ∧
      ∀ l < 128, getF (hbmTrainDone s t p eyes) F.HBM_EYE_RD_CODE (ix p l) =
        eyeCentre (eyeOf eyes l).rdStart (eyeOf eyes l).rdLen % 2 ^ F.HBM_EYE_RD_CODE.width := by
  have he : hbmTrainDone s t p eyes = stackReady (stackTrained s t p eyes) p := by
    rw [hbmTrainDone_eq h, badLane_none hg]
  have hcode (l : ℕ) (hl : l < 128) := code_stackTrained s t p eyes hl
  rw [he]
  generalize stackTrained s t p eyes = u at hcode
  have hw := within_stackReady u p
  refine ⟨(hw.fld _ _ (by decide)).trans ?_, ?_, (hw.fld _ _ (by decide)).trans (getF_setF_same _ _ _ _), fun l hl => (hw.fld _ _ (by decide)).trans ?_⟩
  · unfold readyHead
    rw [getF_setF_code _ _ _ _ _ _ (by decide), getF_setF_copyFld _ _ _ _ _ (by decide) (by decide), getF_setF_code _ _ _ _ _ _ (by decide), getF_setF_same]
    rfl
  · have hcopy : getF (readyHead u p) (copyFld p) 0 = 1 := by
      unfold readyHead
      obtain h | h := copyFld_eq p
      all_goals rw [h, getF_setF_code _ _ _ _ _ _ (by decide), getF_setF_same]; rfl
    refine Eq.trans ?_ hcopy
    obtain h | h := copyFld_eq p
    · change getF (stackReady u p) (copyFld p) 0 = _
      rw [h]
      exact hw.fld _ _ (by decide)
    · change getF (stackReady u p) (copyFld p) 0 = _
      rw [h]
      exact hw.fld _ _ (by decide)
  · unfold readyHead
    rw [getF_setF_code _ _ _ _ _ _ (by decide), getF_setF_copyFld _ _ _ _ _ (by decide) (by decide), getF_setF_code _ _ _ _ _ _ (by decide),
      getF_setF_code _ _ _ _ _ _ (by decide)]
    exact hcode l hl

/-- Training with a narrow eye. -/
theorem hbmTrainDone_failed {s : Dev} {t p l : ℕ} {eyes : List EyeObs} (hp : p < 2) (h : hbmState s p = 1) (hl : l < 128) (hb : ¬ eyeGood eyes l)
    (hg : ∀ k < l, eyeGood eyes k) :
    hbmState (hbmTrainDone s t p eyes) p = 5 ∧ getF (hbmTrainDone s t p eyes) F.HBM_STAT_FAIL_LANE p = l ∧
      fltBit (hbmTrainDone s t p eyes) (16 + p) = true := by
  have he : hbmTrainDone s t p eyes = stackFailed (stackTrained s t p eyes) p l := by
    rw [hbmTrainDone_eq h, badLane_some hl hb hg]
  rw [he]
  generalize stackTrained s t p eyes = u
  have hw (x : Dev) : Within faultFoot x (faultEvent x (16 + p) 0x07 l) := by
    simp (decide := true)
  refine ⟨((hw _).fld _ _ (by decide)).trans ?_, ((hw _).fld _ _ (by decide)).trans ?_, fltBit_faultEvent_same _ _ _ _ (by omega)⟩
  · unfold setFs setFs setFs
    rw [getF_setF_code _ _ _ _ _ _ (by decide), getF_setF_same]
    rfl
  · unfold setFs setFs setFs
    rw [getF_setF_same]
    exact Nat.mod_eq_of_lt (lt_trans hl (by decide))

/-! The tracker. -/

/-- The eye as the tracker measured it. -/
def eyeTracked (s : Dev) (t p l left right : ℕ) : Dev := setF (setF (s.at t) F.HBM_EYE_LEFT (ix p l) left) F.HBM_EYE_RIGHT (ix p l) right

theorem getF_eyeTracked (s : Dev) (t p l left right : ℕ) (f : Fld) (i : ℕ) (h0 : f.code % 262144 ≠ F.HBM_EYE_LEFT.code % 262144)
    (h1 : f.code % 262144 ≠ F.HBM_EYE_RIGHT.code % 262144) : getF (eyeTracked s t p l left right) f i = getF s f i :=
  (getF_setF_code _ _ _ _ _ _ h1).trans (getF_setF_code _ _ _ _ _ _ h0)

/-- The tracker's step once the eye is measured. -/
def trackStep (s : Dev) (p l left right : ℕ) : Dev :=
  let i := ix p l
  if hbmState s p ≠ 2 ∨ (4 ≤ left ∧ 4 ≤ right) ∨ left = right then s
  else
    let code := getF s F.HBM_EYE_RD_CODE i
    let base := getF s F.HBM_TRAIN_RD_CODE i
    let new := if left < right then code + 1 else code - 1
    if base + 8 < new ∨ new + 8 < base then
      if (hbmSt s p).limited.contains l then s
      else
        let s := setHbm s p { hbmSt s p with limited := l :: (hbmSt s p).limited }
        faultEvent (setF s F.HBM_STAT_TRACK_LIMIT p 1) (16 + p) 0x08 l
    else setF s F.HBM_EYE_RD_CODE i new

theorem hbmEyeTrack_eq (s : Dev) (t p l left right : ℕ) : hbmEyeTrack s t p l left right = trackStep (eyeTracked s t p l left right) p l left right := rfl

section

variable {s : Dev} {p l left right new : ℕ} (h : hbmState s p = 2) (hm : left < 4 ∨ right < 4) (hne : left ≠ right)
  (hnew : new = if left < right then getF s F.HBM_EYE_RD_CODE (ix p l) + 1 else getF s F.HBM_EYE_RD_CODE (ix p l) - 1)

include h hm hne hnew

theorem trackStep_moves (h8 : new ≤ getF s F.HBM_TRAIN_RD_CODE (ix p l) + 8) (h8' : getF s F.HBM_TRAIN_RD_CODE (ix p l) ≤ new + 8) :
    trackStep s p l left right = setF s F.HBM_EYE_RD_CODE (ix p l) new := by
  have hc : ¬ (hbmState s p ≠ 2 ∨ (4 ≤ left ∧ 4 ≤ right) ∨ left = right) := by omega
  have hf : ¬ (getF s F.HBM_TRAIN_RD_CODE (ix p l) + 8 < new ∨ new + 8 < getF s F.HBM_TRAIN_RD_CODE (ix p l)) := by omega
  unfold trackStep
  simp only [← hnew]
  rw [if_neg hc, if_neg hf]

theorem trackStep_stops (h8 : getF s F.HBM_TRAIN_RD_CODE (ix p l) + 8 < new) (hl : l ∉ (hbmSt s p).limited) :
    trackStep s p l left right =
      faultEvent (setF (setHbm s p { hbmSt s p with limited := l :: (hbmSt s p).limited }) F.HBM_STAT_TRACK_LIMIT p 1) (16 + p) 0x08 l := by
  have hc : ¬ (hbmState s p ≠ 2 ∨ (4 ≤ left ∧ 4 ≤ right) ∨ left = right) := by omega
  have hi : ¬ (hbmSt s p).limited.contains l = true := by simpa using hl
  unfold trackStep
  simp only [← hnew]
  rw [if_neg hc, if_pos (.inl h8), if_neg hi]

end

theorem hbmEyeTrack_moves {s : Dev} {t p l left right new : ℕ} (h : hbmState s p = 2) (hm : left < 4 ∨ right < 4) (hne : left ≠ right)
    (hnew : new = if left < right then getF s F.HBM_EYE_RD_CODE (ix p l) + 1 else getF s F.HBM_EYE_RD_CODE (ix p l) - 1)
    (h8 : new ≤ getF s F.HBM_TRAIN_RD_CODE (ix p l) + 8) (h8' : getF s F.HBM_TRAIN_RD_CODE (ix p l) ≤ new + 8) :
    getF (hbmEyeTrack s t p l left right) F.HBM_EYE_RD_CODE (ix p l) = new % 2 ^ F.HBM_EYE_RD_CODE.width ∧
      (hbmEyeTrack s t p l left right).hbm = s.hbm := by
  have hk (f : Fld) (i : ℕ) := getF_eyeTracked s t p l left right f i
  have hs : hbmState (eyeTracked s t p l left right) p = 2 := (hk _ _ (by decide) (by decide)).trans h
  rw [← hk F.HBM_TRAIN_RD_CODE _ (by decide) (by decide)] at h8 h8'
  rw [← hk F.HBM_EYE_RD_CODE _ (by decide) (by decide)] at hnew
  rw [hbmEyeTrack_eq, trackStep_moves hs hm hne hnew h8 h8', getF_setF_same]
  exact ⟨rfl, rfl⟩

theorem hbmEyeTrack_stops {s : Dev} {t p l left right new : ℕ} (hp : p < 2) (h : hbmState s p = 2) (hm : left < 4 ∨ right < 4) (hne : left ≠ right)
    (hnew : new = if left < right then getF s F.HBM_EYE_RD_CODE (ix p l) + 1 else getF s F.HBM_EYE_RD_CODE (ix p l) - 1)
    (h8 : getF s F.HBM_TRAIN_RD_CODE (ix p l) + 8 < new) (hl : l ∉ (hbmSt s p).limited) :
    getF (hbmEyeTrack s t p l left right) F.HBM_EYE_RD_CODE (ix p l) = getF s F.HBM_EYE_RD_CODE (ix p l) ∧
      getF (hbmEyeTrack s t p l left right) F.HBM_STAT_TRACK_LIMIT p = 1 ∧ fltBit (hbmEyeTrack s t p l left right) (16 + p) = true := by
  have hk (f : Fld) (i : ℕ) := getF_eyeTracked s t p l left right f i
  have hs : hbmState (eyeTracked s t p l left right) p = 2 := (hk _ _ (by decide) (by decide)).trans h
  have hcode := hk F.HBM_EYE_RD_CODE (ix p l) (by decide) (by decide)
  rw [← hk F.HBM_TRAIN_RD_CODE _ (by decide) (by decide)] at h8
  rw [← hcode] at hnew
  have hw (x : Dev) : Within faultFoot x (faultEvent x (16 + p) 0x08 l) := by simp (decide := true)
  rw [hbmEyeTrack_eq, trackStep_stops hs hm hne hnew h8 hl]
  refine ⟨?_, ?_, fltBit_faultEvent_same _ _ _ _ (by omega)⟩
  · rw [(hw _).fld _ _ (by decide), getF_setF_code _ _ _ _ _ _ (by decide)]
    exact hcode
  · rw [(hw _).fld _ _ (by decide), getF_setF_same]
    rfl

/-! Refresh. -/

/-- The deepest debt noted. -/
def debtNoted (s : Dev) (p d : ℕ) : Dev := if getF s F.HBM_REF_DEBT_MAX p < d then setF s F.HBM_REF_DEBT_MAX p (min d 8) else s

theorem preempt_debtNoted (s : Dev) (p d : ℕ) : getF (debtNoted s p d) F.HBM_REF_PREEMPT p = getF s F.HBM_REF_PREEMPT p := by
  unfold debtNoted
  split
  · exact getF_setF_code _ _ _ _ _ _ (by decide)
  · rfl

/-- The debt of bank `b` set to `v`. -/
def withDebt (s u : Dev) (p pc b v : ℕ) : Dev := setHbm u p { hbmSt s p with debt := mset 0 (hbmSt s p).debt (pc * 48 + b) v }

theorem debtOf_withDebt (s u : Dev) (p pc b v : ℕ) : debtOf (withDebt s u p pc b v) p pc b = v := by
  unfold debtOf withDebt
  rw [hbmSt_setHbm_same]
  exact mget_mset_same _ _ _ _

theorem hbmRefresh_eq {s : Dev} {t p pc b : ℕ} (h : hbmState s p = 2) (idle held : Bool) :
    hbmRefresh s t p pc b idle held =
      if idle then withDebt s (debtNoted (s.at t) p (debtOf s p pc b + 1)) p pc b 0
      else if !held then withDebt s (debtNoted (s.at t) p (debtOf s p pc b + 1)) p pc b (debtOf s p pc b + 1 - 1)
      else if 8 ≤ debtOf s p pc b + 1 then satAdd (withDebt s (debtNoted (s.at t) p (debtOf s p pc b + 1)) p pc b 7) F.HBM_REF_PREEMPT p 1
      else withDebt s (debtNoted (s.at t) p (debtOf s p pc b + 1)) p pc b (debtOf s p pc b + 1) := by
  have hc : ¬ hbmState (s.at t) p ≠ 2 := not_not.mpr h
  exact if_neg hc

theorem hbmRefresh_idle {s : Dev} {t p pc b : ℕ} (h : hbmState s p = 2) (held : Bool) : debtOf (hbmRefresh s t p pc b true held) p pc b = 0 := by
  rw [hbmRefresh_eq h]
  exact debtOf_withDebt _ _ _ _ _ _

theorem hbmRefresh_due {s : Dev} {t p pc b : ℕ} (h : hbmState s p = 2) :
    debtOf (hbmRefresh s t p pc b false false) p pc b = debtOf s p pc b := by
  rw [hbmRefresh_eq h]
  exact debtOf_withDebt _ _ _ _ _ _

theorem hbmRefresh_postpones {s : Dev} {t p pc b : ℕ} (h : hbmState s p = 2) (hd : debtOf s p pc b < 7) :
    debtOf (hbmRefresh s t p pc b false true) p pc b = debtOf s p pc b + 1 ∧
      getF (hbmRefresh s t p pc b false true) F.HBM_REF_PREEMPT p = getF s F.HBM_REF_PREEMPT p := by
  have he : hbmRefresh s t p pc b false true = withDebt s (debtNoted (s.at t) p (debtOf s p pc b + 1)) p pc b (debtOf s p pc b + 1) := by
    rw [hbmRefresh_eq h]
    exact (if_neg (c := 8 ≤ debtOf s p pc b + 1) (by omega))
  rw [he]
  exact ⟨debtOf_withDebt _ _ _ _ _ _, preempt_debtNoted _ _ _⟩

theorem hbmRefresh_preempts {s : Dev} {t p pc b : ℕ} (h : hbmState s p = 2) (hd : 7 ≤ debtOf s p pc b) :
    debtOf (hbmRefresh s t p pc b false true) p pc b = 7 ∧ Counted s (hbmRefresh s t p pc b false true) F.HBM_REF_PREEMPT p := by
  have he : hbmRefresh s t p pc b false true =
      satAdd (withDebt s (debtNoted (s.at t) p (debtOf s p pc b + 1)) p pc b 7) F.HBM_REF_PREEMPT p 1 := by
    rw [hbmRefresh_eq h]
    exact (if_pos (c := 8 ≤ debtOf s p pc b + 1) (by omega))
  have hp : getF (withDebt s (debtNoted (s.at t) p (debtOf s p pc b + 1)) p pc b 7) F.HBM_REF_PREEMPT p = getF s F.HBM_REF_PREEMPT p :=
    preempt_debtNoted (s.at t) p _
  rw [he]
  refine ⟨debtOf_withDebt _ _ _ _ _ _, ?_⟩
  unfold Counted
  rw [getF_satAdd_same, hp]

/-! Promotion. -/

/-- The promoted requests of a pseudo-channel once one issued at `issued` joins them. -/
def promoted (l : List ℕ) (t issued : ℕ) : List ℕ :=
  let live := l.filter fun a => decide (t < a + 151200)
  (live.filter (· ≤ issued)) ++ [issued] ++ live.filter (issued < ·)

theorem hbmReqPromote_eq {s : Dev} {t p pc issued : ℕ} (h : hbmState s p = 2) (ht : issued + 108000 < t) (rt : Bool) :
    hbmReqPromote s t p pc issued rt =
      if rt && decide (getF s F.HBM_RTLAT_MAX_NS p < (t - issued) / 54) then
        setF (setHbm (s.at t) p { hbmSt s p with promo := mset [] (hbmSt s p).promo pc (promoted (mget [] (hbmSt s p).promo pc) t issued) })
          F.HBM_RTLAT_MAX_NS p ((t - issued) / 54)
      else setHbm (s.at t) p { hbmSt s p with promo := mset [] (hbmSt s p).promo pc (promoted (mget [] (hbmSt s p).promo pc) t issued) } := by
  have hc : ¬ (t ≤ issued + 108000 ∨ hbmState (s.at t) p ≠ 2) := by
    rintro (k | k)
    · omega
    · exact k h
  exact if_neg hc

theorem hbmReqPromote_promotes {s : Dev} {t p pc issued : ℕ} {rt : Bool} (h : hbmState s p = 2) (ht : issued + 108000 < t) :
    issued ∈ mget [] (hbmSt (hbmReqPromote s t p pc issued rt) p).promo pc ∧
      (rt = true → (t - issued) / 54 < 2 ^ F.HBM_RTLAT_MAX_NS.width →
        getF (hbmReqPromote s t p pc issued rt) F.HBM_RTLAT_MAX_NS p = max (getF s F.HBM_RTLAT_MAX_NS p) ((t - issued) / 54)) := by
  rw [hbmReqPromote_eq h ht]
  generalize hx : ({ hbmSt s p with promo := mset [] (hbmSt s p).promo pc (promoted (mget [] (hbmSt s p).promo pc) t issued) } : HbmSt) = x
  have hq : hbmSt (if rt && decide (getF s F.HBM_RTLAT_MAX_NS p < (t - issued) / 54) then setF (setHbm (s.at t) p x) F.HBM_RTLAT_MAX_NS p ((t - issued) / 54)
      else setHbm (s.at t) p x) p = x := by
    split <;> exact hbmSt_setHbm_same _ _ _
  constructor
  · rw [hq, ← hx]
    dsimp only
    rw [mget_mset_same]
    unfold promoted
    simp
  · rintro rfl hlt
    simp only [Bool.true_and, decide_eq_true_eq]
    split
    · next hm =>
      rw [getF_setF_same, Nat.mod_eq_of_lt hlt]
      omega
    · next hm =>
      have hn : getF (setHbm (s.at t) p x) F.HBM_RTLAT_MAX_NS p = getF s F.HBM_RTLAT_MAX_NS p := rfl
      rw [hn]
      omega

/-! ECC. -/

/-- The severity that the stack itself gave. -/
def sevNoted (s : Dev) (p sev : ℕ) : Dev :=
  if sev = 1 then satAdd s F.HBM_ECC_SEV_CORR p 1 else if sev = 2 then satAdd s F.HBM_ECC_SEV_UE p 1 else s

theorem getF_sevNoted (s : Dev) (p sev : ℕ) (f : Fld) (i : ℕ) (h0 : f.code % 262144 ≠ F.HBM_ECC_SEV_CORR.code % 262144)
    (h1 : f.code % 262144 ≠ F.HBM_ECC_SEV_UE.code % 262144) : getF (sevNoted s p sev) f i = getF s f i := by
  unfold sevNoted
  split_ifs
  · exact getF_satAdd_code _ _ _ _ _ _ h0
  · exact getF_satAdd_code _ _ _ _ _ _ h1
  · rfl

theorem hbmScrub_eq (s : Dev) (t p : ℕ) (o : HbmRead) :
    hbmScrub s t p o = match o.res with
      | 0 => sevNoted (s.at t) p o.sev
      | 1 => satAdd (sevNoted (s.at t) p o.sev) F.HBM_ECC_HOST_CE p 1
      | _ => hbmUeReader (hbmUe (sevNoted (s.at t) p o.sev) p o.addr) p o := rfl

theorem hbmScrub_clean {s : Dev} {t p : ℕ} {o : HbmRead} (hr : o.res = 0) (hs : o.sev = 0) : hbmScrub s t p o = s.at t := by
  rw [hbmScrub_eq, hr, hs]
  rfl

theorem hbmScrub_corrected {s : Dev} {t p : ℕ} {o : HbmRead} (hr : o.res = 1) : Counted s (hbmScrub s t p o) F.HBM_ECC_HOST_CE p := by
  have he : hbmScrub s t p o = satAdd (sevNoted (s.at t) p o.sev) F.HBM_ECC_HOST_CE p 1 := by
    rw [hbmScrub_eq, hr]
    rfl
  unfold Counted
  rw [he, getF_satAdd_same, getF_sevNoted _ _ _ _ _ (by decide) (by decide)]
  rfl

/-- An uncorrectable error counted, and its address latched where none is. -/
def ueNoted (s : Dev) (p addr : ℕ) : Dev :=
  let s := satAdd s F.HBM_ECC_HOST_UE p 1
  if getF s F.HBM_ECC_ADDR_VALID p = 0 then setFs s p [(F.HBM_ECC_ADDR_VALID, 1), (F.HBM_ECC_ADDR_ADDR, addr / 64)] else s

theorem ue_ueNoted (s : Dev) (p addr : ℕ) : getF (ueNoted s p addr) F.HBM_ECC_HOST_UE p = min (getF s F.HBM_ECC_HOST_UE p + 1) (2 ^ 16 - 1) := by
  unfold ueNoted
  dsimp only
  split
  · unfold setFs setFs setFs
    rw [getF_setF_code _ _ _ _ _ _ (by decide), getF_setF_code _ _ _ _ _ _ (by decide), getF_satAdd_same]
  · exact getF_satAdd_same _ _ _ _

theorem addr_ueNoted {s : Dev} {p : ℕ} (addr : ℕ) (h : getF s F.HBM_ECC_ADDR_VALID p = 0) :
    getF (ueNoted s p addr) F.HBM_ECC_ADDR_VALID p = 1 ∧ getF (ueNoted s p addr) F.HBM_ECC_ADDR_ADDR p = addr / 64 % 2 ^ F.HBM_ECC_ADDR_ADDR.width := by
  have hv : getF (satAdd s F.HBM_ECC_HOST_UE p 1) F.HBM_ECC_ADDR_VALID p = 0 := (getF_satAdd_code _ _ _ _ _ _ (by decide)).trans h
  unfold ueNoted
  dsimp only
  rw [if_pos hv]
  unfold setFs setFs setFs
  rw [getF_setF_code _ _ _ _ _ _ (by decide), getF_setF_same, getF_setF_same]
  exact ⟨rfl, rfl⟩

/-- What follows: the plane's fault where errors cluster, and what the reader does without its data. -/
def ueFoot : Foot := { faultFoot with flds := faultFoot.flds ++ underFoot.flds, parts := .hbm :: faultFoot.parts ++ underFoot.parts }

/-- The stack's errors of the last second, and its fault where they cluster. -/
def ueTail (s : Dev) (p : ℕ) : Dev :=
  let x := hbmSt s p
  let ues := s.now :: x.ues.filter fun a => decide (s.now < a + tickSec)
  let early := match x.trainedAt with | some a => decide (s.now < a + tickSec) | none => false
  let s := setHbm s p { x with ues := ues }
  if early || ues.length == 16 then faultEvent s (16 + p) 0x02 0 else s

theorem hbmUe_eq (s : Dev) (p addr : ℕ) : hbmUe s p addr = ueTail (ueNoted s p addr) p := by
  unfold hbmUe ueTail ueNoted
  rfl

theorem within_ue_ueTail (d s : Dev) (p : ℕ) (h : ueFoot.le W = true) : Within W d (ueTail s p) ↔ Within W d s := by
  refine Within.skip (V := ueFoot) ?_ h
  unfold ueTail setHbm
  simp (decide := true) [↓within_ite]

/-- The journal's copies, of what a reader of the stack loses. -/
def readerFoot : Foot := { ueFoot with flds := F.JRN_STAT_HBM0 :: F.JRN_STAT_HBM1 :: ueFoot.flds }

theorem within_reader_hbmUeReader (d s : Dev) (p : ℕ) (o : HbmRead) (h : readerFoot.le W = true) : Within W d (hbmUeReader s p o) ↔ Within W d s := by
  refine Within.skip (V := readerFoot) ?_ h
  unfold hbmUeReader
  split <;> simp (decide := true)

theorem hbmScrub_uncorrectable {s : Dev} {t p : ℕ} {o : HbmRead} (hr : 2 ≤ o.res) :
    Counted s (hbmScrub s t p o) F.HBM_ECC_HOST_UE p ∧ (getF s F.HBM_ECC_ADDR_VALID p = 0 → getF (hbmScrub s t p o) F.HBM_ECC_ADDR_VALID p = 1 ∧
      getF (hbmScrub s t p o) F.HBM_ECC_ADDR_ADDR p = o.addr / 64 % 2 ^ F.HBM_ECC_ADDR_ADDR.width) := by
  have he : hbmScrub s t p o = hbmUeReader (ueTail (ueNoted (sevNoted (s.at t) p o.sev) p o.addr) p) p o := by
    rw [hbmScrub_eq, ← hbmUe_eq]
    obtain ⟨n, hn⟩ : ∃ n, o.res = n + 2 := ⟨o.res - 2, by omega⟩
    rw [hn]
    rfl
  have hw : Within readerFoot (ueNoted (sevNoted (s.at t) p o.sev) p o.addr) (hbmScrub s t p o) := by
    rw [he, within_reader_hbmUeReader _ _ _ _ (by decide), within_ue_ueTail _ _ _ (by decide)]
  constructor
  · unfold Counted
    rw [hw.fld _ _ (by decide), ue_ueNoted, getF_sevNoted _ _ _ _ _ (by decide) (by decide)]
    rfl
  · intro hv
    rw [hw.fld _ _ (by decide), hw.fld _ _ (by decide)]
    exact addr_ueNoted _ ((getF_sevNoted _ _ _ _ _ (by decide) (by decide)).trans hv)

/-- Settles O45, command by command and outcome by outcome. -/
theorem stacksTrainAndServe : Obligations.StacksTrainAndServe := by
  refine ⟨fun s t p => ⟨fun h eyes => ⟨fun hg => gives_of rfl (hbmTrainDone_ready h hg), fun l hl hb hg => gives_of rfl (hbmTrainDone_failed p.isLt h hl hb hg)⟩,
      fun h l left right new hm hne hnew => ⟨fun h8 h8' => gives_of rfl (hbmEyeTrack_moves h hm hne hnew h8 h8'),
        fun h8 hl => gives_of rfl (hbmEyeTrack_stops p.isLt h hm hne hnew h8 hl)⟩⟩,
    fun s t p => ⟨fun h pc b => ⟨fun held => gives_of rfl (hbmRefresh_idle h held), gives_of rfl (hbmRefresh_due h),
      fun hd => gives_of rfl (hbmRefresh_postpones h hd), fun hd => gives_of rfl (hbmRefresh_preempts h hd),
      fun issued rt ht => gives_of rfl (hbmReqPromote_promotes h ht)⟩,
    fun o => ⟨fun hr hs => gives_of rfl (hbmScrub_clean hr hs), fun hr => gives_of rfl (hbmScrub_corrected hr),
      fun hr => gives_of rfl (hbmScrub_uncorrectable hr)⟩⟩⟩

end Sys2Proof.Machine
end

section
/-! Wear levelling while the power is low: no data moves, and nothing is sent. -/

namespace Sys2Proof.Machine

open Sys2Proof.Claims

/-- A pool with one used block never erased and one free block erased 501 times. -/
def unevenPool : FlsPool := { erase := [(0, 0), (1, 501)], used := [0] }

/-- A device whose power fell, with that pool on its written channel 0, and no output pending. -/
def unevenState : State :=
  { State.reset with dev := setF { State.reset.dev with rst := { inReset := allDoms, pwrLowAt := some 0 },
                                                        fls := mset {} [] 0 { slc := unevenPool } } F.FLS_STAT_STATE 0 3 }

theorem flsWritten_unevenState : flsWritten unevenState.dev 0 = true := by decide

theorem movedAt_unevenState : (flsSt unevenState.dev 0).movedAt = none := by decide

theorem poolOf_unevenState : unevenPool = poolOf (flsSt unevenState.dev 0) false := by decide

theorem unevenPool_uneven : 500 < maxErase unevenPool - minErase unevenPool := by decide

theorem pickBlock_unevenPool_used : pickBlock unevenPool (fun a b => decide (a < b)) unevenPool.used = some 0 := by decide

theorem pickBlock_unevenPool_free :
    pickBlock unevenPool (fun a b => decide (b < a)) ((unevenPool.erase.map (·.1)).filter fun b => !unevenPool.used.contains b) = some 1 := by decide

theorem flashWearLevel_unevenState : (flashWearLevel unevenState.dev 0 0 false).out = [] := by decide

/-- Refutes O46: wear levelling moves no data while PWRGOOD is low, and the statement names no such premise. -/
theorem not_flashStoreFollows : ¬ Obligations.FlashStoreFollows := by
  intro h
  obtain ⟨-, -, -, -, hwear⟩ := h.1 unevenState 0 0
  obtain ⟨-, hmove⟩ := hwear flsWritten_unevenState movedAt_unevenState false unevenPool poolOf_unevenState
  obtain ⟨u, hu, hout, -⟩ := hmove unevenPool_uneven 0 1 pickBlock_unevenPool_used pickBlock_unevenPool_free
  obtain rfl : u = { unevenState with dev := flashWearLevel unevenState.dev 0 0 false } := by cases hu; rfl
  rw [flashWearLevel_unevenState] at hout
  exact List.cons_ne_nil _ _ hout.symm

end Sys2Proof.Machine
end

section
/-! Trial firmware that reverts, and a failed entropy test (R438, R441). -/

namespace Sys2Proof.Machine

open Sys2Proof.Claims

/-- A handover once its head is done: the roles move where the other processor stands by. -/
def handoverTail (s : Dev) (a : ℕ) (standby : Bool) : Dev :=
  historyWindow (if standby then dropReset (setF (setPp (setPp s (1 - a) 0) a 1) F.BELAY_STAT_ACTIVE_PP 0 (1 - a)) 5 (1 - a) 9 else s)

theorem handover_cut (s : Dev) :
    handover s = handoverTail (handoverHead s) (getF s F.BELAY_STAT_ACTIVE_PP 0) (ppState s (1 - getF s F.BELAY_STAT_ACTIVE_PP 0) == 1) := by
  unfold handover handoverTail handoverHead
  rfl

theorem epoch_handover (s : Dev) : (handover s).ctl.epoch = (s.ctl.epoch + 1) % 2 ^ 32 := by
  have h (u : Dev) (a : ℕ) (b : Bool) : (handoverTail u a b).ctl = u.ctl := by cases b <;> rfl
  rw [handover_cut, h, epoch_handoverHead]

theorem outage_handover (s : Dev) : (handover s).jrn.outage = true := by
  have h (u : Dev) (a : ℕ) (b : Bool) : (handoverTail u a b).jrn = u.jrn := by cases b <;> rfl
  rw [handover_cut, h, outage_handoverHead]

theorem reverting_handover (s : Dev) : (handover s).sec.reverting = s.sec.reverting := by
  have h (u : Dev) (a : ℕ) (b : Bool) : (handoverTail u a b).sec = u.sec := by cases b <;> rfl
  have hc : (writeCheckpoint s).sec.reverting = s.sec.reverting := (within_ckptFoot_writeCheckpoint s).part .reverting (by decide)
  have hj (u : Dev) (n : ℕ) : (journal u n).sec = u.sec := by
    unfold journal
    dsimp only
    split <;> rfl
  rw [handover_cut, h]
  unfold handoverHead
  simp only [setF_sec, hj, setFs_sec, hc]

/-- The end of a reversion's first half: the failover counted, and the processor that ran the trial fenced where the other takes over. -/
theorem revertNow_eq (s : Dev) (cause : ℕ) :
    revertNow s cause =
      if ppState s (1 - activePp s) == 1 then
        assertReset (setPp (satAdd (handover (markRevert s cause)) F.BELAY_FAILOVERS_COUNT 0 1) (activePp s) 2) 5 (activePp s) 9 false
      else satAdd (handover (markRevert s cause)) F.BELAY_FAILOVERS_COUNT 0 1 := rfl

theorem reverting_markRevert {s : Dev} {cause : ℕ} (h : fwUpdate s = 4) (hr : s.sec.reverting = none) :
    (markRevert s cause).sec.reverting = some cause := by
  unfold markRevert
  rw [if_pos ⟨h, hr⟩]
  dsimp only
  split <;> rfl

theorem revertNow_reverts {s : Dev} {cause : ℕ} (h : fwUpdate s = 4) (hr : s.sec.reverting = none) : Reverting s cause (revertNow s cause) := by
  have hm : (handover (markRevert s cause)).ctl.epoch = (s.ctl.epoch + 1) % 2 ^ 32 := by
    rw [epoch_handover, (within_markRevert_self s cause).epoch (by decide)]
  have hs : (handover (markRevert s cause)).sec.reverting = some cause := (reverting_handover _).trans (reverting_markRevert h hr)
  have ho := outage_handover (markRevert s cause)
  rw [revertNow_eq]
  split
  · rw [assertReset_small _ (by decide)]
    exact ⟨hs, hm, ho⟩
  · exact ⟨hs, hm, ho⟩

/-- Outside Pair a trial that fails reverts at once. -/
theorem revert_alone {s : Dev} {cause : ℕ} (h : fwUpdate s = 4) (hr : s.sec.reverting = none) (hp : s.ctl.pair = false) :
    Reverting s cause (revert s cause) := by
  have h1 : ¬ (fwUpdate s ≠ 4 ∨ s.sec.reverting ≠ none) := not_or.mpr ⟨not_not.mpr h, not_not.mpr hr⟩
  have h2 : ¬ (s.ctl.pair && (role s == 1 || role s == 2)) = true := by
    rw [hp, Bool.false_and]
    exact Bool.false_ne_true
  unfold revert
  rw [if_neg h1, if_neg h2]
  exact revertNow_reverts h hr

/-- In Pair it waits for the frame that both devices take. -/
theorem revert_pair {s : Dev} {cause : ℕ} (h : fwUpdate s = 4) (hr : s.sec.reverting = none) (hp : s.ctl.pair = true)
    (hrole : role s = 1 ∨ role s = 2) (ha : s.sec.revertAt = none) :
    (revert s cause).sec.revertAt = some (revertFrame s, cause) ∧ (revert s cause).ctl.epoch = s.ctl.epoch := by
  have h1 : ¬ (fwUpdate s ≠ 4 ∨ s.sec.reverting ≠ none) := not_or.mpr ⟨not_not.mpr h, not_not.mpr hr⟩
  have h2 : (s.ctl.pair && (role s == 1 || role s == 2)) = true := by
    rw [hp]
    obtain k | k := hrole <;> rw [k] <;> rfl
  have h3 : ¬ s.sec.revertAt.isSome = true := by
    rw [ha]
    decide
  unfold revert
  rw [if_neg h1, if_pos h2, if_neg h3]
  exact ⟨rfl, rfl⟩

theorem fwWindowExpire_ended {s : Dev} {t e : ℕ} (h : s.sec.windowEnd = some e) (ht : e ≤ t) : fwWindowExpire s t = revert (s.at t) 1 := by
  have hw : (s.at t).sec.windowEnd = some e := h
  unfold fwWindowExpire
  dsimp only
  rw [hw]
  exact if_pos ht

theorem fwWindowExpire_running {s : Dev} {t e : ℕ} (h : s.sec.windowEnd = some e) (ht : t < e) :
    fwWindowExpire s t = setF (s.at t) F.SEC_FW_STAT_WINDOW_S 0 ((e - t + tickSec - 1) / tickSec) := by
  have hw : (s.at t).sec.windowEnd = some e := h
  unfold fwWindowExpire
  dsimp only
  rw [hw]
  exact if_neg (Nat.not_le.mpr ht)

theorem fwWindowExpire_counts {s : Dev} {t e : ℕ} (h : s.sec.windowEnd = some e) (ht : t < e) :
    (fwWindowExpire s t).sec.reverting = s.sec.reverting ∧
      getF (fwWindowExpire s t) F.SEC_FW_STAT_WINDOW_S 0 = ((e - t + tickSec - 1) / tickSec) % 2 ^ F.SEC_FW_STAT_WINDOW_S.width := by
  rw [fwWindowExpire_running h ht, setF_sec, getF_setF_same]
  exact ⟨rfl, rfl⟩

theorem fwResumeTimeout_late {s : Dev} {t n : ℕ} (h : s.sec.activating = some n) (ht : s.sec.activatedAt + 2 * tickSec ≤ t) :
    fwResumeTimeout s t = revert (s.at t) 4 := by
  have hc : ((s.at t).sec.activating.isSome && decide ((s.at t).sec.activatedAt + 2 * tickSec ≤ t)) = true := by
    change (s.sec.activating.isSome && decide (s.sec.activatedAt + 2 * tickSec ≤ t)) = true
    rw [h, decide_eq_true ht]
    rfl
  exact if_pos hc

theorem entropyFail_counts (s : Dev) (t : ℕ) :
    getF (entropyFail s t) F.SEC_ENTROPY_FAIL 0 = 1 ∧ Counted s (entropyFail s t) F.SEC_ENTROPY_FAILS 0 ∧ fltBit (entropyFail s t) 33 = true := by
  have hw (u : Dev) : Within faultFoot u (faultEvent u 33 0x09 0) := by simp (decide := true)
  unfold entropyFail Counted
  refine ⟨?_, ?_, fltBit_faultEvent_same _ _ _ _ (by decide)⟩
  · rw [(hw _).fld _ _ (by decide), getF_setF_same]
    rfl
  · rw [(hw _).fld _ _ (by decide), getF_setF_code _ _ _ _ _ _ (by decide), getF_satAdd_same]
    rfl

/-- Settles O47: outside Pair every failure comes to `revertNow`, in Pair to the frame that waits. -/
theorem trialsRevert : Obligations.TrialsRevert := by
  intro s t
  refine ⟨fun h hr hp => ⟨fun e he ht => gives_of rfl ?_, fun n hn ht => gives_of rfl ?_, gives_of rfl (revert_alone (s := s.dev.at t) h hr hp)⟩,
    fun h hr hp hrole ha => gives_of rfl (revert_pair (s := s.dev.at t) h hr hp hrole ha), fun e he ht => gives_of rfl (fwWindowExpire_counts he ht),
    gives_of rfl (entropyFail_counts s.dev t)⟩
  · rw [fwWindowExpire_ended he ht]
    exact revert_alone (s := s.dev.at t) h hr hp
  · rw [fwResumeTimeout_late hn ht]
    exact revert_alone (s := s.dev.at t) h hr hp

end Sys2Proof.Machine
end

section
/-! The reset sources of pins and software (R446 to R455, R461 to R466). -/

namespace Sys2Proof.Machine

open Sys2Proof.Claims

variable {W : Foot}

/-! The list of sources. -/

theorem rst_withCause (s : Dev) (reach src : ℕ) : (withCause s reach src).rst = s.rst := by
  unfold withCause
  cases causeField src reach <;> rfl

/-- Of the reset state an asserted source changes the list, and COLD the phase. -/
theorem rst_assertReset (s : Dev) (reach unit src : ℕ) (pulse : Bool) :
    (assertReset s reach unit src pulse).rst =
      { s.rst with reqs := reqsWith s.rst.reqs reach unit src pulse, phase := if reach = 8 then 0 else s.rst.phase } := by
  have hc : (if reach = 7 ∨ reach = 8 then withCause (withReq s reach unit src pulse) reach src else withReq s reach unit src pulse).rst =
      (withReq s reach unit src pulse).rst := by
    split
    · exact rst_withCause _ _ _
    · rfl
  rw [assertReset_eq]
  dsimp only
  generalize (if reach = 7 ∨ reach = 8 then withCause (withReq s reach unit src pulse) reach src else withReq s reach unit src pulse) = u at hc
  have hu : (if reach = 7 ∨ reach = 8 then { u with jrn := { u.jrn with outage := true } } else u).rst = u.rst := by split <;> rfl
  have hr : u.rst = { s.rst with reqs := reqsWith s.rst.reqs reach unit src pulse } := hc
  have ha (x : Dev) : (abortFuse x).rst = { x.rst with phase := 0 } := rfl
  split
  · rw [ha, hu, hr]
  · rw [hu, hr]

theorem reqs_assertReset (s : Dev) (reach unit src : ℕ) (pulse : Bool) :
    (assertReset s reach unit src pulse).rst.reqs = reqsWith s.rst.reqs reach unit src pulse := by rw [rst_assertReset]

/-- The source asserted is in the list, held where it is no pulse. -/
theorem mem_reqsWith (l : List RstReq) (reach unit src : ℕ) (pulse : Bool) :
    ∃ r ∈ reqsWith l reach unit src pulse, r.reach = reach ∧ r.unit = unit ∧ r.src = src ∧ (pulse = false → r.pulse = false) := by
  unfold reqsWith
  dsimp only
  split
  · next h =>
    obtain ⟨r, hr, hm⟩ := List.any_eq_true.mp h
    refine ⟨{ r with pulse := r.pulse && pulse }, List.mem_map.mpr ⟨r, hr, if_pos hm⟩, ?_⟩
    simp only [Bool.and_eq_true, beq_iff_eq] at hm
    exact ⟨hm.1.1, hm.1.2, hm.2, fun hp => by rw [hp, Bool.and_false]⟩
  · exact ⟨_, List.mem_append_right _ (List.mem_singleton_self _), rfl, rfl, rfl, id⟩

theorem asserted_assertReset (s : Dev) (reach unit src : ℕ) (pulse : Bool) : Asserted (assertReset s reach unit src pulse) reach unit src := by
  obtain ⟨r, hr, h1, h2, h3, -⟩ := mem_reqsWith s.rst.reqs reach unit src pulse
  exact ⟨r, by rw [reqs_assertReset]; exact hr, h1, h2, h3⟩

/-- A source keeps its place when another is asserted. -/
theorem asserted_assertReset_other {s : Dev} {reach unit src : ℕ} (h : Asserted s reach unit src) (reach' unit' src' : ℕ) (pulse : Bool) :
    Asserted (assertReset s reach' unit' src' pulse) reach unit src := by
  obtain ⟨r, hr, h1, h2, h3⟩ := h
  unfold Asserted
  rw [reqs_assertReset]
  unfold reqsWith
  dsimp only
  split
  · refine ⟨_, List.mem_map.mpr ⟨r, hr, rfl⟩, ?_⟩
    split <;> exact ⟨h1, h2, h3⟩
  · exact ⟨r, List.mem_append_left _ hr, h1, h2, h3⟩

theorem asserted_of_reqs {s u : Dev} {reach unit src : ℕ} (h : Asserted s reach unit src) (hr : u.rst.reqs = s.rst.reqs) : Asserted u reach unit src := by
  unfold Asserted at h ⊢
  rw [hr]
  exact h

/-- A source dropped is not another one's. -/
theorem asserted_dropReset {s : Dev} {reach unit src : ℕ} (h : Asserted s reach unit src) {reach' unit' src' : ℕ} (hne : src ≠ src') :
    Asserted (dropReset s reach' unit' src') reach unit src := by
  obtain ⟨r, hr, h1, h2, h3⟩ := h
  refine ⟨r, List.mem_filter.mpr ⟨hr, ?_⟩, h1, h2, h3⟩
  have : (r.src == src') = false := beq_eq_false_iff_ne.mpr (h3 ▸ hne)
  simp [this]

/-! Release. -/

/-- Every source of that reach, unit and cause ends once its entry is done. -/
def Released (d : Dev) (reach unit src : ℕ) : Prop :=
  ∀ r ∈ d.rst.reqs, r.reach = reach → r.unit = unit → r.src = src → r.pulse = true ∧ r.entered = false

theorem mem_releaseReset {s : Dev} {reach unit src : ℕ} {r : RstReq} (h : r ∈ (releaseReset s reach unit src).rst.reqs) :
    ∃ q ∈ s.rst.reqs, (r = q ∧ ¬ (q.reach = reach ∧ q.unit = unit ∧ q.src = src)) ∨
      (r = { q with pulse := true } ∧ (q.reach = reach ∧ q.unit = unit ∧ q.src = src) ∧ q.entered = false) := by
  obtain ⟨q, hq, he⟩ := List.mem_map.mp h
  obtain ⟨hm, hf⟩ := List.mem_filter.mp hq
  refine ⟨q, hm, ?_⟩
  dsimp only at hf he
  by_cases hc : q.reach = reach ∧ q.unit = unit ∧ q.src = src
  · obtain ⟨rfl, rfl, rfl⟩ := hc
    simp only [beq_self_eq_true, Bool.and_self, Bool.true_and, Bool.not_eq_true', if_true] at hf he
    exact .inr ⟨he.symm, ⟨rfl, rfl, rfl⟩, hf⟩
  · have hb : (q.reach == reach && q.unit == unit && q.src == src) = false := by
      rw [Bool.eq_false_iff]
      simpa [and_assoc] using hc
    simp only [hb, Bool.false_eq_true, if_false] at he
    exact .inl ⟨he.symm, hc⟩

theorem released_releaseReset (s : Dev) (reach unit src : ℕ) : Released (releaseReset s reach unit src) reach unit src := by
  intro r hr h1 h2 h3
  obtain ⟨q, -, ⟨rfl, hn⟩ | ⟨rfl, -, he⟩⟩ := mem_releaseReset hr
  · exact absurd ⟨h1, h2, h3⟩ hn
  · exact ⟨rfl, he⟩

theorem released_of_releaseReset {s : Dev} {reach unit src : ℕ} (h : Released s reach unit src) (reach' unit' src' : ℕ) :
    Released (releaseReset s reach' unit' src') reach unit src := by
  intro r hr h1 h2 h3
  obtain ⟨q, hq, ⟨rfl, -⟩ | ⟨rfl, -, he⟩⟩ := mem_releaseReset hr
  · exact h _ hq h1 h2 h3
  · exact ⟨rfl, he⟩

theorem released_of_reqs {s u : Dev} {reach unit src : ℕ} (h : Released s reach unit src) (hr : u.rst.reqs = s.rst.reqs) : Released u reach unit src := by
  unfold Released at h ⊢
  rw [hr]
  exact h

theorem reqs_coldReleased (s : Dev) : (coldReleased s).rst.reqs = s.rst.reqs := by
  unfold coldReleased
  split <;> rfl

/-! POR. -/

theorem por_asserted (s : Dev) (t : ℕ) :
    (por s t true).rst.phase = 0 ∧ (por s t true).rst.inReset = allDoms ∧ (por s t true).ctl = {} ∧ ∀ f i, getF (por s t true) f i = resetAt f i := by
  have hr : (por s t true).regs = [] := rfl
  refine ⟨rfl, rfl, rfl, fun f i => ?_⟩
  unfold getF
  rw [hr]
  rfl

theorem por_released {s : Dev} {t : ℕ} (hp : s.rst.phase = 0) (hf : s.rst.fuseFailPin = false)
    (hr : ∀ r ∈ s.rst.reqs, r.reach = 8 → r.unit = 0 ∧ r.src = 0) : (por s t false).rst.phase = 1 ∧ ¬ Asserted (por s t false) 8 0 0 := by
  have hno (r : RstReq) (h : r ∈ (dropReset (s.at t) 8 0 0).rst.reqs) : r.reach ≠ 8 := by
    obtain ⟨hm, hk⟩ := List.mem_filter.mp h
    intro h8
    obtain ⟨hu, hs⟩ := hr r hm h8
    rw [h8, hu, hs] at hk
    exact absurd hk (by decide)
  have hany : ((dropReset (s.at t) 8 0 0).rst.reqs.any fun r => r.reach == 8) = false :=
    List.any_eq_false.mpr fun r h => by simpa using hno r h
  have hc : (dropReset (s.at t) 8 0 0).rst.phase = 0 ∧ (!((dropReset (s.at t) 8 0 0).rst.reqs.any fun r => r.reach == 8)) = true ∧
      (dropReset (s.at t) 8 0 0).rst.fuseFailPin = false := ⟨hp, by rw [hany]; rfl, hf⟩
  have he : por s t false = { dropReset (s.at t) 8 0 0 with rst := { (dropReset (s.at t) 8 0 0).rst with phase := 1 } } := by
    have h1 : por s t false = coldReleased (dropReset (s.at t) 8 0 0) := if_pos hp
    rw [h1]
    exact if_pos hc
  rw [he]
  refine ⟨rfl, ?_⟩
  rintro ⟨r, hm, h8, -⟩
  exact hno r hm h8

/-! PWRGOOD. -/

/-- The pins afloat and both stacks stopped. -/
def stopped (s : Dev) : Dev := setF (setF (floatPins s) F.HBM_STAT_STATE 0 0) F.HBM_STAT_STATE 1 0

theorem pwrgood_low_eq (s : Dev) (t : ℕ) :
    pwrgood s t false =
      { stopped (assertReset (s.at t) 8 0 1 false) with
        rst := { (stopped (assertReset (s.at t) 8 0 1 false)).rst with
          pwrLowAt := match (stopped (assertReset (s.at t) 8 0 1 false)).rst.pwrLowAt with | some a => some a | none => some t } } := by
  unfold pwrgood stopped
  exact if_pos rfl

theorem getF_stopped (s : Dev) (f : Fld) (i : ℕ) (h : f.code % 262144 ≠ F.HBM_STAT_STATE.code % 262144) : getF (stopped s) f i = getF s f i :=
  (getF_setF_code _ _ _ _ _ _ h).trans (getF_setF_code _ _ _ _ _ _ h)

theorem hbmState_stopped (s : Dev) : hbmState (stopped s) 0 = 0 ∧ hbmState (stopped s) 1 = 0 :=
  ⟨(getF_setF_idx _ _ _ _ _ _ (by decide)).trans (getF_setF_same (floatPins s) F.HBM_STAT_STATE 0 0), getF_setF_same _ _ _ _⟩

/-- The causes that a WARM or COLD source records. -/
theorem getF_assertReset_cause (s : Dev) {reach : ℕ} (hr : reach = 7 ∨ reach = 8) (unit : ℕ) {src : ℕ} (pulse : Bool) {g : Fld}
    (hc : causeField src reach = some g) (f : Fld) (i : ℕ) (hv : f.code % 262144 ≠ F.FUSE_STAT_VALID.code % 262144) :
    getF (assertReset s reach unit src pulse) f i = getF (setF (setF s F.RST_CAUSE_LAST_REACH 0 reach) g 0 1) f i := by
  have hw : withCause (withReq s reach unit src pulse) reach src = setF (setF (withReq s reach unit src pulse) F.RST_CAUSE_LAST_REACH 0 reach) g 0 1 := by
    unfold withCause
    simp only [hc]
  have ha (u : Dev) : getF (abortFuse u) f i = getF u f i := getF_setF_code _ _ _ _ _ _ hv
  obtain rfl | rfl := hr
  · rw [assertReset_warm, hw]
    rfl
  · rw [assertReset_cold, ha, hw]
    rfl

theorem pwrgood_low (s : Dev) (t : ℕ) :
    Asserted (pwrgood s t false) 8 0 1 ∧ getF (pwrgood s t false) F.RST_CAUSE_PWRGOOD 0 = 1 ∧ getF (pwrgood s t false) F.FUSE_STAT_VALID 0 = 0 ∧
      hbmState (pwrgood s t false) 0 = 0 ∧ hbmState (pwrgood s t false) 1 = 0 ∧ .pin pinAll 2 ∈ (pwrgood s t false).out ∧
      (pwrgood s t false).jrn.outage = true ∧ (pwrgood s t false).rst.pwrLowAt ≠ none := by
  have hcause : getF (assertReset (s.at t) 8 0 1 false) F.RST_CAUSE_PWRGOOD 0 = 1 := by
    rw [getF_assertReset_cause _ (.inr rfl) _ _ rfl _ _ (by decide), getF_setF_same]
    rfl
  have hvalid : getF (assertReset (s.at t) 8 0 1 false) F.FUSE_STAT_VALID 0 = 0 := by
    rw [assertReset_cold]
    exact getF_setF_same _ _ _ _
  have hjrn : (assertReset (s.at t) 8 0 1 false).jrn.outage = true := by
    rw [assertReset_cold]
    rfl
  have has := asserted_assertReset (s.at t) 8 0 1 false
  rw [pwrgood_low_eq]
  generalize assertReset (s.at t) 8 0 1 false = u at hcause hvalid hjrn has
  refine ⟨asserted_of_reqs has rfl, (getF_stopped u _ _ (by decide)).trans hcause, (getF_stopped u _ _ (by decide)).trans hvalid,
    (hbmState_stopped u).1, (hbmState_stopped u).2, List.mem_cons_self, hjrn, ?_⟩
  dsimp only
  split <;> exact Option.some_ne_none _

/-- PWRGOOD high again, after a low time that was `long` or not. -/
def pwrBack (s : Dev) (long : Bool) : Dev :=
  let s := releaseReset { s with rst := { s.rst with pwrLowAt := none } } 8 0 1
  let s := if long && s.rst.fuseFailPin then
      driveFaultN (emit { s with rst := { s.rst with fuseFailPin := false, fuseFails := 0 } } (.pin pinFuseFail 2)) else s
  coldReleased s

theorem pwrgood_high_eq (s : Dev) (t : ℕ) :
    pwrgood s t true = pwrBack (s.at t) (match s.rst.pwrLowAt with | some a => decide (a + 540000 ≤ t) | none => false) := by
  unfold pwrgood pwrBack
  rfl

theorem low_coldReleased (s : Dev) : (coldReleased s).rst.pwrLowAt = s.rst.pwrLowAt := by
  unfold coldReleased
  split <;> rfl

theorem pwrgood_high (s : Dev) (t : ℕ) : (pwrgood s t true).rst.pwrLowAt = none ∧ Released (pwrgood s t true) 8 0 1 := by
  rw [pwrgood_high_eq]
  generalize (match s.rst.pwrLowAt with | some a => decide (a + 540000 ≤ t) | none => false) = long
  have hrel := released_releaseReset { s.at t with rst := { s.rst with pwrLowAt := none } } 8 0 1
  unfold pwrBack
  dsimp only
  constructor
  · rw [low_coldReleased]
    split <;> rfl
  · refine released_of_reqs ?_ (reqs_coldReleased _)
    split
    · exact released_of_reqs hrel rfl
    · exact hrel

/-! RESET_N. -/

theorem resetN_low (s : Dev) (t : ℕ) {reach : ℕ} (hr : reach = if s.rst.phase ≠ 2 ∨ getF s F.FUSE_STAT_RESETN_COLD 0 = 1 then 8 else 7) :
    Asserted (resetN s t true) reach 0 2 ∧ getF (resetN s t true) F.RST_CAUSE_RESET_N 0 = 1 ∧ getF (resetN s t true) F.RST_CAUSE_LAST_REACH 0 = reach := by
  have he : resetN s t true = assertReset (s.at t) reach 0 2 false := by
    rw [hr]
    unfold resetN
    rfl
  have h78 : reach = 7 ∨ reach = 8 := by
    split at hr
    · exact .inr hr
    · exact .inl hr
  have hc : causeField 2 reach = some F.RST_CAUSE_RESET_N := rfl
  rw [he]
  refine ⟨asserted_assertReset _ _ _ _ _, ?_, ?_⟩
  · rw [getF_assertReset_cause _ h78 _ _ hc _ _ (by decide), getF_setF_same]
    rfl
  · rw [getF_assertReset_cause _ h78 _ _ hc _ _ (by decide), getF_setF_code _ _ _ _ _ _ (by decide), getF_setF_same]
    exact Nat.mod_eq_of_lt (lt_of_le_of_lt (b := 8) (by omega) (by decide))

theorem resetN_high (s : Dev) (t : ℕ) : ∀ r ∈ (resetN s t false).rst.reqs, r.reach = 7 ∨ r.reach = 8 → r.unit = 0 → r.src = 2 → r.pulse = true ∧ r.entered = false := by
  have he : (resetN s t false).rst.reqs = (releaseReset (releaseReset (s.at t) 7 0 2) 8 0 2).rst.reqs := by
    unfold resetN
    dsimp only
    rw [if_neg (by decide)]
    split
    · exact reqs_coldReleased _
    · rfl
  rw [he]
  rintro r hr (h | h) hu hs
  · exact released_of_releaseReset (released_releaseReset (s.at t) 7 0 2) 8 0 2 r hr h hu hs
  · exact released_releaseReset (releaseReset (s.at t) 7 0 2) 8 0 2 r hr h hu hs

/-! RST_SW. -/

theorem rstSwPulse_refused {s : Dev} {t key reach index : ℕ} (h : key ≠ 0xA5 ∨ swUnit reach index = none) :
    rstSwPulse s t key reach index = setF (s.at t) F.RST_STAT_SW_ERR 0 1 := by
  unfold rstSwPulse
  dsimp only
  split
  · rfl
  · next hk =>
    rw [h.resolve_left hk]
    rfl

/-- Where a hold or a release is discarded. -/
theorem swRefused {s : Dev} {key reach index : ℕ} (g : ℕ → Dev) (h : key ≠ 0xA5 ∨ reach ∉ [3, 4, 6] ∨ swUnit reach index = none) :
    (if key ≠ 0xA5 ∨ (!([3, 4, 6].contains reach)) = true then swErr s
      else match swUnit reach index with | none => swErr s | some u => g u) = setF s F.RST_STAT_SW_ERR 0 1 := by
  split
  · rfl
  · next hk =>
    obtain ⟨h1, h2⟩ := not_or.mp hk
    have h3 : ¬ reach ∉ [3, 4, 6] := by simpa using h2
    rw [(h.resolve_left h1).resolve_left h3]
    rfl

theorem swAllowed {s : Dev} {key reach index u : ℕ} (g : ℕ → Dev) (hk : key = 0xA5) (hr : reach ∈ [3, 4, 6]) (hu : swUnit reach index = some u) :
    (if key ≠ 0xA5 ∨ (!([3, 4, 6].contains reach)) = true then swErr s
      else match swUnit reach index with | none => swErr s | some u => g u) = g u := by
  have h : ¬ (key ≠ 0xA5 ∨ (!([3, 4, 6].contains reach)) = true) := by
    refine not_or.mpr ⟨not_not.mpr hk, ?_⟩
    rw [List.contains_iff_mem.mpr hr]
    decide
  rw [if_neg h, hu]

/-- The device before a pulse on the active processor fences it. -/
theorem rstSwPulse_eq {s : Dev} {t key reach index u : ℕ} (hk : key = 0xA5) (hu : swUnit reach index = some u) :
    rstSwPulse s t key reach index =
      if reach = 5 ∧ activePp (assertReset (freePlane (s.at t) reach u) reach u 3 true) = u ∧
          ppState (assertReset (freePlane (s.at t) reach u) reach u 3 true) u = 0 then fence (assertReset (freePlane (s.at t) reach u) reach u 3 true) 4
      else assertReset (freePlane (s.at t) reach u) reach u 3 true := by
  unfold rstSwPulse
  dsimp only
  rw [if_neg (not_not.mpr hk), hu]
  rfl

theorem reqs_markRevert (s : Dev) (cause : ℕ) : (markRevert s cause).rst.reqs = s.rst.reqs := (within_markRevert_self s cause).part .reqs (by decide)

theorem reqs_fenceCut (s : Dev) : (fenceCut s).rst.reqs = s.rst.reqs := (within_fenceCut s).part .reqs (by decide)

theorem asserted_fenceHand {s : Dev} {reach unit src : ℕ} (h : Asserted s reach unit src) (h9 : src ≠ 9) (a : ℕ) (b : Bool) :
    Asserted (fenceHand s a b) reach unit src := by
  have h0 : Asserted (setPp s a 2) reach unit src := asserted_of_reqs h rfl
  have h1 := asserted_assertReset_other h0 5 a 9 false
  unfold fenceHand
  generalize assertReset (setPp s a 2) 5 a 9 false = u at h1
  cases b
  · exact h1
  · have h2 : Asserted (setF (setPp u (1 - a) 0) F.BELAY_STAT_ACTIVE_PP 0 (1 - a)) reach unit src := asserted_of_reqs h1 rfl
    exact asserted_dropReset h2 h9

/-- The record of a fence: the history window and the event. -/
def fenceNote (s : Dev) (cause : ℕ) : Dev :=
  let s := historyWindow s
  raise s 0x0E 31 0 (failoverDetail (getF s F.BELAY_STAT_ACTIVE_PP 0) cause 0 s.ctl.epoch)

theorem reqs_fenceNote (s : Dev) (cause : ℕ) : (fenceNote s cause).rst.reqs = s.rst.reqs := by
  unfold fenceNote
  dsimp only
  rw [raise_rst]
  rfl

theorem fenceTail_eq (s : Dev) (cause : ℕ) (again : Bool) :
    fenceTail s cause again = if again then assertReset (fenceNote s cause) 7 0 9 true else fenceNote s cause := by
  unfold fenceTail fenceNote
  dsimp only

theorem asserted_fenceTail {s : Dev} {reach unit src : ℕ} (h : Asserted s reach unit src) (cause : ℕ) (again : Bool) :
    Asserted (fenceTail s cause again) reach unit src := by
  have h1 : Asserted (fenceNote s cause) reach unit src := asserted_of_reqs h (reqs_fenceNote s cause)
  rw [fenceTail_eq]
  split
  · exact asserted_assertReset_other h1 _ _ _ _
  · exact h1

/-- A fence of the processor leaves a software source of it in the list. -/
theorem asserted_fence {s : Dev} {reach unit src : ℕ} (h : Asserted s reach unit src) (h9 : src ≠ 9) (cause : ℕ) : Asserted (fence s cause) reach unit src := by
  rw [fence_eq]
  exact asserted_fenceTail (asserted_fenceHand (asserted_of_reqs h (reqs_fenceCut s)) h9 _ _) _ _

theorem freePlane_keeps (s : Dev) (reach u : ℕ) :
    (∀ f i, getF (freePlane s reach u) f i = getF s f i) ∧ (freePlane s reach u).ctl = s.ctl := by
  unfold freePlane
  split <;> exact ⟨fun _ _ => rfl, rfl⟩

theorem epoch_assertReset (s : Dev) (reach unit src : ℕ) (pulse : Bool) : (assertReset s reach unit src pulse).ctl.epoch = s.ctl.epoch := by
  have h : Within resetFoot s (assertReset s reach unit src pulse) := (within_assertReset _ _ _ _ _ _ (by decide)).mpr (.refl _ _)
  exact h.epoch (by decide)

theorem rstSwPulse_asserts {s : Dev} {t key reach index u : ℕ} (hk : key = 0xA5) (hu : swUnit reach index = some u) :
    Asserted (rstSwPulse s t key reach index) reach u 3 := by
  rw [rstSwPulse_eq hk hu]
  split
  · exact asserted_fence (asserted_assertReset _ _ _ _ _) (by decide) _
  · exact asserted_assertReset _ _ _ _ _

theorem rstSwPulse_fences {s : Dev} {t key reach index u : ℕ} (hk : key = 0xA5) (hu : swUnit reach index = some u) (hr : reach = 5)
    (ha : activePp s = u) (hp : ppState s u = 0) : (rstSwPulse s t key reach index).ctl.epoch = (s.ctl.epoch + 1) % 2 ^ 32 := by
  subst hr
  have hfree : freePlane (s.at t) 5 u = s.at t := if_neg (by decide)
  have hreg : assertReset (s.at t) 5 u 3 true = withReq (s.at t) 5 u 3 true := assertReset_small _ (by decide) _ _ _
  rw [rstSwPulse_eq hk hu, hfree, hreg]
  rw [if_pos ⟨rfl, ha, hp⟩, epoch_fence]
  rfl

theorem reqs_syncHeld (s : Dev) : (syncHeld s).rst.reqs = s.rst.reqs := rfl

theorem rstSwHold_holds {s : Dev} {t key reach index u : ℕ} (hk : key = 0xA5) (hr : reach ∈ [3, 4, 6]) (hu : swUnit reach index = some u) :
    ∃ r ∈ (rstSwHold s t key reach index).rst.reqs, r.reach = reach ∧ r.unit = u ∧ r.src = 3 ∧ r.pulse = false := by
  have he : rstSwHold s t key reach index = syncHeld (assertReset (freePlane (s.at t) reach u) reach u 3 false) := swAllowed _ hk hr hu
  obtain ⟨r, hm, h1, h2, h3, h4⟩ := mem_reqsWith (freePlane (s.at t) reach u).rst.reqs reach u 3 false
  rw [he, reqs_syncHeld, reqs_assertReset]
  exact ⟨r, hm, h1, h2, h3, h4 rfl⟩

theorem rstSwRelease_releases {s : Dev} {t key reach index u : ℕ} (hk : key = 0xA5) (hr : reach ∈ [3, 4, 6]) (hu : swUnit reach index = some u) :
    Released (rstSwRelease s t key reach index) reach u 3 := by
  have he : rstSwRelease s t key reach index = syncHeld (releaseReset (s.at t) reach u 3) := swAllowed _ hk hr hu
  rw [he]
  exact released_of_reqs (released_releaseReset _ _ _ _) (reqs_syncHeld _)

theorem rstSwHold_refused {s : Dev} {t key reach index : ℕ} (h : key ≠ 0xA5 ∨ reach ∉ [3, 4, 6] ∨ swUnit reach index = none) :
    rstSwHold s t key reach index = setF (s.at t) F.RST_STAT_SW_ERR 0 1 := swRefused _ h

theorem rstSwRelease_refused {s : Dev} {t key reach index : ℕ} (h : key ≠ 0xA5 ∨ reach ∉ [3, 4, 6] ∨ swUnit reach index = none) :
    rstSwRelease s t key reach index = setF (s.at t) F.RST_STAT_SW_ERR 0 1 := swRefused _ h

/-- Settles O48, source by source. -/
theorem resetSourcesAssert : Obligations.ResetSourcesAssert := by
  refine ⟨fun s t => ⟨?_, fun hp hf hr => gives_of rfl (por_released hp hf hr), gives_of rfl (pwrgood_low s.dev t),
      gives_of rfl (pwrgood_high s.dev t), fun reach hr => gives_of rfl (resetN_low s.dev t hr), gives_of rfl (resetN_high s.dev t)⟩,
    fun s t key reach index => ⟨fun u hk hu => ⟨gives_of rfl (rstSwPulse_asserts hk hu),
        fun hr ha hp => gives_of rfl (rstSwPulse_fences hk hu hr ha hp),
        fun hr => ⟨gives_of rfl (rstSwHold_holds hk hr hu), gives_of rfl (rstSwRelease_releases hk hr hu)⟩⟩,
      fun h => gives_of rfl (rstSwPulse_refused h),
      fun h => ⟨gives_of rfl (rstSwHold_refused h), gives_of rfl (rstSwRelease_refused h)⟩⟩⟩
  obtain ⟨hp, hi, hc, hf⟩ := por_asserted s.dev t
  exact ⟨_, rfl, rfl, hp, hi, hc, hf⟩

end Sys2Proof.Machine
end

section
/-! The device's own reset sources: the watchdog, the thermal trip and the fuse shadow's parity (R449, R450, R456). -/

namespace Sys2Proof.Machine

open Sys2Proof.Claims

variable {W : Foot}

/-! The reset state through a fence. -/

theorem rst_markRevert (s : Dev) (cause : ℕ) : (markRevert s cause).rst = s.rst := by
  unfold markRevert
  dsimp only
  split_ifs <;> rfl

theorem rst_journal (s : Dev) (n : ℕ) : (journal s n).rst = s.rst := by
  unfold journal
  dsimp only
  split <;> rfl

theorem rst_fenceCut (s : Dev) : (fenceCut s).rst = s.rst := (rst_journal _ _).trans (rst_markRevert s 3)

theorem rst_fenceNote (s : Dev) (cause : ℕ) : (fenceNote s cause).rst = s.rst := by
  unfold fenceNote
  dsimp only
  rw [raise_rst]
  rfl

theorem wdog_fence (s : Dev) (cause : ℕ) : (fence s cause).rst.wdog = s.rst.wdog := by
  have hhand (x : Dev) (a : ℕ) (b : Bool) : (fenceHand x a b).rst.wdog = x.rst.wdog := by
    unfold fenceHand
    rw [assertReset_small _ (by decide)]
    cases b <;> rfl
  rw [fence_eq, fenceTail_eq]
  split
  · rw [rst_assertReset, rst_fenceNote, hhand, rst_fenceCut]
  · rw [rst_fenceNote, hhand, rst_fenceCut]

/-! The watchdog. -/

theorem watchdog_fences {s : Dev} {t : ℕ} (ha : activePp s < 2) (hp : ppState s (activePp s) = 0) (hl : (wdogEvents (s.at t)).length < 2) :
    (watchdog s t).rst.wdog = t :: wdogEvents (s.at t) ∧ Asserted (watchdog s t) 5 (activePp s) 4 ∧ ppState (watchdog s t) (activePp s) = 2 ∧
      (watchdog s t).ctl.epoch = (s.ctl.epoch + 1) % 2 ^ 32 := by
  generalize hu : ({ s.at t with rst := { s.rst with wdog := t :: wdogEvents (s.at t) } } : Dev) = u
  have he : watchdog s t = fence (assertReset u 5 (activePp s) 4 true) 4 := by
    have h1 : ¬ ppState (s.at t) (getF (s.at t) F.BELAY_STAT_ACTIVE_PP 0) ≠ 0 := not_not.mpr hp
    have h2 : ¬ 2 ≤ (wdogEvents (s.at t)).length := Nat.not_le.mpr hl
    rw [← hu]
    unfold watchdog
    dsimp only
    rw [if_neg h1, if_neg h2]
    rfl
  have hact : activePp (assertReset u 5 (activePp s) 4 true) = activePp s := by
    rw [assertReset_small _ (by decide), ← hu]
    rfl
  have hstand (n : ℕ) : ppState (assertReset u 5 (activePp s) 4 true) n = ppState s n := by
    rw [assertReset_small _ (by decide), ← hu]
    rfl
  rw [he]
  refine ⟨?_, asserted_fence (asserted_assertReset _ _ _ _ _) (by decide) _, ?_, ?_⟩
  · rw [wdog_fence, rst_assertReset, ← hu]
  · rw [ppState_fence, hact]
    exact ppState_fenceHand_active _ ha _
  · rw [epoch_fence, epoch_assertReset, ← hu]
    rfl

theorem watchdog_warms {s : Dev} {t : ℕ} (hp : ppState s (activePp s) = 0) (hl : 2 ≤ (wdogEvents (s.at t)).length) :
    (watchdog s t).rst.wdog = [] ∧ Asserted (watchdog s t) 7 0 4 ∧ getF (watchdog s t) F.RST_CAUSE_WDOG_WARM 0 = 1 ∧
      (watchdog s t).ctl.epoch = s.ctl.epoch := by
  have he : watchdog s t = assertReset { s.at t with rst := { s.rst with wdog := [] } } 7 0 4 true := by
    have h1 : ¬ ppState (s.at t) (getF (s.at t) F.BELAY_STAT_ACTIVE_PP 0) ≠ 0 := not_not.mpr hp
    unfold watchdog
    dsimp only
    rw [if_neg h1, if_pos hl]
    rfl
  rw [he]
  refine ⟨by rw [rst_assertReset], asserted_assertReset _ _ _ _ _, ?_, epoch_assertReset _ _ _ _ _⟩
  rw [getF_assertReset_cause _ (.inl rfl) _ _ rfl _ _ (by decide), getF_setF_same]
  rfl

/-! The thermal trip. -/

/-- COLD asserted and held, FAULT_N low. -/
def tripped (s : Dev) : Dev := driveFaultN (assertReset { s with rst := { s.rst with thermalHold := true } } 8 0 7 false)

theorem tripped_holds (s : Dev) :
    Asserted (tripped s) 8 0 7 ∧ (tripped s).rst.thermalHold = true ∧ getF (tripped s) F.RST_CAUSE_THERMAL 0 = 1 ∧
      (tripped s).out.head? = some (.pin pinFaultN 0) := by
  generalize hu : assertReset { s with rst := { s.rst with thermalHold := true } } 8 0 7 false = u
  have has : Asserted u 8 0 7 := hu ▸ asserted_assertReset _ _ _ _ _
  have hold : u.rst.thermalHold = true := by rw [← hu, rst_assertReset]
  have hc : getF u F.RST_CAUSE_THERMAL 0 = 1 := by
    rw [← hu, getF_assertReset_cause _ (.inr rfl) _ _ rfl _ _ (by decide), getF_setF_same]
    rfl
  have hlow : faultNLow u = true := by
    unfold faultNLow
    rw [hold]
    simp
  have he : tripped s = emit u (.pin pinFaultN 0) := by
    unfold tripped driveFaultN
    rw [hu, if_pos hlow]
  rw [he]
  exact ⟨asserted_of_reqs has rfl, hold, hc, rfl⟩

theorem thermalTrip_eq (s : Dev) (t : ℕ) (temps : List ℤ) :
    thermalTrip s t temps =
      if (temps.take 40).any (fun v => decide ((tripLevel (s.at t)).1 ≤ v)) then
        tripped (if (tripLevel (s.at t)).2.rst.phase = 2 then faultEvent (tripLevel (s.at t)).2 43 0x0C 0 else (tripLevel (s.at t)).2)
      else (tripLevel (s.at t)).2 := rfl

/-- The trip level, from the fuses where they are valid. -/
theorem tripLevel_fused {s : Dev} (h : getF s F.FUSE_STAT_VALID 0 = 1) : tripLevel s = (2560, s) := if_pos h

theorem tripLevel_range (s : Dev) : 2480 ≤ (tripLevel s).1 ∧ (tripLevel s).1 ≤ 2640 := by
  unfold tripLevel
  split
  · exact ⟨by norm_num, by norm_num⟩
  · dsimp only
    have := Nat.mod_lt (takeFree s 16).1 (show 0 < 161 by decide)
    omega

theorem tripLevel_keeps (s : Dev) : (tripLevel s).2.rst = s.rst ∧ (tripLevel s).2.out = s.out ∧ ∀ f i, getF (tripLevel s).2 f i = getF s f i := by
  unfold tripLevel
  split <;> exact ⟨rfl, rfl, fun _ _ => rfl⟩

theorem thermalTrip_hot {s : Dev} {t : ℕ} {temps : List ℤ} (h : ∃ v ∈ temps.take 40, 2640 ≤ v ∨ (2560 ≤ v ∧ getF s F.FUSE_STAT_VALID 0 = 1)) :
    Asserted (thermalTrip s t temps) 8 0 7 ∧ (thermalTrip s t temps).rst.thermalHold = true ∧
      getF (thermalTrip s t temps) F.RST_CAUSE_THERMAL 0 = 1 ∧ (thermalTrip s t temps).out.head? = some (.pin pinFaultN 0) := by
  obtain ⟨v, hv, hh⟩ := h
  have hle : (tripLevel (s.at t)).1 ≤ v := by
    obtain h | ⟨h, hf⟩ := hh
    · exact le_trans (tripLevel_range _).2 h
    · rw [tripLevel_fused (s := s.at t) hf]
      exact h
  have hany : ((temps.take 40).any fun v => decide ((tripLevel (s.at t)).1 ≤ v)) = true := List.any_eq_true.mpr ⟨v, hv, decide_eq_true hle⟩
  rw [thermalTrip_eq, if_pos hany]
  exact tripped_holds _

theorem thermalTrip_cool {s : Dev} {t : ℕ} {temps : List ℤ} (h : ∀ v ∈ temps.take 40, v < 2480 ∨ (v < 2560 ∧ getF s F.FUSE_STAT_VALID 0 = 1)) :
    (thermalTrip s t temps).rst = s.rst ∧ (thermalTrip s t temps).out = s.out ∧ ∀ f i, getF (thermalTrip s t temps) f i = getF s f i := by
  have hany : ¬ ((temps.take 40).any fun v => decide ((tripLevel (s.at t)).1 ≤ v)) = true := by
    intro hc
    obtain ⟨v, hv, hd⟩ := List.any_eq_true.mp hc
    have hle := of_decide_eq_true hd
    obtain h | ⟨h, hf⟩ := h v hv
    · have := (tripLevel_range (s.at t)).1
      omega
    · rw [tripLevel_fused (s := s.at t) hf] at hle
      omega
  rw [thermalTrip_eq, if_neg hany]
  exact tripLevel_keeps (s.at t)

theorem thermalHoldEnd_ends {s : Dev} {t since : ℕ} (h : s.rst.thermalHold = true) (ht : since + tickSec ≤ t) :
    (thermalHoldEnd s t since).rst.thermalHold = false ∧ Released (thermalHoldEnd s t since) 8 0 7 := by
  have he : thermalHoldEnd s t since = coldReleased (driveFaultN (releaseReset { s.at t with rst := { s.rst with thermalHold := false } } 8 0 7)) :=
    if_pos ⟨h, ht⟩
  have hc (u : Dev) : (coldReleased u).rst.thermalHold = u.rst.thermalHold := by
    unfold coldReleased
    split <;> rfl
  rw [he, hc]
  exact ⟨rfl, released_of_reqs (released_releaseReset _ 8 0 7) (reqs_coldReleased _)⟩

/-! An event in two parts: its note, and its reaction where it is FATAL. -/

/-- An event noted in the collector, before its reaction. -/
def faultNote (s : Dev) (b cause sub : ℕ) : Dev :=
  let fatal := isFatal cause
  let act := if fatal then actionFor s b else 0
  let fn := if fatal then getF s F.FLT_REACT_FAULT_N b else 0
  let q := capture (faultHead s b cause sub) b cause sub
  let s := logFault q.2 b (faultRecord q.2 b cause sub act fn 0)
  let s := if fatal then
      { s with flt := { s.flt with drives := if fn = 1 then s.flt.drives ||| 2 ^ b else s.flt.drives - (s.flt.drives &&& 2 ^ b) } }
    else s
  raise s 0x11 b 0 (faultDetail sub cause 1 (b2n fatal) act fn (b2n q.1) 0)

theorem faultEvent_eq (s : Dev) (b cause sub : ℕ) :
    faultEvent s b cause sub =
      if isFatal cause then react (outOfService (driveFaultN (faultNote s b cause sub)) b) b (if isFatal cause then actionFor s b else 0)
      else faultNote s b cause sub := by
  unfold faultEvent faultNote faultHead
  dsimp only

/-- What the note of an event changes. -/
def noteFoot : Foot :=
  { flds := [F.HIF_EVT_STAT_PROD, F.HIF_EVT_STAT_LOST], blks := [blkFlt], parts := [.flt, .host, .out] }

theorem within_faultNote (s : Dev) (b cause sub : ℕ) : Within noteFoot s (faultNote s b cause sub) := by
  have hc (u : Dev) : Within noteFoot u (capture u b cause sub).2 := (within_captureFoot_capture u b cause sub).mono (by decide)
  have hh : Within noteFoot s (faultHead s b cause sub) := by
    unfold faultHead
    simp (decide := true)
  have hl (u : Dev) (e : ℕ) : Within noteFoot s (logFault u b e) ↔ Within noteFoot s u := by
    refine Within.skip (V := noteFoot) ?_ (by decide)
    unfold logFault
    simp (decide := true) [↓within_ite]
  have hq := hh.trans (hc _)
  unfold faultNote
  dsimp only
  generalize capture (faultHead s b cause sub) b cause sub = q at hq
  simp (decide := true) [↓within_ite, hl, hq]

/-- What taking a block out of service changes. -/
def outServiceFoot : Foot :=
  { flds := [F.FLS_STAT_STATE, F.PLN_STATE_STATE, F.PLN_STATE_TILE_FAIL, F.PLN_STATE_HBM_FAIL, F.PLN_STATE_COL_FAIL, F.HIF_EVT_STAT_PROD,
      F.HIF_EVT_STAT_LOST, F.SYS_STATE_DEGRADED, F.JRN_STAT_FL0, F.JRN_STAT_FL1, F.BELAY_STAT_PP0_STATE, F.BELAY_STAT_PP1_STATE],
    parts := [.flt, .host, .out, .planes] }

theorem within_out_outOfService (s : Dev) (b : ℕ) : Within outServiceFoot s (outOfService s b) := by
  unfold outOfService degradePlane setPlane syncDegraded setPp
  simp (decide := true) [↓within_ite]

/-! Sources and causes through a reaction. -/

/-- A field that is none of the causes that an asserted source records. -/
theorem getF_assertReset_other (s : Dev) (reach unit src : ℕ) (pulse : Bool) (f : Fld) (i : ℕ)
    (hl : f.code % 262144 ≠ F.RST_CAUSE_LAST_REACH.code % 262144) (hv : f.code % 262144 ≠ F.FUSE_STAT_VALID.code % 262144)
    (hc : ∀ g, causeField src reach = some g → f.code % 262144 ≠ g.code % 262144) : getF (assertReset s reach unit src pulse) f i = getF s f i := by
  have hw (u : Dev) : getF (withCause u reach src) f i = getF u f i := by
    unfold withCause
    cases hg : causeField src reach with
    | none => exact getF_setF_code _ _ _ _ _ _ hl
    | some g => exact (getF_setF_code _ _ _ _ _ _ (hc g hg)).trans (getF_setF_code _ _ _ _ _ _ hl)
  have ha (u : Dev) : getF (abortFuse u) f i = getF u f i := getF_setF_code _ _ _ _ _ _ hv
  have h1 : getF (if reach = 7 ∨ reach = 8 then withCause (withReq s reach unit src pulse) reach src else withReq s reach unit src pulse) f i = getF s f i := by
    split
    · rw [hw]
      rfl
    · rfl
  rw [assertReset_eq]
  dsimp only
  generalize (if reach = 7 ∨ reach = 8 then withCause (withReq s reach unit src pulse) reach src else withReq s reach unit src pulse) = u at h1
  have h2 : getF (if reach = 7 ∨ reach = 8 then { u with jrn := { u.jrn with outage := true } } else u) f i = getF u f i := by split <;> rfl
  split
  · rw [ha, h2, h1]
  · rw [h2, h1]

theorem getF_fence_cause (s : Dev) (cause : ℕ) (f : Fld) (i : ℕ) (hc : fenceCutFoot.hits (f.code % 262144) = false)
    (hh : Foot.hits { blks := [blkBelay] } (f.code % 262144) = false)
    (hn : Foot.hits { flds := [F.FLT_MODE_MODE, F.FLT_MODE_WINDOW_S, F.HIF_EVT_STAT_PROD, F.HIF_EVT_STAT_LOST] } (f.code % 262144) = false)
    (hl : f.code % 262144 ≠ F.RST_CAUSE_LAST_REACH.code % 262144) (hv : f.code % 262144 ≠ F.FUSE_STAT_VALID.code % 262144) :
    getF (fence s cause) f i = getF s f i := by
  have hcut := (within_fenceCut s).fld f i hc
  have hhand (x : Dev) (a : ℕ) (b : Bool) : getF (fenceHand x a b) f i = getF x f i := by
    have hw : Within { blks := [blkBelay], parts := [.reqs] } x (fenceHand x a b) := by
      unfold fenceHand setPp
      simp (decide := true) [↓within_ite, within_assertReset_pp]
    exact hw.fld f i hh
  have hnote (x : Dev) : getF (fenceNote x cause) f i = getF x f i := by
    have hw : Within { flds := [F.FLT_MODE_MODE, F.FLT_MODE_WINDOW_S, F.HIF_EVT_STAT_PROD, F.HIF_EVT_STAT_LOST], parts := [.flt, .host, .out] }
        x (fenceNote x cause) := by
      unfold fenceNote historyWindow
      simp (decide := true)
    exact hw.fld f i hn
  rw [fence_eq, fenceTail_eq]
  split
  · rw [getF_assertReset_other _ _ _ _ _ _ _ hl hv (fun g hg => by cases hg), hnote, hhand, hcut]
  · rw [hnote, hhand, hcut]

theorem asserted_react {s : Dev} {reach unit src : ℕ} (h : Asserted s reach unit src) (h9 : src ≠ 9) (b act : ℕ) : Asserted (react s b act) reach unit src := by
  unfold react
  split_ifs
  · unfold planeReaction
    split
    · exact h
    · refine asserted_assertReset_other (asserted_of_reqs h ?_) _ _ _ _
      rfl
  · exact asserted_fence h h9 2
  · refine asserted_assertReset_other (asserted_of_reqs h ?_) _ _ _ _
    rfl
  · exact asserted_assertReset_other h _ _ _ _
  · exact h

/-- An event leaves the sources asserted before it. -/
theorem asserted_faultEvent {s : Dev} {reach unit src : ℕ} (h : Asserted s reach unit src) (h9 : src ≠ 9) (b cause sub : ℕ) :
    Asserted (faultEvent s b cause sub) reach unit src := by
  have hn : Asserted (faultNote s b cause sub) reach unit src := asserted_of_reqs h ((within_faultNote s b cause sub).part .reqs (by decide))
  rw [faultEvent_eq]
  split
  · refine asserted_react ?_ h9 _ _
    exact asserted_of_reqs hn ((within_out_outOfService (driveFaultN (faultNote s b cause sub)) b).part .reqs (by decide))
  · exact hn

theorem parity_react (s : Dev) (b act : ℕ) : getF (react s b act) F.RST_CAUSE_FUSE_PARITY 0 = getF s F.RST_CAUSE_FUSE_PARITY 0 := by
  have h5 (u : Dev) (reach unit : ℕ) (pulse : Bool) : getF (assertReset u reach unit 5 pulse) F.RST_CAUSE_FUSE_PARITY 0 = getF u F.RST_CAUSE_FUSE_PARITY 0 := by
    refine getF_assertReset_other _ _ _ _ _ _ _ (by decide) (by decide) fun g hg => ?_
    obtain rfl := Option.some.inj hg
    split <;> decide
  unfold react
  split_ifs
  · unfold planeReaction
    split
    · rfl
    · exact h5 _ _ _ _
  · exact getF_fence_cause _ _ _ _ (by decide) (by decide) (by decide) (by decide) (by decide)
  · exact h5 _ _ _ _
  · exact h5 _ _ _ _
  · rfl

theorem parity_faultEvent (s : Dev) (b cause sub : ℕ) : getF (faultEvent s b cause sub) F.RST_CAUSE_FUSE_PARITY 0 = getF s F.RST_CAUSE_FUSE_PARITY 0 := by
  have hn := (within_faultNote s b cause sub).fld F.RST_CAUSE_FUSE_PARITY 0 (by decide)
  have ho := (within_out_outOfService (driveFaultN (faultNote s b cause sub)) b).fld F.RST_CAUSE_FUSE_PARITY 0 (by decide)
  rw [faultEvent_eq]
  split
  · rw [parity_react, ho]
    exact hn
  · exact hn

theorem fuseParityCheck_bad {s : Dev} {t : ℕ} (h : getF s F.FUSE_STAT_VALID 0 = 1) :
    Asserted (fuseParityCheck s t true) 8 0 6 ∧ getF (fuseParityCheck s t true) F.RST_CAUSE_FUSE_PARITY 0 = 1 ∧
      fltBit (fuseParityCheck s t true) 42 = true := by
  have he : fuseParityCheck s t true = faultEvent (assertReset (s.at t) 8 0 6 true) 42 0x04 0 := if_pos ⟨rfl, h⟩
  rw [he]
  refine ⟨asserted_faultEvent (asserted_assertReset _ _ _ _ _) (by decide) _ _ _, ?_, fltBit_faultEvent_same _ _ _ _ (by decide)⟩
  rw [parity_faultEvent, getF_assertReset_cause _ (.inr rfl) _ _ rfl _ _ (by decide), getF_setF_same]
  rfl

/-- Settles O49, source by source. -/
theorem watchdogAndTripAct : Obligations.WatchdogAndTripAct := by
  intro s t
  exact ⟨fun ha hp => ⟨fun hl => gives_of rfl (watchdog_fences ha hp hl), fun hl => gives_of rfl (watchdog_warms hp hl)⟩,
    fun temps => ⟨fun h => gives_of rfl (thermalTrip_hot h), fun h => gives_of rfl (thermalTrip_cool h)⟩,
    fun since h ht => gives_of rfl (thermalHoldEnd_ends h ht), fun h => gives_of rfl (fuseParityCheck_bad h)⟩

end Sys2Proof.Machine
end

section
/-! Entry into reset and release from it (R446, R447, R453, R454). -/

namespace Sys2Proof.Machine

open Sys2Proof.Claims

variable {W : Foot}

/-! Entry and release of the blocks leave the lists of domains. -/

/-- Everything but the reset state beside its sources. -/
def domsFoot : Foot := { blks := List.range 32, parts := allParts.erase .rstRest }

theorem hits_domsFoot (c : ℕ) : domsFoot.hits (c % 262144) = true := by
  have hc : codeBlk (c % 262144) < 32 := by unfold codeBlk; omega
  unfold Foot.hits domsFoot
  rw [List.contains_iff_mem.mpr (List.mem_range.mpr hc), Bool.true_or]

theorem within_doms_loseFields (d s : Dev) (reach unit : ℕ) : Within domsFoot d (loseFields s reach unit) ↔ Within domsFoot d s :=
  within_filterRegs _ _ _ fun _ _ => hits_domsFoot _

theorem within_doms_enterLane (d s : Dev) (p l : ℕ) : Within domsFoot d (enterLane s p l) ↔ Within domsFoot d s := by
  refine Within.skip (V := domsFoot) ?_ (by decide)
  unfold enterLane
  simp (decide := true)

theorem within_doms_enterLink (d s : Dev) (p l : ℕ) : Within domsFoot d (enterLink s p l) ↔ Within domsFoot d s := by
  refine Within.skip (V := domsFoot) ?_ (by decide)
  unfold enterLink
  simp (decide := true) [↓within_ite, within_doms_enterLane]

theorem within_doms_enterTile (d s : Dev) (p t : ℕ) : Within domsFoot d (enterTile s p t) ↔ Within domsFoot d s := by
  refine Within.skip (V := domsFoot) ?_ (by decide)
  unfold enterTile
  simp (decide := true) [↓within_ite, within_doms_enterLink]

theorem within_doms_setPlane (d s : Dev) (p v cause jsn : ℕ) : Within domsFoot d (setPlane s p v cause jsn) ↔ Within domsFoot d s :=
  (within_whole_setPlane _ _ _ _ _ _ (by decide))

theorem within_doms_enterPlane (d s : Dev) (p src : ℕ) : Within domsFoot d (enterPlane s p src) ↔ Within domsFoot d s := by
  refine Within.skip (V := domsFoot) ?_ (by decide)
  unfold enterPlane
  rw [within_setFs_skip _ _ _ _ (fun _ _ => hits_domsFoot _), within_setF_skip _ _ _ _ _ (hits_domsFoot _), within_doms_loseFields,
    within_setPlaneSt _ _ _ _ (by decide)]
  simp (decide := true) [within_doms_enterTile, within_doms_setPlane]

theorem within_doms_enterPp (d s : Dev) (n : ℕ) : Within domsFoot d (enterPp s n) ↔ Within domsFoot d s := by
  refine Within.skip (V := domsFoot) ?_ (by decide)
  unfold enterPp
  rw [within_setF_skip _ _ _ _ _ (hits_domsFoot _)]

theorem within_doms_enterReq (d s : Dev) (r : RstReq) : Within domsFoot d (enterReq s r) ↔ Within domsFoot d s := by
  refine Within.skip (V := domsFoot) ?_ (by decide)
  unfold enterReq
  split
  · simp (decide := true)
  · simp only [within_doms_enterPp, within_self]
  · simp only [within_doms_enterPlane, within_self]
  · simp only [within_doms_loseFields, within_doms_enterTile, within_self]
  · rw [within_doms_loseFields]
    simp (decide := true) [↓within_ite, within_doms_enterLane, within_doms_enterLink]
  · simp only [within_doms_loseFields, within_doms_enterLane, within_self]
  · exact .refl _ _

theorem within_doms_enterControl (d s : Dev) : Within domsFoot d (enterControl s) ↔ Within domsFoot d s := by
  refine Within.skip (V := domsFoot) ?_ (by decide)
  unfold enterControl
  simp (decide := true)

theorem within_doms_dropNarrow (d s : Dev) : Within domsFoot d (dropNarrow s) ↔ Within domsFoot d s := by
  refine Within.skip (V := domsFoot) ?_ (by decide)
  unfold dropNarrow
  simp (decide := true)

theorem within_doms_enterWarm (d s : Dev) : Within domsFoot d (enterWarm s) ↔ Within domsFoot d s := by
  refine Within.skip (V := domsFoot) ?_ (by decide)
  unfold enterWarm
  dsimp only
  rw [within_stand_syncFltMode _ _ (by decide), within_fusePins _ _ _ (by decide), within_setJrn _ _ _ (by decide),
    within_foldl_skip _ _ _ _ fun s a => by
      split
      · exact within_setF _ _ _ _ (hits_domsFoot _)
      · exact .refl _ _,
    within_setF_skip _ _ _ _ _ (hits_domsFoot _), within_setF_skip _ _ _ _ _ (hits_domsFoot _), within_doms_enterControl, within_doms_loseFields,
    within_doms_dropNarrow, within_foldl_skip _ _ _ _ fun s a => (within_doms_enterLane _ _ _ _).mpr (.refl _ _), within_doms_enterPlane,
    within_doms_enterPlane, within_hifEnterReset _ _ _ (by decide), within_hifEnterReset _ _ _ (by decide)]

/-- The lists of the domains in reset and of those that wait for their clock. -/
def SameDoms (s u : Dev) : Prop := u.rst.inReset = s.rst.inReset ∧ u.rst.clkWait = s.rst.clkWait

theorem SameDoms.of_within {s u : Dev} (h : Within domsFoot s u) : SameDoms s u := by
  have hr : { u.rst with reqs := [] } = { s.rst with reqs := [] } := h.part .rstRest (by decide)
  have hi := congrArg RstSt.inReset hr
  have hc := congrArg RstSt.clkWait hr
  exact ⟨hi, hc⟩

theorem SameDoms.trans {s u v : Dev} (h : SameDoms s u) (k : SameDoms u v) : SameDoms s v := ⟨k.1.trans h.1, k.2.trans h.2⟩

theorem inReset_enterReqs (l : List RstReq) (s : Dev) : (l.foldl enterReq s).rst.inReset = s.rst.inReset :=
  (SameDoms.of_within (within_foldl _ (fun s r => (within_doms_enterReq s s r).mpr (.refl _ _)) l s)).1

theorem inReset_enterWarm (s : Dev) : (enterWarm s).rst.inReset = s.rst.inReset :=
  (SameDoms.of_within ((within_doms_enterWarm s s).mpr (.refl _ _))).1

/-- The control domain's own entry of a COLD reset, before the state that COLD alone loses. -/
def coldFields (s : Dev) : Dev :=
  enterControl (loseFields (dropNarrow (enterPlane (enterPlane (hifEnterReset (hifEnterReset s 0) 1) 0 0) 1 0)) 8 0)

/-- What COLD loses beside the registers (R446, R454). -/
def coldLost (s : Dev) : Dev :=
  let s := { s with rst := { s.rst with reqs := s.rst.reqs.filter fun r => decide (7 ≤ r.reach) || r.src == 3 || r.src == 8 } }
  let drop := fun (e : Nat × HifSt) => (e.1, ({ perst := e.2.perst } : HifSt))
  { s with
    host := { hifs := (s.host.hifs.map drop).filter (fun e => e.2 != ({} : HifSt)) }, ctl := {}, tim := {}, pln := {}, flt := {}, otl := {}, hbm := [],
    cmp := [], aud := [], profile := false, age := {}, avs := {},
    jrn := { durable := s.jrn.durable, durJsn := s.jrn.durJsn, peerLostAt := some s.now },
    sec := { s.sec with run := {}, hostLoaded := false, noWindow := false, stage := if s.sec.inFlash then s.sec.stage else none,
                        sched := none } }

theorem enterCold_eq (s : Dev) : enterCold s = floatPins (coldLost (coldFields s)) := rfl

theorem inReset_floatPins (s : Dev) : (floatPins s).rst.inReset = s.rst.inReset := rfl

theorem inReset_coldLost (s : Dev) : (coldLost s).rst.inReset = s.rst.inReset := rfl

theorem inReset_enterCold (s : Dev) : (enterCold s).rst.inReset = s.rst.inReset := by
  have h : Within domsFoot s (coldFields s) := by
    unfold coldFields
    rw [within_doms_enterControl, within_doms_loseFields, within_doms_dropNarrow, within_doms_enterPlane,
      within_doms_enterPlane, within_hifEnterReset _ _ _ (by decide), within_hifEnterReset _ _ _ (by decide)]
  rw [enterCold_eq, inReset_floatPins, inReset_coldLost, (SameDoms.of_within h).1]

theorem ctl_floatPins (s : Dev) : (floatPins s).ctl = s.ctl := rfl

theorem ctl_coldLost (s : Dev) : (coldLost s).ctl = {} := rfl

theorem ctl_enterCold (s : Dev) : (enterCold s).ctl = {} := by rw [enterCold_eq, ctl_floatPins, ctl_coldLost]

/-- The fields of the stacks and of held planes that WARM leaves at a value of their own. -/
def warmStates (s : Dev) (s0 s1 : ℕ) : Dev :=
  [0, 1].foldl (fun s p => if (planeOf s p).hold then setF s F.PLN_STATE_STATE p 5 else s)
    (setF (setF s F.HBM_STAT_STATE 0 (if s0 = 0 then 0 else 3)) F.HBM_STAT_STATE 1 (if s1 = 0 then 0 else 3))

theorem within_warmStates (s : Dev) (s0 s1 : ℕ) :
    Within { flds := [F.HBM_STAT_STATE, F.PLN_STATE_STATE] } s (warmStates s s0 s1) := by
  unfold warmStates
  rw [within_foldl_skip _ _ _ _ fun s a => by
      split
      · exact within_setF _ _ _ _ (by decide)
      · exact .refl _ _,
    within_setF_skip _ _ _ _ _ (by decide), within_setF_skip _ _ _ _ _ (by decide)]

/-- The blocks' and the control domain's own entry of a WARM reset. -/
def warmFields (s : Dev) : Dev :=
  enterControl (loseFields (dropNarrow ((List.range 4).foldl (fun s k => enterLane s 0 (80 + k))
    (enterPlane (enterPlane (hifEnterReset (hifEnterReset s 0) 1) 0 0) 1 0))) 7 0)

/-- What WARM notes of the journal's copies, and the pins. -/
def warmTail (s : Dev) (copy : Bool) : Dev :=
  syncFltMode (fusePins { s with jrn := { s.jrn with cold := s.jrn.cold || !copy } } configPins)

theorem enterWarm_eq (s : Dev) :
    enterWarm s = warmTail (warmStates (warmFields s) (hbmState s 0) (hbmState s 1))
      (getF s F.JRN_STAT_HBM0 0 == 1 || getF s F.JRN_STAT_HBM1 0 == 1) := by
  unfold enterWarm warmTail warmStates warmFields
  dsimp only

theorem outage_warmTail (s : Dev) (copy : Bool) : (warmTail s copy).jrn.outage = s.jrn.outage := by
  unfold warmTail
  have hx : ({ s with jrn := { s.jrn with cold := s.jrn.cold || !copy } } : Dev).jrn.outage = s.jrn.outage := rfl
  generalize ({ s with jrn := { s.jrn with cold := s.jrn.cold || !copy } } : Dev) = x at hx
  rw [((within_stand_syncFltMode _ _ (W := standFoot) (by decide)).mpr (.refl _ _)).jrn (by decide),
    ((within_fusePins _ _ _ (W := outFoot) (by decide)).mpr (.refl _ _)).jrn (by decide), hx]

/-- WARM stops validation (R367). -/
theorem outage_enterWarm (s : Dev) : (enterWarm s).jrn.outage = true := by
  rw [enterWarm_eq, outage_warmTail, (within_warmStates _ _ _).jrn (by decide)]
  rfl

/-! The entry into reset (R447). -/

/-- The requests whose entry is still to come. -/
def newReqs (s : Dev) : List RstReq := s.rst.reqs.filter fun r => !r.entered

/-- The domains that the new requests cover join those in reset. -/
def entryLists (s : Dev) : Dev :=
  { s with rst := { s.rst with
      inReset := allDoms.filter fun d => s.rst.inReset.contains d || (newReqs s).any fun r => coversIn s r.reach r.unit d
      clkWait := s.rst.clkWait.filter fun d => !((newReqs s).any fun r => coversIn s r.reach r.unit d) } }

/-- What the covered domains lose. -/
def entryLoss (s : Dev) (todo : List RstReq) : Dev :=
  if todo.any (fun r => r.reach == 8) then enterCold s else if todo.any (fun r => r.reach == 7) then enterWarm s else todo.foldl enterReq s

/-- Pulses end with their entry. -/
def entryEnd (s : Dev) (cold : Bool) : Dev :=
  let s := { s with rst := { s.rst with reqs := (s.rst.reqs.filter fun r => !r.pulse).map fun r => { r with entered := true } } }
  if cold then coldReleased s else s

theorem resetEntry_eq (s : Dev) (t : ℕ) :
    resetEntry s t = entryEnd (entryLoss (entryLists (s.at t)) (newReqs s)) (coldAsserted (s.at t)) := rfl

theorem inReset_entryLoss (s : Dev) (todo : List RstReq) : (entryLoss s todo).rst.inReset = s.rst.inReset := by
  unfold entryLoss
  split
  · exact inReset_enterCold s
  · split
    · exact inReset_enterWarm s
    · exact inReset_enterReqs todo s

theorem entryEnd_eq (s : Dev) (cold : Bool) :
    ∃ ph, entryEnd s cold =
      { s with rst := { s.rst with phase := ph, reqs := (s.rst.reqs.filter fun r => !r.pulse).map fun r => { r with entered := true } } } := by
  unfold entryEnd coldReleased
  dsimp only
  split
  · split
    · exact ⟨1, rfl⟩
    · exact ⟨s.rst.phase, rfl⟩
  · exact ⟨s.rst.phase, rfl⟩

theorem inReset_entryEnd (s : Dev) (cold : Bool) : (entryEnd s cold).rst.inReset = s.rst.inReset := by
  obtain ⟨ph, he⟩ := entryEnd_eq s cold
  rw [he]

theorem ctl_entryEnd (s : Dev) (cold : Bool) : (entryEnd s cold).ctl = s.ctl := by
  obtain ⟨ph, he⟩ := entryEnd_eq s cold
  rw [he]

theorem jrn_entryEnd (s : Dev) (cold : Bool) : (entryEnd s cold).jrn = s.jrn := by
  obtain ⟨ph, he⟩ := entryEnd_eq s cold
  rw [he]

theorem reqs_entryEnd (s : Dev) (cold : Bool) : ∀ r ∈ (entryEnd s cold).rst.reqs, r.pulse = false ∧ r.entered = true := by
  obtain ⟨ph, he⟩ := entryEnd_eq s cold
  rw [he]
  intro r hr
  obtain ⟨x, hx, rfl⟩ := List.mem_map.mp hr
  exact ⟨by simpa using (List.mem_filter.mp hx).2, rfl⟩

theorem inReset_resetEntry (s : Dev) (t : ℕ) {r : RstReq} (hr : r ∈ s.rst.reqs) (he : r.entered = false) {x : Dom} (hx : x ∈ allDoms)
    (hc : coversIn s r.reach r.unit x = true) : x ∈ (resetEntry s t).rst.inReset := by
  rw [resetEntry_eq, inReset_entryEnd, inReset_entryLoss]
  refine List.mem_filter.mpr ⟨hx, ?_⟩
  rw [Bool.or_eq_true]
  exact Or.inr (List.any_eq_true.mpr ⟨r, List.mem_filter.mpr ⟨hr, by rw [he]; rfl⟩, hc⟩)

theorem any_newReqs {s : Dev} {n : ℕ} : (newReqs s).any (fun r => r.reach == n) = true ↔ ∃ r ∈ s.rst.reqs, r.entered = false ∧ r.reach = n := by
  simp [newReqs]

theorem memEntry_cold {s : Dev} (m : Memory) (h : (newReqs s).any (fun r => r.reach == 8) = true) : memEntry s m = [] := if_pos h

theorem memEntry_warm {s : Dev} (m : Memory) (h8 : (newReqs s).any (fun r => r.reach == 8) ≠ true)
    (h7 : (newReqs s).any (fun r => r.reach == 7) = true) : memEntry s m = m.filter fun e => !inSram e.1 := by
  unfold memEntry
  exact (if_neg h8).trans (if_pos h7)

theorem mget_memEntry_warm (m : Memory) (a : ℕ) :
    mget 0 (m.filter fun e => !inSram e.1) a = if inSram a then 0 else mget 0 m a := by
  by_cases ha : inSram a = true
  · rw [if_pos ha]
    exact mget_filter_dropped _ _ _ _ fun v => by rw [ha]; rfl
  · rw [if_neg ha]
    exact mget_filter _ _ _ _ fun v => by simpa using ha

theorem ctl_resetEntry_cold {s : Dev} (t : ℕ) (h : (newReqs s).any (fun r => r.reach == 8) = true) : (resetEntry s t).ctl = {} := by
  rw [resetEntry_eq, ctl_entryEnd, entryLoss, if_pos h, ctl_enterCold]

theorem outage_resetEntry_warm {s : Dev} (t : ℕ) (h8 : (newReqs s).any (fun r => r.reach == 8) ≠ true)
    (h7 : (newReqs s).any (fun r => r.reach == 7) = true) : (resetEntry s t).jrn.outage = true := by
  rw [resetEntry_eq, jrn_entryEnd, entryLoss, if_neg h8, if_pos h7, outage_enterWarm]

/-! The release from reset (R453, R454). -/

theorem within_doms_sampleStraps (d s : Dev) (l : List ℕ) : Within domsFoot d (sampleStraps s l) ↔ Within domsFoot d s := by
  unfold sampleStraps
  exact within_setFs_skip _ _ _ _ fun _ _ => hits_domsFoot _

theorem within_doms_setDev (d s : Dev) (v : ℕ) : Within domsFoot d (setDev s v) ↔ Within domsFoot d s :=
  within_service_setDev _ _ _ (by decide)

theorem within_doms_writeWindows (d s : Dev) : Within domsFoot d (writeWindows s) ↔ Within domsFoot d s := by
  unfold writeWindows
  rw [within_setF_skip _ _ _ _ _ (hits_domsFoot _)]
  exact within_foldl_skip _ _ _ _ fun s w => (within_setFs_skip _ _ _ _ fun _ _ => hits_domsFoot _).mpr (.refl _ _)

theorem sameDoms_releasePp (s : Dev) : SameDoms s (releasePp s) := by
  unfold releasePp
  split
  · exact ⟨rfl, rfl⟩
  · refine SameDoms.trans (u := { s with rst := { s.rst with phase := 2 } }) ⟨rfl, rfl⟩ (.of_within ?_)
    rw [within_stand_syncBist _ _ (by decide), within_doms_setDev, within_foldl_skip _ _ _ _ fun s a => by
      split
      · exact within_setF _ _ _ _ (hits_domsFoot _)
      · exact .refl _ _, within_doms_writeWindows]

theorem within_doms_releasePlane (s : Dev) (p : ℕ) : Within domsFoot s (releasePlane s p) := by
  unfold releasePlane trainPlane
  split
  · exact .refl _ _
  · rw [within_doms_setPlane, within_setF_skip _ _ _ _ _ (hits_domsFoot _)]

theorem within_doms_releaseLane (s : Dev) (u : ℕ) : Within domsFoot s (releaseLane s u) := by
  unfold releaseLane
  dsimp only
  split
  · exact .refl _ _
  · exact (within_enterStage _ _ _ _ _ (by decide)).mpr (.refl _ _)

/-- The domain leaves both lists of the domains held. -/
def leaveLists (s : Dev) (k : Dom) : Dev :=
  { s with rst := { s.rst with inReset := s.rst.inReset.filter (· != k), onAon := s.rst.onAon.filter (· != k) } }

theorem sameDoms_releaseDom (s : Dev) (k : Dom) (straps : List ℕ) : SameDoms (leaveLists s k) (releaseDom s k straps) := by
  unfold releaseDom
  dsimp only
  change SameDoms _ (match k.step with
    | 3 => sampleStraps (leaveLists s k) straps
    | 8 => releasePp (leaveLists s k)
    | 9 => hifMove (leaveLists s k) k.unit
    | 11 => releasePlane (leaveLists s k) k.unit
    | 14 => releaseLane (leaveLists s k) k.unit
    | _ => leaveLists s k)
  generalize leaveLists s k = x
  split
  · exact .of_within ((within_doms_sampleStraps _ _ _).mpr (.refl _ _))
  · exact sameDoms_releasePp x
  · exact .of_within ((within_hifMove _ _ _ (by decide)).mpr (.refl _ _))
  · exact .of_within (within_doms_releasePlane _ _)
  · exact .of_within (within_doms_releaseLane _ _)
  · exact ⟨rfl, rfl⟩

theorem mem_inReset_releaseDom {s : Dev} {k y : Dom} {straps : List ℕ} :
    y ∈ (releaseDom s k straps).rst.inReset ↔ y ∈ s.rst.inReset ∧ y ≠ k := by
  rw [(sameDoms_releaseDom s k straps).1]
  simp [leaveLists]

theorem clkWait_releaseDom (s : Dev) (k : Dom) (straps : List ℕ) : (releaseDom s k straps).rst.clkWait = s.rst.clkWait :=
  (sameDoms_releaseDom s k straps).2

theorem mem_inReset_releaseDoms (l : List Dom) (s : Dev) (straps : List ℕ) (y : Dom) :
    y ∈ (l.foldl (fun s e => releaseDom s e straps) s).rst.inReset ↔ y ∈ s.rst.inReset ∧ y ∉ l := by
  induction l generalizing s with
  | nil => simp
  | cons k l ih =>
    rw [List.foldl_cons, ih, mem_inReset_releaseDom, List.mem_cons, not_or, and_assoc]

theorem mem_inReset_resetReleaseStep {s : Dev} {x : Dom} {rest : List Dom} (t : ℕ) (hb : nextBatch s = x :: rest) (h4 : x.step ≠ 4)
    (straps : List ℕ) (count : ℕ) (y : Dom) :
    y ∈ (resetReleaseStep s t true [] straps count).rst.inReset ↔ y ∈ s.rst.inReset ∧ y ∉ x :: rest := by
  have hb' : nextBatch (s.at t) = x :: rest := hb
  unfold resetReleaseStep
  simp only [hb', h4, false_and, if_false, Bool.not_true, Bool.false_eq_true, List.contains_nil, List.filter_false, Bool.not_false,
    List.filter_true, List.append_nil]
  exact mem_inReset_releaseDoms _ _ _ _

theorem resetReleaseStep_not_ready (s : Dev) (t : ℕ) (absent straps : List ℕ) (count : ℕ) :
    resetReleaseStep s t false absent straps count = s.at t := by
  unfold resetReleaseStep
  dsimp only
  split <;> rfl

theorem resetClockReturn_last {s : Dev} (t : ℕ) {x : Dom} (hx : x ∈ s.rst.inReset) (hw : s.rst.clkWait = [x])
    (hq : ∀ r ∈ s.rst.reqs, coversIn s r.reach r.unit x = false) :
    (resetClockReturn s t x.step x.unit).rst.clkWait = [] ∧ x ∉ (resetClockReturn s t x.step x.unit).rst.inReset := by
  have hwait : (s.at t).rst.clkWait.contains x = true := by rw [show (s.at t).rst.clkWait = [x] from hw]; simp
  have hnone : (s.at t).rst.clkWait.filter (· != x) = [] := by rw [show (s.at t).rst.clkWait = [x] from hw]; simp
  have hfree : stillHeld { s.at t with rst := { (s.at t).rst with clkWait := [] } } x = false := by
    refine Bool.or_eq_false_iff.mpr ⟨List.any_eq_false.mpr fun r hr => ?_, rfl⟩
    rw [Bool.not_eq_true]
    exact hq r hr
  have hheld : (s.at t).rst.inReset.contains x = true := List.contains_iff_mem.mpr hx
  have he : resetClockReturn s t x.step x.unit = releaseDom { s.at t with rst := { (s.at t).rst with clkWait := [] } } x [] := by
    unfold resetClockReturn
    dsimp only
    rw [hwait, hnone, hfree, hheld]
    rfl
  rw [he, clkWait_releaseDom]
  exact ⟨rfl, fun h => (mem_inReset_releaseDom.mp h).2 rfl⟩

theorem onAon_resetClockFallback {s : Dev} (t : ℕ) {x : Dom} (hx : x ∈ allDoms) (ho : x ∉ s.rst.onAon) :
    x ∈ (resetClockFallback s t x.step x.unit).rst.onAon := by
  have hc : ¬ ((s.at t).rst.onAon.contains x = true ∨ (!allDoms.contains x) = true) := by
    simpa [hx] using ho
  unfold resetClockFallback
  dsimp only
  rw [if_neg hc]
  exact List.mem_filter.mpr ⟨hx, by simp⟩

/-- Settles O50: of an entry, its domain lists, loss and memories apart, and of a release, over the batch of one step. -/
theorem resetsEnterAndLeave : Obligations.ResetsEnterAndLeave := by
  intro s t
  refine ⟨⟨_, rfl, ?_, ?_, ?_, ?_⟩, ?_, ?_, ?_, ?_⟩
  · rw [resetEntry_eq]
    exact reqs_entryEnd _ _
  · exact fun r hr he x hx hc => inReset_resetEntry _ t hr he hx hc
  · exact fun h => ⟨memEntry_cold _ (any_newReqs.mpr h), ctl_resetEntry_cold t (any_newReqs.mpr h)⟩
  · intro h7 h8
    have h7' := any_newReqs.mpr h7
    have h8' : (newReqs s.dev).any (fun r => r.reach == 8) ≠ true := fun h => by
      obtain ⟨r, hr, he, hn⟩ := any_newReqs.mp h
      exact h8 r hr he hn
    refine ⟨outage_resetEntry_warm t h8' h7', fun a => ?_⟩
    dsimp only
    rw [memEntry_warm _ h8' h7', mget_memEntry_warm]
  · exact fun x rest hb h4 straps count => gives_of rfl (mem_inReset_resetReleaseStep t hb h4 straps count)
  · exact fun absent straps count => gives_of rfl (resetReleaseStep_not_ready _ t absent straps count)
  · exact fun x hx hw hq => gives_of rfl (resetClockReturn_last t hx hw hq)
  · exact fun x hx ho => gives_of rfl (onAon_resetClockFallback t hx ho)

end Sys2Proof.Machine
end

section
/-! The fuse load, the straps and boundary scan (R456, R458, R520). -/

namespace Sys2Proof.Machine

open Sys2Proof.Claims

/-! The fuse load. -/

/-- The state of the fuse load after a good read (R456). -/
def fuseStat (s : Dev) : Dev :=
  setFs s 0 [(F.FUSE_STAT_VALID, 1), (F.FUSE_STAT_FAILS, s.rst.fuseFails), (F.FUSE_STAT_RESETN_COLD, (Config.fuseWord 64).toNat % 2)]

/-- The shadow of the fuse words. -/
def fuseShadow (s : Dev) : Dev := (List.range 64).foldl (fun s k => setF s F.FUSE_PINMAP_PINS k (Config.fuseWord k).toNat) s

/-- Step 2 leaves reset. -/
def fuseLeave (s : Dev) : Dev :=
  { s with rst := { s.rst with fuseFails := 0, pinsFloat := false, inReset := s.rst.inReset.filter fun d => d != { step := 2, unit := 0 } } }

theorem fuseLoadDone_good {s : Dev} (t : ℕ) (hp : s.rst.phase = 1) (hd : ({ step := 2, unit := 0 } : Dom) ∈ s.rst.inReset) :
    fuseLoadDone s t true = fusePins (fuseLeave (fuseShadow (fuseStat (s.at t)))) (configPins ++ [184]) := by
  have hc : ¬ ((s.at t).rst.phase ≠ 1 ∨ (!(s.at t).rst.inReset.contains { step := 2, unit := 0 }) = true) := by
    rw [show (s.at t).rst = s.rst from rfl]
    simp [hp, hd]
  unfold fuseLoadDone
  exact (if_neg hc).trans rfl

theorem within_fuseShadow (s : Dev) : Within { flds := [F.FUSE_PINMAP_PINS] } s (fuseShadow s) :=
  within_foldl _ (fun _ _ => within_setF _ _ _ _ (by decide)) _ _

theorem rst_fuseShadow (s : Dev) : (fuseShadow s).rst = s.rst := by
  have hf : ∀ (l : List ℕ) (s : Dev), (l.foldl (fun s k => setF s F.FUSE_PINMAP_PINS k (Config.fuseWord k).toNat) s).rst = s.rst := by
    intro l
    induction l with
    | nil => exact fun _ => rfl
    | cons k l ih => exact fun s => ih _
  exact hf _ s

theorem rst_fusePins (s : Dev) (l : List ℕ) : (fusePins s l).rst = s.rst := by
  have hf : ∀ (l : List Out) (s : Dev), (emits s l).rst = s.rst := by
    intro l
    induction l with
    | nil => exact fun _ => rfl
    | cons o l ih => exact fun s => ih _
  exact hf _ s

theorem getF_fuseLoaded (s : Dev) (l : List ℕ) {f : Fld} (hf : f.code % 262144 ≠ F.FUSE_PINMAP_PINS.code % 262144) (i : ℕ) :
    getF (fusePins (fuseLeave (fuseShadow s)) l) f i = getF s f i := by
  rw [((within_fusePins _ _ _ (W := outFoot) (by decide)).mpr (.refl _ _)).fld _ _ rfl]
  refine (within_fuseShadow s).fld f i ?_
  have hn : (f.code % 262144 == F.FUSE_PINMAP_PINS.code % 262144) = false := beq_eq_false_iff_ne.mpr hf
  unfold Foot.hits
  rw [List.any_cons, hn]
  rfl

theorem fuseLoadDone_valid {s : Dev} (t : ℕ) (hp : s.rst.phase = 1) (hd : ({ step := 2, unit := 0 } : Dom) ∈ s.rst.inReset) :
    getF (fuseLoadDone s t true) F.FUSE_STAT_VALID 0 = 1 ∧ ({ step := 2, unit := 0 } : Dom) ∉ (fuseLoadDone s t true).rst.inReset ∧
      (fuseLoadDone s t true).rst.fuseFails = 0 ∧
      getF (fuseLoadDone s t true) F.FUSE_STAT_FAILS 0 = s.rst.fuseFails % 2 ^ F.FUSE_STAT_FAILS.width := by
  rw [fuseLoadDone_good t hp hd, rst_fusePins, getF_fuseLoaded _ _ (by decide), getF_fuseLoaded _ _ (by decide)]
  unfold fuseStat setFs setFs setFs setFs
  refine ⟨?_, by simp [fuseLeave], rfl, ?_⟩
  · rw [getF_setF_code _ _ _ _ _ _ (by decide), getF_setF_code _ _ _ _ _ _ (by decide), getF_setF_same]
    decide
  · rw [getF_setF_code _ _ _ _ _ _ (by decide), getF_setF_same]
    rfl

theorem fuseLoadDone_bad {s : Dev} (t : ℕ) (hp : s.rst.phase = 1) (hd : ({ step := 2, unit := 0 } : Dom) ∈ s.rst.inReset) :
    fuseLoadDone s t false =
      if 3 ≤ s.rst.fuseFails + 1 then
        driveFaultN (emit { s.at t with rst := { s.rst with fuseFails := s.rst.fuseFails + 1, phase := 0, fuseFailPin := true } } (.pin pinFuseFail 1))
      else { s.at t with rst := { s.rst with fuseFails := s.rst.fuseFails + 1 } } := by
  have hc : ¬ ((s.at t).rst.phase ≠ 1 ∨ (!(s.at t).rst.inReset.contains { step := 2, unit := 0 }) = true) := by
    rw [show (s.at t).rst = s.rst from rfl]
    simp [hp, hd]
  unfold fuseLoadDone
  exact (if_neg hc).trans rfl

theorem driveFaultN_of_fuseFailPin {s : Dev} (h : s.rst.fuseFailPin = true) : driveFaultN s = emit s (.pin pinFaultN 0) := by
  unfold driveFaultN faultNLow
  simp [h]

theorem fuseLoadDone_again {s : Dev} (t : ℕ) (hp : s.rst.phase = 1) (hd : ({ step := 2, unit := 0 } : Dom) ∈ s.rst.inReset)
    (hn : s.rst.fuseFails < 2) :
    (fuseLoadDone s t false).rst.fuseFails = s.rst.fuseFails + 1 ∧ (fuseLoadDone s t false).rst.phase = 1 ∧
      (fuseLoadDone s t false).rst.inReset = s.rst.inReset := by
  rw [fuseLoadDone_bad t hp hd, if_neg (by omega)]
  exact ⟨rfl, hp, rfl⟩

theorem fuseLoadDone_third {s : Dev} (t : ℕ) (hp : s.rst.phase = 1) (hd : ({ step := 2, unit := 0 } : Dom) ∈ s.rst.inReset)
    (hn : 2 ≤ s.rst.fuseFails) :
    (fuseLoadDone s t false).rst.phase = 0 ∧ (fuseLoadDone s t false).rst.fuseFailPin = true ∧
      .pin pinFuseFail 1 ∈ (fuseLoadDone s t false).out ∧ (fuseLoadDone s t false).out.head? = some (.pin pinFaultN 0) := by
  rw [fuseLoadDone_bad t hp hd, if_pos (by omega), driveFaultN_of_fuseFailPin rfl]
  exact ⟨rfl, rfl, List.mem_cons_of_mem _ List.mem_cons_self, rfl⟩

/-! The straps. -/

theorem strapBit_lt (samples : List ℕ) (k : ℕ) : strapBit samples k < 2 := by
  unfold strapBit
  dsimp only
  split
  · exact bits_lt _ _ 1
  · unfold b2n
    split <;> decide

/-- The straps of the state are those of the samples. -/
def Strapped (samples : List ℕ) (d : Dev) : Prop :=
  getF d F.RST_STRAP_PAIR_ID 0 = strapBit samples 4 ∧ getF d F.RST_STRAP_TEST_N 0 = strapBit samples 5 ∧
    getF d F.RST_STRAP_BOOT_SRC 0 = strapBit samples 0 + 2 * strapBit samples 1

theorem strapped_sampleStraps (s : Dev) (samples : List ℕ) : Strapped samples (sampleStraps s samples) := by
  have hb (k : ℕ) := strapBit_lt samples k
  unfold sampleStraps setFs setFs setFs setFs setFs
  refine ⟨?_, ?_, ?_⟩
  · rw [getF_setF_code _ _ _ _ _ _ (by decide), getF_setF_same]
    exact Nat.mod_eq_of_lt (hb 4)
  · rw [getF_setF_same]
    exact Nat.mod_eq_of_lt (hb 5)
  · rw [getF_setF_code _ _ _ _ _ _ (by decide), getF_setF_code _ _ _ _ _ _ (by decide), getF_setF_code _ _ _ _ _ _ (by decide), getF_setF_same]
    refine Nat.mod_eq_of_lt (show strapBit samples 0 + 2 * strapBit samples 1 < 4 from ?_)
    have h0 := hb 0
    have h1 := hb 1
    omega

theorem releaseDom_straps (s : Dev) {x : Dom} (hx : x.step = 3) (samples : List ℕ) :
    releaseDom s x samples = sampleStraps (leaveLists s x) samples := by
  unfold releaseDom
  dsimp only
  rw [hx]
  rfl

theorem step_nextBatch {s : Dev} {x : Dom} {rest : List Dom} (h : nextBatch s = x :: rest) : ∀ y ∈ rest, y.step = x.step := by
  unfold nextBatch at h
  split at h
  · cases h
  · obtain ⟨rfl, rfl⟩ := List.cons.inj h
    intro y hy
    simpa using (List.mem_filter.mp hy).2

/-- The last domain of a batch of step 3 leaves the straps as sampled. -/
theorem strapped_releaseDoms {l : List Dom} (hl : ∀ y ∈ l, y.step = 3) (samples : List ℕ) (s : Dev) (hs : Strapped samples s) :
    Strapped samples (l.foldl (fun s e => releaseDom s e samples) s) := by
  induction l generalizing s with
  | nil => exact hs
  | cons k l ih =>
    refine ih (fun y hy => hl y (List.mem_cons_of_mem _ hy)) _ ?_
    dsimp only
    rw [releaseDom_straps _ (hl k List.mem_cons_self)]
    exact strapped_sampleStraps _ _

theorem strapped_resetReleaseStep {s : Dev} {x : Dom} {rest : List Dom} (t : ℕ) (hb : nextBatch s = x :: rest) (h3 : x.step = 3)
    (samples : List ℕ) (count : ℕ) : Strapped samples (resetReleaseStep s t true [] samples count) := by
  have hb' : nextBatch (s.at t) = x :: rest := hb
  have h4 : ¬ x.step = 4 := by omega
  unfold resetReleaseStep
  simp only [hb', h4, false_and, if_false, Bool.not_true, Bool.false_eq_true, List.contains_nil, List.filter_false, Bool.not_false,
    List.filter_true, List.append_nil, List.foldl_cons]
  refine strapped_releaseDoms (fun y hy => (step_nextBatch hb y hy).trans h3) _ _ ?_
  rw [releaseDom_straps _ h3]
  exact strapped_sampleStraps _ _

/-! Boundary scan. -/

theorem jtagInstruction_other (s : Dev) (i : ℕ) : (jtagInstruction s i).rst.jtag = i ∧ ∀ f k, getF (jtagInstruction s i) f k = getF s f k := by
  unfold jtagInstruction
  dsimp only
  split
  · exact ⟨rfl, fun _ _ => rfl⟩
  · split
    · exact ⟨rfl, fun _ _ => rfl⟩
    · exact ⟨rfl, fun _ _ => rfl⟩

/-- Settles O51: the fuse load over its outcome and count, the straps over a batch of step 3, boundary scan over the instruction. -/
theorem fusesLoadAndStrapsSample : Obligations.FusesLoadAndStrapsSample := by
  intro s t
  refine ⟨fun hp hd => ⟨?_, fun hn => ?_, fun hn => ?_⟩, fun x rest hb h3 straps count => ?_, fun i => ?_, ?_⟩
  · exact gives_of rfl (fuseLoadDone_valid t hp hd)
  · exact gives_of rfl (fuseLoadDone_again t hp hd hn)
  · exact gives_of rfl (fuseLoadDone_third t hp hd hn)
  · exact gives_of rfl (strapped_resetReleaseStep t hb h3 straps count)
  · exact gives_of rfl (jtagInstruction_other _ i)
  · exact gives_of rfl rfl

end Sys2Proof.Machine
end

section
/-! Faults collected: the line's event, its capture and its reaction (R473 to R477). -/

namespace Sys2Proof.Machine

open Sys2Proof.Claims

variable {W : Foot}

/-! The parts of an event on an error line before and after the event itself. -/

theorem getF_planeReaction (s : Dev) (p src : ℕ) (f : Fld) (i : ℕ) : getF (planeReaction s p src) f i = getF s f i := by
  unfold planeReaction
  split
  · rfl
  · rw [assertReset_small _ (by decide)]
    rfl

theorem now_planeReaction (s : Dev) (p src : ℕ) : (planeReaction s p src).now = s.now := by
  unfold planeReaction
  split
  · rfl
  · rw [assertReset_small _ (by decide)]
    rfl

/-- The device at an event, a plane's own reset of a double-bit region error asserted (R477). -/
def lineHead (s : Dev) (t b cause : ℕ) (region : Bool) : Dev :=
  if (b = 19 ∨ b = 20) ∧ cause = 2 ∧ region then planeReaction (s.at t) (b - 19) 10 else s.at t

theorem getF_lineHead (s : Dev) (t b cause : ℕ) (region : Bool) (f : Fld) (i : ℕ) : getF (lineHead s t b cause region) f i = getF s f i := by
  unfold lineHead
  split
  · exact getF_planeReaction _ _ _ _ _
  · rfl

theorem now_lineHead (s : Dev) (t b cause : ℕ) (region : Bool) : (lineHead s t b cause region).now = t := by
  unfold lineHead
  split
  · exact now_planeReaction _ _ _
  · rfl

theorem lineHead_false (s : Dev) (t b cause : ℕ) : lineHead s t b cause false = s.at t := by
  unfold lineHead
  simp

theorem faultLine_eq (s : Dev) (t b cause sub : ℕ) (region : Bool) :
    faultLine s t b cause sub region =
      if b = 46 ∧ cause = 2 ∧ region ∧ decide (3 ≤ actionFor (lineHead s t b cause region) b) = false then
        fence (flushCheck (faultEvent (lineHead s t b cause region) b cause sub)) 3
      else flushCheck (faultEvent (lineHead s t b cause region) b cause sub) := rfl

theorem faultLine_false (s : Dev) (t b cause sub : ℕ) : faultLine s t b cause sub false = flushCheck (faultEvent (s.at t) b cause sub) := by
  rw [faultLine_eq, if_neg (by simp), lineHead_false]

/-- What a flush that ends changes. -/
def flushFoot : Foot :=
  { flds := [F.JRN_DURABLE_DURABLE_JSN, F.HIF_EVT_STAT_PROD, F.HIF_EVT_STAT_LOST, F.CPL_PROD_PROD, F.CPL_STAT_BACKLOG], parts := [.jrn, .host, .out] }

theorem within_flush_flushCheck (s : Dev) : Within flushFoot s (flushCheck s) := by
  unfold flushCheck
  split <;> simp (decide := true) [↓within_ite]

theorem outage_flushCheck (s : Dev) : (flushCheck s).jrn.outage = s.jrn.outage := by
  unfold flushCheck
  dsimp only
  split
  · rfl
  · split_ifs
    · rfl
    · rfl
    · rw [((within_deliverAll _ _ (W := cplFoot) (by decide)).mpr (.refl _ _)).jrn (by decide), raise_jrn]
      rfl
    · rfl

/-- What follows the event on a line. -/
def lineTailFoot : Foot := { reactFoot with flds := F.JRN_DURABLE_DURABLE_JSN :: F.CPL_PROD_PROD :: F.CPL_STAT_BACKLOG :: reactFoot.flds }

theorem within_lineTail (s : Dev) (t b cause sub : ℕ) (region : Bool) :
    Within lineTailFoot (faultEvent (lineHead s t b cause region) b cause sub) (faultLine s t b cause sub region) := by
  have hw (x : Dev) : Within lineTailFoot x (flushCheck x) := (within_flush_flushCheck x).mono (by decide)
  rw [faultLine_eq]
  split
  · exact (within_react_fence _ _ _ (by decide)).mpr (hw _)
  · exact hw _

/-! A field after an event on a line. -/

section
variable (s : Dev) (t b cause sub : ℕ) (region : Bool)

/-- A record of the collector is as the capture leaves it. -/
theorem getF_faultLine_capture (f : Fld) (i : ℕ) (hl : lineTailFoot.hits (f.code % 262144) = false) (ht : faultTailFoot.hits (f.code % 262144) = false) :
    getF (faultLine s t b cause sub region) f i =
      getF (capture (faultHead (lineHead s t b cause region) b cause sub) b cause sub).2 f i :=
  ((within_lineTail s t b cause sub region).fld f i hl).trans ((within_faultEvent_capture _ b cause sub).fld f i ht)

/-- The status and the cause are as the first writes leave them. -/
theorem getF_faultLine_head (f : Fld) (i : ℕ) (hl : lineTailFoot.hits (f.code % 262144) = false) (hc : captureFoot.hits (f.code % 262144) = false)
    (ht : faultTailFoot.hits (f.code % 262144) = false) :
    getF (faultLine s t b cause sub region) f i = getF (faultHead (lineHead s t b cause region) b cause sub) f i :=
  ((within_lineTail s t b cause sub region).fld f i hl).trans (getF_faultEvent_head _ b cause sub f i hc ht)

/-- The first writes of an event leave every record of the collector. -/
theorem getF_faultHead (x : Dev) (f : Fld) (i : ℕ)
    (h : Foot.hits { flds := [F.FLT_STATUS_BITS, F.FLT_CAUSE_COUNT, F.FLT_CAUSE_FATAL, F.FLT_CAUSE_CAUSE, F.FLT_CAUSE_SUB] } (f.code % 262144) = false) :
    getF (faultHead x b cause sub) f i = getF x f i := by
  have hw : Within { flds := [F.FLT_STATUS_BITS, F.FLT_CAUSE_COUNT, F.FLT_CAUSE_FATAL, F.FLT_CAUSE_CAUSE, F.FLT_CAUSE_SUB] } x (faultHead x b cause sub) := by
    unfold faultHead
    simp (decide := true)
  exact hw.fld f i h

theorem fltBit_faultLine (hb : b < 48) : fltBit (faultLine s t b cause sub region) b = true := by
  rw [(within_lineTail s t b cause sub region).fltBit (by decide)]
  exact fltBit_faultEvent_same _ _ _ _ hb

theorem b2n_lt (c : Bool) : b2n c < 2 := by cases c <;> decide

/-- FLT_CAUSE after an event (R473). -/
theorem cause_faultLine :
    getF (faultLine s t b cause sub region) F.FLT_CAUSE_CAUSE b = cause % 2 ^ F.FLT_CAUSE_CAUSE.width ∧
      getF (faultLine s t b cause sub region) F.FLT_CAUSE_SUB b = sub % 2 ^ F.FLT_CAUSE_SUB.width ∧
      getF (faultLine s t b cause sub region) F.FLT_CAUSE_FATAL b = b2n (isFatal cause) ∧
      Counted s (faultLine s t b cause sub region) F.FLT_CAUSE_COUNT b := by
  have hh (f : Fld) (hl : lineTailFoot.hits (f.code % 262144) = false) (hc : captureFoot.hits (f.code % 262144) = false)
      (ht : faultTailFoot.hits (f.code % 262144) = false) := getF_faultLine_head s t b cause sub region f b hl hc ht
  unfold Counted
  rw [hh F.FLT_CAUSE_CAUSE (by decide) (by decide) (by decide), hh F.FLT_CAUSE_SUB (by decide) (by decide) (by decide),
    hh F.FLT_CAUSE_FATAL (by decide) (by decide) (by decide), hh F.FLT_CAUSE_COUNT (by decide) (by decide) (by decide)]
  unfold faultHead setFs setFs setFs setFs
  refine ⟨?_, ?_, ?_, ?_⟩
  · rw [getF_setF_code _ _ _ _ _ _ (by decide), getF_setF_same]
  · rw [getF_setF_same]
  · rw [getF_setF_code _ _ _ _ _ _ (by decide), getF_setF_code _ _ _ _ _ _ (by decide), getF_setF_same]
    exact Nat.mod_eq_of_lt (b2n_lt _)
  · rw [getF_setF_code _ _ _ _ _ _ (by decide), getF_setF_code _ _ _ _ _ _ (by decide), getF_setF_code _ _ _ _ _ _ (by decide),
      getF_satAdd_same, getF_setF_code _ _ _ _ _ _ (by decide), getF_lineHead]

/-! The capture of an event (R474). -/

/-- The device at the capture of an event. -/
def atCapture : Dev := faultHead (lineHead s t b cause region) b cause sub

theorem getF_atCapture (f : Fld) (i : ℕ)
    (h : Foot.hits { flds := [F.FLT_STATUS_BITS, F.FLT_CAUSE_COUNT, F.FLT_CAUSE_FATAL, F.FLT_CAUSE_CAUSE, F.FLT_CAUSE_SUB] } (f.code % 262144) = false) :
    getF (atCapture s t b cause sub region) f i = getF s f i :=
  (getF_faultHead b cause sub _ f i h).trans (getF_lineHead s t b cause region f i)

theorem now_atCapture : (atCapture s t b cause sub region).now = t := (now_lineHead s t b cause region)

end

theorem capture_first {s : Dev} (b cause sub : ℕ) (hm : getF s F.FLT_MODE_MODE 0 ≠ 1) (hv : getF s F.FLT_FIRST_VALID 0 = 0) :
    (capture s b cause sub).2 = setFs s 0 [(F.FLT_FIRST_VALID, 1), (F.FLT_FIRST_FATAL, b2n (isFatal cause)), (F.FLT_FIRST_CAUSE, cause),
      (F.FLT_FIRST_TIME_TIME, nsOf s.now), (F.FLT_FIRST_SUB_BIT, b), (F.FLT_FIRST_SUB_SUB, sub)] := by
  unfold capture
  dsimp only
  rw [if_neg hm, if_pos hv]

theorem capture_later {s : Dev} (b cause sub : ℕ) (hm : getF s F.FLT_MODE_MODE 0 ≠ 1) (hv : getF s F.FLT_FIRST_VALID 0 ≠ 0) :
    (capture s b cause sub).2 = setF s F.FLT_OVF_OVF 0 (getF s F.FLT_OVF_OVF 0 ||| 2 ^ b) := by
  unfold capture
  dsimp only
  rw [if_neg hm, if_neg hv]

theorem capture_history {s : Dev} (b cause sub : ℕ) (hm : getF s F.FLT_MODE_MODE 0 = 1) :
    (capture s b cause sub).2 = satAdd (setF (setFs s (getF s F.FLT_HIST_PTR_NEXT 0)
      [(F.FLT_HISTORY_TIME, nsOf s.now), (F.FLT_HISTORY_SUB, sub), (F.FLT_HISTORY_CAUSE, cause), (F.FLT_HISTORY_FATAL, b2n (isFatal cause)),
        (F.FLT_HISTORY_BIT, b)]) F.FLT_HIST_PTR_NEXT 0 ((getF s F.FLT_HIST_PTR_NEXT 0 + 1) % 32)) F.FLT_HIST_PTR_TOTAL 0 1 := by
  unfold capture
  dsimp only
  rw [if_pos hm]

theorem first_capture {s : Dev} {b : ℕ} (cause sub : ℕ) (hb : b < 48) (hm : getF s F.FLT_MODE_MODE 0 ≠ 1) (hv : getF s F.FLT_FIRST_VALID 0 = 0) :
    getF (capture s b cause sub).2 F.FLT_FIRST_VALID 0 = 1 ∧ getF (capture s b cause sub).2 F.FLT_FIRST_SUB_BIT 0 = b ∧
      getF (capture s b cause sub).2 F.FLT_FIRST_CAUSE 0 = cause % 2 ^ F.FLT_FIRST_CAUSE.width ∧
      getF (capture s b cause sub).2 F.FLT_FIRST_TIME_TIME 0 = nsOf s.now % 2 ^ F.FLT_FIRST_TIME_TIME.width ∧
      getF (capture s b cause sub).2 F.FLT_OVF_OVF 0 = getF s F.FLT_OVF_OVF 0 := by
  rw [capture_first b cause sub hm hv]
  generalize nsOf s.now = n
  unfold setFs setFs setFs setFs setFs setFs setFs
  refine ⟨?_, ?_, ?_, ?_, ?_⟩
  · simp (decide := true) only [getF_setF_code, getF_setF_same]
  · simp (decide := true) only [getF_setF_code, getF_setF_same]
    exact Nat.mod_eq_of_lt (hb.trans (by decide))
  · simp (decide := true) only [getF_setF_code, getF_setF_same]
  · simp (decide := true) only [getF_setF_code, getF_setF_same]
  · simp (decide := true) only [getF_setF_code]

theorem bit_or_self {n b w : ℕ} (hb : b < w) : bit ((n ||| 2 ^ b) % 2 ^ w) b = true := by
  rw [bit_mod_two_pow _ _ _ hb, bit_or, bit_two_pow]
  simp

theorem later_capture {s : Dev} {b : ℕ} (cause sub : ℕ) (hb : b < 48) (hm : getF s F.FLT_MODE_MODE 0 ≠ 1) (hv : getF s F.FLT_FIRST_VALID 0 ≠ 0) :
    bit (getF (capture s b cause sub).2 F.FLT_OVF_OVF 0) b = true ∧
      ∀ f ∈ firstFields, f ≠ F.FLT_OVF_OVF → getF (capture s b cause sub).2 f 0 = getF s f 0 := by
  rw [capture_later b cause sub hm hv]
  refine ⟨?_, fun f hf hn => getF_setF_code _ _ _ _ _ _ ?_⟩
  · rw [getF_setF_same]
    exact bit_or_self (hb.trans (by decide))
  · exact (by decide : ∀ f ∈ firstFields, f ≠ F.FLT_OVF_OVF → f.code % 262144 ≠ F.FLT_OVF_OVF.code % 262144) f hf hn

theorem history_capture {s : Dev} {b : ℕ} (cause sub : ℕ) (hb : b < 48) (hm : getF s F.FLT_MODE_MODE 0 = 1) :
    getF (capture s b cause sub).2 F.FLT_HISTORY_BIT (getF s F.FLT_HIST_PTR_NEXT 0) = b ∧
      getF (capture s b cause sub).2 F.FLT_HIST_PTR_NEXT 0 = (getF s F.FLT_HIST_PTR_NEXT 0 + 1) % 32 ∧
      ∀ f ∈ firstFields, getF (capture s b cause sub).2 f 0 = getF s f 0 := by
  rw [capture_history b cause sub hm]
  generalize nsOf s.now = n
  generalize getF s F.FLT_HIST_PTR_NEXT 0 = k
  unfold setFs setFs setFs setFs setFs setFs
  refine ⟨?_, ?_, fun f hf => ?_⟩
  · rw [getF_satAdd_code _ _ _ _ _ _ (by decide), getF_setF_code _ _ _ _ _ _ (by decide), getF_setF_same]
    exact Nat.mod_eq_of_lt (hb.trans (by decide))
  · rw [getF_satAdd_code _ _ _ _ _ _ (by decide), getF_setF_same]
    exact Nat.mod_eq_of_lt (Nat.mod_lt _ (by decide))
  · have hw : Within { flds := [F.FLT_HISTORY_TIME, F.FLT_HISTORY_SUB, F.FLT_HISTORY_CAUSE, F.FLT_HISTORY_FATAL, F.FLT_HISTORY_BIT, F.FLT_HIST_PTR_NEXT,
        F.FLT_HIST_PTR_TOTAL] } s (satAdd (setF (setF (setF (setF (setF (setF s F.FLT_HISTORY_TIME k n) F.FLT_HISTORY_SUB k sub) F.FLT_HISTORY_CAUSE k
          cause) F.FLT_HISTORY_FATAL k (b2n (isFatal cause))) F.FLT_HISTORY_BIT k b) F.FLT_HIST_PTR_NEXT 0 ((k + 1) % 32)) F.FLT_HIST_PTR_TOTAL 0 1) := by
      simp (decide := true)
    exact hw.fld f 0 ((by decide : ∀ f ∈ firstFields, Foot.hits { flds := [F.FLT_HISTORY_TIME, F.FLT_HISTORY_SUB, F.FLT_HISTORY_CAUSE,
      F.FLT_HISTORY_FATAL, F.FLT_HISTORY_BIT, F.FLT_HIST_PTR_NEXT, F.FLT_HIST_PTR_TOTAL] } (f.code % 262144) = false) f hf)

/-- The records that the capture alone changes. -/
theorem records_pass : ∀ f ∈ F.FLT_HISTORY_BIT :: F.FLT_HIST_PTR_NEXT :: firstFields,
    lineTailFoot.hits (f.code % 262144) = false ∧ faultTailFoot.hits (f.code % 262144) = false ∧
      Foot.hits { flds := [F.FLT_STATUS_BITS, F.FLT_CAUSE_COUNT, F.FLT_CAUSE_FATAL, F.FLT_CAUSE_CAUSE, F.FLT_CAUSE_SUB] } (f.code % 262144) = false := by
  decide

/-! The reaction to a FATAL event (R477). -/

theorem faultEvent_fatal (s : Dev) (b sub : ℕ) {cause : ℕ} (hf : isFatal cause = true) :
    faultEvent s b cause sub = react (outOfService (driveFaultN (faultNote s b cause sub)) b) b (actionFor s b) := by
  rw [faultEvent_eq, if_pos hf, if_pos hf]

theorem react_warm (s : Dev) (b : ℕ) : react s b 3 = assertReset { s with rst := { s.rst with warms := s.now :: s.rst.warms } } 7 0 5 true := rfl

theorem react_cold (s : Dev) (b : ℕ) : react s b 4 = assertReset s 8 0 5 true := rfl

theorem faultEvent_fences {s : Dev} {b cause : ℕ} (sub : ℕ) (hf : isFatal cause = true) (ha : actionFor s b = 2) :
    (faultEvent s b cause sub).ctl.epoch = (s.ctl.epoch + 1) % 2 ^ 32 ∧ (faultEvent s b cause sub).jrn.outage = true := by
  rw [faultEvent_fatal _ _ _ hf, ha]
  refine ⟨?_, outage_fence _ 2⟩
  refine (epoch_fence _ 2).trans ?_
  rw [(within_out_outOfService _ b).epoch (by decide)]
  exact congrArg (fun n => (n + 1) % 2 ^ 32) ((within_faultNote s b cause sub).epoch (by decide))

theorem faultEvent_warms {s : Dev} {b cause : ℕ} (sub : ℕ) (hf : isFatal cause = true) (ha : actionFor s b = 3) :
    Asserted (faultEvent s b cause sub) 7 0 5 ∧ getF (faultEvent s b cause sub) F.RST_CAUSE_FLT_WARM 0 = 1 := by
  rw [faultEvent_fatal _ _ _ hf, ha, react_warm]
  refine ⟨asserted_assertReset _ _ _ _ _, ?_⟩
  rw [getF_assertReset_cause _ (.inl rfl) _ _ (g := F.RST_CAUSE_FLT_WARM) rfl _ _ (by decide), getF_setF_same]
  rfl

theorem faultEvent_colds {s : Dev} {b cause : ℕ} (sub : ℕ) (hf : isFatal cause = true) (ha : actionFor s b = 4) :
    Asserted (faultEvent s b cause sub) 8 0 5 ∧ getF (faultEvent s b cause sub) F.RST_CAUSE_FLT_COLD 0 = 1 := by
  rw [faultEvent_fatal _ _ _ hf, ha, react_cold]
  refine ⟨asserted_assertReset _ _ _ _ _, ?_⟩
  rw [getF_assertReset_cause _ (.inr rfl) _ _ (g := F.RST_CAUSE_FLT_COLD) rfl _ _ (by decide), getF_setF_same]
  rfl

/-- Settles O52: the first writes, the capture by mode, and the reaction, each through what follows it. -/
theorem faultsAreCollected : Obligations.FaultsAreCollected := by
  intro s t b cause sub region
  have hpass (f : Fld) (hf : f ∈ F.FLT_HISTORY_BIT :: F.FLT_HIST_PTR_NEXT :: firstFields) (i : ℕ) :
      getF (faultLine s.dev t b cause sub region) f i = getF (capture (atCapture s.dev t b cause sub region) b cause sub).2 f i ∧
        getF (atCapture s.dev t b cause sub region) f i = getF s.dev f i := by
    obtain ⟨hl, ht, hh⟩ := records_pass f hf
    exact ⟨getF_faultLine_capture s.dev t b cause sub region f i hl ht, getF_atCapture s.dev t b cause sub region f i hh⟩
  have hmode : getF (atCapture s.dev t b cause sub region) F.FLT_MODE_MODE 0 = getF s.dev F.FLT_MODE_MODE 0 :=
    getF_atCapture _ _ _ _ _ _ _ _ (by decide)
  have hfirst {f : Fld} (hf : f ∈ firstFields) := hpass f (List.mem_cons_of_mem _ (List.mem_cons_of_mem _ hf)) 0
  have hv := (hfirst (f := F.FLT_FIRST_VALID) (by decide)).2
  refine ⟨gives_of rfl ⟨fltBit_faultLine _ _ _ _ _ _ b.isLt, cause_faultLine _ _ _ _ _ _⟩, fun hm => ⟨fun h0 => ?_, fun h0 => ?_⟩,
    fun hm _ => ?_, fun hf hr => ⟨fun ha => ?_, fun ha => ?_, fun ha => ?_⟩⟩
  · obtain ⟨h1, h2, h3, h4, h5⟩ := first_capture cause sub b.isLt (hmode ▸ hm) (hv.trans h0)
    rw [now_atCapture] at h4
    exact gives_of rfl ⟨(hfirst (by decide)).1.trans h1, (hfirst (by decide)).1.trans h2, (hfirst (by decide)).1.trans h3,
      (hfirst (by decide)).1.trans h4, (hfirst (by decide)).1.trans (h5.trans (hfirst (by decide)).2)⟩
  · obtain ⟨h1, h2⟩ := later_capture cause sub b.isLt (hmode ▸ hm) (fun h => h0 (hv.symm.trans h))
    refine gives_of rfl ⟨?_, fun f hf hn => (hfirst hf).1.trans ((h2 f hf hn).trans (hfirst hf).2)⟩
    rw [show getF (faultLine s.dev t b cause sub region) F.FLT_OVF_OVF 0 = _ from (hfirst (by decide)).1]
    exact h1
  · obtain ⟨h1, h2, h3⟩ := history_capture cause sub b.isLt (hmode.trans hm)
    have hk := (hpass F.FLT_HIST_PTR_NEXT (by decide) 0).2
    rw [hk] at h1 h2
    exact gives_of rfl ⟨(hpass _ (by decide) _).1.trans h1, (hpass _ (by decide) _).1.trans h2,
      fun f hf => (hfirst hf).1.trans ((h3 f hf).trans (hfirst hf).2)⟩
  · refine gives_of rfl ?_
    rw [hr, faultLine_false, (within_flush_flushCheck _).epoch (by decide), outage_flushCheck]
    exact faultEvent_fences sub hf ha
  · refine gives_of rfl ?_
    rw [hr, faultLine_false, (within_flush_flushCheck _).fld _ _ (by decide)]
    obtain ⟨h1, h2⟩ := faultEvent_warms sub hf ha
    exact ⟨asserted_of_reqs h1 ((within_flush_flushCheck _).part .reqs (by decide)), h2⟩
  · refine gives_of rfl ?_
    rw [hr, faultLine_false, (within_flush_flushCheck _).fld _ _ (by decide)]
    obtain ⟨h1, h2⟩ := faultEvent_colds sub hf ha
    exact ⟨asserted_of_reqs h1 ((within_flush_flushCheck _).part .reqs (by decide)), h2⟩

end Sys2Proof.Machine
end

section
/-! Faults cleared, and the collector's own writes (R474, R476, R479, R481). -/

namespace Sys2Proof.Machine

open Sys2Proof.Claims

variable {W : Foot}

/-! What a block that comes back, or goes out of service, changes beside the note of it. -/

def tidyFoot : Foot :=
  { flds := [F.PLN_STATE_STATE, F.PLN_STATE_TILE_FAIL, F.PLN_STATE_HBM_FAIL, F.PLN_STATE_COL_FAIL, F.HIF_EVT_STAT_PROD, F.HIF_EVT_STAT_LOST,
      F.SYS_STATE_DEGRADED, F.HBM_STAT_STATE, F.FLS_STAT_STATE, F.JRN_STAT_FL0, F.JRN_STAT_FL1, F.BELAY_STAT_PP0_STATE, F.BELAY_STAT_PP1_STATE],
    parts := [.planes, .host, .out, .reqs, .fls] }

theorem within_tidy_syncDegraded (d s : Dev) (h : tidyFoot.le W = true) : Within W d (syncDegraded s) ↔ Within W d s := by
  refine Within.skip (V := tidyFoot) ?_ h
  unfold syncDegraded
  simp (decide := true)

theorem within_tidy_setPlane (d s : Dev) (p v cause jsn : ℕ) (h : tidyFoot.le W = true) : Within W d (setPlane s p v cause jsn) ↔ Within W d s := by
  refine Within.skip (V := tidyFoot) ?_ h
  unfold setPlane
  simp (decide := true) only [↓within_ite, within_tidy_syncDegraded, within_raise, within_setPlaneSt, within_setF_skip, within_self, ite_self]

theorem within_tidy_undegrade (d s : Dev) (p : ℕ) (h : tidyFoot.le W = true) : Within W d (undegrade s p) ↔ Within W d s := by
  refine Within.skip (V := tidyFoot) ?_ h
  unfold undegrade
  simp (decide := true) only [↓within_ite, within_tidy_setPlane, within_self, ite_self]

theorem within_assertReset_tile (d s : Dev) (unit src : ℕ) (pulse : Bool) (h : reqsFoot.le W = true) :
    Within W d (assertReset s 3 unit src pulse) ↔ Within W d s := by
  refine Within.skip (V := reqsFoot) ?_ h
  simp (decide := true) [assertReset, ↓within_ite]

/-- The device once block `b` is noted as back. -/
def noteBack (s : Dev) (b : ℕ) : Dev := { s with flt := { s.flt with outOfService := s.flt.outOfService - 2 ^ b } }

theorem within_tidy_blockReturn (s : Dev) (b : ℕ) :
    Within tidyFoot s (blockReturn s b) ∨ Within tidyFoot (noteBack s b) (blockReturn s b) := by
  unfold blockReturn
  split
  · exact .inl (.refl _ _)
  · right
    dsimp only
    rw [show ({ s with flt := { s.flt with outOfService := s.flt.outOfService - 2 ^ b } } : Dev) = noteBack s b from rfl]
    generalize noteBack s b = x
    simp (decide := true) [↓within_ite, within_tidy_undegrade, within_assertReset_tile, setFls]

theorem checks_blockReturn (s : Dev) (b : ℕ) : (blockReturn s b).flt.checks = s.flt.checks := by
  obtain h | h := within_tidy_blockReturn s b
  · exact congrArg FltSt.checks (h.part .flt (by decide))
  · exact (congrArg FltSt.checks (h.part .flt (by decide))).trans rfl

theorem getF_blockReturn (s : Dev) (b : ℕ) (f : Fld) (i : ℕ) (hf : tidyFoot.hits (f.code % 262144) = false) :
    getF (blockReturn s b) f i = getF s f i := by
  obtain h | h := within_tidy_blockReturn s b
  · exact h.fld f i hf
  · exact h.fld f i hf

theorem within_tidy_outOfService (s : Dev) (b : ℕ) :
    Within tidyFoot { s with flt := { s.flt with outOfService := s.flt.outOfService ||| 2 ^ b } } (outOfService s b) := by
  unfold outOfService degradePlane setPp
  dsimp only
  generalize ({ s with flt := { s.flt with outOfService := s.flt.outOfService ||| 2 ^ b } } : Dev) = x
  simp (decide := true) [↓within_ite, within_tidy_setPlane, within_tidy_syncDegraded]

theorem checks_outOfService (s : Dev) (b : ℕ) : (outOfService s b).flt.checks = s.flt.checks :=
  have h := (within_tidy_outOfService s b).part .flt (by decide)
  (congrArg FltSt.checks h).trans rfl

theorem checks_logFault (s : Dev) (b entry : ℕ) : (logFault s b entry).flt.checks = s.flt.checks := by
  unfold logFault
  dsimp only
  split_ifs <;> rfl

theorem checks_ppReturn (s : Dev) (b : ℕ) : (ppReturn s b).flt.checks = s.flt.checks := by
  unfold ppReturn
  split
  · rfl
  · rfl

/-! One bit cleared (R479). -/

/-- The bit cleared and its check begun. -/
def clearHead (s : Dev) (b : ℕ) : Dev :=
  let s := setF s F.FLT_STATUS_BITS 0 (getF s F.FLT_STATUS_BITS 0 - 2 ^ b)
  { s with flt := { s.flt with checks := if s.flt.checks.contains b then s.flt.checks else b :: s.flt.checks } }

theorem clearBit_set {s : Dev} {b : ℕ} (h : fltBit s b = true) :
    ∃ d, clearBit s b = ppReturn (blockReturn (raise (driveFaultN (clearHead s b)) 0x11 b 0 d) b) b := by
  have hn : ¬ (!bit (getF s F.FLT_STATUS_BITS 0) b) = true := by
    rw [show bit (getF s F.FLT_STATUS_BITS 0) b = true from h]
    decide
  unfold clearBit
  dsimp only
  rw [if_neg hn]
  exact ⟨_, rfl⟩

theorem clearBit_unset {s : Dev} {b : ℕ} (h : fltBit s b = false) : clearBit s b = s := by
  have hn : (!bit (getF s F.FLT_STATUS_BITS 0) b) = true := by
    rw [show bit (getF s F.FLT_STATUS_BITS 0) b = false from h]
    rfl
  unfold clearBit
  dsimp only
  rw [if_pos hn]

/-- What a clear changes beside the bit. -/
def clearFoot : Foot := { flds := standFoot.flds ++ tidyFoot.flds, parts := .flt :: tidyFoot.parts }

/-- A clear leaves every field that none of its parts changes. -/
theorem getF_clearBit_set {s : Dev} {b : ℕ} (h : fltBit s b = true) (f : Fld) (i : ℕ)
    (hf : clearFoot.hits (f.code % 262144) = false) :
    getF (clearBit s b) f i = getF (setF s F.FLT_STATUS_BITS 0 (getF s F.FLT_STATUS_BITS 0 - 2 ^ b)) f i := by
  obtain ⟨d, he⟩ := clearBit_set h
  have hp (x : Dev) : Within clearFoot x (ppReturn x b) := by
    unfold ppReturn setPp
    simp (decide := true) [↓within_ite, within_stand_syncBist]
  have hr (x : Dev) (d : ℕ) : Within clearFoot x (raise (driveFaultN x) 0x11 b 0 d) :=
    (within_raise _ _ _ _ _ _ (by decide)).mpr ((within_driveFaultN _ _ (by decide)).mpr (.refl _ _))
  have ht : tidyFoot.hits (f.code % 262144) = false := by
    by_contra hc
    exact Bool.false_ne_true (hf ▸ Foot.hits_of_le (V := tidyFoot) (by decide) (by simpa using hc))
  rw [he, (hp _).fld f i hf, getF_blockReturn _ _ _ _ ht, (hr _ _).fld f i hf]
  rfl

theorem fltBit_clearBit (s : Dev) (b : ℕ) {k : ℕ} (hk : k < 48) : fltBit (clearBit s b) k = (fltBit s k && decide (k ≠ b)) := by
  cases h : fltBit s b with
  | false =>
    rw [clearBit_unset h]
    by_cases hkb : k = b
    · rw [hkb, h]
      rfl
    · simp [hkb]
  | true =>
    unfold fltBit
    rw [getF_clearBit_set h _ _ (by decide), getF_setF_same, bit_mod_two_pow _ _ _ hk]
    exact bit_sub_two_pow h k

theorem mem_checks_clearBit (s : Dev) (b k : ℕ) : k ∈ (clearBit s b).flt.checks ↔ k ∈ s.flt.checks ∨ (k = b ∧ fltBit s b = true) := by
  cases h : fltBit s b with
  | false => rw [clearBit_unset h]; simp
  | true =>
    obtain ⟨d, he⟩ := clearBit_set h
    rw [he, checks_ppReturn, checks_blockReturn, raise_flt]
    change k ∈ (if s.flt.checks.contains b then s.flt.checks else b :: s.flt.checks) ↔ _
    split
    next hc =>
      rw [List.contains_iff_mem] at hc
      exact ⟨.inl, fun hk => hk.elim id fun hk => hk.1 ▸ hc⟩
    next => simp [or_comm]

theorem first_clearBit (s : Dev) (b : ℕ) {f : Fld} (hf : f ∈ firstFields) (i : ℕ) : getF (clearBit s b) f i = getF s f i := by
  obtain ⟨h1, h2⟩ := (by decide : ∀ f ∈ firstFields, clearFoot.hits (f.code % 262144) = false ∧
    f.code % 262144 ≠ F.FLT_STATUS_BITS.code % 262144) f hf
  cases h : fltBit s b with
  | false => rw [clearBit_unset h]
  | true => rw [getF_clearBit_set h _ _ h1, getF_setF_code _ _ _ _ _ _ h2]

theorem fltBit_clearBits (l : List ℕ) (s : Dev) {k : ℕ} (hk : k < 48) : fltBit (l.foldl clearBit s) k = (fltBit s k && !decide (k ∈ l)) := by
  induction l generalizing s with
  | nil => simp
  | cons b l ih =>
    rw [List.foldl_cons, ih, fltBit_clearBit _ _ hk]
    simp [Bool.and_assoc]

theorem checks_clearBits (l : List ℕ) (s : Dev) {k : ℕ} (hk : k < 48) (h : k ∈ s.flt.checks ∨ (k ∈ l ∧ fltBit s k = true)) :
    k ∈ (l.foldl clearBit s).flt.checks := by
  induction l generalizing s with
  | nil => exact h.elim id fun h => absurd h.1 List.not_mem_nil
  | cons b l ih =>
    refine ih _ ?_
    rw [mem_checks_clearBit, fltBit_clearBit _ _ hk]
    obtain h | ⟨hm, hs⟩ := h
    · exact .inl (.inl h)
    · by_cases hkb : k = b
      · exact .inl (.inr ⟨hkb, hkb ▸ hs⟩)
      · exact .inr ⟨(List.mem_cons.mp hm).resolve_left hkb, by simp [hs, hkb]⟩

theorem first_clearBits (l : List ℕ) (s : Dev) {f : Fld} (hf : f ∈ firstFields) (i : ℕ) : getF (l.foldl clearBit s) f i = getF s f i := by
  induction l generalizing s with
  | nil => rfl
  | cons b l ih => exact (ih _).trans (first_clearBit s b hf i)

theorem fltStatusClear_clears (s : Dev) (t ones : ℕ) :
    (∀ b < 48, fltBit (fltStatusClear s t ones) b = (fltBit s b && !bit ones b)) ∧
      (∀ b < 48, fltBit s b = true → bit ones b = true → b ∈ (fltStatusClear s t ones).flt.checks) ∧
      ∀ f ∈ firstFields, getF (fltStatusClear s t ones) f 0 = getF s f 0 := by
  refine ⟨fun b hb => ?_, fun b hb hs ho => ?_, fun f hf => first_clearBits _ _ hf 0⟩
  · refine (fltBit_clearBits _ _ hb).trans ?_
    rw [show decide (b ∈ (List.range 48).filter fun b => bit ones b) = bit ones b by simp [hb]]
    rfl
  · exact checks_clearBits _ _ hb (.inr ⟨by simp [hb, ho], hs⟩)

/-! The check after a clear (R479, R480). -/

/-- The cause is still there: the bit and its FLT_CLRFAIL bit. -/
def failHead (s : Dev) (b : ℕ) : Dev :=
  let s := { s with flt := { s.flt with checks := s.flt.checks.filter (· != b) } }
  let s := setF s F.FLT_STATUS_BITS 0 (getF s F.FLT_STATUS_BITS 0 ||| 2 ^ b)
  setF s F.FLT_CLRFAIL_PERSIST 0 (getF s F.FLT_CLRFAIL_PERSIST 0 ||| 2 ^ b)

theorem fltClearCheck_fails {s : Dev} (t : ℕ) {b : ℕ} (h : b ∈ s.flt.checks) :
    ∃ e d fatal, fltClearCheck s t b true =
      if fatal = 1 then outOfService (raise (driveFaultN (logFault (failHead (s.at t) b) b e)) 0x11 b 0 d) b
      else raise (driveFaultN (logFault (failHead (s.at t) b) b e)) 0x11 b 0 d := by
  have hc : ¬ (!(s.at t).flt.checks.contains b) = true := by
    rw [show (s.at t).flt.checks.contains b = true from List.contains_iff_mem.mpr h]
    decide
  unfold fltClearCheck
  dsimp only
  rw [if_neg hc, if_neg (by decide)]
  exact ⟨_, _, _, rfl⟩

theorem fltClearCheck_passes {s : Dev} (t : ℕ) {b : ℕ} (h : b ∈ s.flt.checks) :
    fltClearCheck s t b false = { s.at t with flt := { s.flt with checks := s.flt.checks.filter (· != b) } } := by
  have hc : ¬ (!(s.at t).flt.checks.contains b) = true := by
    rw [show (s.at t).flt.checks.contains b = true from List.contains_iff_mem.mpr h]
    decide
  unfold fltClearCheck
  dsimp only
  exact (if_neg hc).trans (if_pos rfl)

/-- What the failed check's record changes of the registers. -/
def failFoot : Foot :=
  { flds := F.FLT_CTRL_LOG_LOST :: tidyFoot.flds, parts := .flt :: tidyFoot.parts }

theorem fltClearCheck_persists {s : Dev} (t : ℕ) {b : ℕ} (hb : b < 48) (h : b ∈ s.flt.checks) :
    fltBit (fltClearCheck s t b true) b = true ∧ bit (getF (fltClearCheck s t b true) F.FLT_CLRFAIL_PERSIST 0) b = true ∧
      b ∉ (fltClearCheck s t b true).flt.checks := by
  obtain ⟨e, d, fatal, he⟩ := fltClearCheck_fails t h
  have hlog (x : Dev) : Within failFoot x (logFault x b e) := by
    unfold logFault
    simp (decide := true) [↓within_ite]
  have hw : Within failFoot (failHead (s.at t) b) (fltClearCheck s t b true) := by
    rw [he]
    generalize failHead (s.at t) b = x
    have ht : Within failFoot x (raise (driveFaultN (logFault x b e)) 0x11 b 0 d) :=
      (within_raise _ _ _ _ _ _ (by decide)).mpr ((within_driveFaultN _ _ (by decide)).mpr (hlog x))
    split
    · have hn (y : Dev) : Within failFoot y { y with flt := { y.flt with outOfService := y.flt.outOfService ||| 2 ^ b } } := by
        simp (decide := true)
      exact (ht.trans (hn _)).trans ((within_tidy_outOfService _ b).mono (by decide))
    · exact ht
  have hchecks : (fltClearCheck s t b true).flt.checks = s.flt.checks.filter (· != b) := by
    rw [he]
    split
    · rw [checks_outOfService, raise_flt]
      exact checks_logFault _ _ _
    · rw [raise_flt]
      exact checks_logFault _ _ _
  refine ⟨?_, ?_, ?_⟩
  · unfold fltBit
    rw [hw.fld _ _ (by decide)]
    unfold failHead
    rw [getF_setF_code _ _ _ _ _ _ (by decide), getF_setF_same]
    exact bit_or_self hb
  · rw [hw.fld _ _ (by decide)]
    unfold failHead
    rw [getF_setF_same]
    exact bit_or_self (hb.trans (by decide))
  · rw [hchecks]
    simp

/-! The collector's registers. -/

theorem fltFirstClear_clears (s : Dev) (t : ℕ) : ∀ f ∈ firstFields, getF (fltFirstClear s t) f 0 = 0 := by
  unfold fltFirstClear setFs setFs setFs setFs setFs setFs setFs setFs
  intro f hf
  fin_cases hf <;> simp (decide := true) only [getF_setF_code, getF_setF_same]

theorem fltReactWrite_legal (s : Dev) (t : ℕ) {b v : ℕ} (h : actionLegal b (bits v 4 3) = true) :
    getF (fltReactWrite s t b v) F.FLT_REACT_ACTION b = bits v 4 3 ∧ getF (fltReactWrite s t b v) F.FLT_REACT_FAULT_N b = bits v 3 1 ∧
      getF (fltReactWrite s t b v) F.FLT_REACT_IRQ b = bits v 2 1 := by
  unfold fltReactWrite
  dsimp only
  rw [if_pos h]
  unfold setFs setFs setFs setFs
  refine ⟨?_, ?_, ?_⟩
  · rw [getF_setF_code _ _ _ _ _ _ (by decide), getF_setF_code _ _ _ _ _ _ (by decide), getF_setF_same]
    exact Nat.mod_eq_of_lt (bits_lt _ _ 3)
  · rw [getF_setF_code _ _ _ _ _ _ (by decide), getF_setF_same]
    exact Nat.mod_eq_of_lt (bits_lt _ _ 1)
  · rw [getF_setF_same]
    exact Nat.mod_eq_of_lt (bits_lt _ _ 1)

theorem fltReactWrite_illegal (s : Dev) (t : ℕ) {b v : ℕ} (h : actionLegal b (bits v 4 3) = false) :
    fltReactWrite s t b v = setF (s.at t) F.FLT_CTRL_WR_ERR 0 1 := by
  unfold fltReactWrite
  dsimp only
  rw [if_neg (by rw [h]; decide)]

theorem faultLogWrite_writes {s : Dev} {e : ℕ} {rest : List ℕ} (t : ℕ) (hb : s.flt.buf = e :: rest) (hc : healthyChans s ≠ [])
    (hp : s.rst.pwrLowAt = none) :
    (faultLogWrite s t).flt.buf = rest ∧ ∀ c ∈ healthyChans s, .flash c 0x0A 0x0F10 e ∈ (faultLogWrite s t).out := by
  have hn : ¬ ((healthyChans (s.at t)).isEmpty || (s.at t).rst.pwrLowAt.isSome) = true := by
    rw [show (s.at t).rst.pwrLowAt = none from hp, Bool.or_eq_true, List.isEmpty_iff]
    exact fun h => h.elim hc (by decide)
  have he : faultLogWrite s t = emits { s.at t with flt := { s.flt with buf := rest } } ((healthyChans s).map fun c => .flash c 0x0A 0x0F10 e) := by
    have hb' : (s.at t).flt.buf = e :: rest := hb
    unfold faultLogWrite
    dsimp only
    split
    next h => exact absurd (hb'.symm.trans h) (List.cons_ne_nil _ _)
    next h =>
      obtain ⟨rfl, rfl⟩ := List.cons.inj (hb'.symm.trans h)
      exact if_neg hn
  rw [he, emits_eq]
  exact ⟨rfl, fun c hc => List.mem_append_left _ (List.mem_reverse.mpr (List.mem_map.mpr ⟨c, hc, rfl⟩))⟩

/-! The history window (R474). -/

theorem syncFltMode_closed {s : Dev} (hw : s.flt.windowAt = none) (hb : s.flt.bist = false) (hd : devState s = dvService) :
    getF (syncFltMode s) F.FLT_MODE_MODE 0 = 0 ∧ getF (syncFltMode s) F.FLT_MODE_WINDOW_S 0 = 0 := by
  have he : syncFltMode s = setFs s 0 [(F.FLT_MODE_MODE, b2n false), (F.FLT_MODE_WINDOW_S, 0)] := by
    unfold syncFltMode
    rw [hw, hb, hd]
    rfl
  rw [he]
  unfold setFs setFs setFs
  exact ⟨by rw [getF_setF_code _ _ _ _ _ _ (by decide), getF_setF_same]; rfl, by rw [getF_setF_same]; rfl⟩

theorem syncFltMode_open {s : Dev} {a : ℕ} (hw : s.flt.windowAt = some a) (ht : s.now < a + 60 * tickSec) :
    getF (syncFltMode s) F.FLT_MODE_MODE 0 = 1 := by
  unfold syncFltMode
  rw [hw]
  dsimp only
  rw [decide_eq_true ht]
  unfold setFs setFs setFs
  rw [getF_setF_code _ _ _ _ _ _ (by decide), getF_setF_same]
  rfl

theorem fltModeWindow_ends {s : Dev} {t a : ℕ} (hw : s.flt.windowAt = some a) (hb : s.flt.bist = false) (hd : devState s = dvService)
    (ht : a + 60 * tickSec ≤ t) : getF (fltModeWindow s t) F.FLT_MODE_MODE 0 = 0 ∧ getF (fltModeWindow s t) F.FLT_MODE_WINDOW_S 0 = 0 := by
  have he : fltModeWindow s t = syncFltMode { s.at t with flt := { s.flt with windowAt := none } } := by
    unfold fltModeWindow
    dsimp only
    rw [show (s.at t).flt = s.flt from rfl, hw]
    dsimp only
    rw [if_pos ht]
  rw [he]
  exact syncFltMode_closed rfl hb hd

theorem fltModeWindow_lasts {s : Dev} {t a : ℕ} (hw : s.flt.windowAt = some a) (ht : t < a + 60 * tickSec) :
    getF (fltModeWindow s t) F.FLT_MODE_MODE 0 = 1 := by
  have he : fltModeWindow s t = syncFltMode (s.at t) := by
    unfold fltModeWindow
    dsimp only
    rw [show (s.at t).flt = s.flt from rfl, hw]
    dsimp only
    rw [if_neg (Nat.not_le.mpr ht)]
  rw [he]
  exact syncFltMode_open hw ht

/-- Settles O53, write by write of the collector. -/
theorem faultsAreCleared : Obligations.FaultsAreCleared := by
  intro s t
  refine ⟨fun ones => gives_of rfl (fltStatusClear_clears _ t ones), fun b hb => ⟨gives_of rfl (fltClearCheck_persists t b.isLt hb), gives_of rfl ?_⟩,
    gives_of rfl (fltFirstClear_clears _ t),
    fun b v => ⟨fun h => gives_of rfl (fltReactWrite_legal _ t h), fun h => gives_of rfl (fltReactWrite_illegal _ t h)⟩,
    fun a hw hb hd => ⟨fun ht => gives_of rfl (fltModeWindow_ends hw hb hd ht), fun ht => gives_of rfl (fltModeWindow_lasts hw ht)⟩,
    fun e rest hb hc hp => gives_of rfl (faultLogWrite_writes t hb hc hp)⟩
  rw [fltClearCheck_passes t hb]
  exact ⟨fun _ _ => rfl, by simp⟩

end Sys2Proof.Machine
end

section
/-! Monitors, diodes, rails and AVS (R484, R511 to R513). -/

namespace Sys2Proof.Machine

open Sys2Proof.Claims

/-! Runs of events of one bit. -/

theorem fltBit_events_of_set {α : Type} (l : List α) (b cause : ℕ) (sub : α → ℕ) {s : Dev} (hb : b < 48) (h : fltBit s b = true) :
    fltBit (l.foldl (fun s k => faultEvent s b cause (sub k)) s) b = true := by
  induction l generalizing s with
  | nil => exact h
  | cons k l ih => exact ih (fltBit_faultEvent_same s b cause (sub k) hb)

theorem fltBit_events {α : Type} {l : List α} (hl : l ≠ []) (s : Dev) (b cause : ℕ) (sub : α → ℕ) (hb : b < 48) :
    fltBit (l.foldl (fun s k => faultEvent s b cause (sub k)) s) b = true := by
  cases l with
  | nil => exact absurd rfl hl
  | cons k l => exact fltBit_events_of_set l b cause sub hb (fltBit_faultEvent_same s b cause (sub k) hb)

/-! The replica monitors and the diodes (R484). -/

theorem monitorSample_low {s : Dev} {slack : List ℕ} (t : ℕ) (hr : getF s F.AGE_STAT_RUNNING 0 ≠ 1)
    (h : ∃ k < 32, slack.getD k 10000 < 200 ∧ k ∉ s.age.low) : fltBit (monitorSample s t slack) 44 = true := by
  obtain ⟨k, hk, hs, hn⟩ := h
  have hrun : ¬ getF (s.at t) F.AGE_STAT_RUNNING 0 = 1 := hr
  unfold monitorSample
  refine (congrArg (fltBit · 44) (if_neg hrun)).trans (fltBit_events ?_ _ _ _ _ (by decide))
  refine List.ne_nil_of_mem (a := k) (List.mem_filter.mpr ⟨List.mem_filter.mpr ⟨List.mem_range.mpr hk, by simpa using hs⟩, ?_⟩)
  simpa using hn

theorem monitorSample_high {s : Dev} {slack : List ℕ} (t : ℕ) (h : ∀ k < 32, 200 ≤ slack.getD k 10000) :
    (monitorSample s t slack).age.low = [] ∧ ∀ f i, getF (monitorSample s t slack) f i = getF s f i := by
  have hl : ((List.range 32).filter fun k => decide (slack.getD k 10000 < 200)) = [] := by
    refine List.filter_eq_nil_iff.mpr fun k hk => ?_
    have := h k (List.mem_range.mp hk)
    simp only [decide_eq_true_eq]
    omega
  unfold monitorSample
  dsimp only
  rw [hl]
  split
  · exact ⟨rfl, fun _ _ => rfl⟩
  · exact ⟨rfl, fun _ _ => rfl⟩

theorem thermalSample_hot {s : Dev} {temps : List ℤ} (t : ℕ) (h : ∃ k < 40, 2400 ≤ temps.getD k 0 ∧ k ∉ s.age.hot) :
    fltBit (thermalSample s t temps) 43 = true := by
  obtain ⟨k, hk, hs, hn⟩ := h
  unfold thermalSample
  refine fltBit_events_of_set _ _ _ _ (by decide) ?_
  have hne : ¬ (((List.range 40).filter fun k => decide (2400 ≤ temps.getD k 0)).filter fun k => !(s.at t).age.hot.contains k).isEmpty = true := by
    rw [List.isEmpty_iff]
    refine List.ne_nil_of_mem (a := k) (List.mem_filter.mpr ⟨List.mem_filter.mpr ⟨List.mem_range.mpr hk, by simpa using hs⟩, ?_⟩)
    simpa using hn
  dsimp only
  rw [if_neg hne]
  exact fltBit_faultEvent_same _ _ _ _ (by decide)

theorem thermalSample_cool {s : Dev} {temps : List ℤ} (t : ℕ) (h : ∀ k < 40, temps.getD k 0 < 2400) (hs : ∀ k < 16, tileSplit temps k = false) :
    (thermalSample s t temps).age.hot = [] ∧ ∀ f i, getF (thermalSample s t temps) f i = getF s f i := by
  have hh : ((List.range 40).filter fun k => decide (2400 ≤ temps.getD k 0)) = [] := by
    refine List.filter_eq_nil_iff.mpr fun k hk => ?_
    have := h k (List.mem_range.mp hk)
    simp only [decide_eq_true_eq]
    omega
  have ha : (List.range 16).filter (tileSplit temps) = [] :=
    List.filter_eq_nil_iff.mpr fun k hk => by rw [hs k (List.mem_range.mp hk)]; decide
  unfold thermalSample
  dsimp only
  rw [hh, ha]
  exact ⟨rfl, fun _ _ => rfl⟩

/-! The rails' windows (R511). -/

theorem railOutOfWindow_out {s : Dev} {t rail level since : ℕ} (hr : rail < 12) (ht : since + 540000 ≤ t)
    (h : level < (railWindow (s.at t) rail).1 ∨ (railWindow (s.at t) rail).2 < level) :
    fltBit (railOutOfWindow s t rail level since) 47 = true ∧ getF (railOutOfWindow s t rail level since) F.FLT_CAUSE_CAUSE 47 = 0x0D ∧
      getF (railOutOfWindow s t rail level since) F.FLT_CAUSE_SUB 47 = rail := by
  have he : railOutOfWindow s t rail level since = faultEvent (s.at t) 47 0x0D rail := if_pos ⟨hr, ht, h⟩
  rw [he]
  refine ⟨fltBit_faultEvent_same _ _ _ _ (by decide), ?_, ?_⟩
  · rw [getF_faultEvent_head _ _ _ _ _ _ (by decide) (by decide)]
    unfold faultHead setFs setFs setFs setFs
    rw [getF_setF_code _ _ _ _ _ _ (by decide), getF_setF_same]
    rfl
  · rw [getF_faultEvent_head _ _ _ _ _ _ (by decide) (by decide)]
    unfold faultHead setFs setFs setFs setFs
    rw [getF_setF_same]
    exact Nat.mod_eq_of_lt (hr.trans (by decide))

theorem railOutOfWindow_in {s : Dev} {t rail level since : ℕ} (h1 : (railWindow (s.at t) rail).1 ≤ level)
    (h2 : level ≤ (railWindow (s.at t) rail).2) : railOutOfWindow s t rail level since = s.at t :=
  if_neg fun h => h.2.2.elim (Nat.not_lt.mpr h1) (Nat.not_lt.mpr h2)

/-! Writes of the regulators (R513). -/

theorem avsWrite_core {s : Dev} {mv : ℕ} (t : ℕ) (ok : Bool) (hd : dvService ≤ devState s) (hs : s.avs.stopped = false) (h : mv ≤ s.avs.sram) :
    avsWrite s t 0 mv ok = avsTry (s.at t) 0 mv ok := by
  refine if_neg ?_
  rintro (h1 | h1 | h1 | ⟨-, h1⟩ | ⟨h1, -⟩)
  · exact Nat.not_lt.mpr hd h1
  · exact Bool.false_ne_true (hs.symm.trans h1)
  · omega
  · exact Nat.not_lt.mpr h h1
  · omega

theorem avsWrite_sram {s : Dev} {mv : ℕ} (t : ℕ) (ok : Bool) (hd : dvService ≤ devState s) (hs : s.avs.stopped = false) (h : s.avs.core ≤ mv) :
    avsWrite s t 1 mv ok = avsTry (s.at t) 1 mv ok := by
  refine if_neg ?_
  rintro (h1 | h1 | h1 | ⟨h1, -⟩ | ⟨-, h1⟩)
  · exact Nat.not_lt.mpr hd h1
  · exact Bool.false_ne_true (hs.symm.trans h1)
  · omega
  · omega
  · exact Nat.not_lt.mpr h h1

theorem avsWrite_refused {s : Dev} {mv : ℕ} (t : ℕ) (ok : Bool) (h : s.avs.sram < mv) : avsWrite s t 0 mv ok = s.at t :=
  if_pos (.inr (.inr (.inr (.inl ⟨rfl, h⟩))))

/-- The third invalid response in a row stops AVS. -/
theorem avsTry_third {s : Dev} {mv : ℕ} (h : mget 0 s.avs.bad 0 = 2) :
    (avsTry s 0 mv false).avs.stopped = true ∧ (avsTry s 0 mv false).avs.core = s.avs.core ∧ fltBit (avsTry s 0 mv false) 47 = true := by
  generalize hu : ({ emit s (.avs 0 mv) with avs := { s.avs with bad := mset 0 s.avs.bad 0 3, stopped := true } } : Dev) = u
  have he : avsTry s 0 mv false = faultEvent u 47 0x06 0x10 := by
    have hn : mget 0 (emit s (.avs 0 mv)).avs.bad 0 = 2 := h
    unfold avsTry
    dsimp only
    rw [if_neg (by decide), hn, if_pos rfl, ← hu]
    simp
  have ha : (faultEvent u 47 0x06 0x10).avs = u.avs := by
    rw [faultEvent_eq, if_neg (by decide)]
    exact (within_faultNote u 47 0x06 0x10).part .avs (by decide)
  rw [he, ha, ← hu]
  exact ⟨rfl, rfl, fltBit_faultEvent_same _ _ _ _ (by decide)⟩

/-! A step of AVS. -/

theorem avsStep_eq {s : Dev} {t : ℕ} (hd : devState s = dvService) (hs : s.avs.stopped = false)
    (ht : ∀ a, s.avs.stepAt = some a → a + 540000000 ≤ t) (hc : s.avs.core ≠ avsTarget s) :
    ∃ v, avsStep s t true = setF (avsMove { s.at t with avs := { s.avs with stepAt := some t } }
      (if s.avs.core < avsTarget s then min (avsTarget s) (s.avs.core + 5) else max (avsTarget s) (s.avs.core - 5)) true) F.AGE_STAT_AVS_MV 0 v := by
  have hdue : (match (s.at t).avs.stepAt with | none => true | some a => decide (a + 540000000 ≤ t)) = true := by
    split
    · rfl
    next a ha => exact decide_eq_true (ht a ha)
  exact ⟨_, if_pos ⟨hd, hs, hdue, hc⟩⟩

theorem avsMove_up {s : Dev} {mv : ℕ} (h : s.avs.core < mv) :
    (avsMove s mv true).avs.core = mv ∧ mv ≤ (avsMove s mv true).avs.sram ∧ (avsMove s mv true).avs.stepAt = s.avs.stepAt := by
  have hm : mv ≤ sramFor mv := Nat.le_max_right _ _
  unfold avsMove
  rw [if_pos h]
  dsimp only
  by_cases hs : s.avs.sram < sramFor mv
  · rw [if_pos hs, if_neg (Nat.not_lt.mpr (show mv ≤ (avsTry s 1 (sramFor mv) true).avs.sram from hm))]
    exact ⟨rfl, hm, rfl⟩
  · have hle : mv ≤ s.avs.sram := hm.trans (Nat.not_lt.mp hs)
    rw [if_neg hs, if_neg (Nat.not_lt.mpr hle)]
    exact ⟨rfl, hle, rfl⟩

theorem avsMove_down {s : Dev} {mv : ℕ} (h : mv ≤ s.avs.core) : (avsMove s mv true).avs.core = mv := by
  unfold avsMove
  rw [if_neg (Nat.not_lt.mpr h)]
  dsimp only
  split <;> rfl

theorem avsStep_up {s : Dev} {t : ℕ} (hd : devState s = dvService) (hs : s.avs.stopped = false)
    (ht : ∀ a, s.avs.stepAt = some a → a + 540000000 ≤ t) (h : s.avs.core < avsTarget s) :
    (avsStep s t true).avs.core = min (avsTarget s) (s.avs.core + 5) ∧ (avsStep s t true).avs.core ≤ (avsStep s t true).avs.sram ∧
      (avsStep s t true).avs.stepAt = some t := by
  obtain ⟨v, he⟩ := avsStep_eq hd hs ht (Nat.ne_of_lt h)
  rw [if_pos h] at he
  obtain ⟨h1, h2, h3⟩ := avsMove_up (s := { s.at t with avs := { s.avs with stepAt := some t } }) (mv := min (avsTarget s) (s.avs.core + 5))
    (show s.avs.core < _ by omega)
  rw [he, setF_avs, h1]
  exact ⟨rfl, h2, h3⟩

theorem avsStep_down {s : Dev} {t : ℕ} (hd : devState s = dvService) (hs : s.avs.stopped = false)
    (ht : ∀ a, s.avs.stepAt = some a → a + 540000000 ≤ t) (h : avsTarget s < s.avs.core) :
    (avsStep s t true).avs.core = max (avsTarget s) (s.avs.core - 5) := by
  obtain ⟨v, he⟩ := avsStep_eq hd hs ht (Nat.ne_of_gt h)
  rw [if_neg (by omega)] at he
  rw [he, setF_avs]
  exact avsMove_down (show _ ≤ s.avs.core by omega)

/-- Settles O54, monitor by monitor. -/
theorem monitorsAndRailsAct : Obligations.MonitorsAndRailsAct := by
  intro s t
  refine ⟨fun slack => ⟨fun hr h => gives_of rfl (monitorSample_low t hr h), fun h => gives_of rfl (monitorSample_high t h)⟩,
    fun temps => ⟨fun h => gives_of rfl (thermalSample_hot t h), fun h hs => gives_of rfl (thermalSample_cool t h hs)⟩,
    fun rail level since => ⟨fun ht h => gives_of rfl (railOutOfWindow_out rail.isLt ht h), fun h1 h2 => gives_of rfl (railOutOfWindow_in h1 h2)⟩,
    fun hd hs mv => ⟨fun h => gives_of rfl ?_, fun h => gives_of rfl ?_, fun h hb => gives_of rfl ?_,
      fun h ok => gives_of rfl (avsWrite_refused t ok h)⟩,
    fun hd hs ht => ⟨fun h => gives_of rfl (avsStep_up hd hs ht h), fun h => gives_of rfl (avsStep_down hd hs ht h)⟩⟩
  · rw [avsWrite_core t true hd hs h]
    exact ⟨rfl, rfl⟩
  · rw [avsWrite_sram t true hd hs h]
    exact ⟨rfl, rfl⟩
  · rw [avsWrite_core t false hd hs h]
    exact avsTry_third (s := s.dev.at t) hb

end Sys2Proof.Machine
end

section
/-! The margin survey (R485, R486, R489). -/

namespace Sys2Proof.Machine

open Sys2Proof.Claims

variable {W : Foot}

theorem surveyRuns_of {s : Dev} (h : getF s F.AGE_STAT_RUNNING 0 = 1) : surveyRuns s = true := by
  unfold surveyRuns
  rw [h]
  rfl

/-! The schedule (R485). -/

theorem within_jrn_fwAction (s : Dev) : Within jrnFoot s (fwAction s).2 := (within_fwAction _ _ (by decide)).mpr (.refl _ _)

theorem surveySchedule_starts {s : Dev} {t : ℕ} (hd : surveyDue s t) (hr : getF s F.AGE_STAT_RUNNING 0 ≠ 1) (hs : devState s = dvService)
    (ho : s.jrn.outage = false) :
    ∃ r, surveySchedule s t = startSurvey (fwAction (s.at t)).2 none r := by
  obtain ⟨hp, hl, hh⟩ := hd
  have hp' : (min 365 (getF (s.at t) F.AGE_CFG_PERIOD_D 0) != 0) = true := by
    rw [bne_iff_ne]
    have : getF (s.at t) F.AGE_CFG_PERIOD_D 0 ≠ 0 := hp
    omega
  have hl' : decide (getF (s.at t) F.AGE_STAT_LAST 0 + min 365 (getF (s.at t) F.AGE_CFG_PERIOD_D 0) * 86400 ≤ t / tickSec) = true := decide_eq_true hl
  have hh' : (getF (s.at t) F.DPLL_STATUS_TOD_VALID 0 == 0 || t / tickSec % 86400 / 3600 == min 23 (getF (s.at t) F.AGE_CFG_HOUR 0)) = true := by
    rw [Bool.or_eq_true, beq_iff_eq, beq_iff_eq]
    exact hh
  have hr' : surveyRuns (s.at t) = false := beq_eq_false_iff_ne.mpr hr
  have hs' : (devState (s.at t) == dvService) = true := beq_iff_eq.mpr hs
  refine ⟨getF (s.at t) F.AGE_CFG_AUTO_REPLAN 0 == 1, ?_⟩
  unfold surveySchedule
  dsimp only
  rw [hp', hl', hh', hr', hs', show (s.at t).jrn.outage = false from ho]
  rfl

theorem startSurvey_starts (s : Dev) (r : Bool) :
    getF (startSurvey s none r) F.AGE_STAT_RUNNING 0 = 1 ∧ (startSurvey s none r).age.startedAt = some s.now ∧ (startSurvey s none r).age.jsn = none ∧
      getF (startSurvey s none r) F.AGE_STAT_SEQ 0 = (getF s F.AGE_STAT_SEQ 0 + 1) % 2 ^ F.AGE_STAT_SEQ.width := by
  have hf (f : Fld) : getF (startSurvey s none r) f 0 = getF (setFs s 0 [(F.AGE_STAT_RUNNING, 1), (F.AGE_STAT_SEQ, getF s F.AGE_STAT_SEQ 0 + 1),
      (F.AGE_STAT_LAST, s.now / tickSec % 2 ^ 32)]) f 0 := rfl
  generalize s.now / tickSec % 2 ^ 32 = n at hf
  unfold setFs setFs setFs setFs at hf
  refine ⟨?_, rfl, rfl, ?_⟩
  · rw [hf, getF_setF_code _ _ _ _ _ _ (by decide), getF_setF_code _ _ _ _ _ _ (by decide), getF_setF_same]
    rfl
  · rw [hf, getF_setF_code _ _ _ _ _ _ (by decide), getF_setF_same]

/-! A measurement (R486). -/

/-- A key that is new to a list of entries is found there with its value. -/
theorem find_mins {α : Type} (l : SMap α) (k : ℕ) (v : α) (h : ∀ e ∈ l, e.1 ≠ k) : ((mins k v l).find? fun e => e.1 == k) = some (k, v) := by
  induction l with
  | nil => simp [mins]
  | cons e r ih =>
    obtain ⟨j, w⟩ := e
    unfold mins
    split
    · simp
    · have hj : j ≠ k := h _ List.mem_cons_self
      rw [List.find?_cons_of_neg (by simpa using hj)]
      exact ih fun e he => h e (List.mem_cons_of_mem _ he)

theorem find_meas_measure {s : Dev} {k : ℕ} (v : ℤ) (unit : ℕ) (h : ∀ e ∈ s.age.meas, e.1 ≠ k) :
    ((measure s k v unit).age.meas.find? fun e => e.1 == k) = some (k, v, unit) := by
  have hnone : (s.age.meas.find? fun e => e.1 == k) = none := List.find?_eq_none.mpr fun e he => by simpa using h e he
  have hage (x : Dev) : (faultEvent x 44 0x08 k).age = x.age := by
    rw [faultEvent_eq, if_neg (by decide)]
    exact (within_faultNote x 44 0x08 k).part .age (by decide)
  have hm : (measure s k v unit).age.meas = mins k (v, unit) (mdel s.age.meas k) := by
    unfold measure
    rw [hnone]
    dsimp only
    rw [if_neg Bool.false_ne_true]
    split
    · rw [hage]
    · rfl
  rw [hm]
  exact find_mins _ _ _ (mdel_ne _ k)

/-! The report (R489). -/

theorem getF_setFs_idx (s : Dev) (j : ℕ) (l : List (Fld × ℕ)) (f : Fld) {i : ℕ} (h : i ≠ j) : getF (setFs s j l) f i = getF s f i := by
  induction l generalizing s with
  | nil => rfl
  | cons q l ih => rw [setFs, ih, getF_setF_idx _ _ _ _ _ _ h]

/-- The fields of an item of the report. -/
def itemFoot : Foot :=
  { flds := [F.AGE_ITEM_MEASURED, F.AGE_ITEM_SKIPPED, F.AGE_ITEM_STALE, F.AGE_ITEM_AT_LIMIT, F.AGE_ITEM_STEPPED, F.AGE_ITEM_UNIT, F.AGE_ITEM_MARGIN] }

theorem within_item_writeItem (s : Dev) (stale : List ℕ) (k : ℕ) : Within itemFoot s (writeItem s stale k) := by
  unfold writeItem
  dsimp only
  split
  · simp (decide := true)
  · split <;> simp (decide := true)

theorem margin_writeItem_other (s : Dev) (stale : List ℕ) {j k : ℕ} (h : k ≠ j) :
    getF (writeItem s stale j) F.AGE_ITEM_MARGIN k = getF s F.AGE_ITEM_MARGIN k := by
  unfold writeItem
  dsimp only
  split
  next hj => exact getF_setFs_idx _ _ _ _ (hj ▸ h)
  next => split <;> exact getF_setFs_idx _ _ _ _ h

theorem margin_writeItem_unmeasured {s : Dev} (stale : List ℕ) {k : ℕ} (hk : k < 15) (h : ∀ e ∈ s.age.meas, e.1 ≠ k) :
    getF (writeItem s stale k) F.AGE_ITEM_MARGIN k = 0xFF := by
  have hnone : (s.age.meas.find? fun e => e.1 == k) = none := List.find?_eq_none.mpr fun e he => by simpa using h e he
  unfold writeItem
  dsimp only
  rw [if_neg (Nat.ne_of_lt hk), hnone]
  simp (decide := true) only [List.cons_append, List.nil_append, setFs, getF_setF_code, getF_setF_same]

theorem margin_writeItems {stale l : List ℕ} {s : Dev} {k : ℕ} (hk : k < 15) (h : ∀ e ∈ s.age.meas, e.1 ≠ k)
    (hl : k ∈ l ∨ getF s F.AGE_ITEM_MARGIN k = 0xFF) : getF (l.foldl (fun s k => writeItem s stale k) s) F.AGE_ITEM_MARGIN k = 0xFF := by
  induction l generalizing s with
  | nil => exact hl.resolve_left List.not_mem_nil
  | cons j l ih =>
    have ha : (writeItem s stale j).age = s.age := (within_item_writeItem s stale j).part .age (by decide)
    refine ih (by rw [ha]; exact h) ?_
    by_cases hj : k = j
    · exact .inr (hj ▸ margin_writeItem_unmeasured stale hk h)
    · rw [margin_writeItem_other _ _ hj]
      exact hl.imp_left fun hm => (List.mem_cons.mp hm).resolve_left hj

/-- The items of the report. -/
def reportItems (s : Dev) : Dev := (List.range 16).foldl (fun x k => writeItem x (staleItems s) k) s

/-- The report in flash. -/
def reportFlash (s : Dev) (detail : ℕ) : Dev :=
  if s.rst.pwrLowAt.isNone then emits s ((healthyChans s).map fun c => .flash c 0x0A 0x0F11 detail) else s

/-- The survey is over. -/
def reportEnd (s : Dev) (detail : ℕ) : Dev :=
  raise (setF { s with age := { s.age with startedAt := none, jsn := none } } F.AGE_STAT_RUNNING 0 0) 0x12 44 (s.age.jsn.getD 0) detail

/-- The command that started the survey, if one did, completes. -/
def reportDone (s : Dev) (j : Option ℕ) (detail : ℕ) : Dev := match j with | none => s | some n => endUntimed s n detail

theorem within_reportItems (s : Dev) : Within itemFoot s (reportItems s) := within_foldl _ (fun _ _ => within_item_writeItem _ _ _) _ _

theorem within_reportFlash (s : Dev) (detail : ℕ) : Within outFoot s (reportFlash s detail) := by
  unfold reportFlash
  simp (decide := true) [↓within_ite]

theorem within_reportEnd (s : Dev) (detail : ℕ) :
    Within { flds := [F.AGE_STAT_RUNNING, F.HIF_EVT_STAT_PROD, F.HIF_EVT_STAT_LOST], parts := [.age, .host, .out] } s (reportEnd s detail) := by
  unfold reportEnd
  simp (decide := true)

/-- The report before the completion of its command. -/
def reported (s : Dev) (detail : ℕ) : Dev := reportEnd (reportFlash (reportItems s) detail) detail

/-- The detail word of the report, of its items. -/
def reportDetail (s : Dev) (stale : List ℕ) : ℕ :=
  let low := lowestItem s
  low.1 + low.2 * 256 + b2n s.age.replan * 2 ^ 12 + b2n s.age.budget * 2 ^ 13 + b2n (!s.age.warned.isEmpty) * 2 ^ 14 +
    b2n (!stale.isEmpty) * 2 ^ 15 + getF s F.AGE_STAT_SEQ 0 % 65536 * 65536

/-- What follows the items of the report. -/
def reportRest (s : Dev) (detail : ℕ) : Dev :=
  let s := if s.rst.pwrLowAt.isNone then emits s ((healthyChans s).map fun c => .flash c 0x0A 0x0F11 detail) else s
  let j := s.age.jsn
  let s := setF { s with age := { s.age with startedAt := none, jsn := none } } F.AGE_STAT_RUNNING 0 0
  let s := raise s 0x12 44 (j.getD 0) detail
  match j with | none => s | some n => endUntimed s n detail

theorem reportRest_eq (s : Dev) (detail : ℕ) :
    reportRest s detail = reportDone (reportEnd (reportFlash s detail) detail) (reportFlash s detail).age.jsn detail := by
  unfold reportRest reportFlash
  generalize (if s.rst.pwrLowAt.isNone then emits s ((healthyChans s).map fun c => .flash c 0x0A 0x0F11 detail) else s) = u
  unfold reportDone reportEnd
  dsimp only

theorem ageingReport_parts (s : Dev) (t : ℕ) :
    ageingReport s t = if !surveyRuns (s.at t) || (s.at t).jrn.outage then s.at t
      else reportRest (reportItems (s.at t)) (reportDetail (reportItems (s.at t)) (staleItems (s.at t))) := by
  unfold ageingReport reportItems
  generalize s.at t = u
  dsimp only
  generalize (List.range 16).foldl (fun x k => writeItem x (staleItems u) k) u = x
  rfl

theorem ageingReport_eq {s : Dev} (t : ℕ) (hr : getF s F.AGE_STAT_RUNNING 0 = 1) (ho : s.jrn.outage = false) :
    ∃ det, ageingReport s t = reportDone (reported (s.at t) det) s.age.jsn det := by
  have hrun : ¬ (!surveyRuns (s.at t) || (s.at t).jrn.outage) = true := by
    rw [surveyRuns_of (s := s.at t) hr, show (s.at t).jrn.outage = false from ho]
    decide
  have hj (det : ℕ) : (reportFlash (reportItems (s.at t)) det).age.jsn = s.age.jsn := by
    have ha : (reportFlash (reportItems (s.at t)) det).age = (reportItems (s.at t)).age := (within_reportFlash _ det).part .age (by decide)
    have hb : (reportItems (s.at t)).age = (s.at t).age := (within_reportItems _).part .age (by decide)
    rw [ha, hb]
    rfl
  exact ⟨_, by rw [ageingReport_parts, if_neg hrun, reportRest_eq, hj]; rfl⟩

/-- What a report changes before the completion of its command. -/
def reportFoot : Foot :=
  { flds := [F.AGE_STAT_RUNNING, F.HIF_EVT_STAT_PROD, F.HIF_EVT_STAT_LOST] ++ itemFoot.flds, parts := [.age, .host, .out] }

theorem within_reported (s : Dev) (detail : ℕ) : Within reportFoot s (reported s detail) :=
  (((within_reportItems s).mono (by decide)).trans ((within_reportFlash _ detail).mono (by decide))).trans ((within_reportEnd _ detail).mono (by decide))

theorem within_reportDone (s : Dev) (j : Option ℕ) (detail : ℕ) : Within pendFoot s (reportDone s j detail) := by
  unfold reportDone
  split
  · exact .refl _ _
  · exact within_of_endUntimed _ _ _

theorem age_reported (s : Dev) (detail : ℕ) : (reported s detail).age.startedAt = none ∧ (reported s detail).age.jsn = none := by
  unfold reported reportEnd
  rw [raise_age]
  exact ⟨rfl, rfl⟩

theorem running_reported (s : Dev) (detail : ℕ) : getF (reported s detail) F.AGE_STAT_RUNNING 0 = 0 := by
  unfold reported reportEnd
  rw [((within_raise _ _ _ _ _ _ (W := evtFoot) (by decide)).mpr (.refl _ _)).fld _ _ (by decide), getF_setF_same]
  rfl

theorem margin_reported {s : Dev} (detail : ℕ) {k : ℕ} (hk : k < 15) (h : ∀ e ∈ s.age.meas, e.1 ≠ k) :
    getF (reported s detail) F.AGE_ITEM_MARGIN k = 0xFF := by
  unfold reported
  rw [(within_reportEnd _ detail).fld _ _ (by decide), (within_reportFlash _ detail).fld _ _ (by decide)]
  exact margin_writeItems hk h (.inl (List.mem_range.mpr (hk.trans (by decide))))

theorem ageingReport_ends {s : Dev} (t : ℕ) (hr : getF s F.AGE_STAT_RUNNING 0 = 1) (ho : s.jrn.outage = false) :
    getF (ageingReport s t) F.AGE_STAT_RUNNING 0 = 0 ∧ (ageingReport s t).age.startedAt = none ∧ (ageingReport s t).age.jsn = none ∧
      ∀ k < 15, (∀ e ∈ s.age.meas, e.1 ≠ k) → getF (ageingReport s t) F.AGE_ITEM_MARGIN k = 0xFF := by
  obtain ⟨det, he⟩ := ageingReport_eq t hr ho
  have hw := within_reportDone (reported (s.at t) det) s.age.jsn det
  have ha : (reportDone (reported (s.at t) det) s.age.jsn det).age = (reported (s.at t) det).age := hw.part .age (by decide)
  rw [he, ha]
  refine ⟨?_, (age_reported _ _).1, (age_reported _ _).2, fun k hk hm => ?_⟩
  · rw [hw.fld _ _ (by decide)]
    exact running_reported _ _
  · rw [hw.fld _ _ (by decide)]
    exact margin_reported (s := s.at t) det hk hm

theorem ageingReport_completes {s : Dev} (t : ℕ) {n : ℕ} {j : JRec} (hr : getF s F.AGE_STAT_RUNNING 0 = 1) (ho : s.jrn.outage = false)
    (hn : s.age.jsn = some n) (hj : recOf s n = some j) (hd : j.dec = none) (hf : isFollower s = false) :
    ∃ det, Decided (ageingReport s t) n stDone (hfn (s.at t)) det := by
  obtain ⟨det, he⟩ := ageingReport_eq t hr ho
  have hw := within_reported (s.at t) det
  obtain rfl := jsn_of_recOf hj
  refine ⟨det, ?_⟩
  rw [he, hn, ← hw.hfn (by decide) (by decide)]
  exact decided_endUntimed ((hw.recOf (by decide) _).trans hj) hd ((hw.isFollower (by decide)).trans hf) det

theorem surveyStep_runs {s : Dev} (t : ℕ) (hr : getF s F.AGE_STAT_RUNNING 0 = 1) (ho : s.jrn.outage = false) :
    (!surveyRuns (s.at t) || (s.at t).jrn.outage) = false := by
  rw [surveyRuns_of (s := s.at t) hr, show (s.at t).jrn.outage = false from ho]
  rfl

/-- Settles O55: the schedule, a measurement, and the report with its completion. -/
theorem surveysRun : Obligations.SurveysRun := by
  intro s t
  refine ⟨fun hd hr hs ho => gives_of rfl ?_, fun hr ho => ⟨fun loss pair h => gives_of rfl ?_, fun hp => gives_of rfl ?_,
    gives_of rfl (ageingReport_ends t hr ho), fun n j hn hj hdec hf => gives_of rfl (ageingReport_completes t hr ho hn hj hdec hf)⟩⟩
  · obtain ⟨r, he⟩ := surveySchedule_starts hd hr hs ho
    have hw := within_jrn_fwAction (s.dev.at t)
    have hnow : (fwAction (s.dev.at t)).2.now = t := hw.part .now (by decide)
    have hseq : getF (fwAction (s.dev.at t)).2 F.AGE_STAT_SEQ 0 = getF s.dev F.AGE_STAT_SEQ 0 := hw.fld _ _ (by decide)
    obtain ⟨h1, h2, h3, h4⟩ := startSurvey_starts (fwAction (s.dev.at t)).2 r
    rw [he]
    exact ⟨h1, h2.trans (congrArg some hnow), h3, h4.trans (by rw [hseq])⟩
  · have he : surveyStep s.dev t (.ring loss pair) = measure (s.dev.at t) 3 (80000 - (loss : Int)) pair := by
      unfold surveyStep
      dsimp only
      rw [surveyStep_runs t hr ho]
      rfl
    rw [he]
    exact find_meas_measure _ _ h
  · unfold surveyStep
    dsimp only
    rw [surveyStep_runs t hr ho, show (s.dev.at t).age.replan = false from hp]
    rfl

end Sys2Proof.Machine
end
